-- ==== Sys2Proof/Word.lean ====
section
/-!
DEFINITION. Word.lean: the words of the GL5184. A register is 32 bits wide (R9); the smallest unit of a memory is the
byte; a fault message and a sample record are 64 bits wide (R448, R253).
-/
namespace Sys2Proof

/-- A register or one word access of the deck view (R9). -/
abbrev Word := BitVec 32

/-- One byte of a memory, a frame or a message. -/
abbrev Byte := BitVec 8

end Sys2Proof
end

