-- ==== Sys2Proof/Operand.lean ====
section
/-!
DEFINITION. Operand.lean: the types of the operands of commands: what the world supplies with a command.
-/
namespace Sys2Proof

/-- A control port, CP0 to CP5 (R14). -/
abbrev Port := Fin 6

/-- A priority of a port (R93). -/
abbrev Prio := Fin 8

/-- A parse engine of the Tollgate (R96). -/
abbrev Engine := Fin 16

/-- A place in the fragment table (R102). -/
abbrev FragSlot := Fin 256

/-- An ingress policer (R112). -/
abbrev PolicerIx := Fin 64

/-- A partner (R115). -/
abbrev Partner := Fin 64

/-- A lane (R42). -/
abbrev LaneIx := Fin 16384

/-- A span, S00 to S35 (R14). -/
abbrev Span := Fin 36

/-- A pier's local index in its span (R8). -/
abbrev Local := Fin 512

/-- A bus master, by its number in R495. -/
abbrev Master := Fin 48

/-- A joint, by its number in R501. -/
abbrev Joint := Fin 91

/-- One of the two decks (R15). -/
inductive Deck where
  | a | b
  deriving DecidableEq, Repr

/-- How an access belongs to a locked sequence (R499). -/
inductive LockUse where
  | none   -- no lock
  | hold   -- an access of a locked sequence, more to follow
  | last   -- the last access of a locked sequence
  deriving DecidableEq, Repr

/-- A write of one word over the bus matrix: the master, the word, how long the master waited for the grant in ns
(R498), the lock it belongs to (R499), and its byte enables (R497). The address is the row's own, or the row's operand. -/
structure RegWrite where
  master : Master
  value : BitVec 32
  wait : Nat
  lock : LockUse
  enables : BitVec 4
  deriving DecidableEq, Repr

/-- A read of one word over the bus matrix. -/
structure RegRead where
  master : Master
  wait : Nat
  lock : LockUse
  enables : BitVec 4
  deriving DecidableEq, Repr

/-- A burst a master has granted when it is reset (R500): its direction, its beats and the beats already transferred. -/
structure Burst where
  write : Bool
  total : Nat
  done : Nat
  deriving DecidableEq, Repr

/-- RS-FEC codewords a port met (CP counters 12 and 13). -/
structure FecCount where
  corrected : Nat
  uncorrectable : Nat
  deriving DecidableEq, Repr

/-- The lock and fault status a port reads from its link (CP_STATUS). -/
structure LinkStatus where
  blockLock : Bool
  fecLock : Bool
  localFault : Bool
  remoteFault : Bool
  deriving DecidableEq, Repr

/-- A memory of a shared block or of the capture unit, protected by ECC (R18, R465, R494). -/
inductive EccMemory where
  | rules | lanes | pool | keystone | capture
  deriving DecidableEq, Repr

/-- An upset that a read meets: the memory, the byte address, and whether the word can be corrected (R18, R465). -/
structure MemUpset where
  memory : EccMemory
  addr : BitVec 32
  uncorrectable : Bool
  deriving DecidableEq, Repr

/-- What upsets do to the processing of one message (R18): the lockstep mismatches of its admission decision: none, one (recomputed), or two
(ADMIT_FAULT); and the memory words found in error. -/
structure Upsets where
  mismatches : Fin 3
  ecc : List MemUpset
  deriving DecidableEq, Repr

/-- The result of a Keystone half (R206): as computed, or what an upset made of it, targets by global pier index with a disturbance
list of (OUT, IN), or a cancellation code. -/
inductive RouteHalf where
  | asComputed
  | upset (targets : List (Nat × Nat)) (disturbed : List (Nat × Nat))
  | cancel (code : Nat)
  deriving DecidableEq, Repr

/-- What a deck's route checker says (R206): as the rule gives, or the verdict an upset forces on both halves. -/
abbrev CheckerUpset := Option Bool

/-- An error that a request or refresh pass met while it worked on a pier (R219): the address of the word, of a per-pier record or of the span
record, and whether it cannot be corrected. -/
structure CalUpset where
  pier : Local
  addr : BitVec 32
  uncorrectable : Bool
  deriving DecidableEq, Repr

/-- An error that the power map met in the device thermal record while it worked on a region (R219, R226). -/
structure ThermalUpset where
  region : Fin 48
  addr : BitVec 32
  uncorrectable : Bool
  deriving DecidableEq, Repr

/-- A fault a deck finds in itself (R314): an uncorrectable error in its firmware RAM (cause 2, with the burst its bus master has granted, R500) or in its loop state of a span
(cause 3), or RESID at a pier where the other deck has it clear (cause 4). -/
inductive SelfFault where
  | ramUe (burst : Option Burst)
  | loopUe (n : Span)
  | resid (n : Span) (l : Local)
  deriving DecidableEq, Repr

/-- A code that an upset makes a deck request at a pier: the deck, the channel and the code (R318). -/
structure CodeUpset where
  deck : Deck
  trim : Bool
  code : BitVec 14
  deriving DecidableEq, Repr

/-- The activity of a source over the last microsecond (R226): the region it is counted in (sources 2 and 3; sources 1 and 4 the model
knows, and other sources are one for the device), the source, and its level of 0 to 256. -/
structure Activity where
  region : Fin 48
  source : Fin 11
  level : Fin 257
  deriving DecidableEq, Repr

/-- Two measurements of the trim a path's three channels need, in steps (R286, R288). -/
structure PathTrims where
  drvp : Int × Int
  drvn : Int × Int
  trm : Int × Int
  deriving DecidableEq, Repr

/-- What a calibration step measures; a step uses the part that belongs to its kind (R295, R299, R323): the trims each deck's path needs, the
verdict of a reference compare on each path, the trims a digitizer step's front ends need (by local pier), and a bandwidth trim with
whether the bandwidth after it lies within 10 % of nominal (R289). -/
structure CalReading where
  a : PathTrims
  b : PathTrims
  badA : Bool
  badB : Bool
  digitizers : List (Local × (Int × Int))
  bandwidth : BitVec 8
  within : Bool
  deriving DecidableEq, Repr

/-- What a sweep measures at a pier (R305): the counts of MONA and MONB in each step's window, of the pass up and of the pass down, in the order in
which they were taken. -/
structure SweepReading where
  pier : Local
  up : List (BitVec 16 × BitVec 16)
  down : List (BitVec 16 × BitVec 16)
  deriving DecidableEq, Repr

/-- What the trim of the RC oscillator measures (R289, R375): the trim and whether the frequency after it lies within 1 % of 32 MHz. -/
structure OscReading where
  trim : Nat
  within : Bool
  deriving DecidableEq, Repr

/-- A supply rail other than VTH (R362). -/
inductive Rail where
  | vdd | vio | vdda | vdrv | vpd | vhtr
  deriving DecidableEq, Repr

/-- A PLL, by its number in TH_PLL (R370). -/
abbrev PllIx := Fin 45

/-- An open slot of the fault collector (R453). -/
abbrev OpenSlot := Fin 16

/-- A reporting unit by its SOURCE code (R449). -/
abbrev SourceCode := Fin 4096

/-- What the flash's parameter tables offer (R386): log2 of its bytes and of a page, the 64 KiB erase, and whether everything the
device requires is there. -/
structure Sfdp where
  density : Nat
  page : Nat
  erase64 : Bool
  complete : Bool
  deriving DecidableEq, Repr

/-- One junction sensor's reading in 1/16 °C and its self-check (R432). -/
structure JsReading where
  temp : BitVec 12
  ok : Bool
  deriving DecidableEq, Repr

/-- What a housekeeping conversion gives (R423 to R431): the verdict of the open-wire check, and the raw fractions of its one or two
conversions. -/
structure HkReading where
  opened : Bool
  x1 : BitVec 24
  x2 : BitVec 24
  deriving DecidableEq, Repr

/-- What is lost on a joint: events beyond the fifteenth (R504), or values, counts and frames at a resynchronisation (R506). -/
abbrev Lost := Nat

end Sys2Proof
end

