-- ==== Sys2Proof/Syntax.lean ====
section
/-!
DEFINITION. Syntax.lean: the commands of the GL5184, one constructor for each row of spec/opcode_table.json. An operand is what
the world supplies: a frame, a register write, a reading, an upset. What the device itself knows is in the state.
-/
namespace Sys2Proof

/-- The commands, in the order of the table. -/
inductive Instr where
  /-- FRAME_RECEIVED (R89): The last byte of a frame passes a control port's PCS boundary; it is length-, FCS-, address- and buffer-checked and written to the packet buffer, or discarded and counted. Operands: a frame's bytes from the destination address to the byte before the FCS, whether its FCS is right, and the RS-FEC codewords met since the last frame (R89). -/
  | frameReceived (p : Port) (bytes : List Byte) (fcsOk : Bool) (fec : FecCount)
  /-- PFC_FRAME (R94): A received priority flow control frame pauses or resumes one egress priority of the port. Operands: the priorities the frame names and the quanta of priorities 0 to 7 (R94). -/
  | pfcFrame (p : Port) (enable : BitVec 8) (quanta : List Nat)
  /-- PFC_PAUSE_EXPIRY (R94): A received pause of quanta × 512 bit times ends and the priority may start frames again. -/
  | pfcPauseExpiry (p : Port) (prio : Prio)
  /-- PFC_XOFF_REPEAT (R93): Every 640 µs while occupancy stays at or above XON the PFC pause frame is sent again. -/
  | pfcXoffRepeat (p : Port) (prio : Prio)
  /-- PORT_LINK_CHANGE (R87): A port gains or loses block lock, FEC lock or fault status, changing CP_STATUS.LINK and setting CP_INT.LINK_CHG. Operands: the port's new lock and fault status (R86, R87). -/
  | portLinkChange (p : Port) (l : LinkStatus)
  /-- RATE_FALLBACK_TIMER (R87): A 50 ms attempt without block lock ends and the port alternates between 25GBASE-R and 10GBASE-R, or a 2 ms loss restarts the alternation. -/
  | rateFallbackTimer (p : Port)
  /-- PORT_DMA_RESET (R500): A write of 0 to CP_CTRL.ENABLE resets the port DMA master, completing any granted burst as R500 states. Operands: the write to CP_CTRL and the burst the port DMA has granted, if any (R500). -/
  | portDmaReset (p : Port) (w : RegWrite) (burst : Option Burst)
  /-- PARSE_WALK (R96): A free parse engine takes a buffered frame and walks the parse graph to one verdict, checking lengths, checksums and limits. Operands: the port whose oldest frame is taken, the engine, whether the buffer read met an uncorrectable error (R96, R465), and the words of the rule table found in error (R18). -/
  | parseWalk (p : Port) (e : Engine) (bufferUe : Bool) (ecc : List MemUpset)
  /-- ENGINE_FAULT (R101): A parse engine faults during a walk; it is withdrawn, its FAILED bit set and the frame re-walked by another engine. -/
  | engineFault (p : Port) (e : Engine)
  /-- ENGINE_RETURN (R101): Firmware writes 1 to a TG_ENGINE.FAILED bit and returns the engine to service. -/
  | engineReturn (w : RegWrite)
  /-- FRAGMENT_TIMEOUT (R102): A fragment-table entry reaches 100 µs without completing and is freed with its held fragments discarded. -/
  | fragmentTimeout (n : FragSlot)
  /-- REASSEMBLY_PASS (R105): A completed datagram is recirculated to a parse engine for a second pass under its stamped generation. Operands: the entry, the engine, and the words of the rule table found in error (R18). -/
  | reassemblyPass (n : FragSlot) (e : Engine) (ecc : List MemUpset)
  /-- GEN_COMMIT (R110): A write of 1 to TG_GEN_CTRL.COMMIT makes the free bank active and the old generation retiring, or sets COMMIT_ERR. -/
  | genCommit (w : RegWrite)
  /-- RULE_READ (R111): TG_RULE_OP read copies a rule entry into TG_RULE_DATA. Operands: the write to TG_RULE_OP (R111). -/
  | ruleRead (w : RegWrite)
  /-- RULE_WRITE (R111): TG_RULE_OP write stores TG_RULE_DATA into an entry of the free bank, or sets REFUSED. Operands: the write to TG_RULE_OP (R111). -/
  | ruleWrite (w : RegWrite)
  /-- RULE_COPY (R111): TG_RULE_OP copy copies the whole active bank into the addressed free bank, or sets REFUSED. Operands: the write to TG_RULE_OP (R111). -/
  | ruleCopy (w : RegWrite)
  /-- POLICER_WRITE (R114): A write to a policer's RATE or DEPTH sets its bucket to the new DEPTH. -/
  | policerWrite (n : PolicerIx) (word : Fin 2) (w : RegWrite)
  /-- FWQ_POP (R98): A write of 1 to TG_FWQ.POP releases the oldest frame of the selected port's firmware hand-off queue. Operands: the write to TG_FWQ (R98). -/
  | fwqPop (w : RegWrite)
  /-- FULL (R57): A FULL request is tested and admitted into a serving window with an ACCEPT, or refused. Operands: the lockstep mismatches the decision met and the memory words found in error (R18, R131). -/
  | full (mm : Upsets)
  /-- DELTA (R58): A DELTA request is tested and admitted into a serving window with an ACCEPT, or refused. -/
  | delta (mm : Upsets)
  /-- GROUP (R59): A GROUP request is tested and admitted into a serving window with an ACCEPT, or refused. -/
  | group (mm : Upsets)
  /-- DELIVERY (R126): At t_W + 80 ns an accepted request is delivered, its cells and in-flight entry returned and any COMPLETE queued. -/
  | delivery
  /-- SLOT_CLASSIFY (R473): At close_W each unbooked dispatch slot of the window is counted as front- or back-starved. -/
  | slotClassify
  /-- QUERY_LANE_STATUS (R73): A QUERY of kind 0x01 returns the lane's sequence, credit, occupancy and earliest acceptance estimate. -/
  | queryLaneStatus (mm : Upsets)
  /-- QUERY_REQUEST_STATUS (R73): A QUERY of kind 0x02 returns the state, code, disturbed count and delivery time of a request. -/
  | queryRequestStatus (mm : Upsets)
  /-- QUERY_DEVICE_STATE (R73): A QUERY of kind 0x03 returns power state, fatal flag, Deck B owner mask and recovery count. -/
  | queryDeviceState (mm : Upsets)
  /-- QUERY_NETWORK_TIME (R73): A QUERY of kind 0x04 returns current network time, servo state and grandmaster identity. -/
  | queryNetworkTime (mm : Upsets)
  /-- REG_READ (R74): A REG_READ reads COUNT words from ADDR upward and answers with a REG_REPLY. -/
  | regRead (mm : Upsets)
  /-- REG_WRITE (R76): A REG_WRITE writes COUNT words from ADDR upward at admission and answers with a REG_REPLY. -/
  | regWrite (mm : Upsets)
  /-- SUBSCRIBE (R77): A SUBSCRIBE sets, replaces or cancels a telemetry stream and is answered with a RESULT. -/
  | subscribe (mm : Upsets)
  /-- TELEMETRY_PERIOD (R79): A subscription's PERIOD elapses and a TELEMETRY message of its content is built and queued. -/
  | telemetryPeriod (n : Partner) (stream : Fin 4)
  /-- TIME_STEP (R159): A TIME_STEP permission is judged, stored, consumed or rejected and answered with a RESULT. -/
  | timeStep (mm : Upsets)
  /-- EGRESS_SEND (R139): A queued device message starts on its port once shaper level, pause and link allow, and is charged to the shaper. -/
  | egressSend (n : Partner)
  /-- CREDIT_TIMER (R53): When L has advanced and no message carried it within 2 µs, a CREDIT message is sent. -/
  | creditTimer (l : LaneIx)
  /-- DISPATCH (R135): At a booked slot time the dispatcher starts the waiting request with the smallest finish tag and reads it from the pool. Operand: the words of the pool found in error (R18). -/
  | dispatch (ecc : List MemUpset)
  /-- ROUTE_DONE (R185): Keystone completes a route against the projected state and both decks' checkers judge and stage the result. Operands: the route's time in ns, what each Keystone half gives, and whether a deck's checker is itself upset (R206, R207), and the words of Keystone's tables found in error (R18). -/
  | routeDone (ns : Nat) (half0 half1 : RouteHalf) (checkA checkB : CheckerUpset) (ecc : List MemUpset)
  /-- REQUEST_PASS (R222): Each deck's span linearizer half runs a request pass, writing staged fast codes and setting STAGED for non-HOLD piers. -/
  | requestPass (n : Span) (d : Deck) (faults : List CalUpset)
  /-- STAGE_READY_TEST (R230): At t_W − 40 ns each span tests each deck for stage-ready for the window. -/
  | stageReadyTest (n : Span)
  /-- LIFT_WINDOW_START (R171): A lift-schedule entry starts and a window event with index and class goes to capture and Tally. Operands: whether each release-strobe tree delivers its edge (R18, R171, R231). -/
  | liftWindowStart (treeA treeB : Bool)
  /-- LANE_LOAD (R133): LN_SEL load copies the selected lane's configuration and state into LN_CFG to LN_STATE2. Operands: the write to LN_SEL. -/
  | laneLoad (w : RegWrite)
  /-- LANE_WRITE (R133): LN_SEL write applies LN_CFG, LN_QUOTA and LN_PROMISE to the lane, or holds it pending while requests are in flight. Operands: the write to LN_SEL (R133). -/
  | laneWrite (w : RegWrite)
  /-- LANE_CONFIG_APPLY (R133): A held lane configuration write is applied when the lane no longer has any request in flight. -/
  | laneConfigApply (l : LaneIx)
  /-- PARTITION_WRITE (R133): A write to AD_PART.SIZE is applied, or refused with PART_ERR when partitions would exceed 163,840 cells. -/
  | partitionWrite (n : Partner) (w : RegWrite)
  /-- SHAPER_WRITE (R140): A write to word 0 or 1 of LN_SHP resets the shaper level to DEPTH or 0 and discards any debt. -/
  | shaperWrite (n : Partner) (word : Fin 2) (w : RegWrite)
  /-- SYNC (R150): A PTP Sync is received; a one-step Sync yields a measurement and a two-step Sync awaits its Follow_Up. Operands: the fraction of the ingress stamp in 1/256 ns (R152). -/
  | sync (frac : Fin 256)
  /-- FOLLOW_UP (R150): A PTP Follow_Up completes a two-step Sync and yields an offset measurement. -/
  | followUp
  /-- FOLLOW_UP_TIMEOUT (R150): A two-step Sync without its Follow_Up for 100 ms is discarded and counted. -/
  | followUpTimeout
  /-- ANNOUNCE (R149): A PTP Announce feeds the best master clock algorithm, which may change the selected grandmaster. -/
  | announce
  /-- ANNOUNCE_RECEIPT_TIMEOUT (R149): A foreign master's announceReceiptTimeout expires and the best master clock algorithm reselects. -/
  | announceReceiptTimeout
  /-- DELAY_REQ_TIMER (R151): Every 2^DREQ_LOG s a Delay_Req is sent on the selected port. Operands: the fraction of the egress stamp in 1/256 ns (R152). -/
  | delayReqTimer (frac : Fin 256)
  /-- DELAY_RESP (R151): A PTP Delay_Resp updates the mean path delay. -/
  | delayResp
  /-- TIME_STEP_EXECUTE (R160): At B the network-time clock jumps by Δ, NT_STEP_CNT advances and the servo becomes LOCKED. -/
  | timeStepExecute
  /-- GM_LOSS_TIMEOUT (R155): No accepted measurement from the selected grandmaster for NT_LOSS.MS moves the servo from LOCKED to HOLDOVER. -/
  | gmLossTimeout
  /-- PERMIT_EXPIRY (R159): A stored time-step permission reaches VALID_UNTIL and is discarded. -/
  | permitExpiry
  /-- RING_FOLLOW_UP_TIMEOUT (R162): A forwarded two-step Sync's Follow_Up does not arrive within 10 ms and is forwarded unchanged and counted. -/
  | ringFollowUpTimeout
  /-- SCHEDULE_START (R167): The lift schedule starts at the first cycle boundary after its enable, bank and servo conditions hold. -/
  | scheduleStart
  /-- SCHEDULE_SWAP (R172): A write of 1 to LS_CTRL.SWAP checks the inactive bank and fixes the swap boundary B, or sets SWAP_ERR. Operands: the write to LS_CTRL (R172). -/
  | scheduleSwap (w : RegWrite)
  /-- SWAP_EXECUTE (R172): At B the schedule banks change and windows resume at boundary N of the new bank. -/
  | swapExecute
  /-- SCHEDULE_DISABLE (R173): A write of 0 to LS_CTRL.EN stops admission finding windows; the schedule runs until the last booked window has started. Operands: the write to LS_CTRL (R173). -/
  | scheduleDisable (w : RegWrite)
  /-- FAIL_MARK (R201): A write of 1 to a KS_FAILMAP bit marks a pier failed for routes computed afterwards. Operands: the word of KS_FAILMAP and the write to it (R201). -/
  | failMark (i : Fin 576) (w : RegWrite)
  /-- FAIL_CLEAR (R201): A write to KS_FAIL_CLR clears a pier's failed mark for routes computed afterwards. Operands: the write to KS_FAIL_CLR (R201). -/
  | failClear (w : RegWrite)
  /-- REFRESH_PASS (R224): Every REFRESH_US each deck's linearizer computes crosstalk and power-map terms and writes Φ_TFF into loop state. Operands: the span and deck, the calibration upsets met, and whether the pass ended late (R224). -/
  | refreshPass (n : Span) (d : Deck) (faults : List CalUpset) (late : Bool)
  /-- POWER_MAP_UPDATE (R226): Once per microsecond each deck's linearizer updates every region's filtered power estimate. Operands: the activities over that microsecond, and the errors met in the thermal record (R219, R226). -/
  | powerMapUpdate (as : List Activity) (faults : List ThermalUpset)
  /-- VHTR_MEASURE (R229): Once per microsecond each span measures VHTR into LZ_VHTR. Operands: the span and what it measures in mV (R229). -/
  | vhtrMeasure (n : Span) (mv : BitVec 13)
  /-- PARK_RAMP_END (R243): A ramp to park codes completes over LZ_PARK.RAMP and RAMPING clears. -/
  | parkRampEnd (n : Span)
  /-- FORCE_PARK (R245): A write of 1 to PR_CTRL.FORCE_PARK parks one pier. Operands: the pier and the write to its PR_CTRL (R245). -/
  | forcePark (n : Span) (l : Local) (w : RegWrite)
  /-- FORCE_PARK_RELEASE (R245): A write of 0 to PR_CTRL.FORCE_PARK returns the pier to its loop's codes through the slew limiter. Operands: the pier and the write to its PR_CTRL (R245). -/
  | forceParkRelease (n : Span) (l : Local) (w : RegWrite)
  /-- DIVERSITY_CHOICE (R255): At the end of a window's lead-in the pier chooses its monitor and stops the other digitizer. Operands: the pier and the lead-in counts of its two digitizers (R255). -/
  | diversityChoice (n : Span) (l : Local) (countA countB : BitVec 16)
  /-- MONITOR_WINDOW_CLOSE (R253): A monitor window closes and the pier writes a 64-bit sample record with its marks to loop state readers and the sample bus. Operands: the pier and the counts of its two digitizers over the window (R253). -/
  | monitorWindowClose (n : Span) (l : Local) (countA countB : BitVec 16)
  /-- LOOP_RECORD_LOAD (R269): TE_PSEL load copies the selected pier's loop record into TE_PCFG and TE_PSTAT. Operands: the span and the write to its TE_PSEL (R269). -/
  | loopRecordLoad (n : Span) (w : RegWrite)
  /-- LOOP_RECORD_WRITE (R269): TE_PSEL write queues TE_PCFG0 to TE_PCFG3 for both decks' records at the pier's next window close. Operands: the span and the write to its TE_PSEL (R269). -/
  | loopRecordWrite (n : Span) (w : RegWrite)
  /-- LOOP_PERIOD_WRITE (R265): A write to TE_LOOP.PERIOD takes effect at pier 0's next window close and every pier holds at its first update under it. Operands: the span and the write to its TE_LOOP (R265). -/
  | loopPeriodWrite (n : Span) (w : RegWrite)
  /-- FILTER_CHANGE (R257): A write to TE_FILT changes the span's front-end filter at each pier's next window and marks two windows SETTLE. Operands: the span and the write to its TE_FILT (R257). -/
  | filterChange (n : Span) (w : RegWrite)
  /-- CAL_STEP_START (R297): A span's calibration sequencer starts the first due step whose worst case fits in the available time. -/
  | calStepStart (n : Span)
  /-- CAL_STEP_END (R288): A calibration step ends and its result is validated, accepted or discarded, and any offset trim written. Operands: the span and what its step measures (R288). -/
  | calStepEnd (n : Span) (r : CalReading)
  /-- EXT_RUN_END (R303): A span's EXT run ends after CAL_EXT.SPAN_MS. -/
  | extRunEnd (n : Span)
  /-- CAL_STARVED (R298): A run waits 1 s without starting a step and sets CAL_INT.STARVED. -/
  | calStarved (n : Span)
  /-- SWEEP (R304): A write of 1 to CAL_CMD.SWEEP starts an extinction sweep of one or every span, or sets REFUSED. Operands: the write to CAL_CMD (R304). -/
  | sweep (w : RegWrite)
  /-- SWEEP_END (R305): A sweep finishes its up and down passes, yields PHI_F0, D1 and RRAT and returns piers to loop codes. Operands: the span and what the sweep measures at its piers (R305). -/
  | sweepEnd (n : Span) (readings : List SweepReading)
  /-- STORE_NOW (R306): A write of 1 to CAL_CMD.STORE_NOW starts a calibration record write. Operands: the write to CAL_CMD (R306). -/
  | storeNow (w : RegWrite)
  /-- CAL_STORE_TIMER (R306): CAL_STORE.MIN_INT minutes after the last write started, the record in progress starts being written. -/
  | calStoreTimer
  /-- CAL_RECORD_WRITE_DONE (R308): A calibration record write to the older slot completes and REC_WRITTEN is set. -/
  | calRecordWriteDone
  /-- CLAIM_LOWER (R314): A deck detects its own fault and lowers its claim, handing its pier outputs to the other deck at the next fast strobe. Operands: the deck and the fault it finds in itself (R314). -/
  | claimLower (d : Deck) (f : SelfFault)
  /-- WATCHDOG_EXPIRY (R314): A deck's watchdog expires; its claim falls to 0x00 everywhere with cause 1 and the lead may pass. Operands: the deck and the burst its bus master has granted, if any (R314, R500). -/
  | watchdogExpiry (d : Deck) (burst : Option Burst)
  /-- WATCHDOG_KICK (R331): A write of 1 to DK_WDOG KICK restarts the deck's watchdog count. Operands: the deck and the write to its DK_WDOG (R331). -/
  | watchdogKick (d : Deck) (w : RegWrite)
  /-- ABUTMENT_MISMATCH (R318): The abutment finds the two healthy decks' codes differ, logs the mismatch and starts the replay procedure. Operands: the pier and the code an upset makes a deck request there (R318). -/
  | abutmentMismatch (n : Span) (l : Local) (u : CodeUpset)
  /-- REPLAY_START (R319): A mismatch persisting for MISWAIT starts a signature replay on the span by each deck. -/
  | replayStart (n : Span)
  /-- REPLAY_END (R320): A signature replay ends and the outcome lowers the non-owner's or a failing deck's claim, or is fatal. Operands: the span and whether each deck's replay reproduces its history (R320). -/
  | replayEnd (n : Span) (histA histB : Bool)
  /-- HANDOVER (R327): DK_CMD.HANDOVER hands one or every span to the non-owner by a transient NOM − 1 claim, or sets CMD_REFUSED. Operands: the write to DK_CMD (R327). -/
  | handover (w : RegWrite)
  /-- RESYNC (R328): DK_CMD.RESYNC or a firmware request starts copying a healthy deck's loop state to a faulted deck, or sets CMD_REFUSED. Operands: the write to DK_CMD (R328). -/
  | resync (w : RegWrite)
  /-- RESYNC_COPY_END (R328): The one-period copy ends, staged registers are equalised and the deck enters PROBATION. -/
  | resyncCopyEnd (n : Span)
  /-- PROBATION_END (R329): PROBATION loop periods pass without difference and the deck's claim returns to NOM as standby. -/
  | probationEnd (n : Span)
  /-- PATH_RETURN (R312): A write to DK_PEXCL_CLR returns an excluded path at a pier, reopening its clamp if needed. Operands: the write to DK_PEXCL_CLR (R312). -/
  | pathReturn (w : RegWrite)
  /-- AUTOFAIL_TIMEOUT (R324): With AUTOFAIL, a pier whose RESID has been set on both decks for FAIL_MS is marked failed. -/
  | autofailTimeout (n : Span) (l : Local)
  /-- NOM_WRITE (R311): A write to DK_CTRL.NOM moves every claim equal to the old NOM to the new value at one fast strobe. Operands: the write to DK_CTRL (R311). -/
  | nomWrite (w : RegWrite)
  /-- SPAN_LOADED_REPORT (R313): A deck's firmware reports a span loaded and its claim there becomes NOM. -/
  | spanLoadedReport (d : Deck) (n : Span)
  /-- RAIL_GOOD (R437): A rail has lain inside its supervision window for 10 µs and is reported good. -/
  | railGood (r : Rail)
  /-- RAIL_BAD (R438): A required rail leaves its window and the outcome for that rail follows. -/
  | railBad (r : Rail)
  /-- TARGET_WRITE (R374): A write to TH_PCTRL.TARGET names the state toward which the device moves. Operands: the write to TH_PCTRL (R374). -/
  | targetWrite (w : RegWrite)
  /-- SLEEP_TO_STANDBY (R375): The device leaves retention, starts the crystal and moves the Tollhouse to it. -/
  | sleepToStandby
  /-- STANDBY_TO_READY (R375): The device trims the RC oscillator, locks all PLLs and joins the islands, beginning a new epoch. -/
  | standbyToReady (osc : OscReading)
  /-- READY_TO_HOLD (R376): The device runs power-up calibration, opens clamps, ramps to park, runs start passes and two loop updates to reach Hold. -/
  | readyToHold
  /-- HOLD_TO_SERVICE (R375): The lift schedule starts at the first cycle boundary after TARGET is Service and R167 holds. -/
  | holdToService
  /-- SERVICE_TO_HOLD (R375): Hold begins at the end of the window in which LS_CTRL.RUN falls. -/
  | serviceToHold
  /-- HOLD_TO_READY (R377): A park request goes to every span, loops hold and Keystone's projected state is cleared. -/
  | holdToReady
  /-- READY_TO_STANDBY (R375): Ports and PLLs stop, islands are isolated and clamps close, ending the epoch. -/
  | readyToStandby
  /-- STANDBY_TO_SLEEP (R375): The crystal stops and retention is entered when SLEEP_RET is 1. -/
  | standbyToSleep
  /-- TRANSITION_STEP_END (R383): A step of a power transition ends, t_ready is recomputed and the next step or state begins. -/
  | transitionStepEnd
  /-- PLL_LOCK (R370): A PLL completes band calibration and locks; a span PLL fixes its span's P0. Operands: the PLL and the band its calibration settles on (R370). -/
  | pllLock (i : PllIx) (band : Fin 64)
  /-- PLL_LOCK_TIMEOUT (R372): A PLL not locked within its worst case is relocked once, or sets PLL_FAIL and the device stays in Standby. -/
  | pllLockTimeout (i : PllIx)
  /-- PLL_LOSS (R460): A locked PLL loses lock; the Tollhouse clamps affected spans and restarts its lock, or the fault reaction follows. Operands: the PLL, and for a deck PLL the burst its cluster has granted (R460, R500). -/
  | pllLoss (i : PllIx) (burst : Option Burst)
  /-- HTR_TRK_UPDATE (R365): Every 10 µs the device recomputes the requested heater rail voltage and the HTR_TRK duty. -/
  | htrTrkUpdate
  /-- RST_N_ASSERT (R382): RST_N held low past its filter resets every island but the Tollhouse and closes the clamps at once. -/
  | rstNAssert
  /-- RST_N_RISE (R379): A rising edge of RST_N in Sleep or Standby wakes the device toward WAKE_TARGET. -/
  | rstNRise
  /-- COLD_START (R409): The boot reads SFDP, firmware, footing image and calibration slots and writes the epoch. Operands: what the flash's parameter tables offer (R386, R409). -/
  | coldStart (sfdp : Sfdp)
  /-- FIRMWARE_VERIFY_DONE (R400): A firmware candidate is read into both deck RAMs and its signature verified, selecting the running slot or the next candidate. -/
  | firmwareVerifyDone
  /-- FOOTING_CHECK_DONE (R408): The footing image check ends; held REGS are applied, calibration applied, epoch written and ports enabled, or recovery mode follows. -/
  | footingCheckDone
  /-- WARM_START (R412): On rising from retained Sleep the retention check runs and either skips the image reads or falls back to a cold start. Operands: whether the scrub of the retained memories meets no uncorrectable error (R412). -/
  | warmStart (sfdp : Sfdp) (scrubOk : Bool)
  /-- CLUSTER_RESTART (R401): A deck cluster restarts after cause 1 or 2, reruns its boot ROM and verifies the running slot. -/
  | clusterRestart (d : Deck)
  /-- REMAP_SET (R410): A write of 1 to a NV_REMAP bit maps a deck cluster's RAM to address zero. Operands: the write to NV_REMAP (R410). -/
  | remapSet (w : RegWrite)
  /-- FLASH_READ (R416): NV_CMD read reads up to 256 bytes of flash into NV_BUF. Operands: the write to NV_CMD (R416). -/
  | flashRead (w : RegWrite)
  /-- FLASH_PROGRAM (R417): NV_CMD program programs up to one page from NV_BUF, or is refused. Operands: the write to NV_CMD (R417). -/
  | flashProgram (w : RegWrite)
  /-- FLASH_ERASE_4K (R417): NV_CMD erase 4 KiB erases a sector at NV_ADDR, or is refused. Operands: the write to NV_CMD (R417). -/
  | flashErase4k (w : RegWrite)
  /-- FLASH_ERASE_64K (R417): NV_CMD erase 64 KiB erases a block at NV_ADDR, or is refused. Operands: the write to NV_CMD (R417). -/
  | flashErase64k (w : RegWrite)
  /-- FLASH_OP_DONE (R416): A host flash operation ends and DONE or ERR is set. Operands: whether the flash reports no error (R416). -/
  | flashOpDone (ok : Bool)
  /-- XTAL_VALID (R420): The crystal is reported valid and the Tollhouse switches to it, restarting the running conversion. -/
  | xtalValid
  /-- HK_CYCLE_START (R429): INTERVAL after the previous cycle start, the housekeeping sequence begins a new cycle. -/
  | hkCycleStart
  /-- HK_CONVERSION_DONE (R434): A housekeeping conversion ends, its result is corrected, filtered and tested against HI, LO and RATE. Operands: what the conversion gives (R434). -/
  | hkConversionDone (r : HkReading)
  /-- URGENT_CONVERSION (R430): A write of HK_URG.GO aborts the running conversion and runs an urgent one, or sets URG_BUSY. Operands: the write to HK_URG (R430). -/
  | urgentConversion (w : RegWrite)
  /-- JS_UPDATE (R432): Once per millisecond each junction sensor is digitized and zone 8 updated. Operands: the readings of the junction sensors in order (R432). -/
  | jsUpdate (readings : List JsReading)
  /-- TSD_NO_SENSOR_TIMEOUT (R440): No junction sensor has been valid for 10 ms and thermal shutdown is decided. -/
  | tsdNoSensorTimeout
  /-- TSD_CLAMP (R441): At the later of 3 ms and the page program end, clamps close and the device passes to Sleep with the latch set. -/
  | tsdClamp
  /-- WAKE_TIMER (R439): TH_WAKE.TIMER seconds after entry to Sleep or Standby the Tollhouse wakes the device. -/
  | wakeTimer
  /-- TOLLHOUSE_JOB (R445): The Tollhouse starts its next queued flash job: epoch write, shutdown record, checkpoint or calibration record. -/
  | tollhouseJob
  /-- TOLLHOUSE_PAGE_DONE (R418): A Tollhouse page program or erase ends and the next flash operation may start. Operands: whether the flash reports no error (R418); the byte of the Tollhouse's memory in which the job in progress has met an uncorrectable error, if any (R465). -/
  | tollhousePageDone (ok : Bool) (ue : Option (BitVec 18))
  /-- FAULT_RECORD (R451): The collector records a source's fault message in FC_LOG and counts it, opening a slot for a contained fault. Operands: the source whose oldest message is taken (R451). -/
  | faultRecord (src : SourceCode)
  /-- CORRECTED_DROP (R450): A corrected message finding its source queue full is dropped and OVERFLOW set. Operands: the corrected message that arrives (R450). -/
  | correctedDrop (msg : BitVec 64)
  /-- ESCALATION (R455): A contained fault's escalation window expires and it is escalated to fatal. -/
  | escalation (slot : OpenSlot)
  /-- FAULT_CLEAR (R454): The lead deck's write to FC_CLR clears an open contained fault, or sets CLR_DENIED. Operands: the write to FC_CLR (R454). -/
  | faultClear (w : RegWrite)
  /-- QUIET_PERIOD_END (R463): A quiet period completes and the device recovers in a new epoch, or stays blocked. -/
  | quietPeriodEnd
  /-- TALLY_SNAPSHOT (R471): Each millisecond Tally reads every block counter into the inactive bank and swaps banks. -/
  | tallySnapshot
  /-- CHECKPOINT_TIMER (R480): Every TY_CKPT.INTERVAL seconds a lifetime checkpoint is fixed and queued as a Tollhouse job. -/
  | checkpointTimer
  /-- HIST_SAMPLE_SECOND (R477): Once per second each valid zone's temperature advances its lifetime histogram bin. -/
  | histSampleSecond
  /-- HIST_SAMPLE_HOUR (R477): Once per hour KS_STATUS.FAILED advances histogram 11. -/
  | histSampleHour
  /-- COUNTER_LATCH_READ (R468): A read of a counter's word 0 latches bits [47:32] for the reading master. Operands: the deck-view address read and the read (R468). -/
  | counterLatchRead (addr : BitVec 32) (r : RegRead)
  /-- RC_FIELD_READ (R11): A read of an RC field such as BM_WAIT.MAX returns the value and clears it. Operands: the deck-view address read and the read (R11). -/
  | rcFieldRead (addr : BitVec 32) (r : RegRead)
  /-- CAPTURE_ARM (R486): A write of 1 to TC_CTRL.ARM clears every segment and the histogram and starts pre-fill. Operands: the write to TC_CTRL (R486). -/
  | captureArm (w : RegWrite)
  /-- CAPTURE_STOP (R486): A write of 1 to TC_CTRL.STOP ends post-fill of the current segment. Operands: the write to TC_CTRL (R486). -/
  | captureStop (w : RegWrite)
  /-- CAPTURE_FORCE (R487): A write of 1 to TC_CTRL.FORCE offers a trigger to the capture unit. Operands: the write to TC_CTRL (R487). -/
  | captureForce (w : RegWrite)
  /-- CAPTURE_STORE (R489): The store writes one queued entry per central cycle, advancing pre-fill, armed and post-fill states. -/
  | captureStore
  /-- TRIG_BUS_EDGE (R493): A falling edge on TRIG0 or TRIG1 is recognised and offered as a trigger at t_rec − COMPn. -/
  | trigBusEdge (line : Fin 2)
  /-- CSYNC_LOST (R493): CSYNC shows no edge for 1 µs while CSYNC_EN is 1 and CSYNC_LOST is set. -/
  | csyncLost
  /-- LOCK_BREAK (R499): A locked sequence exceeds LOCK_MAX cycles and its lock is broken. -/
  | lockBreak
  /-- JOINT_UP (R505): After a side leaves reset the joint resynchronises and comes up. -/
  | jointUp (j : Joint) (lost : Lost)
  /-- JOINT_SAT (R504): An event count on a joint saturates at 15 and further events are lost with a corrected fault. -/
  | jointSat (j : Joint) (lost : Lost)
  /-- REGISTER_WRITE (R10): A write to a register without a row of its own acts according to each field's access code. Operands: the deck-view address written and the write (R10). -/
  | registerWrite (addr : BitVec 32) (w : RegWrite)
  /-- FAST_UPDATE_STROBE (R234): Every 20 ns at each pier a fast update strobe advances the fast slew limiter and lets the abutment compare codes and switch decks. -/
  | fastUpdateStrobe (n : Span) (l : Local)
  /-- TRIM_UPDATE_STROBE (R229): Every 100 ns at each pier a trim update strobe advances the trim slew limiter and lets the abutment compare trim codes. -/
  | trimUpdateStrobe (n : Span) (l : Local)
  /-- MONITOR_WINDOW_OPEN (R251): A pier's monitor window begins, its digitizers start counting the lead-in, and pending gain or filter changes take effect. -/
  | monitorWindowOpen (n : Span) (l : Local)
  /-- UPTIME_SECOND (R421): The Tollhouse seconds counter TH_UPTIME advances by 1, accruing lifetime time counts and ageing the recovery history. -/
  | uptimeSecond
  /-- VTH_POWER_ON (R437): VTH is applied and the Tollhouse power-on reset releases at 0.80 V, resetting every Tollhouse register and starting the Tollhouse. -/
  | vthPowerOn
  /-- VTH_POWER_LOSS (R483): VTH is removed, every supply fails, and Tollhouse state, lifetime remainders and any shutdown record not yet logged are lost. -/
  | vthPowerLoss
  /-- TRIG_DRIVE_END (R493): A unit driving TRIG0 or TRIG1 low releases the line after 4 CSYNC periods or 40 ns. -/
  | trigDriveEnd (line : Fin 2)
  /-- TAP_DEBUG_RESET (R500): A debug reset through the TAP resets the debug master, completing any granted burst or held lock as R500 states. Operands: the burst the debug master has granted, if any (R500). -/
  | tapDebugReset (burst : Option Burst)
  deriving DecidableEq, Repr

end Sys2Proof
end

