-- ==== Sys2Proof/Config.lean ====
section
/-!
DEFINITION. Config.lean: what one device or its integrator fixes and the spec leaves open, and the free values. Every
constant here is opaque: nothing can evaluate it, and a statement holds whatever it is.
-/
namespace Sys2Proof.Config

/-- A free value: the n-th value the spec leaves open, as a natural number (log entry 2). -/
opaque freeNat : Nat → Nat

/-- The word that the request pool or a Keystone or lane table holds at an address to which nothing has been written: formats the manual does not
define (R510; log entry 60). -/
opaque poolWord : Nat → BitVec 32

/-- The route Keystone takes where the loops of R189 and the trees beside them give no lawful one (log entry 38): a function of
the projected state, the failed piers and the resulting pattern, coded as numbers; one slot path for each circuit. -/
opaque routeChoice : List Nat → List (List Nat)

/-- The side a loop's starting circuit takes where circuits that persist in it ask for different sides: R189 leaves the
order in which a loop is walked open. Arguments: the stage and the starting output. -/
opaque loopUpper : Nat → Nat → Bool

/-- Whether a joint's latency, in units of 0.25 ns / 10,725, is shown rounded up in BM_JSTAT where it is no whole number of 0.25 ns (R503; log entry 2). -/
opaque roundsUp : Nat → Bool

/-- The PTP clock identity of the device: the manual gives none (log entry 13). -/
opaque clockIdentity : Nat

/-- The bytes of a deck's boot ROM (R410). -/
opaque bootRom : Nat → BitVec 8

/-- SHA-384 of a byte string (R391, R398): the standard's function, which the manual names. -/
opaque sha384 : List (BitVec 8) → List (BitVec 8)

/-- Whether a signature (r, then s) of a digest verifies under a P-384 public key (X, then Y) by ECDSA (R398). Arguments: key, digest, signature. -/
opaque ecdsaP384 : List (BitVec 8) → List (BitVec 8) → List (BitVec 8) → Bool

/-- The number of nodes of a parse graph in the format private to Preal (R404). -/
opaque parseNodes : List (BitVec 8) → Nat

/-- The words of the fuse shadows (FU_ registers), by word offset: programmed to the integrator's order (R391). -/
opaque fuseWord : Nat → BitVec 32

/-- Whether the FCRC over the fuses is right (R396). -/
opaque fusesGood : Bool

end Sys2Proof.Config
end

