-- ==== Sys2Proof/Machine/Bits.lean ====
section
/-!
DEFINITION. Machine/Bits.lean: bit fields of a register word (R9), two's complement, byte orders (R9, R13) and the
CRC-32C of the flash records (R479).
-/
namespace Sys2Proof.Machine

/-- A register field: bits [hi:lo] of the word at a deck-view address (R9). -/
structure Fld where
  addr : Nat
  hi : Nat
  lo : Nat
  deriving DecidableEq, Repr

/-- Width of the bit range [hi:lo]. -/
def width (hi lo : Nat) : Nat := hi + 1 - lo

/-- The mask of bits [hi:lo] of a word. -/
def fieldMask (hi lo : Nat) : Word := BitVec.ofNat 32 ((2 ^ width hi lo - 1) * 2 ^ lo)

/-- Bits [hi:lo] of a word, as a number. -/
def bitsOf (w : Word) (hi lo : Nat) : Nat := (w.toNat / 2 ^ lo) % 2 ^ width hi lo

/-- The word with bits [hi:lo] holding `v` (its low bits) and the other bits kept. -/
def withBits (w : Word) (hi lo v : Nat) : Word :=
  (w &&& ~~~ fieldMask hi lo) ||| BitVec.ofNat 32 ((v % 2 ^ width hi lo) * 2 ^ lo)

/-- Two's complement value of the low `n` bits of `v`. -/
def signed (n v : Nat) : Int :=
  if (v % 2 ^ n) * 2 < 2 ^ n then ((v % 2 ^ n : Nat) : Int) else ((v % 2 ^ n : Nat) : Int) - ((2 ^ n : Nat) : Int)

/-- The low `n` bits of the two's complement form of `i`. -/
def unsigned (n : Nat) (i : Int) : Nat := (i % ((2 ^ n : Nat) : Int)).toNat

/-- `v` held to the range from `lo` to `hi`. -/
def clampInt (lo hi v : Int) : Int := max lo (min hi v)

/-- `a / 2^n` rounded to nearest, ties away from zero toward the larger: floor of `a / 2^n + 1/2`. -/
def roundShift (n : Nat) (a : Int) : Int := (a + 2 ^ n / 2) / 2 ^ n

/-- The big-endian value of bytes (R13: ALP messages are big-endian on the wire). -/
def beVal (bs : List Byte) : Nat := bs.foldl (fun a b => a * 256 + b.toNat) 0

/-- The `n` big-endian bytes of a value (R13). -/
def beBytes (n v : Nat) : List Byte :=
  (List.range n).map (fun i => BitVec.ofNat 8 (v / 256 ^ (n - 1 - i)))

/-- The little-endian value of bytes (R9, R478). -/
def leVal : List Byte → Nat
  | [] => 0
  | b :: bs => b.toNat + 256 * leVal bs

/-- The `n` little-endian bytes of a value (R9, R478). -/
def leBytes (n v : Nat) : List Byte := (List.range n).map (fun i => BitVec.ofNat 8 (v / 256 ^ i))

/-- Bytes `off` to `off + n - 1` of a byte string. -/
def slice (bs : List Byte) (off n : Nat) : List Byte := (bs.drop off).take n

/-- Big-endian field of a byte string. -/
def beAt (bs : List Byte) (off n : Nat) : Nat := beVal (slice bs off n)

/-- Little-endian field of a byte string. -/
def leAt (bs : List Byte) (off n : Nat) : Nat := leVal (slice bs off n)

/-- One bit step of the CRC-32C in its reflected form (polynomial 0x1EDC6F41). -/
def crcBit (c : Nat) : Nat := if c % 2 = 1 then (c / 2) ^^^ 0x82F63B78 else c / 2

/-- One byte of the CRC-32C. -/
def crcByte (c : Nat) (b : Byte) : Nat :=
  crcBit (crcBit (crcBit (crcBit (crcBit (crcBit (crcBit (crcBit (c ^^^ b.toNat))))))))

/-- CRC-32C (Castagnoli) of a byte string (R478, R479; the parameters are the standard ones: PRESUMED, log entry 12). -/
def crc32c (bs : List Byte) : Nat := (bs.foldl crcByte 0xFFFFFFFF) ^^^ 0xFFFFFFFF

/-- Integer square root free helper: the bits of `v` that are set, from 0 to `n - 1`. -/
def setBitsOf (n v : Nat) : List Nat := (List.range n).filter (fun i => v.testBit i)

/-- The number of bits set among the low `n`. -/
def popCount (n v : Nat) : Nat := (setBitsOf n v).length

end Sys2Proof.Machine
end

