-- ==== Sys2Proof/Machine/Fields.lean ====
section
/-!
DEFINITION. Machine/Fields.lean: the address of every register of the index (R512) and the place of every
field of it, under the names the spec gives them. `aX` is a register's deck-view address, `X_F` its field F.
-/
namespace Sys2Proof.Machine

/-- Window of control port p (R507). -/
def cpBase (p : Nat) : Nat := 0xE0100000 + 0x10000 * p
/-- Window of span s (R507). -/
def spBase (s : Nat) : Nat := 0x40000000 + 0x1000000 * s


/-! ### Registers of 03_control_ports_parsing.md -/

/-- CP_CTRL: port mode and actions. -/
def aCP_CTRL (p : Nat) : Nat := cpBase p + 0x0
def CP_CTRL_ENABLE (p : Nat) : Fld := ⟨aCP_CTRL p, 0, 0⟩
def CP_CTRL_SPEED (p : Nat) : Fld := ⟨aCP_CTRL p, 1, 1⟩
def CP_CTRL_FALLBACK_EN (p : Nat) : Fld := ⟨aCP_CTRL p, 2, 2⟩
def CP_CTRL_FEC_EN (p : Nat) : Fld := ⟨aCP_CTRL p, 3, 3⟩
def CP_CTRL_PFC_RX_EN (p : Nat) : Fld := ⟨aCP_CTRL p, 4, 4⟩
def CP_CTRL_PFC_TX_EN (p : Nat) : Fld := ⟨aCP_CTRL p, 5, 5⟩
def CP_CTRL_DEFACT (p : Nat) : Fld := ⟨aCP_CTRL p, 6, 6⟩
def CP_CTRL_DEF_PRI (p : Nat) : Fld := ⟨aCP_CTRL p, 9, 7⟩
/-- CP_STATUS: link state. -/
def aCP_STATUS (p : Nat) : Nat := cpBase p + 0x4
def CP_STATUS_BLOCK_LOCK (p : Nat) : Fld := ⟨aCP_STATUS p, 0, 0⟩
def CP_STATUS_FEC_LOCK (p : Nat) : Fld := ⟨aCP_STATUS p, 1, 1⟩
def CP_STATUS_RATE (p : Nat) : Fld := ⟨aCP_STATUS p, 2, 2⟩
def CP_STATUS_LOCAL_FAULT (p : Nat) : Fld := ⟨aCP_STATUS p, 3, 3⟩
def CP_STATUS_REMOTE_FAULT (p : Nat) : Fld := ⟨aCP_STATUS p, 4, 4⟩
def CP_STATUS_LINK (p : Nat) : Fld := ⟨aCP_STATUS p, 5, 5⟩
/-- CP_MAC_LO: port MAC address. -/
def aCP_MAC_LO (p : Nat) : Nat := cpBase p + 0x8
def CP_MAC_LO_MAC (p : Nat) : Fld := ⟨aCP_MAC_LO p, 31, 0⟩
/-- CP_MAC_HI: port MAC address. -/
def aCP_MAC_HI (p : Nat) : Nat := cpBase p + 0xC
def CP_MAC_HI_MAC (p : Nat) : Fld := ⟨aCP_MAC_HI p, 15, 0⟩
/-- CP_IPV4: port IPv4 address. -/
def aCP_IPV4 (p : Nat) : Nat := cpBase p + 0x10
def CP_IPV4_ADDR (p : Nat) : Fld := ⟨aCP_IPV4 p, 31, 0⟩
/-- CP_IPV6: port IPv6 address. -/
def aCP_IPV6 (p i : Nat) : Nat := cpBase p + 0x14 + 0x4 * i
def CP_IPV6_ADDR (p i : Nat) : Fld := ⟨aCP_IPV6 p i, 31, 0⟩
/-- CP_MAX_FRAME: largest frame. -/
def aCP_MAX_FRAME (p : Nat) : Nat := cpBase p + 0x24
def CP_MAX_FRAME_MAX (p : Nat) : Fld := ⟨aCP_MAX_FRAME p, 13, 0⟩
/-- CP_BUF: buffer share. -/
def aCP_BUF (p : Nat) : Nat := cpBase p + 0x28
def CP_BUF_SHARE (p : Nat) : Fld := ⟨aCP_BUF p, 7, 0⟩
/-- CP_INT: port events. -/
def aCP_INT (p : Nat) : Nat := cpBase p + 0x30
def CP_INT_LINK_CHG (p : Nat) : Fld := ⟨aCP_INT p, 0, 0⟩
def CP_INT_FALLBACK (p : Nat) : Fld := ⟨aCP_INT p, 1, 1⟩
def CP_INT_BUF_DROP (p : Nat) : Fld := ⟨aCP_INT p, 2, 2⟩
def CP_INT_FWQ_FULL (p : Nat) : Fld := ⟨aCP_INT p, 3, 3⟩
/-- CP_PFC_THR: thresholds per priority. -/
def aCP_PFC_THR (p i : Nat) : Nat := cpBase p + 0x40 + 0x4 * i
def CP_PFC_THR_XOFF (p i : Nat) : Fld := ⟨aCP_PFC_THR p i, 15, 0⟩
def CP_PFC_THR_XON (p i : Nat) : Fld := ⟨aCP_PFC_THR p i, 31, 16⟩
/-- Window of Tollgate (R507). -/
def tgBase : Nat := 0xE0000000
/-- TG_ENGINE: parse engine state. -/
def aTG_ENGINE : Nat := tgBase + 0x0
def TG_ENGINE_FAILED : Fld := ⟨aTG_ENGINE, 15, 0⟩
def TG_ENGINE_BUSY : Fld := ⟨aTG_ENGINE, 31, 16⟩
/-- TG_UDP_PORT: ALP UDP port. -/
def aTG_UDP_PORT : Nat := tgBase + 0x4
def TG_UDP_PORT_PORT : Fld := ⟨aTG_UDP_PORT, 15, 0⟩
/-- TG_POL_OVH: policer overhead. -/
def aTG_POL_OVH : Nat := tgBase + 0x8
def TG_POL_OVH_OVH : Fld := ⟨aTG_POL_OVH, 7, 0⟩
/-- TG_GEN_CTRL: rule generations. -/
def aTG_GEN_CTRL : Nat := tgBase + 0x10
def TG_GEN_CTRL_COMMIT : Fld := ⟨aTG_GEN_CTRL, 0, 0⟩
def TG_GEN_CTRL_ACTIVE_BANK : Fld := ⟨aTG_GEN_CTRL, 1, 1⟩
def TG_GEN_CTRL_RETIRING : Fld := ⟨aTG_GEN_CTRL, 2, 2⟩
def TG_GEN_CTRL_COMMIT_ERR : Fld := ⟨aTG_GEN_CTRL, 3, 3⟩
/-- TG_GEN_STATUS: generation numbers. -/
def aTG_GEN_STATUS : Nat := tgBase + 0x14
def TG_GEN_STATUS_ACTIVE : Fld := ⟨aTG_GEN_STATUS, 15, 0⟩
def TG_GEN_STATUS_PINNED : Fld := ⟨aTG_GEN_STATUS, 31, 16⟩
/-- TG_FRAG: fragment table. -/
def aTG_FRAG : Nat := tgBase + 0x18
def TG_FRAG_IN_USE : Fld := ⟨aTG_FRAG, 8, 0⟩
def TG_FRAG_POISONED : Fld := ⟨aTG_FRAG, 17, 9⟩
/-- TG_FWQ: firmware hand-off queue. -/
def aTG_FWQ : Nat := tgBase + 0x1C
def TG_FWQ_PENDING : Fld := ⟨aTG_FWQ, 6, 0⟩
def TG_FWQ_PSEL : Fld := ⟨aTG_FWQ, 9, 7⟩
def TG_FWQ_POP : Fld := ⟨aTG_FWQ, 10, 10⟩
/-- TG_RULE_OP: rule access. -/
def aTG_RULE_OP : Nat := tgBase + 0x20
def TG_RULE_OP_INDEX : Fld := ⟨aTG_RULE_OP, 9, 0⟩
def TG_RULE_OP_BANK : Fld := ⟨aTG_RULE_OP, 10, 10⟩
def TG_RULE_OP_OP : Fld := ⟨aTG_RULE_OP, 12, 11⟩
def TG_RULE_OP_REFUSED : Fld := ⟨aTG_RULE_OP, 13, 13⟩
/-- TG_RULE_DATA_w0: one rule entry. -/
def aTG_RULE_DATA_w0 : Nat := tgBase + 0x40
def TG_RULE_DATA_w0_KEY : Fld := ⟨aTG_RULE_DATA_w0, 31, 0⟩
/-- TG_RULE_DATA_w1: one rule entry. -/
def aTG_RULE_DATA_w1 : Nat := tgBase + 0x44
def TG_RULE_DATA_w1_KEY : Fld := ⟨aTG_RULE_DATA_w1, 31, 0⟩
/-- TG_RULE_DATA_w2: one rule entry. -/
def aTG_RULE_DATA_w2 : Nat := tgBase + 0x48
def TG_RULE_DATA_w2_KEY : Fld := ⟨aTG_RULE_DATA_w2, 31, 0⟩
/-- TG_RULE_DATA_w3: one rule entry. -/
def aTG_RULE_DATA_w3 : Nat := tgBase + 0x4C
def TG_RULE_DATA_w3_KEY : Fld := ⟨aTG_RULE_DATA_w3, 31, 0⟩
/-- TG_RULE_DATA_w4: one rule entry. -/
def aTG_RULE_DATA_w4 : Nat := tgBase + 0x50
def TG_RULE_DATA_w4_KEY : Fld := ⟨aTG_RULE_DATA_w4, 31, 0⟩
/-- TG_RULE_DATA_w5: one rule entry. -/
def aTG_RULE_DATA_w5 : Nat := tgBase + 0x54
def TG_RULE_DATA_w5_KEY : Fld := ⟨aTG_RULE_DATA_w5, 31, 0⟩
/-- TG_RULE_DATA_w6: one rule entry. -/
def aTG_RULE_DATA_w6 : Nat := tgBase + 0x58
def TG_RULE_DATA_w6_KEY : Fld := ⟨aTG_RULE_DATA_w6, 31, 0⟩
/-- TG_RULE_DATA_w7: one rule entry. -/
def aTG_RULE_DATA_w7 : Nat := tgBase + 0x5C
def TG_RULE_DATA_w7_MASK : Fld := ⟨aTG_RULE_DATA_w7, 31, 0⟩
/-- TG_RULE_DATA_w8: one rule entry. -/
def aTG_RULE_DATA_w8 : Nat := tgBase + 0x60
def TG_RULE_DATA_w8_MASK : Fld := ⟨aTG_RULE_DATA_w8, 31, 0⟩
/-- TG_RULE_DATA_w9: one rule entry. -/
def aTG_RULE_DATA_w9 : Nat := tgBase + 0x64
def TG_RULE_DATA_w9_MASK : Fld := ⟨aTG_RULE_DATA_w9, 31, 0⟩
/-- TG_RULE_DATA_w10: one rule entry. -/
def aTG_RULE_DATA_w10 : Nat := tgBase + 0x68
def TG_RULE_DATA_w10_MASK : Fld := ⟨aTG_RULE_DATA_w10, 31, 0⟩
/-- TG_RULE_DATA_w11: one rule entry. -/
def aTG_RULE_DATA_w11 : Nat := tgBase + 0x6C
def TG_RULE_DATA_w11_MASK : Fld := ⟨aTG_RULE_DATA_w11, 31, 0⟩
/-- TG_RULE_DATA_w12: one rule entry. -/
def aTG_RULE_DATA_w12 : Nat := tgBase + 0x70
def TG_RULE_DATA_w12_MASK : Fld := ⟨aTG_RULE_DATA_w12, 31, 0⟩
/-- TG_RULE_DATA_w13: one rule entry. -/
def aTG_RULE_DATA_w13 : Nat := tgBase + 0x74
def TG_RULE_DATA_w13_MASK : Fld := ⟨aTG_RULE_DATA_w13, 31, 0⟩
/-- TG_RULE_DATA_w14: one rule entry. -/
def aTG_RULE_DATA_w14 : Nat := tgBase + 0x78
def TG_RULE_DATA_w14_ACTION : Fld := ⟨aTG_RULE_DATA_w14, 1, 0⟩
def TG_RULE_DATA_w14_PERM : Fld := ⟨aTG_RULE_DATA_w14, 5, 2⟩
def TG_RULE_DATA_w14_POLICER : Fld := ⟨aTG_RULE_DATA_w14, 11, 6⟩
def TG_RULE_DATA_w14_PARTNER : Fld := ⟨aTG_RULE_DATA_w14, 17, 12⟩
def TG_RULE_DATA_w14_VALID : Fld := ⟨aTG_RULE_DATA_w14, 31, 31⟩
/-- TG_RULE_DATA_w15: one rule entry. -/
def aTG_RULE_DATA_w15 : Nat := tgBase + 0x7C
def TG_RULE_DATA_w15_LANE_BASE : Fld := ⟨aTG_RULE_DATA_w15, 13, 0⟩
def TG_RULE_DATA_w15_LANE_COUNT : Fld := ⟨aTG_RULE_DATA_w15, 28, 14⟩
/-- TG_POL_w0: policer n. -/
def aTG_POL_w0 (i : Nat) : Nat := tgBase + 0x1000 + 0x8 * i
def TG_POL_w0_RATE (i : Nat) : Fld := ⟨aTG_POL_w0 i, 19, 0⟩
/-- TG_POL_w1: policer n. -/
def aTG_POL_w1 (i : Nat) : Nat := tgBase + 0x1004 + 0x8 * i
def TG_POL_w1_DEPTH (i : Nat) : Fld := ⟨aTG_POL_w1 i, 23, 0⟩
def TG_POL_w1_EN (i : Nat) : Fld := ⟨aTG_POL_w1 i, 31, 31⟩

/-! ### Registers of 04_admission_lanes_deadlines.md -/

/-- Window of admission and lanes (R507). -/
def adBase : Nat := 0xE0010000
/-- AD_CTRL: admission control. -/
def aAD_CTRL : Nat := adBase + 0x0
def AD_CTRL_EN : Fld := ⟨aAD_CTRL, 0, 0⟩
/-- AD_PIPE: pipeline bound and slot spacing. -/
def aAD_PIPE : Nat := adBase + 0x4
def AD_PIPE_P : Fld := ⟨aAD_PIPE, 15, 0⟩
def AD_PIPE_C : Fld := ⟨aAD_PIPE, 31, 16⟩
/-- AD_STATUS: occupancy and readiness. -/
def aAD_STATUS : Nat := adBase + 0x8
def AD_STATUS_INFLIGHT : Fld := ⟨aAD_STATUS, 13, 0⟩
def AD_STATUS_NOT_READY : Fld := ⟨aAD_STATUS, 15, 15⟩
def AD_STATUS_STATE : Fld := ⟨aAD_STATUS, 19, 16⟩
/-- AD_READY_S: predicted ready time. -/
def aAD_READY_S : Nat := adBase + 0xC
def AD_READY_S_SECONDS : Fld := ⟨aAD_READY_S, 31, 0⟩
/-- AD_READY_NS: predicted ready time. -/
def aAD_READY_NS : Nat := adBase + 0x10
def AD_READY_NS_NANOSECONDS : Fld := ⟨aAD_READY_NS, 31, 0⟩
/-- AD_VT: virtual time. -/
def aAD_VT : Nat := adBase + 0x14
def AD_VT_V : Fld := ⟨aAD_VT, 31, 0⟩
/-- AD_INT: admission events. -/
def aAD_INT : Nat := adBase + 0x18
def AD_INT_ADMIT_FAULT : Fld := ⟨aAD_INT, 0, 0⟩
def AD_INT_INFLIGHT_FULL : Fld := ⟨aAD_INT, 1, 1⟩
def AD_INT_POOL_FULL : Fld := ⟨aAD_INT, 2, 2⟩
def AD_INT_REPLY_HOLD : Fld := ⟨aAD_INT, 3, 3⟩
def AD_INT_PART_ERR : Fld := ⟨aAD_INT, 4, 4⟩
/-- AD_PART_w0: partition of partner n. -/
def aAD_PART_w0 (i : Nat) : Nat := adBase + 0x100 + 0x8 * i
def AD_PART_w0_SIZE (i : Nat) : Fld := ⟨aAD_PART_w0 i, 17, 0⟩
def AD_PART_w0_WINCAP (i : Nat) : Fld := ⟨aAD_PART_w0 i, 23, 20⟩
/-- AD_PART_w1: partition of partner n. -/
def aAD_PART_w1 (i : Nat) : Nat := adBase + 0x104 + 0x8 * i
def AD_PART_w1_USED (i : Nat) : Fld := ⟨aAD_PART_w1 i, 17, 0⟩
/-- LN_SEL: lane selection. -/
def aLN_SEL : Nat := adBase + 0x1000
def LN_SEL_LANE : Fld := ⟨aLN_SEL, 13, 0⟩
def LN_SEL_OP : Fld := ⟨aLN_SEL, 17, 16⟩
def LN_SEL_PENDING : Fld := ⟨aLN_SEL, 18, 18⟩
/-- LN_CFG: lane configuration. -/
def aLN_CFG : Nat := adBase + 0x1004
def LN_CFG_PARTNER : Fld := ⟨aLN_CFG, 5, 0⟩
def LN_CFG_T_FULL : Fld := ⟨aLN_CFG, 6, 6⟩
def LN_CFG_T_DELTA : Fld := ⟨aLN_CFG, 7, 7⟩
def LN_CFG_T_GROUP : Fld := ⟨aLN_CFG, 8, 8⟩
def LN_CFG_DISTURB : Fld := ⟨aLN_CFG, 9, 9⟩
def LN_CFG_CREP : Fld := ⟨aLN_CFG, 10, 10⟩
def LN_CFG_EN : Fld := ⟨aLN_CFG, 11, 11⟩
def LN_CFG_WEIGHT : Fld := ⟨aLN_CFG, 23, 16⟩
/-- LN_QUOTA: cell quota. -/
def aLN_QUOTA : Nat := adBase + 0x1008
def LN_QUOTA_Q : Fld := ⟨aLN_QUOTA, 14, 0⟩
/-- LN_PROMISE: promise limit. -/
def aLN_PROMISE : Nat := adBase + 0x100C
def LN_PROMISE_PL : Fld := ⟨aLN_PROMISE, 19, 0⟩
/-- LN_STATE0: sequence. -/
def aLN_STATE0 : Nat := adBase + 0x1010
def LN_STATE0_EXP_SEQ : Fld := ⟨aLN_STATE0, 31, 0⟩
/-- LN_STATE1: occupancy. -/
def aLN_STATE1 : Nat := adBase + 0x1014
def LN_STATE1_O : Fld := ⟨aLN_STATE1, 14, 0⟩
def LN_STATE1_QUEUED : Fld := ⟨aLN_STATE1, 29, 16⟩
/-- LN_STATE2: credit. -/
def aLN_STATE2 : Nat := adBase + 0x1018
def LN_STATE2_C : Fld := ⟨aLN_STATE2, 15, 0⟩
def LN_STATE2_L : Fld := ⟨aLN_STATE2, 31, 16⟩
/-- LN_SHP_OVH: egress overhead. -/
def aLN_SHP_OVH : Nat := adBase + 0x101C
def LN_SHP_OVH_OVH : Fld := ⟨aLN_SHP_OVH, 7, 0⟩
/-- LN_SHP_w0: egress shaper of partner n. -/
def aLN_SHP_w0 (i : Nat) : Nat := adBase + 0x2000 + 0x10 * i
def LN_SHP_w0_RATE (i : Nat) : Fld := ⟨aLN_SHP_w0 i, 19, 0⟩
/-- LN_SHP_w1: egress shaper of partner n. -/
def aLN_SHP_w1 (i : Nat) : Nat := adBase + 0x2004 + 0x10 * i
def LN_SHP_w1_DEPTH (i : Nat) : Fld := ⟨aLN_SHP_w1 i, 23, 0⟩
def LN_SHP_w1_RESET_FULL (i : Nat) : Fld := ⟨aLN_SHP_w1 i, 30, 30⟩
def LN_SHP_w1_EN (i : Nat) : Fld := ⟨aLN_SHP_w1 i, 31, 31⟩
/-- LN_SHP_w2: egress shaper of partner n. -/
def aLN_SHP_w2 (i : Nat) : Nat := adBase + 0x2008 + 0x10 * i
def LN_SHP_w2_LEVEL (i : Nat) : Fld := ⟨aLN_SHP_w2 i, 31, 0⟩

/-! ### Registers of 05_network_time_lift_schedule.md -/

/-- Window of network time and lift schedule (R507). -/
def ntBase : Nat := 0xE0020000
/-- NT_CTRL: PTP control. -/
def aNT_CTRL : Nat := ntBase + 0x0
def NT_CTRL_PTP_EN : Fld := ⟨aNT_CTRL, 5, 0⟩
def NT_CTRL_DOMAIN : Fld := ⟨aNT_CTRL, 15, 8⟩
def NT_CTRL_DREQ_LOG : Fld := ⟨aNT_CTRL, 19, 16⟩
def NT_CTRL_DLY_AVG : Fld := ⟨aNT_CTRL, 25, 20⟩
def NT_CTRL_RING_FWD : Fld := ⟨aNT_CTRL, 26, 26⟩
def NT_CTRL_RING_BLOCK : Fld := ⟨aNT_CTRL, 28, 27⟩
/-- NT_STATE: servo state. -/
def aNT_STATE : Nat := ntBase + 0x4
def NT_STATE_SERVO : Fld := ⟨aNT_STATE, 2, 0⟩
def NT_STATE_PORT : Fld := ⟨aNT_STATE, 5, 3⟩
def NT_STATE_GM_VALID : Fld := ⟨aNT_STATE, 6, 6⟩
def NT_STATE_PERSIST_CNT : Fld := ⟨aNT_STATE, 15, 8⟩
def NT_STATE_STEP_PEND : Fld := ⟨aNT_STATE, 16, 16⟩
/-- NT_TIME_NS: network time. -/
def aNT_TIME_NS : Nat := ntBase + 0x8
def NT_TIME_NS_NANOSECONDS : Fld := ⟨aNT_TIME_NS, 29, 0⟩
/-- NT_TIME_SL: network time. -/
def aNT_TIME_SL : Nat := ntBase + 0xC
def NT_TIME_SL_SECONDS_LO : Fld := ⟨aNT_TIME_SL, 31, 0⟩
/-- NT_TIME_SH: network time. -/
def aNT_TIME_SH : Nat := ntBase + 0x10
def NT_TIME_SH_SECONDS_HI : Fld := ⟨aNT_TIME_SH, 15, 0⟩
/-- NT_TIME_L32: network time. -/
def aNT_TIME_L32 : Nat := ntBase + 0x14
def NT_TIME_L32_LOCAL : Fld := ⟨aNT_TIME_L32, 31, 0⟩
/-- NT_RATE: rate correction. -/
def aNT_RATE : Nat := ntBase + 0x18
def NT_RATE_Y : Fld := ⟨aNT_RATE, 31, 0⟩
/-- NT_SERVO: servo gains. -/
def aNT_SERVO : Nat := ntBase + 0x1C
def NT_SERVO_KP : Fld := ⟨aNT_SERVO, 15, 0⟩
def NT_SERVO_KI : Fld := ⟨aNT_SERVO, 31, 16⟩
/-- NT_SERVO_LIM: rate limit. -/
def aNT_SERVO_LIM : Nat := ntBase + 0x20
def NT_SERVO_LIM_PPM : Fld := ⟨aNT_SERVO_LIM, 9, 0⟩
/-- NT_JUMP: jump threshold. -/
def aNT_JUMP : Nat := ntBase + 0x24
def NT_JUMP_THR : Fld := ⟨aNT_JUMP, 23, 0⟩
/-- NT_PERSIST: persistence. -/
def aNT_PERSIST : Nat := ntBase + 0x28
def NT_PERSIST_K : Fld := ⟨aNT_PERSIST, 7, 0⟩
def NT_PERSIST_TOL : Fld := ⟨aNT_PERSIST, 31, 8⟩
/-- NT_LOCK: lock criterion. -/
def aNT_LOCK : Nat := ntBase + 0x2C
def NT_LOCK_LIMIT : Fld := ⟨aNT_LOCK, 15, 0⟩
def NT_LOCK_COUNT : Fld := ⟨aNT_LOCK, 19, 16⟩
/-- NT_LOSS: grandmaster loss. -/
def aNT_LOSS : Nat := ntBase + 0x30
def NT_LOSS_MS : Fld := ⟨aNT_LOSS, 15, 0⟩
/-- NT_OFFSET: last measurements. -/
def aNT_OFFSET : Nat := ntBase + 0x34
def NT_OFFSET_O : Fld := ⟨aNT_OFFSET, 31, 0⟩
/-- NT_PDELAY: last measurements. -/
def aNT_PDELAY : Nat := ntBase + 0x38
def NT_PDELAY_D : Fld := ⟨aNT_PDELAY, 31, 0⟩
/-- NT_GMID_L: grandmaster identity. -/
def aNT_GMID_L : Nat := ntBase + 0x3C
def NT_GMID_L_ID_LO : Fld := ⟨aNT_GMID_L, 31, 0⟩
/-- NT_GMID_H: grandmaster identity. -/
def aNT_GMID_H : Nat := ntBase + 0x40
def NT_GMID_H_ID_HI : Fld := ⟨aNT_GMID_H, 31, 0⟩
/-- NT_STEP_S: steps. -/
def aNT_STEP_S : Nat := ntBase + 0x44
def NT_STEP_S_B_SECONDS : Fld := ⟨aNT_STEP_S, 31, 0⟩
/-- NT_STEP_NS: steps. -/
def aNT_STEP_NS : Nat := ntBase + 0x48
def NT_STEP_NS_B_NANOSECONDS : Fld := ⟨aNT_STEP_NS, 29, 0⟩
/-- NT_STEP_VAL_L: steps. -/
def aNT_STEP_VAL_L : Nat := ntBase + 0x4C
def NT_STEP_VAL_L_DELTA_VAL_L : Fld := ⟨aNT_STEP_VAL_L, 31, 0⟩
/-- NT_STEP_VAL_H: steps. -/
def aNT_STEP_VAL_H : Nat := ntBase + 0x50
def NT_STEP_VAL_H_DELTA_VAL_H : Fld := ⟨aNT_STEP_VAL_H, 31, 0⟩
/-- NT_STEP_CNT: steps. -/
def aNT_STEP_CNT : Nat := ntBase + 0x54
def NT_STEP_CNT_COUNT : Fld := ⟨aNT_STEP_CNT, 31, 0⟩
/-- NT_INT: network-time events. -/
def aNT_INT : Nat := ntBase + 0x58
def NT_INT_JUMP : Fld := ⟨aNT_INT, 0, 0⟩
def NT_INT_HOLDOVER : Fld := ⟨aNT_INT, 1, 1⟩
def NT_INT_PERSIST : Fld := ⟨aNT_INT, 2, 2⟩
def NT_INT_STEP : Fld := ⟨aNT_INT, 3, 3⟩
def NT_INT_GM_CHANGE : Fld := ⟨aNT_INT, 4, 4⟩
def NT_INT_LOCKED : Fld := ⟨aNT_INT, 5, 5⟩
/-- NT_PERMIT_w0: stored permission. -/
def aNT_PERMIT_w0 : Nat := ntBase + 0x60
def NT_PERMIT_w0_GMID : Fld := ⟨aNT_PERMIT_w0, 31, 0⟩
/-- NT_PERMIT_w1: stored permission. -/
def aNT_PERMIT_w1 : Nat := ntBase + 0x64
def NT_PERMIT_w1_GMID : Fld := ⟨aNT_PERMIT_w1, 31, 0⟩
/-- NT_PERMIT_w2: stored permission. -/
def aNT_PERMIT_w2 : Nat := ntBase + 0x68
def NT_PERMIT_w2_MAXSTEP : Fld := ⟨aNT_PERMIT_w2, 31, 0⟩
/-- NT_PERMIT_w3: stored permission. -/
def aNT_PERMIT_w3 : Nat := ntBase + 0x6C
def NT_PERMIT_w3_MAXSTEP : Fld := ⟨aNT_PERMIT_w3, 31, 0⟩
/-- NT_PERMIT_w4: stored permission. -/
def aNT_PERMIT_w4 : Nat := ntBase + 0x70
def NT_PERMIT_w4_VALID_UNTIL : Fld := ⟨aNT_PERMIT_w4, 31, 0⟩
/-- NT_PERMIT_w5: stored permission. -/
def aNT_PERMIT_w5 : Nat := ntBase + 0x74
def NT_PERMIT_w5_VALID_UNTIL : Fld := ⟨aNT_PERMIT_w5, 31, 0⟩
/-- NT_PERMIT_w6: stored permission. -/
def aNT_PERMIT_w6 : Nat := ntBase + 0x78
def NT_PERMIT_w6_VALID : Fld := ⟨aNT_PERMIT_w6, 0, 0⟩
/-- NT_ASYM: asymmetry of port p. -/
def aNT_ASYM (i : Nat) : Nat := ntBase + 0x80 + 0x4 * i
def NT_ASYM_ASYM (i : Nat) : Fld := ⟨aNT_ASYM i, 31, 0⟩
/-- LS_CTRL: schedule control. -/
def aLS_CTRL : Nat := ntBase + 0x1000
def LS_CTRL_EN : Fld := ⟨aLS_CTRL, 0, 0⟩
def LS_CTRL_ACTIVE_BANK : Fld := ⟨aLS_CTRL, 1, 1⟩
def LS_CTRL_SWAP : Fld := ⟨aLS_CTRL, 2, 2⟩
def LS_CTRL_SWAP_PEND : Fld := ⟨aLS_CTRL, 3, 3⟩
def LS_CTRL_SWAP_ERR : Fld := ⟨aLS_CTRL, 4, 4⟩
def LS_CTRL_WR_ERR : Fld := ⟨aLS_CTRL, 5, 5⟩
def LS_CTRL_GAPCAL : Fld := ⟨aLS_CTRL, 6, 6⟩
def LS_CTRL_RUN : Fld := ⟨aLS_CTRL, 7, 7⟩
/-- LS_GUARD: gap guard. -/
def aLS_GUARD : Nat := ntBase + 0x1004
def LS_GUARD_GUARD : Fld := ⟨aLS_GUARD, 15, 0⟩
/-- LS_SWAP_S: swap boundary. -/
def aLS_SWAP_S : Nat := ntBase + 0x1008
def LS_SWAP_S_SECONDS : Fld := ⟨aLS_SWAP_S, 31, 0⟩
/-- LS_SWAP_NS: swap boundary. -/
def aLS_SWAP_NS : Nat := ntBase + 0x100C
def LS_SWAP_NS_NANOSECONDS : Fld := ⟨aLS_SWAP_NS, 29, 0⟩
/-- LS_STATUS: position. -/
def aLS_STATUS : Nat := ntBase + 0x1010
def LS_STATUS_ENTRY : Fld := ⟨aLS_STATUS, 7, 0⟩
def LS_STATUS_CLASS : Fld := ⟨aLS_STATUS, 9, 8⟩
/-- LS_BANK_w0: bank parameters. -/
def aLS_BANK_w0 (i : Nat) : Nat := ntBase + 0x1100 + 0x10 * i
def LS_BANK_w0_CYCLE (i : Nat) : Fld := ⟨aLS_BANK_w0 i, 29, 0⟩
/-- LS_BANK_w1: bank parameters. -/
def aLS_BANK_w1 (i : Nat) : Nat := ntBase + 0x1104 + 0x10 * i
def LS_BANK_w1_PHASE (i : Nat) : Fld := ⟨aLS_BANK_w1 i, 29, 0⟩
/-- LS_BANK_w2: bank parameters. -/
def aLS_BANK_w2 (i : Nat) : Nat := ntBase + 0x1108 + 0x10 * i
def LS_BANK_w2_COUNT (i : Nat) : Fld := ⟨aLS_BANK_w2 i, 8, 0⟩
/-- LS_ENTRY: entry i of bank b at 0x2000 + b × 0x400 + i × 0x4. -/
def aLS_ENTRY (i : Nat) : Nat := ntBase + 0x2000 + 0x4 * i
def LS_ENTRY_CLASS (i : Nat) : Fld := ⟨aLS_ENTRY i, 1, 0⟩
def LS_ENTRY_DURATION (i : Nat) : Fld := ⟨aLS_ENTRY i, 31, 2⟩

/-! ### Registers of 06_keystone_routing.md -/

/-- Window of Keystone (R507). -/
def ksBase : Nat := 0xE0030000
/-- KS_TOPO: loaded map. -/
def aKS_TOPO : Nat := ksBase + 0x0
def KS_TOPO_N : Fld := ⟨aKS_TOPO, 10, 0⟩
def KS_TOPO_S : Fld := ⟨aKS_TOPO, 15, 11⟩
def KS_TOPO_CLASS : Fld := ⟨aKS_TOPO, 17, 16⟩
def KS_TOPO_MAP_VALID : Fld := ⟨aKS_TOPO, 18, 18⟩
def KS_TOPO_EXT : Fld := ⟨aKS_TOPO, 20, 19⟩
def KS_TOPO_PLAIN : Fld := ⟨aKS_TOPO, 21, 21⟩
/-- KS_BOUND: route bound. -/
def aKS_BOUND : Nat := ksBase + 0x4
def KS_BOUND_RB : Fld := ⟨aKS_BOUND, 15, 0⟩
def KS_BOUND_INC_MAX : Fld := ⟨aKS_BOUND, 23, 16⟩
/-- KS_STATUS: state. -/
def aKS_STATUS : Nat := ksBase + 0x8
def KS_STATUS_BUSY : Fld := ⟨aKS_STATUS, 0, 0⟩
def KS_STATUS_GROUPS : Fld := ⟨aKS_STATUS, 7, 1⟩
def KS_STATUS_FAILED : Fld := ⟨aKS_STATUS, 22, 8⟩
def KS_STATUS_FAIL_OVER : Fld := ⟨aKS_STATUS, 23, 23⟩
def KS_STATUS_LIVE_ON_FAILED : Fld := ⟨aKS_STATUS, 24, 24⟩
/-- KS_INT: Keystone events. -/
def aKS_INT : Nat := ksBase + 0xC
def KS_INT_CHECK_MISMATCH : Fld := ⟨aKS_INT, 0, 0⟩
def KS_INT_CHECK_REJECT : Fld := ⟨aKS_INT, 1, 1⟩
def KS_INT_FAIL_MARK : Fld := ⟨aKS_INT, 2, 2⟩
def KS_INT_LIVE_ON_FAILED : Fld := ⟨aKS_INT, 3, 3⟩
def KS_INT_FAIL_OVER : Fld := ⟨aKS_INT, 4, 4⟩
def KS_INT_WOULD_DISTURB : Fld := ⟨aKS_INT, 5, 5⟩
def KS_INT_UNROUTABLE : Fld := ⟨aKS_INT, 6, 6⟩
/-- KS_FAIL_CLR: clear a failed mark. -/
def aKS_FAIL_CLR : Nat := ksBase + 0x10
def KS_FAIL_CLR_PIER : Fld := ⟨aKS_FAIL_CLR, 14, 0⟩
/-- KS_QSEL: circuit query selection. -/
def aKS_QSEL : Nat := ksBase + 0x14
def KS_QSEL_OUT : Fld := ⟨aKS_QSEL, 9, 0⟩
/-- KS_QRES: circuit query result. -/
def aKS_QRES : Nat := ksBase + 0x18
def KS_QRES_IN : Fld := ⟨aKS_QRES, 9, 0⟩
def KS_QRES_LIT : Fld := ⟨aKS_QRES, 10, 10⟩
def KS_QRES_MC : Fld := ⟨aKS_QRES, 11, 11⟩
def KS_QRES_GROUP : Fld := ⟨aKS_QRES, 17, 12⟩
def KS_QRES_ON_FAILED : Fld := ⟨aKS_QRES, 18, 18⟩
/-- KS_TIME: route times. -/
def aKS_TIME : Nat := ksBase + 0x1C
def KS_TIME_LAST : Fld := ⟨aKS_TIME, 15, 0⟩
def KS_TIME_MAX : Fld := ⟨aKS_TIME, 31, 16⟩
/-- KS_FAILMAP: failed piers. -/
def aKS_FAILMAP (i : Nat) : Nat := ksBase + 0x1000 + 0x4 * i
def KS_FAILMAP_FAIL (i : Nat) : Fld := ⟨aKS_FAILMAP i, 31, 0⟩
/-- KS_ATT_LVL: output level of port p. -/
def aKS_ATT_LVL (i : Nat) : Nat := ksBase + 0x2000 + 0x4 * i
def KS_ATT_LVL_LEVEL (i : Nat) : Fld := ⟨aKS_ATT_LVL i, 11, 0⟩
/-- KS_GROUP_w0: group n. -/
def aKS_GROUP_w0 (i : Nat) : Nat := ksBase + 0x3000 + 0x8 * i
def KS_GROUP_w0_IN (i : Nat) : Fld := ⟨aKS_GROUP_w0 i, 9, 0⟩
def KS_GROUP_w0_M (i : Nat) : Fld := ⟨aKS_GROUP_w0 i, 13, 10⟩
def KS_GROUP_w0_LIVE (i : Nat) : Fld := ⟨aKS_GROUP_w0 i, 31, 31⟩
/-- KS_GROUP_w1: group n. -/
def aKS_GROUP_w1 (i : Nat) : Nat := ksBase + 0x3004 + 0x8 * i
def KS_GROUP_w1_WEIGHTS (i : Nat) : Fld := ⟨aKS_GROUP_w1 i, 31, 0⟩

/-! ### Registers of 07_linearizer_drive.md -/

/-- LZ_CTRL: linearizer control. -/
def aLZ_CTRL (s : Nat) : Nat := spBase s + 0x0
def LZ_CTRL_REFRESH_EN (s : Nat) : Fld := ⟨aLZ_CTRL s, 0, 0⟩
def LZ_CTRL_PE_EN (s : Nat) : Fld := ⟨aLZ_CTRL s, 1, 1⟩
def LZ_CTRL_REFRESH_US (s : Nat) : Fld := ⟨aLZ_CTRL s, 15, 8⟩
/-- LZ_STATUS: span state. -/
def aLZ_STATUS (s : Nat) : Nat := spBase s + 0x4
def LZ_STATUS_READY_A (s : Nat) : Fld := ⟨aLZ_STATUS s, 0, 0⟩
def LZ_STATUS_READY_B (s : Nat) : Fld := ⟨aLZ_STATUS s, 1, 1⟩
def LZ_STATUS_PASS_A (s : Nat) : Fld := ⟨aLZ_STATUS s, 2, 2⟩
def LZ_STATUS_PASS_B (s : Nat) : Fld := ⟨aLZ_STATUS s, 3, 3⟩
def LZ_STATUS_PARKED (s : Nat) : Fld := ⟨aLZ_STATUS s, 4, 4⟩
def LZ_STATUS_RAMPING (s : Nat) : Fld := ⟨aLZ_STATUS s, 5, 5⟩
def LZ_STATUS_CLAMPED (s : Nat) : Fld := ⟨aLZ_STATUS s, 6, 6⟩
def LZ_STATUS_AGE (s : Nat) : Fld := ⟨aLZ_STATUS s, 23, 8⟩
/-- LZ_VHTR: measured heater rail. -/
def aLZ_VHTR (s : Nat) : Nat := spBase s + 0x8
def LZ_VHTR_MV (s : Nat) : Fld := ⟨aLZ_VHTR s, 12, 0⟩
/-- LZ_VHCFG: heater rail model. -/
def aLZ_VHCFG (s : Nat) : Nat := spBase s + 0xC
def LZ_VHCFG_VHNOM (s : Nat) : Fld := ⟨aLZ_VHCFG s, 12, 0⟩
def LZ_VHCFG_VHR (s : Nat) : Fld := ⟨aLZ_VHCFG s, 22, 13⟩
/-- LZ_VHK: heater rail coefficient. -/
def aLZ_VHK (s : Nat) : Nat := spBase s + 0x10
def LZ_VHK_VHK (s : Nat) : Fld := ⟨aLZ_VHK s, 15, 0⟩
/-- LZ_SLEW_F: slew limiters. -/
def aLZ_SLEW_F (s : Nat) : Nat := spBase s + 0x14
def LZ_SLEW_F_STEP (s : Nat) : Fld := ⟨aLZ_SLEW_F s, 13, 0⟩
def LZ_SLEW_F_RATE (s : Nat) : Fld := ⟨aLZ_SLEW_F s, 19, 16⟩
/-- LZ_SLEW_T: slew limiters. -/
def aLZ_SLEW_T (s : Nat) : Nat := spBase s + 0x18
def LZ_SLEW_T_STEP (s : Nat) : Fld := ⟨aLZ_SLEW_T s, 11, 0⟩
def LZ_SLEW_T_RATE (s : Nat) : Fld := ⟨aLZ_SLEW_T s, 19, 16⟩
/-- LZ_PARK: park ramp. -/
def aLZ_PARK (s : Nat) : Nat := spBase s + 0x1C
def LZ_PARK_RAMP (s : Nat) : Fld := ⟨aLZ_PARK s, 13, 0⟩
/-- LZ_INT: linearizer events. -/
def aLZ_INT (s : Nat) : Nat := spBase s + 0x20
def LZ_INT_RANGE_LOW (s : Nat) : Fld := ⟨aLZ_INT s, 0, 0⟩
def LZ_INT_RANGE_HIGH (s : Nat) : Fld := ⟨aLZ_INT s, 1, 1⟩
def LZ_INT_TRIM_LIMIT (s : Nat) : Fld := ⟨aLZ_INT s, 2, 2⟩
def LZ_INT_NOT_READY (s : Nat) : Fld := ⟨aLZ_INT s, 3, 3⟩
def LZ_INT_CAL_UE (s : Nat) : Fld := ⟨aLZ_INT s, 4, 4⟩
def LZ_INT_REFRESH_LATE (s : Nat) : Fld := ⟨aLZ_INT s, 5, 5⟩
/-- LZ_PM: power map of the span's tile. -/
def aLZ_PM (s : Nat) : Nat := spBase s + 0x24
def LZ_PM_TILE_MW (s : Nat) : Fld := ⟨aLZ_PM s, 15, 0⟩
def LZ_PM_DRV_MW (s : Nat) : Fld := ⟨aLZ_PM s, 31, 16⟩
/-- PR_CTRL: pier control. -/
def aPR_CTRL (s i : Nat) : Nat := spBase s + 0x10000 + 0x20 * i
def PR_CTRL_FORCE_PARK (s i : Nat) : Fld := ⟨aPR_CTRL s i, 0, 0⟩
def PR_CTRL_PE_DIS (s i : Nat) : Fld := ⟨aPR_CTRL s i, 1, 1⟩
/-- PR_PARK: park codes. -/
def aPR_PARK (s i : Nat) : Nat := spBase s + 0x10004 + 0x20 * i
def PR_PARK_FAST (s i : Nat) : Fld := ⟨aPR_PARK s i, 13, 0⟩
def PR_PARK_TRIM (s i : Nat) : Fld := ⟨aPR_PARK s i, 27, 16⟩
/-- PR_LIVE_A: live codes per deck. -/
def aPR_LIVE_A (s i : Nat) : Nat := spBase s + 0x10008 + 0x20 * i
def PR_LIVE_A_FAST (s i : Nat) : Fld := ⟨aPR_LIVE_A s i, 13, 0⟩
def PR_LIVE_A_TRIM (s i : Nat) : Fld := ⟨aPR_LIVE_A s i, 27, 16⟩
/-- PR_LIVE_B: live codes per deck. -/
def aPR_LIVE_B (s i : Nat) : Nat := spBase s + 0x1000C + 0x20 * i
def PR_LIVE_B_FAST (s i : Nat) : Fld := ⟨aPR_LIVE_B s i, 13, 0⟩
def PR_LIVE_B_TRIM (s i : Nat) : Fld := ⟨aPR_LIVE_B s i, 27, 16⟩
/-- PR_STAGED_A: staged codes per deck. -/
def aPR_STAGED_A (s i : Nat) : Nat := spBase s + 0x10010 + 0x20 * i
def PR_STAGED_A_FAST (s i : Nat) : Fld := ⟨aPR_STAGED_A s i, 13, 0⟩
def PR_STAGED_A_STAGED (s i : Nat) : Fld := ⟨aPR_STAGED_A s i, 31, 31⟩
/-- PR_STAGED_B: staged codes per deck. -/
def aPR_STAGED_B (s i : Nat) : Nat := spBase s + 0x10014 + 0x20 * i
def PR_STAGED_B_FAST (s i : Nat) : Fld := ⟨aPR_STAGED_B s i, 13, 0⟩
def PR_STAGED_B_STAGED (s i : Nat) : Fld := ⟨aPR_STAGED_B s i, 31, 31⟩
/-- PR_OUT: abutment output. -/
def aPR_OUT (s i : Nat) : Nat := spBase s + 0x10018 + 0x20 * i
def PR_OUT_FAST (s i : Nat) : Fld := ⟨aPR_OUT s i, 13, 0⟩
def PR_OUT_TRIM (s i : Nat) : Fld := ⟨aPR_OUT s i, 27, 16⟩
def PR_OUT_OWNER (s i : Nat) : Fld := ⟨aPR_OUT s i, 28, 28⟩
def PR_OUT_PARKED (s i : Nat) : Fld := ⟨aPR_OUT s i, 29, 29⟩
def PR_OUT_TRIM_LIMIT (s i : Nat) : Fld := ⟨aPR_OUT s i, 30, 30⟩
def PR_OUT_CLAMPED (s i : Nat) : Fld := ⟨aPR_OUT s i, 31, 31⟩
/-- PR_TARGET: last target. -/
def aPR_TARGET (s i : Nat) : Nat := spBase s + 0x1001C + 0x20 * i
def PR_TARGET_TARGET (s i : Nat) : Fld := ⟨aPR_TARGET s i, 15, 0⟩

/-! ### Registers of 08_monitor_truss_loops.md -/

/-- TE_CTRL: loop control. -/
def aTE_CTRL (s : Nat) : Nat := spBase s + 0x4000
def TE_CTRL_EN (s : Nat) : Fld := ⟨aTE_CTRL s, 0, 0⟩
def TE_CTRL_DITHER_EN (s : Nat) : Fld := ⟨aTE_CTRL s, 1, 1⟩
def TE_CTRL_DEN (s : Nat) : Fld := ⟨aTE_CTRL s, 2, 2⟩
/-- TE_LOOP: loop period. -/
def aTE_LOOP (s : Nat) : Nat := spBase s + 0x4004
def TE_LOOP_PERIOD (s : Nat) : Fld := ⟨aTE_LOOP s, 13, 0⟩
/-- TE_GAIN: PI gains. -/
def aTE_GAIN (s : Nat) : Nat := spBase s + 0x4008
def TE_GAIN_KP (s : Nat) : Fld := ⟨aTE_GAIN s, 15, 0⟩
def TE_GAIN_KI (s : Nat) : Fld := ⟨aTE_GAIN s, 31, 16⟩
/-- TE_KD: derivative gain. -/
def aTE_KD (s : Nat) : Nat := spBase s + 0x400C
def TE_KD_KD (s : Nat) : Fld := ⟨aTE_KD s, 15, 0⟩
/-- TE_DITHER: dither. -/
def aTE_DITHER (s : Nat) : Nat := spBase s + 0x4010
def TE_DITHER_D (s : Nat) : Fld := ⟨aTE_DITHER s, 7, 0⟩
/-- TE_LIMIT: error and output limits. -/
def aTE_LIMIT (s : Nat) : Nat := spBase s + 0x4014
def TE_LIMIT_ELIM (s : Nat) : Fld := ⟨aTE_LIMIT s, 13, 0⟩
def TE_LIMIT_ULIM (s : Nat) : Fld := ⟨aTE_LIMIT s, 31, 14⟩
/-- TE_DARK: dark threshold. -/
def aTE_DARK (s : Nat) : Nat := spBase s + 0x4018
def TE_DARK_TH (s : Nat) : Fld := ⟨aTE_DARK s, 15, 0⟩
/-- TE_OSETTLE: step allowance. -/
def aTE_OSETTLE (s : Nat) : Nat := spBase s + 0x401C
def TE_OSETTLE_OSETTLE (s : Nat) : Fld := ⟨aTE_OSETTLE s, 15, 0⟩
/-- TE_RESID: residual limits. -/
def aTE_RESID (s : Nat) : Nat := spBase s + 0x4020
def TE_RESID_RLIM (s : Nat) : Fld := ⟨aTE_RESID s, 13, 0⟩
def TE_RESID_RCNT (s : Nat) : Fld := ⟨aTE_RESID s, 21, 14⟩
/-- TE_FILT: front-end filter. -/
def aTE_FILT (s : Nat) : Nat := spBase s + 0x4024
def TE_FILT_FILT (s : Nat) : Fld := ⟨aTE_FILT s, 1, 0⟩
/-- TE_PSEL: pier selection. -/
def aTE_PSEL (s : Nat) : Nat := spBase s + 0x4040
def TE_PSEL_PIER (s : Nat) : Fld := ⟨aTE_PSEL s, 8, 0⟩
def TE_PSEL_DECK (s : Nat) : Fld := ⟨aTE_PSEL s, 9, 9⟩
def TE_PSEL_OP (s : Nat) : Fld := ⟨aTE_PSEL s, 11, 10⟩
def TE_PSEL_PENDING (s : Nat) : Fld := ⟨aTE_PSEL s, 12, 12⟩
/-- TE_PCFG0: per-pier loop fields. -/
def aTE_PCFG0 (s : Nat) : Nat := spBase s + 0x4044
def TE_PCFG0_LMODE (s : Nat) : Fld := ⟨aTE_PCFG0 s, 1, 0⟩
/-- TE_PCFG1: per-pier loop fields. -/
def aTE_PCFG1 (s : Nat) : Nat := spBase s + 0x4048
def TE_PCFG1_UMAN (s : Nat) : Fld := ⟨aTE_PCFG1 s, 17, 0⟩
def TE_PCFG1_VMAN (s : Nat) : Fld := ⟨aTE_PCFG1 s, 31, 18⟩
/-- TE_PCFG2: per-pier loop fields. -/
def aTE_PCFG2 (s : Nat) : Nat := spBase s + 0x404C
def TE_PCFG2_RRAT (s : Nat) : Fld := ⟨aTE_PCFG2 s, 15, 0⟩
def TE_PCFG2_STEP_K (s : Nat) : Fld := ⟨aTE_PCFG2 s, 31, 16⟩
/-- TE_PCFG3: per-pier loop fields. -/
def aTE_PCFG3 (s : Nat) : Nat := spBase s + 0x4050
def TE_PCFG3_KSCALE (s : Nat) : Fld := ⟨aTE_PCFG3 s, 15, 0⟩
/-- TE_PSTAT0: loaded loop state. -/
def aTE_PSTAT0 (s : Nat) : Nat := spBase s + 0x4054
def TE_PSTAT0_U (s : Nat) : Fld := ⟨aTE_PSTAT0 s, 17, 0⟩
def TE_PSTAT0_V (s : Nat) : Fld := ⟨aTE_PSTAT0 s, 31, 18⟩
/-- TE_PSTAT1: loaded loop state. -/
def aTE_PSTAT1 (s : Nat) : Nat := spBase s + 0x4058
def TE_PSTAT1_INTEG (s : Nat) : Fld := ⟨aTE_PSTAT1 s, 31, 0⟩
/-- TE_PSTAT2: loaded loop state. -/
def aTE_PSTAT2 (s : Nat) : Nat := spBase s + 0x405C
def TE_PSTAT2_EPREV (s : Nat) : Fld := ⟨aTE_PSTAT2 s, 17, 0⟩
def TE_PSTAT2_DARK (s : Nat) : Fld := ⟨aTE_PSTAT2 s, 18, 18⟩
def TE_PSTAT2_LIM (s : Nat) : Fld := ⟨aTE_PSTAT2 s, 20, 19⟩
def TE_PSTAT2_RESID (s : Nat) : Fld := ⟨aTE_PSTAT2 s, 21, 21⟩
def TE_PSTAT2_ULIM (s : Nat) : Fld := ⟨aTE_PSTAT2 s, 22, 22⟩
/-- TE_STATUS_A: engine state per deck. -/
def aTE_STATUS_A (s : Nat) : Nat := spBase s + 0x4100
def TE_STATUS_A_RUN (s : Nat) : Fld := ⟨aTE_STATUS_A s, 0, 0⟩
def TE_STATUS_A_DARKCNT (s : Nat) : Fld := ⟨aTE_STATUS_A s, 10, 1⟩
def TE_STATUS_A_RESIDCNT (s : Nat) : Fld := ⟨aTE_STATUS_A s, 20, 11⟩
/-- TE_STATUS_B: engine state per deck. -/
def aTE_STATUS_B (s : Nat) : Nat := spBase s + 0x4104
def TE_STATUS_B_RUN (s : Nat) : Fld := ⟨aTE_STATUS_B s, 0, 0⟩
def TE_STATUS_B_DARKCNT (s : Nat) : Fld := ⟨aTE_STATUS_B s, 10, 1⟩
def TE_STATUS_B_RESIDCNT (s : Nat) : Fld := ⟨aTE_STATUS_B s, 20, 11⟩
/-- TE_INT_A: loop events per deck. -/
def aTE_INT_A (s : Nat) : Nat := spBase s + 0x4108
def TE_INT_A_RESID (s : Nat) : Fld := ⟨aTE_INT_A s, 0, 0⟩
def TE_INT_A_ULIM (s : Nat) : Fld := ⟨aTE_INT_A s, 1, 1⟩
def TE_INT_A_OVER0 (s : Nat) : Fld := ⟨aTE_INT_A s, 2, 2⟩
def TE_INT_A_TT_ORDER (s : Nat) : Fld := ⟨aTE_INT_A s, 3, 3⟩
/-- TE_INT_B: loop events per deck. -/
def aTE_INT_B (s : Nat) : Nat := spBase s + 0x410C
def TE_INT_B_RESID (s : Nat) : Fld := ⟨aTE_INT_B s, 0, 0⟩
def TE_INT_B_ULIM (s : Nat) : Fld := ⟨aTE_INT_B s, 1, 1⟩
def TE_INT_B_OVER0 (s : Nat) : Fld := ⟨aTE_INT_B s, 2, 2⟩
def TE_INT_B_TT_ORDER (s : Nat) : Fld := ⟨aTE_INT_B s, 3, 3⟩
/-- TE_MON: front end of local pier l. -/
def aTE_MON (s i : Nat) : Nat := spBase s + 0x5000 + 0x4 * i
def TE_MON_WIN (s i : Nat) : Fld := ⟨aTE_MON s i, 14, 0⟩
def TE_MON_MONSEL (s i : Nat) : Fld := ⟨aTE_MON s i, 16, 15⟩
def TE_MON_GAIN_A (s i : Nat) : Fld := ⟨aTE_MON s i, 18, 17⟩
def TE_MON_GAIN_B (s i : Nat) : Fld := ⟨aTE_MON s i, 20, 19⟩
def TE_MON_GAUTO (s i : Nat) : Fld := ⟨aTE_MON s i, 21, 21⟩

/-! ### Registers of 09_calibration.md -/

/-- Window of decks and central calibration (R507). -/
def dkBase : Nat := 0xE0040000
/-- CAL_CTRL: enables. -/
def aCAL_CTRL : Nat := dkBase + 0x8000
def CAL_CTRL_PWRUP_EN : Fld := ⟨aCAL_CTRL, 0, 0⟩
def CAL_CTRL_TEMP_EN : Fld := ⟨aCAL_CTRL, 1, 1⟩
def CAL_CTRL_OFS_EN : Fld := ⟨aCAL_CTRL, 2, 2⟩
def CAL_CTRL_MON_EN : Fld := ⟨aCAL_CTRL, 3, 3⟩
def CAL_CTRL_TRACK_EN : Fld := ⟨aCAL_CTRL, 4, 4⟩
def CAL_CTRL_STORE_EN : Fld := ⟨aCAL_CTRL, 5, 5⟩
def CAL_CTRL_RETRY : Fld := ⟨aCAL_CTRL, 11, 8⟩
/-- CAL_CMD: commands. -/
def aCAL_CMD : Nat := dkBase + 0x8004
def CAL_CMD_SPAN : Fld := ⟨aCAL_CMD, 5, 0⟩
def CAL_CMD_ALL : Fld := ⟨aCAL_CMD, 6, 6⟩
def CAL_CMD_SWEEP : Fld := ⟨aCAL_CMD, 7, 7⟩
def CAL_CMD_STORE_NOW : Fld := ⟨aCAL_CMD, 8, 8⟩
def CAL_CMD_REFUSED : Fld := ⟨aCAL_CMD, 9, 9⟩
/-- CAL_STATUS: state. -/
def aCAL_STATUS : Nat := dkBase + 0x8008
def CAL_STATUS_NOREC : Fld := ⟨aCAL_STATUS, 0, 0⟩
def CAL_STATUS_SLOT : Fld := ⟨aCAL_STATUS, 1, 1⟩
def CAL_STATUS_PENDING : Fld := ⟨aCAL_STATUS, 2, 2⟩
def CAL_STATUS_WRITING : Fld := ⟨aCAL_STATUS, 3, 3⟩
def CAL_STATUS_SWEEPING : Fld := ⟨aCAL_STATUS, 4, 4⟩
/-- CAL_TEMP: trigger deltas. -/
def aCAL_TEMP : Nat := dkBase + 0x800C
def CAL_TEMP_DX : Fld := ⟨aCAL_TEMP, 11, 0⟩
def CAL_TEMP_DC : Fld := ⟨aCAL_TEMP, 23, 12⟩
/-- CAL_GUARD: end guard. -/
def aCAL_GUARD : Nat := dkBase + 0x8010
def CAL_GUARD_END : Fld := ⟨aCAL_GUARD, 11, 0⟩
/-- CAL_STORE: write interval. -/
def aCAL_STORE : Nat := dkBase + 0x8014
def CAL_STORE_MIN_INT : Fld := ⟨aCAL_STORE, 10, 0⟩
/-- CAL_SEQ: newest record. -/
def aCAL_SEQ : Nat := dkBase + 0x8018
def CAL_SEQ_SEQ : Fld := ⟨aCAL_SEQ, 31, 0⟩
/-- CAL_DUE_LO: spans due. -/
def aCAL_DUE_LO : Nat := dkBase + 0x801C
def CAL_DUE_LO_DUE : Fld := ⟨aCAL_DUE_LO, 31, 0⟩
/-- CAL_DUE_HI: spans due. -/
def aCAL_DUE_HI : Nat := dkBase + 0x8020
def CAL_DUE_HI_DUE : Fld := ⟨aCAL_DUE_HI, 3, 0⟩
/-- CAL_INT: events. -/
def aCAL_INT : Nat := dkBase + 0x8024
def CAL_INT_REC_WRITTEN : Fld := ⟨aCAL_INT, 0, 0⟩
def CAL_INT_FAIL_R : Fld := ⟨aCAL_INT, 1, 1⟩
def CAL_INT_FAIL_P : Fld := ⟨aCAL_INT, 2, 2⟩
def CAL_INT_STARVED : Fld := ⟨aCAL_INT, 3, 3⟩
def CAL_INT_ZONE_ERR : Fld := ⟨aCAL_INT, 4, 4⟩
def CAL_INT_SLOT_BAD : Fld := ⟨aCAL_INT, 5, 5⟩
/-- CAL_ZTEMP: zone z. -/
def aCAL_ZTEMP (i : Nat) : Nat := dkBase + 0x8040 + 0x4 * i
def CAL_ZTEMP_TEMP (i : Nat) : Fld := ⟨aCAL_ZTEMP i, 11, 0⟩
/-- CAL_SPAN_CFG: zone. -/
def aCAL_SPAN_CFG (s : Nat) : Nat := spBase s + 0x8000
def CAL_SPAN_CFG_ZONE (s : Nat) : Fld := ⟨aCAL_SPAN_CFG s, 2, 0⟩
/-- CAL_SPAN_STATUS: sequencer. -/
def aCAL_SPAN_STATUS (s : Nat) : Nat := spBase s + 0x8004
def CAL_SPAN_STATUS_DUE (s : Nat) : Fld := ⟨aCAL_SPAN_STATUS s, 2, 0⟩
def CAL_SPAN_STATUS_STEP (s : Nat) : Fld := ⟨aCAL_SPAN_STATUS s, 3, 3⟩
def CAL_SPAN_STATUS_PIER (s : Nat) : Fld := ⟨aCAL_SPAN_STATUS s, 12, 4⟩
/-- CAL_BW: bandwidth trims. -/
def aCAL_BW (s : Nat) : Nat := spBase s + 0x8008
def CAL_BW_TRIMS (s : Nat) : Fld := ⟨aCAL_BW s, 31, 0⟩
/-- CAL_EXT: tracking parameters. -/
def aCAL_EXT (s : Nat) : Nat := spBase s + 0x800C
def CAL_EXT_NCONV (s : Nat) : Fld := ⟨aCAL_EXT s, 7, 0⟩
def CAL_EXT_ECONV (s : Nat) : Fld := ⟨aCAL_EXT s, 15, 8⟩
def CAL_EXT_TOL (s : Nat) : Fld := ⟨aCAL_EXT s, 23, 16⟩
/-- CAL_EXT2: tracking times. -/
def aCAL_EXT2 (s : Nat) : Nat := spBase s + 0x8010
def CAL_EXT2_PAIR_MS (s : Nat) : Fld := ⟨aCAL_EXT2 s, 15, 0⟩
def CAL_EXT2_SPAN_MS (s : Nat) : Fld := ⟨aCAL_EXT2 s, 31, 16⟩
/-- CAL_OFS: digitizer offset window. -/
def aCAL_OFS (s : Nat) : Nat := spBase s + 0x8014
def CAL_OFS_DWIN (s : Nat) : Fld := ⟨aCAL_OFS s, 11, 0⟩
/-- CAL_SWEEP: sweep window. -/
def aCAL_SWEEP (s : Nat) : Nat := spBase s + 0x8018
def CAL_SWEEP_WIN (s : Nat) : Fld := ⟨aCAL_SWEEP s, 14, 0⟩
/-- CAL_OTRIM_w0: offset trims of local pier l. -/
def aCAL_OTRIM_w0 (s i : Nat) : Nat := spBase s + 0x9000 + 0x8 * i
def CAL_OTRIM_w0_A_DRVP (s i : Nat) : Fld := ⟨aCAL_OTRIM_w0 s i, 4, 0⟩
def CAL_OTRIM_w0_A_DRVN (s i : Nat) : Fld := ⟨aCAL_OTRIM_w0 s i, 9, 5⟩
def CAL_OTRIM_w0_A_TRM (s i : Nat) : Fld := ⟨aCAL_OTRIM_w0 s i, 14, 10⟩
def CAL_OTRIM_w0_B_DRVP (s i : Nat) : Fld := ⟨aCAL_OTRIM_w0 s i, 19, 15⟩
def CAL_OTRIM_w0_B_DRVN (s i : Nat) : Fld := ⟨aCAL_OTRIM_w0 s i, 24, 20⟩
def CAL_OTRIM_w0_B_TRM (s i : Nat) : Fld := ⟨aCAL_OTRIM_w0 s i, 29, 25⟩
/-- CAL_OTRIM_w1: offset trims of local pier l. -/
def aCAL_OTRIM_w1 (s i : Nat) : Nat := spBase s + 0x9004 + 0x8 * i
def CAL_OTRIM_w1_MA (s i : Nat) : Fld := ⟨aCAL_OTRIM_w1 s i, 4, 0⟩
def CAL_OTRIM_w1_MB (s i : Nat) : Fld := ⟨aCAL_OTRIM_w1 s i, 9, 5⟩

/-! ### Registers of 10_decks_claims.md -/

/-- DK_CTRL: deck control. -/
def aDK_CTRL : Nat := dkBase + 0x0
def DK_CTRL_NOM : Fld := ⟨aDK_CTRL, 7, 0⟩
def DK_CTRL_FREEZE : Fld := ⟨aDK_CTRL, 8, 8⟩
def DK_CTRL_AUTOFAIL : Fld := ⟨aDK_CTRL, 9, 9⟩
/-- DK_STATUS: deck state. -/
def aDK_STATUS : Nat := dkBase + 0x4
def DK_STATUS_LEAD : Fld := ⟨aDK_STATUS, 0, 0⟩
def DK_STATUS_RUN_A : Fld := ⟨aDK_STATUS, 1, 1⟩
def DK_STATUS_RUN_B : Fld := ⟨aDK_STATUS, 2, 2⟩
def DK_STATUS_REPLAY : Fld := ⟨aDK_STATUS, 3, 3⟩
def DK_STATUS_DEGR_A : Fld := ⟨aDK_STATUS, 4, 4⟩
def DK_STATUS_DEGR_B : Fld := ⟨aDK_STATUS, 5, 5⟩
/-- DK_OWNER_LO: span owners. -/
def aDK_OWNER_LO : Nat := dkBase + 0x8
def DK_OWNER_LO_B_OWNS : Fld := ⟨aDK_OWNER_LO, 31, 0⟩
/-- DK_OWNER_HI: span owners. -/
def aDK_OWNER_HI : Nat := dkBase + 0xC
def DK_OWNER_HI_B_OWNS : Fld := ⟨aDK_OWNER_HI, 3, 0⟩
/-- DK_WDOG_A: watchdogs. -/
def aDK_WDOG_A : Nat := dkBase + 0x10
def DK_WDOG_A_TIMEOUT : Fld := ⟨aDK_WDOG_A, 15, 0⟩
def DK_WDOG_A_KICK : Fld := ⟨aDK_WDOG_A, 16, 16⟩
/-- DK_WDOG_B: watchdogs. -/
def aDK_WDOG_B : Nat := dkBase + 0x14
def DK_WDOG_B_TIMEOUT : Fld := ⟨aDK_WDOG_B, 15, 0⟩
def DK_WDOG_B_KICK : Fld := ⟨aDK_WDOG_B, 16, 16⟩
/-- DK_TIMING: comparison and recovery times. -/
def aDK_TIMING : Nat := dkBase + 0x18
def DK_TIMING_MISWAIT : Fld := ⟨aDK_TIMING, 9, 0⟩
def DK_TIMING_PROBATION : Fld := ⟨aDK_TIMING, 17, 10⟩
def DK_TIMING_FAIL_MS : Fld := ⟨aDK_TIMING, 31, 18⟩
/-- DK_CMD: commands. -/
def aDK_CMD : Nat := dkBase + 0x1C
def DK_CMD_SPAN : Fld := ⟨aDK_CMD, 5, 0⟩
def DK_CMD_ALL : Fld := ⟨aDK_CMD, 6, 6⟩
def DK_CMD_DECK : Fld := ⟨aDK_CMD, 7, 7⟩
def DK_CMD_HANDOVER : Fld := ⟨aDK_CMD, 8, 8⟩
def DK_CMD_RESYNC : Fld := ⟨aDK_CMD, 9, 9⟩
/-- DK_INT: deck events. -/
def aDK_INT : Nat := dkBase + 0x20
def DK_INT_TAKEOVER : Fld := ⟨aDK_INT, 0, 0⟩
def DK_INT_MISMATCH : Fld := ⟨aDK_INT, 1, 1⟩
def DK_INT_UNRESOLVED : Fld := ⟨aDK_INT, 2, 2⟩
def DK_INT_PATH : Fld := ⟨aDK_INT, 3, 3⟩
def DK_INT_RESYNC_DONE : Fld := ⟨aDK_INT, 4, 4⟩
def DK_INT_RESYNC_FAIL : Fld := ⟨aDK_INT, 5, 5⟩
def DK_INT_CMD_REFUSED : Fld := ⟨aDK_INT, 6, 6⟩
def DK_INT_LEAD_CHG : Fld := ⟨aDK_INT, 7, 7⟩
/-- DK_REPLAY_w0: last replay. -/
def aDK_REPLAY_w0 : Nat := dkBase + 0x24
def DK_REPLAY_w0_SPAN : Fld := ⟨aDK_REPLAY_w0, 5, 0⟩
def DK_REPLAY_w0_OUTCOME : Fld := ⟨aDK_REPLAY_w0, 8, 6⟩
/-- DK_REPLAY_w1: last replay. -/
def aDK_REPLAY_w1 : Nat := dkBase + 0x28
def DK_REPLAY_w1_SIG_A : Fld := ⟨aDK_REPLAY_w1, 31, 0⟩
/-- DK_REPLAY_w2: last replay. -/
def aDK_REPLAY_w2 : Nat := dkBase + 0x2C
def DK_REPLAY_w2_SIG_B : Fld := ⟨aDK_REPLAY_w2, 31, 0⟩
/-- DK_PEXCL_CLR: return an excluded path. -/
def aDK_PEXCL_CLR : Nat := dkBase + 0x30
def DK_PEXCL_CLR_PIER : Fld := ⟨aDK_PEXCL_CLR, 14, 0⟩
def DK_PEXCL_CLR_DECK : Fld := ⟨aDK_PEXCL_CLR, 15, 15⟩
/-- DK_CLAIM: claims in span s. -/
def aDK_CLAIM (i : Nat) : Nat := dkBase + 0x100 + 0x4 * i
def DK_CLAIM_CLAIM_A (i : Nat) : Fld := ⟨aDK_CLAIM i, 7, 0⟩
def DK_CLAIM_CLAIM_B (i : Nat) : Fld := ⟨aDK_CLAIM i, 15, 8⟩
def DK_CLAIM_CAUSE_A (i : Nat) : Fld := ⟨aDK_CLAIM i, 19, 16⟩
def DK_CLAIM_CAUSE_B (i : Nat) : Fld := ⟨aDK_CLAIM i, 23, 20⟩
def DK_CLAIM_STATE_A (i : Nat) : Fld := ⟨aDK_CLAIM i, 25, 24⟩
def DK_CLAIM_STATE_B (i : Nat) : Fld := ⟨aDK_CLAIM i, 27, 26⟩
def DK_CLAIM_REPLAY (i : Nat) : Fld := ⟨aDK_CLAIM i, 28, 28⟩
def DK_CLAIM_MISMATCH (i : Nat) : Fld := ⟨aDK_CLAIM i, 29, 29⟩
/-- DK_PEXCL_A: excluded paths. -/
def aDK_PEXCL_A (i : Nat) : Nat := dkBase + 0x1000 + 0x4 * i
def DK_PEXCL_A_EXCL (i : Nat) : Fld := ⟨aDK_PEXCL_A i, 31, 0⟩
/-- DK_PEXCL_B: excluded paths. -/
def aDK_PEXCL_B (i : Nat) : Nat := dkBase + 0x2000 + 0x4 * i
def DK_PEXCL_B_EXCL (i : Nat) : Fld := ⟨aDK_PEXCL_B i, 31, 0⟩

/-! ### Registers of 12_power_clocks_states.md -/

/-- Window of Tollhouse (R507). -/
def thBase : Nat := 0xE0200000
/-- TH_PSTATE: power state. -/
def aTH_PSTATE : Nat := thBase + 0x800
def TH_PSTATE_STATE : Fld := ⟨aTH_PSTATE, 2, 0⟩
def TH_PSTATE_TRANSIT : Fld := ⟨aTH_PSTATE, 3, 3⟩
def TH_PSTATE_RETAINED : Fld := ⟨aTH_PSTATE, 4, 4⟩
def TH_PSTATE_WARM : Fld := ⟨aTH_PSTATE, 5, 5⟩
def TH_PSTATE_RAILS : Fld := ⟨aTH_PSTATE, 13, 8⟩
/-- TH_PCTRL: targets. -/
def aTH_PCTRL : Nat := thBase + 0x804
def TH_PCTRL_TARGET : Fld := ⟨aTH_PCTRL, 2, 0⟩
def TH_PCTRL_WAKE_TARGET : Fld := ⟨aTH_PCTRL, 6, 4⟩
def TH_PCTRL_SLEEP_RET : Fld := ⟨aTH_PCTRL, 8, 8⟩
/-- TH_HTRK: heater rail request. -/
def aTH_HTRK : Nat := thBase + 0x810
def TH_HTRK_MODE : Fld := ⟨aTH_HTRK, 1, 0⟩
def TH_HTRK_MARGIN : Fld := ⟨aTH_HTRK, 13, 4⟩
def TH_HTRK_FIXED : Fld := ⟨aTH_HTRK, 26, 14⟩
/-- TH_HTRK_STAT: present request. -/
def aTH_HTRK_STAT : Nat := thBase + 0x814
def TH_HTRK_STAT_REQ : Fld := ⟨aTH_HTRK_STAT, 12, 0⟩
def TH_HTRK_STAT_DUTY : Fld := ⟨aTH_HTRK_STAT, 26, 16⟩
/-- TH_PINT: power events. -/
def aTH_PINT : Nat := thBase + 0x818
def TH_PINT_STATE_CHG : Fld := ⟨aTH_PINT, 0, 0⟩
def TH_PINT_PLL_LOSS : Fld := ⟨aTH_PINT, 1, 1⟩
def TH_PINT_PLL_FAIL : Fld := ⟨aTH_PINT, 2, 2⟩
def TH_PINT_RAIL_WAIT : Fld := ⟨aTH_PINT, 3, 3⟩
def TH_PINT_WAKE : Fld := ⟨aTH_PINT, 4, 4⟩
/-- TH_PLAST: last transition. -/
def aTH_PLAST : Nat := thBase + 0x81C
def TH_PLAST_DUR : Fld := ⟨aTH_PLAST, 23, 0⟩
def TH_PLAST_FROM : Fld := ⟨aTH_PLAST, 26, 24⟩
def TH_PLAST_TO : Fld := ⟨aTH_PLAST, 29, 27⟩
/-- TH_PLL: PLL i. -/
def aTH_PLL (i : Nat) : Nat := thBase + 0x840 + 0x4 * i
def TH_PLL_LOCK (i : Nat) : Fld := ⟨aTH_PLL i, 0, 0⟩
def TH_PLL_BAND (i : Nat) : Fld := ⟨aTH_PLL i, 6, 1⟩
def TH_PLL_LOSS (i : Nat) : Fld := ⟨aTH_PLL i, 7, 7⟩
def TH_PLL_LOCK_US (i : Nat) : Fld := ⟨aTH_PLL i, 23, 8⟩

/-! ### Registers of 13_boot_footing_fuses.md -/

/-- Window of NVM (R507). -/
def nvBase : Nat := 0xE0090000
/-- NV_STATUS: boot and flash state. -/
def aNV_STATUS : Nat := nvBase + 0x0
def NV_STATUS_STAGE : Fld := ⟨aNV_STATUS, 2, 0⟩
def NV_STATUS_FW_SLOT : Fld := ⟨aNV_STATUS, 3, 3⟩
def NV_STATUS_FW_FALLBACK : Fld := ⟨aNV_STATUS, 4, 4⟩
def NV_STATUS_FOOT_OK : Fld := ⟨aNV_STATUS, 5, 5⟩
def NV_STATUS_SFDP_ERR : Fld := ⟨aNV_STATUS, 6, 6⟩
def NV_STATUS_WARM_FAIL : Fld := ⟨aNV_STATUS, 7, 7⟩
def NV_STATUS_FOOT_DIRTY : Fld := ⟨aNV_STATUS, 8, 8⟩
def NV_STATUS_BUSY : Fld := ⟨aNV_STATUS, 9, 9⟩
def NV_STATUS_FOOT_ERR : Fld := ⟨aNV_STATUS, 13, 10⟩
def NV_STATUS_FOOT_REC : Fld := ⟨aNV_STATUS, 31, 16⟩
/-- NV_FLASH: discovered flash. -/
def aNV_FLASH : Nat := nvBase + 0x4
def NV_FLASH_DENSITY : Fld := ⟨aNV_FLASH, 4, 0⟩
def NV_FLASH_PAGE : Fld := ⟨aNV_FLASH, 8, 5⟩
def NV_FLASH_ERASE64 : Fld := ⟨aNV_FLASH, 9, 9⟩
/-- NV_FW: running versions. -/
def aNV_FW : Nat := nvBase + 0x8
def NV_FW_VERSION : Fld := ⟨aNV_FW, 31, 0⟩
/-- NV_FOOT: running versions. -/
def aNV_FOOT : Nat := nvBase + 0xC
def NV_FOOT_SEQ : Fld := ⟨aNV_FOOT, 31, 0⟩
/-- NV_REMAP: address-zero remap. -/
def aNV_REMAP : Nat := nvBase + 0x10
def NV_REMAP_REMAP_A : Fld := ⟨aNV_REMAP, 0, 0⟩
def NV_REMAP_REMAP_B : Fld := ⟨aNV_REMAP, 1, 1⟩
/-- NV_ADDR: operation address and length. -/
def aNV_ADDR : Nat := nvBase + 0x20
def NV_ADDR_ADDR : Fld := ⟨aNV_ADDR, 31, 0⟩
/-- NV_LEN: operation address and length. -/
def aNV_LEN : Nat := nvBase + 0x24
def NV_LEN_LEN : Fld := ⟨aNV_LEN, 8, 0⟩
/-- NV_CMD: flash operation. -/
def aNV_CMD : Nat := nvBase + 0x28
def NV_CMD_OP : Fld := ⟨aNV_CMD, 2, 0⟩
/-- NV_INT: flash events. -/
def aNV_INT : Nat := nvBase + 0x2C
def NV_INT_DONE : Fld := ⟨aNV_INT, 0, 0⟩
def NV_INT_ERR : Fld := ⟨aNV_INT, 1, 1⟩
def NV_INT_REFUSED : Fld := ⟨aNV_INT, 2, 2⟩
/-- NV_BUF: data buffer. -/
def aNV_BUF (i : Nat) : Nat := nvBase + 0x100 + 0x4 * i
def NV_BUF_DATA (i : Nat) : Fld := ⟨aNV_BUF i, 31, 0⟩
/-- Window of fuses (R507). -/
def fuBase : Nat := 0xE00A0000
/-- FU_KEYDIG: key digest. -/
def aFU_KEYDIG (i : Nat) : Nat := fuBase + 0x0 + 0x4 * i
def FU_KEYDIG_DIGEST (i : Nat) : Fld := ⟨aFU_KEYDIG i, 31, 0⟩
/-- FU_ROLE: port roles. -/
def aFU_ROLE : Nat := fuBase + 0x30
def FU_ROLE_ROLE_0 : Fld := ⟨aFU_ROLE, 4, 0⟩
def FU_ROLE_ROLE_1 : Fld := ⟨aFU_ROLE, 9, 5⟩
def FU_ROLE_ROLE_2 : Fld := ⟨aFU_ROLE, 14, 10⟩
def FU_ROLE_ROLE_3 : Fld := ⟨aFU_ROLE, 19, 15⟩
def FU_ROLE_ROLE_4 : Fld := ⟨aFU_ROLE, 24, 20⟩
def FU_ROLE_ROLE_5 : Fld := ⟨aFU_ROLE, 29, 25⟩
/-- FU_PROT: protection. -/
def aFU_PROT : Nat := fuBase + 0x34
def FU_PROT_DBG_LOCK : Fld := ⟨aFU_PROT, 0, 0⟩
def FU_PROT_CNTRD : Fld := ⟨aFU_PROT, 1, 1⟩
/-- FU_WP: write-protect range n. -/
def aFU_WP (i : Nat) : Nat := fuBase + 0x40 + 0x4 * i
def FU_WP_START (i : Nat) : Fld := ⟨aFU_WP i, 11, 0⟩
def FU_WP_END (i : Nat) : Fld := ⟨aFU_WP i, 23, 12⟩
def FU_WP_EN (i : Nat) : Fld := ⟨aFU_WP i, 24, 24⟩
/-- FU_MAC_LO: identities. -/
def aFU_MAC_LO : Nat := fuBase + 0x50
def FU_MAC_LO_MAC : Fld := ⟨aFU_MAC_LO, 31, 0⟩
/-- FU_MAC_HI: identities. -/
def aFU_MAC_HI : Nat := fuBase + 0x54
def FU_MAC_HI_MAC : Fld := ⟨aFU_MAC_HI, 15, 0⟩
/-- FU_DIE_LO: identities. -/
def aFU_DIE_LO : Nat := fuBase + 0x58
def FU_DIE_LO_DIE_ID_DIE_LO : Fld := ⟨aFU_DIE_LO, 31, 0⟩
/-- FU_DIE_HI: identities. -/
def aFU_DIE_HI : Nat := fuBase + 0x5C
def FU_DIE_HI_DIE_ID_DIE_HI : Fld := ⟨aFU_DIE_HI, 31, 0⟩
/-- FU_STATUS: shadow state. -/
def aFU_STATUS : Nat := fuBase + 0x60
def FU_STATUS_VALID : Fld := ⟨aFU_STATUS, 0, 0⟩
def FU_STATUS_CRC_ERR : Fld := ⟨aFU_STATUS, 1, 1⟩

/-! ### Registers of 14_tollhouse.md -/

/-- TH_STATUS: Tollhouse state. -/
def aTH_STATUS : Nat := thBase + 0x0
def TH_STATUS_CLK : Fld := ⟨aTH_STATUS, 0, 0⟩
def TH_STATUS_XTAL_VALID : Fld := ⟨aTH_STATUS, 1, 1⟩
def TH_STATUS_TSD_LATCH : Fld := ⟨aTH_STATUS, 2, 2⟩
def TH_STATUS_TSD_PEND : Fld := ⟨aTH_STATUS, 3, 3⟩
def TH_STATUS_WRITING : Fld := ⟨aTH_STATUS, 4, 4⟩
/-- TH_TSD: thermal shutdown. -/
def aTH_TSD : Nat := thBase + 0x4
def TH_TSD_LIMIT : Fld := ⟨aTH_TSD, 11, 0⟩
def TH_TSD_HYST : Fld := ⟨aTH_TSD, 21, 12⟩
def TH_TSD_AUTO : Fld := ⟨aTH_TSD, 22, 22⟩
/-- TH_TSD_REC_w0: last shutdown. -/
def aTH_TSD_REC_w0 : Nat := thBase + 0x8
def TH_TSD_REC_w0_TEMP : Fld := ⟨aTH_TSD_REC_w0, 11, 0⟩
def TH_TSD_REC_w0_SOURCE : Fld := ⟨aTH_TSD_REC_w0, 15, 12⟩
def TH_TSD_REC_w0_ENTRY : Fld := ⟨aTH_TSD_REC_w0, 19, 16⟩
def TH_TSD_REC_w0_FLASH : Fld := ⟨aTH_TSD_REC_w0, 20, 20⟩
def TH_TSD_REC_w0_VALID : Fld := ⟨aTH_TSD_REC_w0, 21, 21⟩
/-- TH_TSD_REC_w1: last shutdown. -/
def aTH_TSD_REC_w1 : Nat := thBase + 0xC
def TH_TSD_REC_w1_UPTIME : Fld := ⟨aTH_TSD_REC_w1, 31, 0⟩
/-- TH_UPTIME: seconds since VTH. -/
def aTH_UPTIME : Nat := thBase + 0x10
def TH_UPTIME_SECONDS : Fld := ⟨aTH_UPTIME, 31, 0⟩
/-- TH_INT: Tollhouse events. -/
def aTH_INT : Nat := thBase + 0x14
def TH_INT_TSD : Fld := ⟨aTH_INT, 0, 0⟩
def TH_INT_THR : Fld := ⟨aTH_INT, 1, 1⟩
def TH_INT_OPEN : Fld := ⟨aTH_INT, 2, 2⟩
def TH_INT_URG_BUSY : Fld := ⟨aTH_INT, 3, 3⟩
def TH_INT_SUP_BAD : Fld := ⟨aTH_INT, 4, 4⟩
def TH_INT_WAKE_TMR : Fld := ⟨aTH_INT, 5, 5⟩
def TH_INT_JS_FAIL : Fld := ⟨aTH_INT, 6, 6⟩
/-- TH_WAKE: wake, sleep sampling, VPD nominal. -/
def aTH_WAKE : Nat := thBase + 0x18
def TH_WAKE_TIMER : Fld := ⟨aTH_WAKE, 15, 0⟩
/-- TH_SLEEP: wake, sleep sampling, VPD nominal. -/
def aTH_SLEEP : Nat := thBase + 0x1C
def TH_SLEEP_INTERVAL : Fld := ⟨aTH_SLEEP, 15, 0⟩
/-- TH_VPD: wake, sleep sampling, VPD nominal. -/
def aTH_VPD : Nat := thBase + 0x20
def TH_VPD_NOM : Fld := ⟨aTH_VPD, 13, 0⟩
/-- TH_JS: junction sensor i. -/
def aTH_JS (i : Nat) : Nat := thBase + 0x40 + 0x4 * i
def TH_JS_TEMP (i : Nat) : Fld := ⟨aTH_JS i, 11, 0⟩
def TH_JS_VALID (i : Nat) : Fld := ⟨aTH_JS i, 12, 12⟩
/-- TH_ZONE: zone z. -/
def aTH_ZONE (i : Nat) : Nat := thBase + 0x80 + 0x4 * i
def TH_ZONE_TEMP (i : Nat) : Fld := ⟨aTH_ZONE i, 11, 0⟩
def TH_ZONE_VALID (i : Nat) : Fld := ⟨aTH_ZONE i, 12, 12⟩
/-- HK_CTRL: sequence control. -/
def aHK_CTRL : Nat := thBase + 0x1000
def HK_CTRL_EN : Fld := ⟨aHK_CTRL, 0, 0⟩
def HK_CTRL_MAINS : Fld := ⟨aHK_CTRL, 1, 1⟩
def HK_CTRL_COUNT : Fld := ⟨aHK_CTRL, 6, 2⟩
def HK_CTRL_INTERVAL : Fld := ⟨aHK_CTRL, 23, 8⟩
/-- HK_STATUS: converter state. -/
def aHK_STATUS : Nat := thBase + 0x1004
def HK_STATUS_ENTRY : Fld := ⟨aHK_STATUS, 3, 0⟩
def HK_STATUS_BUSY : Fld := ⟨aHK_STATUS, 4, 4⟩
def HK_STATUS_URGENT : Fld := ⟨aHK_STATUS, 5, 5⟩
def HK_STATUS_URG_PEND : Fld := ⟨aHK_STATUS, 6, 6⟩
def HK_STATUS_CYCLE_MS : Fld := ⟨aHK_STATUS, 23, 8⟩
/-- HK_URG: urgent request. -/
def aHK_URG : Nat := thBase + 0x1008
def HK_URG_INPUT : Fld := ⟨aHK_URG, 4, 0⟩
def HK_URG_GAIN : Fld := ⟨aHK_URG, 6, 5⟩
def HK_URG_NCYC : Fld := ⟨aHK_URG, 10, 7⟩
def HK_URG_OWD : Fld := ⟨aHK_URG, 11, 11⟩
def HK_URG_GO : Fld := ⟨aHK_URG, 12, 12⟩
/-- HK_URG_RES: urgent result. -/
def aHK_URG_RES : Nat := thBase + 0x100C
def HK_URG_RES_VALUE : Fld := ⟨aHK_URG_RES, 31, 0⟩
/-- HK_URG_STAT: urgent result. -/
def aHK_URG_STAT : Nat := thBase + 0x1010
def HK_URG_STAT_DONE : Fld := ⟨aHK_URG_STAT, 0, 0⟩
def HK_URG_STAT_VALID : Fld := ⟨aHK_URG_STAT, 1, 1⟩
def HK_URG_STAT_OPEN : Fld := ⟨aHK_URG_STAT, 2, 2⟩
def HK_URG_STAT_OVER : Fld := ⟨aHK_URG_STAT, 3, 3⟩
/-- HK_CAL_w0: correction for gain code g. -/
def aHK_CAL_w0 (i : Nat) : Nat := thBase + 0x1020 + 0x8 * i
def HK_CAL_w0_OFS (i : Nat) : Fld := ⟨aHK_CAL_w0 i, 31, 0⟩
/-- HK_CAL_w1: correction for gain code g. -/
def aHK_CAL_w1 (i : Nat) : Nat := thBase + 0x1024 + 0x8 * i
def HK_CAL_w1_GAIN (i : Nat) : Fld := ⟨aHK_CAL_w1 i, 31, 0⟩
/-- HK_THERM_w0: thermistor n. -/
def aHK_THERM_w0 (i : Nat) : Nat := thBase + 0x1040 + 0x8 * i
def HK_THERM_w0_R26 (i : Nat) : Fld := ⟨aHK_THERM_w0 i, 23, 0⟩
/-- HK_THERM_w1: thermistor n. -/
def aHK_THERM_w1 (i : Nat) : Nat := thBase + 0x1044 + 0x8 * i
def HK_THERM_w1_BETA (i : Nat) : Fld := ⟨aHK_THERM_w1 i, 15, 0⟩
/-- HK_DIODE: remote diode n. -/
def aHK_DIODE (i : Nat) : Nat := thBase + 0x1060 + 0x4 * i
def HK_DIODE_IDEAL (i : Nat) : Fld := ⟨aHK_DIODE i, 16, 0⟩
/-- HK_ENTRY_w0: sequence entry i. -/
def aHK_ENTRY_w0 (i : Nat) : Nat := thBase + 0x1100 + 0x20 * i
def HK_ENTRY_w0_INPUT (i : Nat) : Fld := ⟨aHK_ENTRY_w0 i, 4, 0⟩
def HK_ENTRY_w0_GAIN (i : Nat) : Fld := ⟨aHK_ENTRY_w0 i, 6, 5⟩
def HK_ENTRY_w0_NCYC (i : Nat) : Fld := ⟨aHK_ENTRY_w0 i, 10, 7⟩
def HK_ENTRY_w0_OWD (i : Nat) : Fld := ⟨aHK_ENTRY_w0 i, 11, 11⟩
def HK_ENTRY_w0_SLEEP (i : Nat) : Fld := ⟨aHK_ENTRY_w0 i, 12, 12⟩
def HK_ENTRY_w0_FILT (i : Nat) : Fld := ⟨aHK_ENTRY_w0 i, 15, 13⟩
def HK_ENTRY_w0_PERSIST (i : Nat) : Fld := ⟨aHK_ENTRY_w0 i, 23, 16⟩
/-- HK_ENTRY_w1: sequence entry i. -/
def aHK_ENTRY_w1 (i : Nat) : Nat := thBase + 0x1104 + 0x20 * i
def HK_ENTRY_w1_HI (i : Nat) : Fld := ⟨aHK_ENTRY_w1 i, 31, 0⟩
/-- HK_ENTRY_w2: sequence entry i. -/
def aHK_ENTRY_w2 (i : Nat) : Nat := thBase + 0x1108 + 0x20 * i
def HK_ENTRY_w2_LO (i : Nat) : Fld := ⟨aHK_ENTRY_w2 i, 31, 0⟩
/-- HK_ENTRY_w3: sequence entry i. -/
def aHK_ENTRY_w3 (i : Nat) : Nat := thBase + 0x110C + 0x20 * i
def HK_ENTRY_w3_RATE (i : Nat) : Fld := ⟨aHK_ENTRY_w3 i, 30, 0⟩
/-- HK_ENTRY_w4: sequence entry i. -/
def aHK_ENTRY_w4 (i : Nat) : Nat := thBase + 0x1110 + 0x20 * i
def HK_ENTRY_w4_HYST (i : Nat) : Fld := ⟨aHK_ENTRY_w4 i, 15, 0⟩
def HK_ENTRY_w4_ACT_HI (i : Nat) : Fld := ⟨aHK_ENTRY_w4 i, 19, 16⟩
def HK_ENTRY_w4_ACT_LO (i : Nat) : Fld := ⟨aHK_ENTRY_w4 i, 23, 20⟩
def HK_ENTRY_w4_ACT_RATE (i : Nat) : Fld := ⟨aHK_ENTRY_w4 i, 27, 24⟩
/-- HK_ENTRY_w5: sequence entry i. -/
def aHK_ENTRY_w5 (i : Nat) : Nat := thBase + 0x1114 + 0x20 * i
def HK_ENTRY_w5_VALUE (i : Nat) : Fld := ⟨aHK_ENTRY_w5 i, 31, 0⟩
/-- HK_ENTRY_w6: sequence entry i. -/
def aHK_ENTRY_w6 (i : Nat) : Nat := thBase + 0x1118 + 0x20 * i
def HK_ENTRY_w6_FILTERED (i : Nat) : Fld := ⟨aHK_ENTRY_w6 i, 31, 0⟩
/-- HK_ENTRY_w7: sequence entry i. -/
def aHK_ENTRY_w7 (i : Nat) : Nat := thBase + 0x111C + 0x20 * i
def HK_ENTRY_w7_VALID (i : Nat) : Fld := ⟨aHK_ENTRY_w7 i, 0, 0⟩
def HK_ENTRY_w7_OPEN (i : Nat) : Fld := ⟨aHK_ENTRY_w7 i, 1, 1⟩
def HK_ENTRY_w7_SHORT (i : Nat) : Fld := ⟨aHK_ENTRY_w7 i, 2, 2⟩
def HK_ENTRY_w7_OVER (i : Nat) : Fld := ⟨aHK_ENTRY_w7 i, 3, 3⟩
def HK_ENTRY_w7_HI (i : Nat) : Fld := ⟨aHK_ENTRY_w7 i, 4, 4⟩
def HK_ENTRY_w7_LO (i : Nat) : Fld := ⟨aHK_ENTRY_w7 i, 5, 5⟩
def HK_ENTRY_w7_RATE (i : Nat) : Fld := ⟨aHK_ENTRY_w7 i, 6, 6⟩
def HK_ENTRY_w7_AGE (i : Nat) : Fld := ⟨aHK_ENTRY_w7 i, 31, 16⟩

/-! ### Registers of 15_faults_alive.md -/

/-- Window of faults (R507). -/
def fcBase : Nat := 0xE0050000
/-- FC_CTRL: collector control. -/
def aFC_CTRL : Nat := fcBase + 0x0
def FC_CTRL_RCV_EN : Fld := ⟨aFC_CTRL, 0, 0⟩
/-- FC_STATUS: fault state. -/
def aFC_STATUS : Nat := fcBase + 0x4
def FC_STATUS_FATAL : Fld := ⟨aFC_STATUS, 0, 0⟩
def FC_STATUS_QUIET : Fld := ⟨aFC_STATUS, 1, 1⟩
def FC_STATUS_RCV_BLOCKED : Fld := ⟨aFC_STATUS, 2, 2⟩
def FC_STATUS_OPEN : Fld := ⟨aFC_STATUS, 7, 3⟩
/-- FC_ESC: escalation window. -/
def aFC_ESC : Nat := fcBase + 0x8
def FC_ESC_WINDOW : Fld := ⟨aFC_ESC, 15, 0⟩
/-- FC_QUIET: quiet period. -/
def aFC_QUIET : Nat := fcBase + 0xC
def FC_QUIET_MS : Fld := ⟨aFC_QUIET, 13, 0⟩
/-- FC_ALIVE: ALIVE frequency. -/
def aFC_ALIVE : Nat := fcBase + 0x10
def FC_ALIVE_FREQ : Fld := ⟨aFC_ALIVE, 6, 0⟩
/-- FC_RCV: recovery limit. -/
def aFC_RCV : Nat := fcBase + 0x14
def FC_RCV_LIMIT : Fld := ⟨aFC_RCV, 7, 0⟩
def FC_RCV_HOUR : Fld := ⟨aFC_RCV, 15, 8⟩
/-- FC_RCV_CNT: recoveries. -/
def aFC_RCV_CNT : Nat := fcBase + 0x18
def FC_RCV_CNT_COUNT : Fld := ⟨aFC_RCV_CNT, 31, 0⟩
/-- FC_CLR: clear a contained fault. -/
def aFC_CLR : Nat := fcBase + 0x1C
def FC_CLR_SLOT : Fld := ⟨aFC_CLR, 3, 0⟩
/-- FC_INT: collector events. -/
def aFC_INT : Nat := fcBase + 0x20
def FC_INT_CORRECTED : Fld := ⟨aFC_INT, 0, 0⟩
def FC_INT_CONTAINED : Fld := ⟨aFC_INT, 1, 1⟩
def FC_INT_FATAL : Fld := ⟨aFC_INT, 2, 2⟩
def FC_INT_ESCALATED : Fld := ⟨aFC_INT, 3, 3⟩
def FC_INT_RECOVERED : Fld := ⟨aFC_INT, 4, 4⟩
def FC_INT_CLR_DENIED : Fld := ⟨aFC_INT, 5, 5⟩
def FC_INT_OVERFLOW : Fld := ⟨aFC_INT, 6, 6⟩
/-- FC_LOG_PTR: log position. -/
def aFC_LOG_PTR : Nat := fcBase + 0x24
def FC_LOG_PTR_NEXT : Fld := ⟨aFC_LOG_PTR, 5, 0⟩
/-- FC_FATAL_LO: first fatal message. -/
def aFC_FATAL_LO : Nat := fcBase + 0x28
def FC_FATAL_LO_MSG : Fld := ⟨aFC_FATAL_LO, 31, 0⟩
/-- FC_FATAL_HI: first fatal message. -/
def aFC_FATAL_HI : Nat := fcBase + 0x2C
def FC_FATAL_HI_MSG : Fld := ⟨aFC_FATAL_HI, 31, 0⟩
/-- FC_OPEN_w0: open slot n. -/
def aFC_OPEN_w0 (i : Nat) : Nat := fcBase + 0x100 + 0x10 * i
def FC_OPEN_w0_MSG_LO (i : Nat) : Fld := ⟨aFC_OPEN_w0 i, 31, 0⟩
/-- FC_OPEN_w1: open slot n. -/
def aFC_OPEN_w1 (i : Nat) : Nat := fcBase + 0x104 + 0x10 * i
def FC_OPEN_w1_MSG_HI (i : Nat) : Fld := ⟨aFC_OPEN_w1 i, 31, 0⟩
/-- FC_OPEN_w2: open slot n. -/
def aFC_OPEN_w2 (i : Nat) : Nat := fcBase + 0x108 + 0x10 * i
def FC_OPEN_w2_STAMP (i : Nat) : Fld := ⟨aFC_OPEN_w2 i, 31, 0⟩
/-- FC_OPEN_w3: open slot n. -/
def aFC_OPEN_w3 (i : Nat) : Nat := fcBase + 0x10C + 0x10 * i
def FC_OPEN_w3_LEFT (i : Nat) : Fld := ⟨aFC_OPEN_w3 i, 15, 0⟩
def FC_OPEN_w3_VALID (i : Nat) : Fld := ⟨aFC_OPEN_w3 i, 31, 31⟩
/-- FC_LOG_w0: log entry n. -/
def aFC_LOG_w0 (i : Nat) : Nat := fcBase + 0x400 + 0x10 * i
def FC_LOG_w0_MSG_LO (i : Nat) : Fld := ⟨aFC_LOG_w0 i, 31, 0⟩
/-- FC_LOG_w1: log entry n. -/
def aFC_LOG_w1 (i : Nat) : Nat := fcBase + 0x404 + 0x10 * i
def FC_LOG_w1_MSG_HI (i : Nat) : Fld := ⟨aFC_LOG_w1 i, 31, 0⟩
/-- FC_LOG_w2: log entry n. -/
def aFC_LOG_w2 (i : Nat) : Nat := fcBase + 0x408 + 0x10 * i
def FC_LOG_w2_STAMP (i : Nat) : Fld := ⟨aFC_LOG_w2 i, 31, 0⟩
/-- FC_LOG_w3: log entry n. -/
def aFC_LOG_w3 (i : Nat) : Nat := fcBase + 0x40C + 0x10 * i
def FC_LOG_w3_REPEAT (i : Nat) : Fld := ⟨aFC_LOG_w3 i, 15, 0⟩

/-! ### Registers of 16_counters_capture.md -/

/-- Window of Tally (R507). -/
def tyBase : Nat := 0xE0060000
/-- TY_CTRL: snapshots and checkpoints. -/
def aTY_CTRL : Nat := tyBase + 0x0
def TY_CTRL_SNAP_EN : Fld := ⟨aTY_CTRL, 0, 0⟩
/-- TY_CKPT: snapshots and checkpoints. -/
def aTY_CKPT : Nat := tyBase + 0x4
def TY_CKPT_INTERVAL : Fld := ⟨aTY_CKPT, 11, 0⟩
/-- TY_STATUS: state. -/
def aTY_STATUS : Nat := tyBase + 0x8
def TY_STATUS_CKPT_PEND : Fld := ⟨aTY_STATUS, 0, 0⟩
def TY_STATUS_LT_LOST : Fld := ⟨aTY_STATUS, 1, 1⟩
def TY_STATUS_LT_SAT : Fld := ⟨aTY_STATUS, 2, 2⟩
/-- TY_SNAP: state. -/
def aTY_SNAP : Nat := tyBase + 0xC
def TY_SNAP_SNAPSHOT : Fld := ⟨aTY_SNAP, 31, 0⟩
/-- TY_SNAP_T: state. -/
def aTY_SNAP_T : Nat := tyBase + 0x10
def TY_SNAP_T_STAMP : Fld := ⟨aTY_SNAP_T, 31, 0⟩
/-- TY_LSEQ: state. -/
def aTY_LSEQ : Nat := tyBase + 0x14
def TY_LSEQ_LSEQ : Fld := ⟨aTY_LSEQ, 31, 0⟩
/-- TY_INT: Tally events. -/
def aTY_INT : Nat := tyBase + 0x18
def TY_INT_LT_SAT : Fld := ⟨aTY_INT, 0, 0⟩
def TY_INT_CKPT_DONE : Fld := ⟨aTY_INT, 1, 1⟩
def TY_INT_CKPT_FAIL : Fld := ⟨aTY_INT, 2, 2⟩
/-- TY_LT: lifetime counter i. -/
def aTY_LT (i : Nat) : Nat := tyBase + 0x1000 + 0x4 * i
def TY_LT_COUNT (i : Nat) : Fld := ⟨aTY_LT i, 31, 0⟩
/-- TY_HIST: bin b of histogram h at 0x2000 + h × 0x100 + b × 0x4. -/
def aTY_HIST (i : Nat) : Nat := tyBase + 0x2000 + 0x4 * i
def TY_HIST_COUNT (i : Nat) : Fld := ⟨aTY_HIST i, 31, 0⟩
/-- Window of capture (R507). -/
def tcBase : Nat := 0xE0070000
/-- TC_CTRL: capture control. -/
def aTC_CTRL : Nat := tcBase + 0x0
def TC_CTRL_ARM : Fld := ⟨aTC_CTRL, 0, 0⟩
def TC_CTRL_STOP : Fld := ⟨aTC_CTRL, 1, 1⟩
def TC_CTRL_FORCE : Fld := ⟨aTC_CTRL, 2, 2⟩
def TC_CTRL_REARM : Fld := ⟨aTC_CTRL, 3, 3⟩
def TC_CTRL_HMODE : Fld := ⟨aTC_CTRL, 5, 4⟩
def TC_CTRL_SEGS : Fld := ⟨aTC_CTRL, 11, 6⟩
def TC_CTRL_PRE : Fld := ⟨aTC_CTRL, 15, 12⟩
def TC_CTRL_DECIM : Fld := ⟨aTC_CTRL, 19, 16⟩
def TC_CTRL_CSYNC_EN : Fld := ⟨aTC_CTRL, 20, 20⟩
/-- TC_STATUS: capture state. -/
def aTC_STATUS : Nat := tcBase + 0x4
def TC_STATUS_STATE : Fld := ⟨aTC_STATUS, 2, 0⟩
def TC_STATUS_D : Fld := ⟨aTC_STATUS, 6, 3⟩
def TC_STATUS_SEG : Fld := ⟨aTC_STATUS, 12, 7⟩
def TC_STATUS_CSYNC_LOST : Fld := ⟨aTC_STATUS, 13, 13⟩
/-- TC_TRIG: trigger selection. -/
def aTC_TRIG : Nat := tcBase + 0x8
def TC_TRIG_SRC : Fld := ⟨aTC_TRIG, 6, 0⟩
def TC_TRIG_ENTRY : Fld := ⟨aTC_TRIG, 14, 7⟩
def TC_TRIG_CLASS : Fld := ⟨aTC_TRIG, 16, 15⟩
def TC_TRIG_ANYENT : Fld := ⟨aTC_TRIG, 17, 17⟩
def TC_TRIG_STREAM : Fld := ⟨aTC_TRIG, 23, 18⟩
/-- TC_LEVEL: trigger selection. -/
def aTC_LEVEL : Nat := tcBase + 0xC
def TC_LEVEL_LEVEL : Fld := ⟨aTC_LEVEL, 15, 0⟩
def TC_LEVEL_SEL : Fld := ⟨aTC_LEVEL, 16, 16⟩
def TC_LEVEL_DIR : Fld := ⟨aTC_LEVEL, 17, 17⟩
/-- TC_BUS: trigger bus. -/
def aTC_BUS : Nat := tcBase + 0x10
def TC_BUS_DRIVE0 : Fld := ⟨aTC_BUS, 0, 0⟩
def TC_BUS_DRIVE1 : Fld := ⟨aTC_BUS, 1, 1⟩
def TC_BUS_COMP0 : Fld := ⟨aTC_BUS, 23, 16⟩
def TC_BUS_COMP1 : Fld := ⟨aTC_BUS, 31, 24⟩
/-- TC_DEAD: dead time and histogram parameters. -/
def aTC_DEAD : Nat := tcBase + 0x14
def TC_DEAD_LAST : Fld := ⟨aTC_DEAD, 31, 0⟩
/-- TC_DEAD_MAX: dead time and histogram parameters. -/
def aTC_DEAD_MAX : Nat := tcBase + 0x18
def TC_DEAD_MAX_MAX : Fld := ⟨aTC_DEAD_MAX, 31, 0⟩
/-- TC_HIST: dead time and histogram parameters. -/
def aTC_HIST : Nat := tcBase + 0x1C
def TC_HIST_BIN : Fld := ⟨aTC_HIST, 15, 0⟩
def TC_HIST_TOL : Fld := ⟨aTC_HIST, 27, 16⟩
/-- TC_INT: capture events. -/
def aTC_INT : Nat := tcBase + 0x20
def TC_INT_TRIG : Fld := ⟨aTC_INT, 0, 0⟩
def TC_INT_DONE : Fld := ⟨aTC_INT, 1, 1⟩
def TC_INT_IGNORED : Fld := ⟨aTC_INT, 2, 2⟩
def TC_INT_DECIM : Fld := ⟨aTC_INT, 3, 3⟩
def TC_INT_DROP : Fld := ⟨aTC_INT, 4, 4⟩
/-- TC_STREAM: stream n. -/
def aTC_STREAM (i : Nat) : Nat := tcBase + 0x100 + 0x4 * i
def TC_STREAM_PIER (i : Nat) : Fld := ⟨aTC_STREAM i, 14, 0⟩
def TC_STREAM_CONT (i : Nat) : Fld := ⟨aTC_STREAM i, 30, 30⟩
def TC_STREAM_EN (i : Nat) : Fld := ⟨aTC_STREAM i, 31, 31⟩
/-- TC_SEG_w0: segment n. -/
def aTC_SEG_w0 (i : Nat) : Nat := tcBase + 0x200 + 0x10 * i
def TC_SEG_w0_TRIG_IDX (i : Nat) : Fld := ⟨aTC_SEG_w0 i, 19, 0⟩
/-- TC_SEG_w1: segment n. -/
def aTC_SEG_w1 (i : Nat) : Nat := tcBase + 0x204 + 0x10 * i
def TC_SEG_w1_T_TRIG (i : Nat) : Fld := ⟨aTC_SEG_w1 i, 31, 0⟩
/-- TC_SEG_w2: segment n. -/
def aTC_SEG_w2 (i : Nat) : Nat := tcBase + 0x208 + 0x10 * i
def TC_SEG_w2_FILL (i : Nat) : Fld := ⟨aTC_SEG_w2 i, 19, 0⟩
/-- TC_SEG_w3: segment n. -/
def aTC_SEG_w3 (i : Nat) : Nat := tcBase + 0x20C + 0x10 * i
def TC_SEG_w3_VALID (i : Nat) : Fld := ⟨aTC_SEG_w3 i, 0, 0⟩

/-! ### Registers of 17_internal_fabric_joints.md -/

/-- Window of bus matrix (R507). -/
def bmBase : Nat := 0xE0080000
/-- BM_CTRL: lock bound. -/
def aBM_CTRL : Nat := bmBase + 0x0
def BM_CTRL_LOCK_MAX : Fld := ⟨aBM_CTRL, 7, 0⟩
/-- BM_STATUS: lock state. -/
def aBM_STATUS : Nat := bmBase + 0x4
def BM_STATUS_LOCKED : Fld := ⟨aBM_STATUS, 0, 0⟩
def BM_STATUS_LOCK_MASTER : Fld := ⟨aBM_STATUS, 6, 1⟩
/-- BM_ERR_ADDR: first error. -/
def aBM_ERR_ADDR : Nat := bmBase + 0x8
def BM_ERR_ADDR_ADDR : Fld := ⟨aBM_ERR_ADDR, 31, 0⟩
/-- BM_ERR_INFO: first error. -/
def aBM_ERR_INFO : Nat := bmBase + 0xC
def BM_ERR_INFO_MASTER : Fld := ⟨aBM_ERR_INFO, 5, 0⟩
def BM_ERR_INFO_WRITE : Fld := ⟨aBM_ERR_INFO, 6, 6⟩
def BM_ERR_INFO_KIND : Fld := ⟨aBM_ERR_INFO, 9, 7⟩
/-- BM_INT: matrix events. -/
def aBM_INT : Nat := bmBase + 0x10
def BM_INT_ERR : Fld := ⟨aBM_INT, 0, 0⟩
def BM_INT_LOCK_BREAK : Fld := ⟨aBM_INT, 1, 1⟩
def BM_INT_MASTER_RESET : Fld := ⟨aBM_INT, 2, 2⟩
def BM_INT_JOINT_SAT : Fld := ⟨aBM_INT, 3, 3⟩
def BM_INT_JOINT_DOWN : Fld := ⟨aBM_INT, 4, 4⟩
/-- BM_MRST: last master reset during a burst. -/
def aBM_MRST : Nat := bmBase + 0x14
def BM_MRST_MASTER : Fld := ⟨aBM_MRST, 5, 0⟩
def BM_MRST_WRITE : Fld := ⟨aBM_MRST, 6, 6⟩
def BM_MRST_BEATS : Fld := ⟨aBM_MRST, 11, 7⟩
def BM_MRST_LOCK_REL : Fld := ⟨aBM_MRST, 12, 12⟩
/-- BM_JSTAT: joint j. -/
def aBM_JSTAT (i : Nat) : Nat := bmBase + 0x100 + 0x4 * i
def BM_JSTAT_UP (i : Nat) : Fld := ⟨aBM_JSTAT i, 0, 0⟩
def BM_JSTAT_SAT (i : Nat) : Fld := ⟨aBM_JSTAT i, 1, 1⟩
def BM_JSTAT_DEPTH_A (i : Nat) : Fld := ⟨aBM_JSTAT i, 2, 2⟩
def BM_JSTAT_DEPTH_B (i : Nat) : Fld := ⟨aBM_JSTAT i, 3, 3⟩
def BM_JSTAT_L (i : Nat) : Fld := ⟨aBM_JSTAT i, 31, 16⟩
/-- BM_WAIT: master m. -/
def aBM_WAIT (i : Nat) : Nat := bmBase + 0x300 + 0x4 * i
def BM_WAIT_MAX (i : Nat) : Fld := ⟨aBM_WAIT i, 15, 0⟩

/-! ### Registers of 08_monitor_truss_loops.md -/

/-- TE_SAMPLE_w0: last sample record. -/
def aTE_SAMPLE_w0 (s i : Nat) : Nat := spBase s + 0x20000 + 0x8 * i
def TE_SAMPLE_w0_WORD0 (s i : Nat) : Fld := ⟨aTE_SAMPLE_w0 s i, 31, 0⟩
/-- TE_SAMPLE_w1: last sample record. -/
def aTE_SAMPLE_w1 (s i : Nat) : Nat := spBase s + 0x20004 + 0x8 * i
def TE_SAMPLE_w1_WORD1 (s i : Nat) : Fld := ⟨aTE_SAMPLE_w1 s i, 31, 0⟩

/-! ### Registers of 16_counters_capture.md -/

/-- TY_SNAPBANK_w0: active snapshot, word 0. -/
def aTY_SNAPBANK_w0 (i : Nat) : Nat := tyBase + 0x8000 + 0x8 * i
def TY_SNAPBANK_w0_COUNTER (i : Nat) : Fld := ⟨aTY_SNAPBANK_w0 i, 31, 0⟩
/-- TY_SNAPBANK_w1: active snapshot, word 1. -/
def aTY_SNAPBANK_w1 (i : Nat) : Nat := tyBase + 0x8004 + 0x8 * i
def TY_SNAPBANK_w1_COUNTER (i : Nat) : Fld := ⟨aTY_SNAPBANK_w1 i, 31, 0⟩

/-! ### Counters (R467): the address of word 0 of counter i of a block -/

/-- CP_CNT counters, 0 to 13. -/
def cCP_CNT (p i : Nat) : Nat := cpBase p + 0x100 + 0x8 * i
/-- TG_CNT counters, 0 to 71. -/
def cTG_CNT (i : Nat) : Nat := tgBase + 0x2000 + 0x8 * i
/-- AD_CNT counters, 0 to 20. -/
def cAD_CNT (i : Nat) : Nat := adBase + 0x800 + 0x8 * i
/-- LN_CNT counters, 0 to 255. -/
def cLN_CNT (i : Nat) : Nat := adBase + 0x3000 + 0x8 * i
/-- NT_CNT counters, 0 to 7. -/
def cNT_CNT (i : Nat) : Nat := ntBase + 0x100 + 0x8 * i
/-- LS_CNT counters, 0 to 5. -/
def cLS_CNT (i : Nat) : Nat := ntBase + 0x1800 + 0x8 * i
/-- KS_CNT counters, 0 to 9. -/
def cKS_CNT (i : Nat) : Nat := ksBase + 0x4000 + 0x8 * i
/-- LZ_CNT counters, 0 to 9. -/
def cLZ_CNT (s i : Nat) : Nat := spBase s + 0x100 + 0x8 * i
/-- TE_CNT counters, 0 to 10. -/
def cTE_CNT (s i : Nat) : Nat := spBase s + 0x4200 + 0x8 * i
/-- CAL_CNT counters, 0 to 8. -/
def cCAL_CNT (i : Nat) : Nat := dkBase + 0x8100 + 0x8 * i
/-- DK_CNT counters, 0 to 18. -/
def cDK_CNT (i : Nat) : Nat := dkBase + 0x3000 + 0x8 * i
/-- THP_CNT counters, 0 to 7. -/
def cTHP_CNT (i : Nat) : Nat := thBase + 0x900 + 0x8 * i
/-- NV_CNT counters, 0 to 5. -/
def cNV_CNT (i : Nat) : Nat := nvBase + 0x200 + 0x8 * i
/-- TH_CNT counters, 0 to 7. -/
def cTH_CNT (i : Nat) : Nat := thBase + 0x100 + 0x8 * i
/-- HK_CNT counters, 0 to 5. -/
def cHK_CNT (i : Nat) : Nat := thBase + 0x1800 + 0x8 * i
/-- FC_CNT counters, 0 to 128. -/
def cFC_CNT (i : Nat) : Nat := fcBase + 0x800 + 0x8 * i
/-- TY_SLOT counters, 0 to 3. -/
def cTY_SLOT (i : Nat) : Nat := tyBase + 0x100 + 0x8 * i
/-- TC_CNT counters, 0 to 5. -/
def cTC_CNT (i : Nat) : Nat := tcBase + 0x600 + 0x8 * i
/-- BM_CNT counters, 0 to 11. -/
def cBM_CNT (i : Nat) : Nat := bmBase + 0x800 + 0x8 * i

end Sys2Proof.Machine
end

