-- ==== Sys2Proof/Machine/RegMap.lean ====
section
/-!
DEFINITION. Machine/RegMap.lean: the register map of the deck view as one table (R512): for every register its
offset, its entries, and for each field its place, its access code (R10), its reset value and what a write
outside its range stores. Every reset word, every read and every plain write is computed from this table.
-/
namespace Sys2Proof.Machine

/-- Access codes of a register field (R10); RSVD is every bit no field names. -/
inductive Acc where
  | ro | rw | w1c | w1s | rc | wo
  deriving DecidableEq, Repr

/-- What a write of a value to an RW field stores (the Meaning column of its field table). -/
inductive Norm where
  | asIs
  | zeroTo (v : Nat)               -- a write of 0 stores v
  | clampTo (m : Nat)              -- a larger write stores m
  | raiseTo (m : Nat)              -- a smaller write stores m
  | belowTo (b v : Nat)            -- a write below b stores v
  | rangeElse (lo hi v : Nat)      -- a write outside lo to hi stores v
  | nearest (lo hi : Nat)          -- a write outside lo to hi stores the nearer limit
  | ignoreAbove (m : Nat)          -- a larger write is ignored
  deriving DecidableEq, Repr

/-- The value an RW field stores for a written value, or none where the write is ignored. -/
def Norm.apply : Norm → Nat → Option Nat
  | .asIs, v => some v
  | .zeroTo d, v => some (if v = 0 then d else v)
  | .clampTo m, v => some (min v m)
  | .raiseTo m, v => some (max v m)
  | .belowTo b d, v => some (if v < b then d else v)
  | .rangeElse lo hi d, v => some (if lo ≤ v ∧ v ≤ hi then v else d)
  | .nearest lo hi, v => some (max lo (min v hi))
  | .ignoreAbove m, v => if v ≤ m then some v else none

/-- One field of a register: its bits [hi:lo], access code, reset value and write rule. -/
structure FieldRow where
  hi : Nat
  lo : Nat
  acc : Acc
  reset : Nat
  norm : Norm
  deriving DecidableEq, Repr

/-- One register, or one word of a strided array of registers: `count` words at `off + stride * i`. -/
structure RegRow where
  name : String
  off : Nat
  stride : Nat
  count : Nat
  fields : List FieldRow
  deriving DecidableEq, Repr

/-- The two words of a block counter (R467), as rows of the map. -/
def counterRows (name : String) (off count : Nat) : List RegRow :=
  [⟨name, off, 8, count, [⟨31, 0, .ro, 0, .asIs⟩]⟩,
   ⟨name, off + 4, 8, count, [⟨15, 0, .ro, 0, .asIs⟩, ⟨31, 31, .w1c, 0, .asIs⟩]⟩]

/-- Registers of the window of a control port (R512), part 0. -/
def cpRows0 : List RegRow :=
  [⟨"CP_CTRL", 0x0, 1, 1, [⟨0, 0, .rw, 0, .asIs⟩, ⟨1, 1, .rw, 0, .asIs⟩, ⟨2, 2, .rw, 1, .asIs⟩, ⟨3, 3, .rw, 1, .asIs⟩, ⟨4, 4, .rw, 1, .asIs⟩, ⟨5, 5, .rw, 1, .asIs⟩, ⟨6, 6, .rw, 0, .asIs⟩, ⟨9, 7, .rw, 0, .asIs⟩]⟩,
   ⟨"CP_STATUS", 0x4, 1, 1, [⟨0, 0, .ro, 0, .asIs⟩, ⟨1, 1, .ro, 0, .asIs⟩, ⟨2, 2, .ro, 0, .asIs⟩, ⟨3, 3, .ro, 0, .asIs⟩, ⟨4, 4, .ro, 0, .asIs⟩, ⟨5, 5, .ro, 0, .asIs⟩]⟩,
   ⟨"CP_MAC_LO", 0x8, 1, 1, [⟨31, 0, .rw, 0, .asIs⟩]⟩,
   ⟨"CP_MAC_HI", 0xC, 1, 1, [⟨15, 0, .rw, 0, .asIs⟩]⟩,
   ⟨"CP_IPV4", 0x10, 1, 1, [⟨31, 0, .rw, 0, .asIs⟩]⟩,
   ⟨"CP_IPV6", 0x14, 0x4, 4, [⟨31, 0, .rw, 0, .asIs⟩]⟩,
   ⟨"CP_MAX_FRAME", 0x24, 1, 1, [⟨13, 0, .rw, 0x2400, (.clampTo 9216)⟩]⟩,
   ⟨"CP_BUF", 0x28, 1, 1, [⟨7, 0, .rw, 0x15, .asIs⟩]⟩,
   ⟨"CP_INT", 0x30, 1, 1, [⟨0, 0, .w1c, 0, .asIs⟩, ⟨1, 1, .w1c, 0, .asIs⟩, ⟨2, 2, .w1c, 0, .asIs⟩, ⟨3, 3, .w1c, 0, .asIs⟩]⟩,
   ⟨"CP_PFC_THR", 0x40, 0x4, 8, [⟨15, 0, .rw, 0x100, .asIs⟩, ⟨31, 16, .rw, 0xC0, .asIs⟩]⟩]

/-- The window of a control port (R512). -/
def cpRows : List RegRow :=
  cpRows0 ++ counterRows "CP_CNT" 0x100 14

/-- Registers of the window of Tollgate (R512), part 0. -/
def tgRows0 : List RegRow :=
  [⟨"TG_ENGINE", 0x0, 1, 1, [⟨15, 0, .w1c, 0, .asIs⟩, ⟨31, 16, .ro, 0, .asIs⟩]⟩,
   ⟨"TG_UDP_PORT", 0x4, 1, 1, [⟨15, 0, .rw, 0x5184, .asIs⟩]⟩,
   ⟨"TG_POL_OVH", 0x8, 1, 1, [⟨7, 0, .rw, 0x14, .asIs⟩]⟩,
   ⟨"TG_GEN_CTRL", 0x10, 1, 1, [⟨0, 0, .wo, 0, .asIs⟩, ⟨1, 1, .ro, 0, .asIs⟩, ⟨2, 2, .ro, 0, .asIs⟩, ⟨3, 3, .w1c, 0, .asIs⟩]⟩,
   ⟨"TG_GEN_STATUS", 0x14, 1, 1, [⟨15, 0, .ro, 0, .asIs⟩, ⟨31, 16, .ro, 0, .asIs⟩]⟩,
   ⟨"TG_FRAG", 0x18, 1, 1, [⟨8, 0, .ro, 0, .asIs⟩, ⟨17, 9, .ro, 0, .asIs⟩]⟩,
   ⟨"TG_FWQ", 0x1C, 1, 1, [⟨6, 0, .ro, 0, .asIs⟩, ⟨9, 7, .rw, 0, .asIs⟩, ⟨10, 10, .wo, 0, .asIs⟩]⟩,
   ⟨"TG_RULE_OP", 0x20, 1, 1, [⟨9, 0, .rw, 0, .asIs⟩, ⟨10, 10, .rw, 0, .asIs⟩, ⟨12, 11, .wo, 0, .asIs⟩, ⟨13, 13, .w1c, 0, .asIs⟩]⟩,
   ⟨"TG_RULE_DATA_w0", 0x40, 1, 1, [⟨31, 0, .rw, 0, .asIs⟩]⟩,
   ⟨"TG_RULE_DATA_w1", 0x44, 1, 1, [⟨31, 0, .rw, 0, .asIs⟩]⟩,
   ⟨"TG_RULE_DATA_w2", 0x48, 1, 1, [⟨31, 0, .rw, 0, .asIs⟩]⟩,
   ⟨"TG_RULE_DATA_w3", 0x4C, 1, 1, [⟨31, 0, .rw, 0, .asIs⟩]⟩,
   ⟨"TG_RULE_DATA_w4", 0x50, 1, 1, [⟨31, 0, .rw, 0, .asIs⟩]⟩,
   ⟨"TG_RULE_DATA_w5", 0x54, 1, 1, [⟨31, 0, .rw, 0, .asIs⟩]⟩,
   ⟨"TG_RULE_DATA_w6", 0x58, 1, 1, [⟨31, 0, .rw, 0, .asIs⟩]⟩,
   ⟨"TG_RULE_DATA_w7", 0x5C, 1, 1, [⟨31, 0, .rw, 0, .asIs⟩]⟩]

/-- Registers of the window of Tollgate (R512), part 1. -/
def tgRows1 : List RegRow :=
  [⟨"TG_RULE_DATA_w8", 0x60, 1, 1, [⟨31, 0, .rw, 0, .asIs⟩]⟩,
   ⟨"TG_RULE_DATA_w9", 0x64, 1, 1, [⟨31, 0, .rw, 0, .asIs⟩]⟩,
   ⟨"TG_RULE_DATA_w10", 0x68, 1, 1, [⟨31, 0, .rw, 0, .asIs⟩]⟩,
   ⟨"TG_RULE_DATA_w11", 0x6C, 1, 1, [⟨31, 0, .rw, 0, .asIs⟩]⟩,
   ⟨"TG_RULE_DATA_w12", 0x70, 1, 1, [⟨31, 0, .rw, 0, .asIs⟩]⟩,
   ⟨"TG_RULE_DATA_w13", 0x74, 1, 1, [⟨31, 0, .rw, 0, .asIs⟩]⟩,
   ⟨"TG_RULE_DATA_w14", 0x78, 1, 1, [⟨1, 0, .rw, 0, .asIs⟩, ⟨5, 2, .rw, 0, .asIs⟩, ⟨11, 6, .rw, 0, .asIs⟩, ⟨17, 12, .rw, 0, .asIs⟩, ⟨31, 31, .rw, 0, .asIs⟩]⟩,
   ⟨"TG_RULE_DATA_w15", 0x7C, 1, 1, [⟨13, 0, .rw, 0, .asIs⟩, ⟨28, 14, .rw, 0, .asIs⟩]⟩,
   ⟨"TG_POL_w0", 0x1000, 0x8, 64, [⟨19, 0, .rw, 0, .asIs⟩]⟩,
   ⟨"TG_POL_w1", 0x1004, 0x8, 64, [⟨23, 0, .rw, 0, .asIs⟩, ⟨31, 31, .rw, 0, .asIs⟩]⟩]

/-- The window of Tollgate (R512). -/
def tgRows : List RegRow :=
  tgRows0 ++ tgRows1 ++ counterRows "TG_CNT" 0x2000 72

/-- Registers of the window of admission/lanes (R512), part 0. -/
def adRows0 : List RegRow :=
  [⟨"AD_CTRL", 0x0, 1, 1, [⟨0, 0, .rw, 0, .asIs⟩]⟩,
   ⟨"AD_PIPE", 0x4, 1, 1, [⟨15, 0, .rw, 0xA28, .asIs⟩, ⟨31, 16, .rw, 0x370, .asIs⟩]⟩,
   ⟨"AD_STATUS", 0x8, 1, 1, [⟨13, 0, .ro, 0, .asIs⟩, ⟨15, 15, .ro, 1, .asIs⟩, ⟨19, 16, .ro, 0, .asIs⟩]⟩,
   ⟨"AD_READY_S", 0xC, 1, 1, [⟨31, 0, .ro, 0, .asIs⟩]⟩,
   ⟨"AD_READY_NS", 0x10, 1, 1, [⟨31, 0, .ro, 0, .asIs⟩]⟩,
   ⟨"AD_VT", 0x14, 1, 1, [⟨31, 0, .ro, 0, .asIs⟩]⟩,
   ⟨"AD_INT", 0x18, 1, 1, [⟨0, 0, .w1c, 0, .asIs⟩, ⟨1, 1, .w1c, 0, .asIs⟩, ⟨2, 2, .w1c, 0, .asIs⟩, ⟨3, 3, .w1c, 0, .asIs⟩, ⟨4, 4, .w1c, 0, .asIs⟩]⟩,
   ⟨"AD_PART_w0", 0x100, 0x8, 64, [⟨17, 0, .rw, 0, .asIs⟩, ⟨23, 20, .rw, 0, .asIs⟩]⟩,
   ⟨"AD_PART_w1", 0x104, 0x8, 64, [⟨17, 0, .ro, 0, .asIs⟩]⟩,
   ⟨"LN_SEL", 0x1000, 1, 1, [⟨13, 0, .rw, 0, .asIs⟩, ⟨17, 16, .wo, 0, .asIs⟩, ⟨18, 18, .ro, 0, .asIs⟩]⟩,
   ⟨"LN_CFG", 0x1004, 1, 1, [⟨5, 0, .rw, 0, .asIs⟩, ⟨6, 6, .rw, 0, .asIs⟩, ⟨7, 7, .rw, 0, .asIs⟩, ⟨8, 8, .rw, 0, .asIs⟩, ⟨9, 9, .rw, 0, .asIs⟩, ⟨10, 10, .rw, 1, .asIs⟩, ⟨11, 11, .rw, 0, .asIs⟩, ⟨23, 16, .rw, 1, (.zeroTo 1)⟩]⟩,
   ⟨"LN_QUOTA", 0x1008, 1, 1, [⟨14, 0, .rw, 0, .asIs⟩]⟩,
   ⟨"LN_PROMISE", 0x100C, 1, 1, [⟨19, 0, .rw, 0, (.clampTo 1000000)⟩]⟩,
   ⟨"LN_STATE0", 0x1010, 1, 1, [⟨31, 0, .ro, 0, .asIs⟩]⟩,
   ⟨"LN_STATE1", 0x1014, 1, 1, [⟨14, 0, .ro, 0, .asIs⟩, ⟨29, 16, .ro, 0, .asIs⟩]⟩,
   ⟨"LN_STATE2", 0x1018, 1, 1, [⟨15, 0, .ro, 0, .asIs⟩, ⟨31, 16, .ro, 0, .asIs⟩]⟩]

/-- Registers of the window of admission/lanes (R512), part 1. -/
def adRows1 : List RegRow :=
  [⟨"LN_SHP_OVH", 0x101C, 1, 1, [⟨7, 0, .rw, 0x14, .asIs⟩]⟩,
   ⟨"LN_SHP_w0", 0x2000, 0x10, 64, [⟨19, 0, .rw, 0, .asIs⟩]⟩,
   ⟨"LN_SHP_w1", 0x2004, 0x10, 64, [⟨23, 0, .rw, 0, .asIs⟩, ⟨30, 30, .rw, 1, .asIs⟩, ⟨31, 31, .rw, 0, .asIs⟩]⟩,
   ⟨"LN_SHP_w2", 0x2008, 0x10, 64, [⟨31, 0, .ro, 0, .asIs⟩]⟩]

/-- The window of admission/lanes (R512). -/
def adRows : List RegRow :=
  adRows0 ++ adRows1 ++ counterRows "AD_CNT" 0x800 21 ++ counterRows "LN_CNT" 0x3000 256

/-- Registers of the window of network time/lift (R512), part 0. -/
def ntRows0 : List RegRow :=
  [⟨"NT_CTRL", 0x0, 1, 1, [⟨5, 0, .rw, 0, .asIs⟩, ⟨15, 8, .rw, 0, .asIs⟩, ⟨19, 16, .rw, 0, .asIs⟩, ⟨25, 20, .rw, 8, .asIs⟩, ⟨26, 26, .rw, 0, .asIs⟩, ⟨28, 27, .rw, 0, .asIs⟩]⟩,
   ⟨"NT_STATE", 0x4, 1, 1, [⟨2, 0, .ro, 0, .asIs⟩, ⟨5, 3, .ro, 0, .asIs⟩, ⟨6, 6, .ro, 0, .asIs⟩, ⟨15, 8, .ro, 0, .asIs⟩, ⟨16, 16, .ro, 0, .asIs⟩]⟩,
   ⟨"NT_TIME_NS", 0x8, 1, 1, [⟨29, 0, .ro, 0, .asIs⟩]⟩,
   ⟨"NT_TIME_SL", 0xC, 1, 1, [⟨31, 0, .ro, 0, .asIs⟩]⟩,
   ⟨"NT_TIME_SH", 0x10, 1, 1, [⟨15, 0, .ro, 0, .asIs⟩]⟩,
   ⟨"NT_TIME_L32", 0x14, 1, 1, [⟨31, 0, .ro, 0, .asIs⟩]⟩,
   ⟨"NT_RATE", 0x18, 1, 1, [⟨31, 0, .ro, 0, .asIs⟩]⟩,
   ⟨"NT_SERVO", 0x1C, 1, 1, [⟨15, 0, .rw, 0x4000, .asIs⟩, ⟨31, 16, .rw, 0x400, .asIs⟩]⟩,
   ⟨"NT_SERVO_LIM", 0x20, 1, 1, [⟨9, 0, .rw, 0x1F4, (.rangeElse 1 1000 500)⟩]⟩,
   ⟨"NT_JUMP", 0x24, 1, 1, [⟨23, 0, .rw, 0x1F4, .asIs⟩]⟩,
   ⟨"NT_PERSIST", 0x28, 1, 1, [⟨7, 0, .rw, 8, (.belowTo 2 2)⟩, ⟨31, 8, .rw, 0x3E8, .asIs⟩]⟩,
   ⟨"NT_LOCK", 0x2C, 1, 1, [⟨15, 0, .rw, 0x32, .asIs⟩, ⟨19, 16, .rw, 4, .asIs⟩]⟩,
   ⟨"NT_LOSS", 0x30, 1, 1, [⟨15, 0, .rw, 0x3E8, .asIs⟩]⟩,
   ⟨"NT_OFFSET", 0x34, 1, 1, [⟨31, 0, .ro, 0, .asIs⟩]⟩,
   ⟨"NT_PDELAY", 0x38, 1, 1, [⟨31, 0, .ro, 0, .asIs⟩]⟩,
   ⟨"NT_GMID_L", 0x3C, 1, 1, [⟨31, 0, .ro, 0, .asIs⟩]⟩]

/-- Registers of the window of network time/lift (R512), part 1. -/
def ntRows1 : List RegRow :=
  [⟨"NT_GMID_H", 0x40, 1, 1, [⟨31, 0, .ro, 0, .asIs⟩]⟩,
   ⟨"NT_STEP_S", 0x44, 1, 1, [⟨31, 0, .ro, 0, .asIs⟩]⟩,
   ⟨"NT_STEP_NS", 0x48, 1, 1, [⟨29, 0, .ro, 0, .asIs⟩]⟩,
   ⟨"NT_STEP_VAL_L", 0x4C, 1, 1, [⟨31, 0, .ro, 0, .asIs⟩]⟩,
   ⟨"NT_STEP_VAL_H", 0x50, 1, 1, [⟨31, 0, .ro, 0, .asIs⟩]⟩,
   ⟨"NT_STEP_CNT", 0x54, 1, 1, [⟨31, 0, .ro, 0, .asIs⟩]⟩,
   ⟨"NT_INT", 0x58, 1, 1, [⟨0, 0, .w1c, 0, .asIs⟩, ⟨1, 1, .w1c, 0, .asIs⟩, ⟨2, 2, .w1c, 0, .asIs⟩, ⟨3, 3, .w1c, 0, .asIs⟩, ⟨4, 4, .w1c, 0, .asIs⟩, ⟨5, 5, .w1c, 0, .asIs⟩]⟩,
   ⟨"NT_PERMIT_w0", 0x60, 1, 1, [⟨31, 0, .ro, 0, .asIs⟩]⟩,
   ⟨"NT_PERMIT_w1", 0x64, 1, 1, [⟨31, 0, .ro, 0, .asIs⟩]⟩,
   ⟨"NT_PERMIT_w2", 0x68, 1, 1, [⟨31, 0, .ro, 0, .asIs⟩]⟩,
   ⟨"NT_PERMIT_w3", 0x6C, 1, 1, [⟨31, 0, .ro, 0, .asIs⟩]⟩,
   ⟨"NT_PERMIT_w4", 0x70, 1, 1, [⟨31, 0, .ro, 0, .asIs⟩]⟩,
   ⟨"NT_PERMIT_w5", 0x74, 1, 1, [⟨31, 0, .ro, 0, .asIs⟩]⟩,
   ⟨"NT_PERMIT_w6", 0x78, 1, 1, [⟨0, 0, .ro, 0, .asIs⟩]⟩,
   ⟨"NT_ASYM", 0x80, 0x4, 6, [⟨31, 0, .rw, 0, .asIs⟩]⟩,
   ⟨"LS_CTRL", 0x1000, 1, 1, [⟨0, 0, .rw, 0, .asIs⟩, ⟨1, 1, .ro, 0, .asIs⟩, ⟨2, 2, .wo, 0, .asIs⟩, ⟨3, 3, .ro, 0, .asIs⟩, ⟨4, 4, .w1c, 0, .asIs⟩, ⟨5, 5, .w1c, 0, .asIs⟩, ⟨6, 6, .rw, 1, .asIs⟩, ⟨7, 7, .ro, 0, .asIs⟩]⟩]

/-- Registers of the window of network time/lift (R512), part 2. -/
def ntRows2 : List RegRow :=
  [⟨"LS_GUARD", 0x1004, 1, 1, [⟨15, 0, .rw, 0x3E8, .asIs⟩]⟩,
   ⟨"LS_SWAP_S", 0x1008, 1, 1, [⟨31, 0, .ro, 0, .asIs⟩]⟩,
   ⟨"LS_SWAP_NS", 0x100C, 1, 1, [⟨29, 0, .ro, 0, .asIs⟩]⟩,
   ⟨"LS_STATUS", 0x1010, 1, 1, [⟨7, 0, .ro, 0, .asIs⟩, ⟨9, 8, .ro, 0, .asIs⟩]⟩,
   ⟨"LS_BANK_w0", 0x1100, 0x10, 2, [⟨29, 0, .rw, 0, .asIs⟩]⟩,
   ⟨"LS_BANK_w1", 0x1104, 0x10, 2, [⟨29, 0, .rw, 0, .asIs⟩]⟩,
   ⟨"LS_BANK_w2", 0x1108, 0x10, 2, [⟨8, 0, .rw, 0, .asIs⟩]⟩,
   ⟨"LS_ENTRY", 0x2000, 0x4, 512, [⟨1, 0, .rw, 0, .asIs⟩, ⟨31, 2, .rw, 0, .asIs⟩]⟩]

/-- The window of network time/lift (R512). -/
def ntRows : List RegRow :=
  ntRows0 ++ ntRows1 ++ ntRows2 ++ counterRows "NT_CNT" 0x100 8 ++ counterRows "LS_CNT" 0x1800 6

/-- Registers of the window of Keystone (R512), part 0. -/
def ksRows0 : List RegRow :=
  [⟨"KS_TOPO", 0x0, 1, 1, [⟨10, 0, .ro, 0, .asIs⟩, ⟨15, 11, .ro, 0, .asIs⟩, ⟨17, 16, .ro, 0, .asIs⟩, ⟨18, 18, .ro, 0, .asIs⟩, ⟨20, 19, .ro, 0, .asIs⟩, ⟨21, 21, .ro, 0, .asIs⟩]⟩,
   ⟨"KS_BOUND", 0x4, 1, 1, [⟨15, 0, .ro, 0, .asIs⟩, ⟨23, 16, .ro, 0, .asIs⟩]⟩,
   ⟨"KS_STATUS", 0x8, 1, 1, [⟨0, 0, .ro, 0, .asIs⟩, ⟨7, 1, .ro, 0, .asIs⟩, ⟨22, 8, .ro, 0, .asIs⟩, ⟨23, 23, .ro, 0, .asIs⟩, ⟨24, 24, .ro, 0, .asIs⟩]⟩,
   ⟨"KS_INT", 0xC, 1, 1, [⟨0, 0, .w1c, 0, .asIs⟩, ⟨1, 1, .w1c, 0, .asIs⟩, ⟨2, 2, .w1c, 0, .asIs⟩, ⟨3, 3, .w1c, 0, .asIs⟩, ⟨4, 4, .w1c, 0, .asIs⟩, ⟨5, 5, .w1c, 0, .asIs⟩, ⟨6, 6, .w1c, 0, .asIs⟩]⟩,
   ⟨"KS_FAIL_CLR", 0x10, 1, 1, [⟨14, 0, .wo, 0, .asIs⟩]⟩,
   ⟨"KS_QSEL", 0x14, 1, 1, [⟨9, 0, .rw, 0, .asIs⟩]⟩,
   ⟨"KS_QRES", 0x18, 1, 1, [⟨9, 0, .ro, 0, .asIs⟩, ⟨10, 10, .ro, 0, .asIs⟩, ⟨11, 11, .ro, 0, .asIs⟩, ⟨17, 12, .ro, 0, .asIs⟩, ⟨18, 18, .ro, 0, .asIs⟩]⟩,
   ⟨"KS_TIME", 0x1C, 1, 1, [⟨15, 0, .ro, 0, .asIs⟩, ⟨31, 16, .ro, 0, .asIs⟩]⟩,
   ⟨"KS_FAILMAP", 0x1000, 0x4, 576, [⟨31, 0, .w1s, 0, .asIs⟩]⟩,
   ⟨"KS_ATT_LVL", 0x2000, 0x4, 1024, [⟨11, 0, .rw, 0xFFF, (.zeroTo 1)⟩]⟩,
   ⟨"KS_GROUP_w0", 0x3000, 0x8, 64, [⟨9, 0, .ro, 0, .asIs⟩, ⟨13, 10, .ro, 0, .asIs⟩, ⟨31, 31, .ro, 0, .asIs⟩]⟩,
   ⟨"KS_GROUP_w1", 0x3004, 0x8, 64, [⟨31, 0, .ro, 0, .asIs⟩]⟩]

/-- The window of Keystone (R512). -/
def ksRows : List RegRow :=
  ksRows0 ++ counterRows "KS_CNT" 0x4000 10

/-- Registers of the window of decks and CAL_ central (R512), part 0. -/
def dkRows0 : List RegRow :=
  [⟨"CAL_CTRL", 0x8000, 1, 1, [⟨0, 0, .rw, 1, .asIs⟩, ⟨1, 1, .rw, 1, .asIs⟩, ⟨2, 2, .rw, 1, .asIs⟩, ⟨3, 3, .rw, 1, .asIs⟩, ⟨4, 4, .rw, 1, .asIs⟩, ⟨5, 5, .rw, 1, .asIs⟩, ⟨11, 8, .rw, 3, (.zeroTo 1)⟩]⟩,
   ⟨"CAL_CMD", 0x8004, 1, 1, [⟨5, 0, .rw, 0, .asIs⟩, ⟨6, 6, .rw, 0, .asIs⟩, ⟨7, 7, .wo, 0, .asIs⟩, ⟨8, 8, .wo, 0, .asIs⟩, ⟨9, 9, .w1c, 0, .asIs⟩]⟩,
   ⟨"CAL_STATUS", 0x8008, 1, 1, [⟨0, 0, .ro, 0, .asIs⟩, ⟨1, 1, .ro, 0, .asIs⟩, ⟨2, 2, .ro, 0, .asIs⟩, ⟨3, 3, .ro, 0, .asIs⟩, ⟨4, 4, .ro, 0, .asIs⟩]⟩,
   ⟨"CAL_TEMP", 0x800C, 1, 1, [⟨11, 0, .rw, 0x20, .asIs⟩, ⟨23, 12, .rw, 0xA0, .asIs⟩]⟩,
   ⟨"CAL_GUARD", 0x8010, 1, 1, [⟨11, 0, .rw, 0x64, .asIs⟩]⟩,
   ⟨"CAL_STORE", 0x8014, 1, 1, [⟨10, 0, .rw, 0x78, (.rangeElse 1 1440 120)⟩]⟩,
   ⟨"CAL_SEQ", 0x8018, 1, 1, [⟨31, 0, .ro, 0, .asIs⟩]⟩,
   ⟨"CAL_DUE_LO", 0x801C, 1, 1, [⟨31, 0, .ro, 0, .asIs⟩]⟩,
   ⟨"CAL_DUE_HI", 0x8020, 1, 1, [⟨3, 0, .ro, 0, .asIs⟩]⟩,
   ⟨"CAL_INT", 0x8024, 1, 1, [⟨0, 0, .w1c, 0, .asIs⟩, ⟨1, 1, .w1c, 0, .asIs⟩, ⟨2, 2, .w1c, 0, .asIs⟩, ⟨3, 3, .w1c, 0, .asIs⟩, ⟨4, 4, .w1c, 0, .asIs⟩, ⟨5, 5, .w1c, 0, .asIs⟩]⟩,
   ⟨"CAL_ZTEMP", 0x8040, 0x4, 9, [⟨11, 0, .ro, 0, .asIs⟩]⟩,
   ⟨"DK_CTRL", 0x0, 1, 1, [⟨7, 0, .rw, 0xC0, (.belowTo 128 192)⟩, ⟨8, 8, .rw, 1, .asIs⟩, ⟨9, 9, .rw, 0, .asIs⟩]⟩,
   ⟨"DK_STATUS", 0x4, 1, 1, [⟨0, 0, .ro, 0, .asIs⟩, ⟨1, 1, .ro, 0, .asIs⟩, ⟨2, 2, .ro, 0, .asIs⟩, ⟨3, 3, .ro, 0, .asIs⟩, ⟨4, 4, .ro, 0, .asIs⟩, ⟨5, 5, .ro, 0, .asIs⟩]⟩,
   ⟨"DK_OWNER_LO", 0x8, 1, 1, [⟨31, 0, .ro, 0, .asIs⟩]⟩,
   ⟨"DK_OWNER_HI", 0xC, 1, 1, [⟨3, 0, .ro, 0, .asIs⟩]⟩,
   ⟨"DK_WDOG_A", 0x10, 1, 1, [⟨15, 0, .rw, 0x3E8, (.belowTo 10 10)⟩, ⟨16, 16, .wo, 0, .asIs⟩]⟩]

/-- Registers of the window of decks and CAL_ central (R512), part 1. -/
def dkRows1 : List RegRow :=
  [⟨"DK_WDOG_B", 0x14, 1, 1, [⟨15, 0, .rw, 0x3E8, (.belowTo 10 10)⟩, ⟨16, 16, .wo, 0, .asIs⟩]⟩,
   ⟨"DK_TIMING", 0x18, 1, 1, [⟨9, 0, .rw, 0x14, .asIs⟩, ⟨17, 10, .rw, 0x10, (.zeroTo 1)⟩, ⟨31, 18, .rw, 0x64, .asIs⟩]⟩,
   ⟨"DK_CMD", 0x1C, 1, 1, [⟨5, 0, .rw, 0, .asIs⟩, ⟨6, 6, .rw, 0, .asIs⟩, ⟨7, 7, .rw, 0, .asIs⟩, ⟨8, 8, .wo, 0, .asIs⟩, ⟨9, 9, .wo, 0, .asIs⟩]⟩,
   ⟨"DK_INT", 0x20, 1, 1, [⟨0, 0, .w1c, 0, .asIs⟩, ⟨1, 1, .w1c, 0, .asIs⟩, ⟨2, 2, .w1c, 0, .asIs⟩, ⟨3, 3, .w1c, 0, .asIs⟩, ⟨4, 4, .w1c, 0, .asIs⟩, ⟨5, 5, .w1c, 0, .asIs⟩, ⟨6, 6, .w1c, 0, .asIs⟩, ⟨7, 7, .w1c, 0, .asIs⟩]⟩,
   ⟨"DK_REPLAY_w0", 0x24, 1, 1, [⟨5, 0, .ro, 0, .asIs⟩, ⟨8, 6, .ro, 0, .asIs⟩]⟩,
   ⟨"DK_REPLAY_w1", 0x28, 1, 1, [⟨31, 0, .ro, 0, .asIs⟩]⟩,
   ⟨"DK_REPLAY_w2", 0x2C, 1, 1, [⟨31, 0, .ro, 0, .asIs⟩]⟩,
   ⟨"DK_PEXCL_CLR", 0x30, 1, 1, [⟨14, 0, .wo, 0, .asIs⟩, ⟨15, 15, .wo, 0, .asIs⟩]⟩,
   ⟨"DK_CLAIM", 0x100, 0x4, 36, [⟨7, 0, .ro, 0, .asIs⟩, ⟨15, 8, .ro, 0, .asIs⟩, ⟨19, 16, .ro, 0, .asIs⟩, ⟨23, 20, .ro, 0, .asIs⟩, ⟨25, 24, .ro, 0, .asIs⟩, ⟨27, 26, .ro, 0, .asIs⟩, ⟨28, 28, .ro, 0, .asIs⟩, ⟨29, 29, .ro, 0, .asIs⟩]⟩,
   ⟨"DK_PEXCL_A", 0x1000, 0x4, 576, [⟨31, 0, .w1s, 0, .asIs⟩]⟩,
   ⟨"DK_PEXCL_B", 0x2000, 0x4, 576, [⟨31, 0, .w1s, 0, .asIs⟩]⟩]

/-- The window of decks and CAL_ central (R512). -/
def dkRows : List RegRow :=
  dkRows0 ++ dkRows1 ++ counterRows "CAL_CNT" 0x8100 9 ++ counterRows "DK_CNT" 0x3000 19

/-- Registers of the window of faults (R512), part 0. -/
def fcRows0 : List RegRow :=
  [⟨"FC_CTRL", 0x0, 1, 1, [⟨0, 0, .rw, 1, .asIs⟩]⟩,
   ⟨"FC_STATUS", 0x4, 1, 1, [⟨0, 0, .ro, 0, .asIs⟩, ⟨1, 1, .ro, 0, .asIs⟩, ⟨2, 2, .ro, 0, .asIs⟩, ⟨7, 3, .ro, 0, .asIs⟩]⟩,
   ⟨"FC_ESC", 0x8, 1, 1, [⟨15, 0, .rw, 0x7D0, (.belowTo 100 100)⟩]⟩,
   ⟨"FC_QUIET", 0xC, 1, 1, [⟨13, 0, .rw, 0xFA, (.rangeElse 10 10000 250)⟩]⟩,
   ⟨"FC_ALIVE", 0x10, 1, 1, [⟨6, 0, .rw, 0xA, (.rangeElse 1 100 10)⟩]⟩,
   ⟨"FC_RCV", 0x14, 1, 1, [⟨7, 0, .rw, 8, .asIs⟩, ⟨15, 8, .ro, 0, .asIs⟩]⟩,
   ⟨"FC_RCV_CNT", 0x18, 1, 1, [⟨31, 0, .ro, 0, .asIs⟩]⟩,
   ⟨"FC_CLR", 0x1C, 1, 1, [⟨3, 0, .wo, 0, .asIs⟩]⟩,
   ⟨"FC_INT", 0x20, 1, 1, [⟨0, 0, .w1c, 0, .asIs⟩, ⟨1, 1, .w1c, 0, .asIs⟩, ⟨2, 2, .w1c, 0, .asIs⟩, ⟨3, 3, .w1c, 0, .asIs⟩, ⟨4, 4, .w1c, 0, .asIs⟩, ⟨5, 5, .w1c, 0, .asIs⟩, ⟨6, 6, .w1c, 0, .asIs⟩]⟩,
   ⟨"FC_LOG_PTR", 0x24, 1, 1, [⟨5, 0, .ro, 0, .asIs⟩]⟩,
   ⟨"FC_FATAL_LO", 0x28, 1, 1, [⟨31, 0, .ro, 0, .asIs⟩]⟩,
   ⟨"FC_FATAL_HI", 0x2C, 1, 1, [⟨31, 0, .ro, 0, .asIs⟩]⟩,
   ⟨"FC_OPEN_w0", 0x100, 0x10, 16, [⟨31, 0, .ro, 0, .asIs⟩]⟩,
   ⟨"FC_OPEN_w1", 0x104, 0x10, 16, [⟨31, 0, .ro, 0, .asIs⟩]⟩,
   ⟨"FC_OPEN_w2", 0x108, 0x10, 16, [⟨31, 0, .ro, 0, .asIs⟩]⟩,
   ⟨"FC_OPEN_w3", 0x10C, 0x10, 16, [⟨15, 0, .ro, 0, .asIs⟩, ⟨31, 31, .ro, 0, .asIs⟩]⟩]

/-- Registers of the window of faults (R512), part 1. -/
def fcRows1 : List RegRow :=
  [⟨"FC_LOG_w0", 0x400, 0x10, 64, [⟨31, 0, .ro, 0, .asIs⟩]⟩,
   ⟨"FC_LOG_w1", 0x404, 0x10, 64, [⟨31, 0, .ro, 0, .asIs⟩]⟩,
   ⟨"FC_LOG_w2", 0x408, 0x10, 64, [⟨31, 0, .ro, 0, .asIs⟩]⟩,
   ⟨"FC_LOG_w3", 0x40C, 0x10, 64, [⟨15, 0, .ro, 0, .asIs⟩]⟩]

/-- The window of faults (R512). -/
def fcRows : List RegRow :=
  fcRows0 ++ fcRows1 ++ counterRows "FC_CNT" 0x800 129

/-- Registers of the window of Tally (R512), part 0. -/
def tyRows0 : List RegRow :=
  [⟨"TY_CTRL", 0x0, 1, 1, [⟨0, 0, .rw, 1, .asIs⟩]⟩,
   ⟨"TY_CKPT", 0x4, 1, 1, [⟨11, 0, .rw, 0x3C, (.rangeElse 10 3600 60)⟩]⟩,
   ⟨"TY_STATUS", 0x8, 1, 1, [⟨0, 0, .ro, 0, .asIs⟩, ⟨1, 1, .ro, 0, .asIs⟩, ⟨2, 2, .ro, 0, .asIs⟩]⟩,
   ⟨"TY_SNAP", 0xC, 1, 1, [⟨31, 0, .ro, 0, .asIs⟩]⟩,
   ⟨"TY_SNAP_T", 0x10, 1, 1, [⟨31, 0, .ro, 0, .asIs⟩]⟩,
   ⟨"TY_LSEQ", 0x14, 1, 1, [⟨31, 0, .ro, 0, .asIs⟩]⟩,
   ⟨"TY_INT", 0x18, 1, 1, [⟨0, 0, .w1c, 0, .asIs⟩, ⟨1, 1, .w1c, 0, .asIs⟩, ⟨2, 2, .w1c, 0, .asIs⟩]⟩,
   ⟨"TY_LT", 0x1000, 0x4, 128, [⟨31, 0, .ro, 0, .asIs⟩]⟩,
   ⟨"TY_HIST", 0x2000, 0x4, 768, [⟨31, 0, .ro, 0, .asIs⟩]⟩,
   ⟨"TY_SNAPBANK_w0", 0x8000, 0x8, 2048, [⟨31, 0, .ro, 0, .asIs⟩]⟩,
   ⟨"TY_SNAPBANK_w1", 0x8004, 0x8, 2048, [⟨31, 0, .ro, 0, .asIs⟩]⟩]

/-- The window of Tally (R512). -/
def tyRows : List RegRow :=
  tyRows0 ++ counterRows "TY_SLOT" 0x100 4

/-- Registers of the window of capture (R512), part 0. -/
def tcRows0 : List RegRow :=
  [⟨"TC_CTRL", 0x0, 1, 1, [⟨0, 0, .wo, 0, .asIs⟩, ⟨1, 1, .wo, 0, .asIs⟩, ⟨2, 2, .wo, 0, .asIs⟩, ⟨3, 3, .rw, 0, .asIs⟩, ⟨5, 4, .rw, 0, .asIs⟩, ⟨11, 6, .rw, 0, .asIs⟩, ⟨15, 12, .rw, 8, .asIs⟩, ⟨19, 16, .rw, 0, .asIs⟩, ⟨20, 20, .rw, 0, .asIs⟩]⟩,
   ⟨"TC_STATUS", 0x4, 1, 1, [⟨2, 0, .ro, 0, .asIs⟩, ⟨6, 3, .ro, 0, .asIs⟩, ⟨12, 7, .ro, 0, .asIs⟩, ⟨13, 13, .ro, 0, .asIs⟩]⟩,
   ⟨"TC_TRIG", 0x8, 1, 1, [⟨6, 0, .rw, 1, .asIs⟩, ⟨14, 7, .rw, 0, .asIs⟩, ⟨16, 15, .rw, 0, .asIs⟩, ⟨17, 17, .rw, 0, .asIs⟩, ⟨23, 18, .rw, 0, .asIs⟩]⟩,
   ⟨"TC_LEVEL", 0xC, 1, 1, [⟨15, 0, .rw, 0, .asIs⟩, ⟨16, 16, .rw, 0, .asIs⟩, ⟨17, 17, .rw, 0, .asIs⟩]⟩,
   ⟨"TC_BUS", 0x10, 1, 1, [⟨0, 0, .rw, 0, .asIs⟩, ⟨1, 1, .rw, 0, .asIs⟩, ⟨23, 16, .rw, 0, .asIs⟩, ⟨31, 24, .rw, 0, .asIs⟩]⟩,
   ⟨"TC_DEAD", 0x14, 1, 1, [⟨31, 0, .ro, 0, .asIs⟩]⟩,
   ⟨"TC_DEAD_MAX", 0x18, 1, 1, [⟨31, 0, .ro, 0, .asIs⟩]⟩,
   ⟨"TC_HIST", 0x1C, 1, 1, [⟨15, 0, .rw, 0xA, (.zeroTo 1)⟩, ⟨27, 16, .rw, 0x29, .asIs⟩]⟩,
   ⟨"TC_INT", 0x20, 1, 1, [⟨0, 0, .w1c, 0, .asIs⟩, ⟨1, 1, .w1c, 0, .asIs⟩, ⟨2, 2, .w1c, 0, .asIs⟩, ⟨3, 3, .w1c, 0, .asIs⟩, ⟨4, 4, .w1c, 0, .asIs⟩]⟩,
   ⟨"TC_STREAM", 0x100, 0x4, 64, [⟨14, 0, .rw, 0, .asIs⟩, ⟨30, 30, .rw, 0, .asIs⟩, ⟨31, 31, .rw, 0, .asIs⟩]⟩,
   ⟨"TC_SEG_w0", 0x200, 0x10, 64, [⟨19, 0, .ro, 0, .asIs⟩]⟩,
   ⟨"TC_SEG_w1", 0x204, 0x10, 64, [⟨31, 0, .ro, 0, .asIs⟩]⟩,
   ⟨"TC_SEG_w2", 0x208, 0x10, 64, [⟨19, 0, .ro, 0, .asIs⟩]⟩,
   ⟨"TC_SEG_w3", 0x20C, 0x10, 64, [⟨0, 0, .ro, 0, .asIs⟩]⟩]

/-- The window of capture (R512). -/
def tcRows : List RegRow :=
  tcRows0 ++ counterRows "TC_CNT" 0x600 6

/-- Registers of the window of bus matrix (R512), part 0. -/
def bmRows0 : List RegRow :=
  [⟨"BM_CTRL", 0x0, 1, 1, [⟨7, 0, .rw, 0x40, (.rangeElse 16 64 64)⟩]⟩,
   ⟨"BM_STATUS", 0x4, 1, 1, [⟨0, 0, .ro, 0, .asIs⟩, ⟨6, 1, .ro, 0, .asIs⟩]⟩,
   ⟨"BM_ERR_ADDR", 0x8, 1, 1, [⟨31, 0, .ro, 0, .asIs⟩]⟩,
   ⟨"BM_ERR_INFO", 0xC, 1, 1, [⟨5, 0, .ro, 0, .asIs⟩, ⟨6, 6, .ro, 0, .asIs⟩, ⟨9, 7, .ro, 0, .asIs⟩]⟩,
   ⟨"BM_INT", 0x10, 1, 1, [⟨0, 0, .w1c, 0, .asIs⟩, ⟨1, 1, .w1c, 0, .asIs⟩, ⟨2, 2, .w1c, 0, .asIs⟩, ⟨3, 3, .w1c, 0, .asIs⟩, ⟨4, 4, .w1c, 0, .asIs⟩]⟩,
   ⟨"BM_MRST", 0x14, 1, 1, [⟨5, 0, .ro, 0, .asIs⟩, ⟨6, 6, .ro, 0, .asIs⟩, ⟨11, 7, .ro, 0, .asIs⟩, ⟨12, 12, .ro, 0, .asIs⟩]⟩,
   ⟨"BM_JSTAT", 0x100, 0x4, 91, [⟨0, 0, .ro, 0, .asIs⟩, ⟨1, 1, .w1c, 0, .asIs⟩, ⟨2, 2, .ro, 0, .asIs⟩, ⟨3, 3, .ro, 0, .asIs⟩, ⟨31, 16, .ro, 0, .asIs⟩]⟩,
   ⟨"BM_WAIT", 0x300, 0x4, 48, [⟨15, 0, .rc, 0, .asIs⟩]⟩]

/-- The window of bus matrix (R512). -/
def bmRows : List RegRow :=
  bmRows0 ++ counterRows "BM_CNT" 0x800 12

/-- Registers of the window of NVM (R512), part 0. -/
def nvRows0 : List RegRow :=
  [⟨"NV_STATUS", 0x0, 1, 1, [⟨2, 0, .ro, 0, .asIs⟩, ⟨3, 3, .ro, 0, .asIs⟩, ⟨4, 4, .ro, 0, .asIs⟩, ⟨5, 5, .ro, 0, .asIs⟩, ⟨6, 6, .ro, 0, .asIs⟩, ⟨7, 7, .ro, 0, .asIs⟩, ⟨8, 8, .ro, 0, .asIs⟩, ⟨9, 9, .ro, 0, .asIs⟩, ⟨13, 10, .ro, 0, .asIs⟩, ⟨31, 16, .ro, 0, .asIs⟩]⟩,
   ⟨"NV_FLASH", 0x4, 1, 1, [⟨4, 0, .ro, 0, .asIs⟩, ⟨8, 5, .ro, 0, .asIs⟩, ⟨9, 9, .ro, 0, .asIs⟩]⟩,
   ⟨"NV_FW", 0x8, 1, 1, [⟨31, 0, .ro, 0, .asIs⟩]⟩,
   ⟨"NV_FOOT", 0xC, 1, 1, [⟨31, 0, .ro, 0, .asIs⟩]⟩,
   ⟨"NV_REMAP", 0x10, 1, 1, [⟨0, 0, .w1s, 0, .asIs⟩, ⟨1, 1, .w1s, 0, .asIs⟩]⟩,
   ⟨"NV_ADDR", 0x20, 1, 1, [⟨31, 0, .rw, 0, .asIs⟩]⟩,
   ⟨"NV_LEN", 0x24, 1, 1, [⟨8, 0, .rw, 0x100, (.rangeElse 1 256 256)⟩]⟩,
   ⟨"NV_CMD", 0x28, 1, 1, [⟨2, 0, .wo, 0, .asIs⟩]⟩,
   ⟨"NV_INT", 0x2C, 1, 1, [⟨0, 0, .w1c, 0, .asIs⟩, ⟨1, 1, .w1c, 0, .asIs⟩, ⟨2, 2, .w1c, 0, .asIs⟩]⟩,
   ⟨"NV_BUF", 0x100, 0x4, 64, [⟨31, 0, .rw, 0, .asIs⟩]⟩]

/-- The window of NVM (R512). -/
def nvRows : List RegRow :=
  nvRows0 ++ counterRows "NV_CNT" 0x200 6

/-- Registers of the window of fuses (R512), part 0. -/
def fuRows0 : List RegRow :=
  [⟨"FU_KEYDIG", 0x0, 0x4, 12, [⟨31, 0, .ro, 0, .asIs⟩]⟩,
   ⟨"FU_ROLE", 0x30, 1, 1, [⟨4, 0, .ro, 0, .asIs⟩, ⟨9, 5, .ro, 0, .asIs⟩, ⟨14, 10, .ro, 0, .asIs⟩, ⟨19, 15, .ro, 0, .asIs⟩, ⟨24, 20, .ro, 0, .asIs⟩, ⟨29, 25, .ro, 0, .asIs⟩]⟩,
   ⟨"FU_PROT", 0x34, 1, 1, [⟨0, 0, .ro, 0, .asIs⟩, ⟨1, 1, .ro, 0, .asIs⟩]⟩,
   ⟨"FU_WP", 0x40, 0x4, 4, [⟨11, 0, .ro, 0, .asIs⟩, ⟨23, 12, .ro, 0, .asIs⟩, ⟨24, 24, .ro, 0, .asIs⟩]⟩,
   ⟨"FU_MAC_LO", 0x50, 1, 1, [⟨31, 0, .ro, 0, .asIs⟩]⟩,
   ⟨"FU_MAC_HI", 0x54, 1, 1, [⟨15, 0, .ro, 0, .asIs⟩]⟩,
   ⟨"FU_DIE_LO", 0x58, 1, 1, [⟨31, 0, .ro, 0, .asIs⟩]⟩,
   ⟨"FU_DIE_HI", 0x5C, 1, 1, [⟨31, 0, .ro, 0, .asIs⟩]⟩,
   ⟨"FU_STATUS", 0x60, 1, 1, [⟨0, 0, .ro, 0, .asIs⟩, ⟨1, 1, .ro, 0, .asIs⟩]⟩]

/-- The window of fuses (R512). -/
def fuRows : List RegRow :=
  fuRows0

/-- Registers of the window of Tollhouse (R512), part 0. -/
def thRows0 : List RegRow :=
  [⟨"TH_PSTATE", 0x800, 1, 1, [⟨2, 0, .ro, 0, .asIs⟩, ⟨3, 3, .ro, 0, .asIs⟩, ⟨4, 4, .ro, 0, .asIs⟩, ⟨5, 5, .ro, 0, .asIs⟩, ⟨13, 8, .ro, 0, .asIs⟩]⟩,
   ⟨"TH_PCTRL", 0x804, 1, 1, [⟨2, 0, .rw, 4, (.ignoreAbove 4)⟩, ⟨6, 4, .rw, 4, (.rangeElse 0 4 4)⟩, ⟨8, 8, .rw, 1, .asIs⟩]⟩,
   ⟨"TH_HTRK", 0x810, 1, 1, [⟨1, 0, .rw, 0, .asIs⟩, ⟨13, 4, .rw, 0x12C, .asIs⟩, ⟨26, 14, .rw, 0xCE4, .asIs⟩]⟩,
   ⟨"TH_HTRK_STAT", 0x814, 1, 1, [⟨12, 0, .ro, 0x4B0, .asIs⟩, ⟨26, 16, .ro, 0, .asIs⟩]⟩,
   ⟨"TH_PINT", 0x818, 1, 1, [⟨0, 0, .w1c, 0, .asIs⟩, ⟨1, 1, .w1c, 0, .asIs⟩, ⟨2, 2, .w1c, 0, .asIs⟩, ⟨3, 3, .w1c, 0, .asIs⟩, ⟨4, 4, .w1c, 0, .asIs⟩]⟩,
   ⟨"TH_PLAST", 0x81C, 1, 1, [⟨23, 0, .ro, 0, .asIs⟩, ⟨26, 24, .ro, 0, .asIs⟩, ⟨29, 27, .ro, 0, .asIs⟩]⟩,
   ⟨"TH_PLL", 0x840, 0x4, 45, [⟨0, 0, .ro, 0, .asIs⟩, ⟨6, 1, .ro, 0, .asIs⟩, ⟨7, 7, .w1c, 0, .asIs⟩, ⟨23, 8, .ro, 0, .asIs⟩]⟩,
   ⟨"TH_STATUS", 0x0, 1, 1, [⟨0, 0, .ro, 0, .asIs⟩, ⟨1, 1, .ro, 0, .asIs⟩, ⟨2, 2, .ro, 0, .asIs⟩, ⟨3, 3, .ro, 0, .asIs⟩, ⟨4, 4, .ro, 0, .asIs⟩]⟩,
   ⟨"TH_TSD", 0x4, 1, 1, [⟨11, 0, .rw, 0x910, (.rangeElse 1600 2400 2320)⟩, ⟨21, 12, .rw, 0x140, .asIs⟩, ⟨22, 22, .rw, 0, .asIs⟩]⟩,
   ⟨"TH_TSD_REC_w0", 0x8, 1, 1, [⟨11, 0, .ro, 0, .asIs⟩, ⟨15, 12, .ro, 0, .asIs⟩, ⟨19, 16, .ro, 0, .asIs⟩, ⟨20, 20, .ro, 0, .asIs⟩, ⟨21, 21, .ro, 0, .asIs⟩]⟩,
   ⟨"TH_TSD_REC_w1", 0xC, 1, 1, [⟨31, 0, .ro, 0, .asIs⟩]⟩,
   ⟨"TH_UPTIME", 0x10, 1, 1, [⟨31, 0, .ro, 0, .asIs⟩]⟩,
   ⟨"TH_INT", 0x14, 1, 1, [⟨0, 0, .w1c, 0, .asIs⟩, ⟨1, 1, .w1c, 0, .asIs⟩, ⟨2, 2, .w1c, 0, .asIs⟩, ⟨3, 3, .w1c, 0, .asIs⟩, ⟨4, 4, .w1c, 0, .asIs⟩, ⟨5, 5, .w1c, 0, .asIs⟩, ⟨6, 6, .w1c, 0, .asIs⟩]⟩,
   ⟨"TH_WAKE", 0x18, 1, 1, [⟨15, 0, .rw, 0, .asIs⟩]⟩,
   ⟨"TH_SLEEP", 0x1C, 1, 1, [⟨15, 0, .rw, 0x3E8, (.raiseTo 10)⟩]⟩,
   ⟨"TH_VPD", 0x20, 1, 1, [⟨13, 0, .rw, 0xCE4, .asIs⟩]⟩]

/-- Registers of the window of Tollhouse (R512), part 1. -/
def thRows1 : List RegRow :=
  [⟨"TH_JS", 0x40, 0x4, 12, [⟨11, 0, .ro, 0, .asIs⟩, ⟨12, 12, .ro, 0, .asIs⟩]⟩,
   ⟨"TH_ZONE", 0x80, 0x4, 9, [⟨11, 0, .ro, 0, .asIs⟩, ⟨12, 12, .ro, 0, .asIs⟩]⟩,
   ⟨"HK_CTRL", 0x1000, 1, 1, [⟨0, 0, .rw, 1, .asIs⟩, ⟨1, 1, .rw, 0, .asIs⟩, ⟨6, 2, .rw, 0, (.clampTo 16)⟩, ⟨23, 8, .rw, 0x3E8, .asIs⟩]⟩,
   ⟨"HK_STATUS", 0x1004, 1, 1, [⟨3, 0, .ro, 0, .asIs⟩, ⟨4, 4, .ro, 0, .asIs⟩, ⟨5, 5, .ro, 0, .asIs⟩, ⟨6, 6, .ro, 0, .asIs⟩, ⟨23, 8, .ro, 0, .asIs⟩]⟩,
   ⟨"HK_URG", 0x1008, 1, 1, [⟨4, 0, .rw, 0, .asIs⟩, ⟨6, 5, .rw, 0, .asIs⟩, ⟨10, 7, .rw, 0, .asIs⟩, ⟨11, 11, .rw, 0, .asIs⟩, ⟨12, 12, .wo, 0, .asIs⟩]⟩,
   ⟨"HK_URG_RES", 0x100C, 1, 1, [⟨31, 0, .ro, 0, .asIs⟩]⟩,
   ⟨"HK_URG_STAT", 0x1010, 1, 1, [⟨0, 0, .w1c, 0, .asIs⟩, ⟨1, 1, .ro, 0, .asIs⟩, ⟨2, 2, .ro, 0, .asIs⟩, ⟨3, 3, .ro, 0, .asIs⟩]⟩,
   ⟨"HK_CAL_w0", 0x1020, 0x8, 4, [⟨31, 0, .ro, 0, .asIs⟩]⟩,
   ⟨"HK_CAL_w1", 0x1024, 0x8, 4, [⟨31, 0, .ro, 0x1000000, .asIs⟩]⟩,
   ⟨"HK_THERM_w0", 0x1040, 0x8, 4, [⟨23, 0, .rw, 0x2710, .asIs⟩]⟩,
   ⟨"HK_THERM_w1", 0x1044, 0x8, 4, [⟨15, 0, .rw, 0xD6B, .asIs⟩]⟩,
   ⟨"HK_DIODE", 0x1060, 0x4, 8, [⟨16, 0, .rw, 0x1020C, (.rangeElse 65536 72090 66060)⟩]⟩,
   ⟨"HK_ENTRY_w0", 0x1100, 0x20, 16, [⟨4, 0, .rw, 0, .asIs⟩, ⟨6, 5, .rw, 0, .asIs⟩, ⟨10, 7, .rw, 0, .asIs⟩, ⟨11, 11, .rw, 1, .asIs⟩, ⟨12, 12, .rw, 0, .asIs⟩, ⟨15, 13, .rw, 0, .asIs⟩, ⟨23, 16, .rw, 1, (.zeroTo 1)⟩]⟩,
   ⟨"HK_ENTRY_w1", 0x1104, 0x20, 16, [⟨31, 0, .rw, 0x7FFFFFFF, .asIs⟩]⟩,
   ⟨"HK_ENTRY_w2", 0x1108, 0x20, 16, [⟨31, 0, .rw, 0x80000000, .asIs⟩]⟩,
   ⟨"HK_ENTRY_w3", 0x110C, 0x20, 16, [⟨30, 0, .rw, 0x7FFFFFFF, .asIs⟩]⟩]

/-- Registers of the window of Tollhouse (R512), part 2. -/
def thRows2 : List RegRow :=
  [⟨"HK_ENTRY_w4", 0x1110, 0x20, 16, [⟨15, 0, .rw, 0x10, .asIs⟩, ⟨19, 16, .rw, 0, .asIs⟩, ⟨23, 20, .rw, 0, .asIs⟩, ⟨27, 24, .rw, 0, .asIs⟩]⟩,
   ⟨"HK_ENTRY_w5", 0x1114, 0x20, 16, [⟨31, 0, .ro, 0, .asIs⟩]⟩,
   ⟨"HK_ENTRY_w6", 0x1118, 0x20, 16, [⟨31, 0, .ro, 0, .asIs⟩]⟩,
   ⟨"HK_ENTRY_w7", 0x111C, 0x20, 16, [⟨0, 0, .ro, 0, .asIs⟩, ⟨1, 1, .ro, 0, .asIs⟩, ⟨2, 2, .ro, 0, .asIs⟩, ⟨3, 3, .ro, 0, .asIs⟩, ⟨4, 4, .ro, 0, .asIs⟩, ⟨5, 5, .ro, 0, .asIs⟩, ⟨6, 6, .ro, 0, .asIs⟩, ⟨31, 16, .ro, 0, .asIs⟩]⟩]

/-- The window of Tollhouse (R512). -/
def thRows : List RegRow :=
  thRows0 ++ thRows1 ++ thRows2 ++ counterRows "THP_CNT" 0x900 8 ++ counterRows "TH_CNT" 0x100 8 ++ counterRows "HK_CNT" 0x1800 6

/-- Registers of the window of a span (R512), part 0. -/
def spRows0 : List RegRow :=
  [⟨"LZ_CTRL", 0x0, 1, 1, [⟨0, 0, .rw, 1, .asIs⟩, ⟨1, 1, .rw, 1, .asIs⟩, ⟨15, 8, .rw, 0x14, (.zeroTo 1)⟩]⟩,
   ⟨"LZ_STATUS", 0x4, 1, 1, [⟨0, 0, .ro, 0, .asIs⟩, ⟨1, 1, .ro, 0, .asIs⟩, ⟨2, 2, .ro, 0, .asIs⟩, ⟨3, 3, .ro, 0, .asIs⟩, ⟨4, 4, .ro, 0, .asIs⟩, ⟨5, 5, .ro, 0, .asIs⟩, ⟨6, 6, .ro, 1, .asIs⟩, ⟨23, 8, .ro, 0, .asIs⟩]⟩,
   ⟨"LZ_VHTR", 0x8, 1, 1, [⟨12, 0, .ro, 0, .asIs⟩]⟩,
   ⟨"LZ_VHCFG", 0xC, 1, 1, [⟨12, 0, .rw, 0xCE4, .asIs⟩, ⟨22, 13, .rw, 0x15E, .asIs⟩]⟩,
   ⟨"LZ_VHK", 0x10, 1, 1, [⟨15, 0, .rw, 0, .asIs⟩]⟩,
   ⟨"LZ_SLEW_F", 0x14, 1, 1, [⟨13, 0, .rw, 0x40, (.zeroTo 1)⟩, ⟨19, 16, .rw, 0, .asIs⟩]⟩,
   ⟨"LZ_SLEW_T", 0x18, 1, 1, [⟨11, 0, .rw, 0x10, (.zeroTo 1)⟩, ⟨19, 16, .rw, 0, .asIs⟩]⟩,
   ⟨"LZ_PARK", 0x1C, 1, 1, [⟨13, 0, .rw, 0x3E8, (.rangeElse 10 10000 1000)⟩]⟩,
   ⟨"LZ_INT", 0x20, 1, 1, [⟨0, 0, .w1c, 0, .asIs⟩, ⟨1, 1, .w1c, 0, .asIs⟩, ⟨2, 2, .w1c, 0, .asIs⟩, ⟨3, 3, .w1c, 0, .asIs⟩, ⟨4, 4, .w1c, 0, .asIs⟩, ⟨5, 5, .w1c, 0, .asIs⟩]⟩,
   ⟨"LZ_PM", 0x24, 1, 1, [⟨15, 0, .ro, 0, .asIs⟩, ⟨31, 16, .ro, 0, .asIs⟩]⟩,
   ⟨"PR_CTRL", 0x10000, 0x20, 512, [⟨0, 0, .rw, 0, .asIs⟩, ⟨1, 1, .rw, 0, .asIs⟩]⟩,
   ⟨"PR_PARK", 0x10004, 0x20, 512, [⟨13, 0, .rw, 0, .asIs⟩, ⟨27, 16, .rw, 0, .asIs⟩]⟩,
   ⟨"PR_LIVE_A", 0x10008, 0x20, 512, [⟨13, 0, .ro, 0, .asIs⟩, ⟨27, 16, .ro, 0, .asIs⟩]⟩,
   ⟨"PR_LIVE_B", 0x1000C, 0x20, 512, [⟨13, 0, .ro, 0, .asIs⟩, ⟨27, 16, .ro, 0, .asIs⟩]⟩,
   ⟨"PR_STAGED_A", 0x10010, 0x20, 512, [⟨13, 0, .ro, 0, .asIs⟩, ⟨31, 31, .ro, 0, .asIs⟩]⟩,
   ⟨"PR_STAGED_B", 0x10014, 0x20, 512, [⟨13, 0, .ro, 0, .asIs⟩, ⟨31, 31, .ro, 0, .asIs⟩]⟩]

/-- Registers of the window of a span (R512), part 1. -/
def spRows1 : List RegRow :=
  [⟨"PR_OUT", 0x10018, 0x20, 512, [⟨13, 0, .ro, 0, .asIs⟩, ⟨27, 16, .ro, 0, .asIs⟩, ⟨28, 28, .ro, 0, .asIs⟩, ⟨29, 29, .ro, 0, .asIs⟩, ⟨30, 30, .ro, 0, .asIs⟩, ⟨31, 31, .ro, 1, .asIs⟩]⟩,
   ⟨"PR_TARGET", 0x1001C, 0x20, 512, [⟨15, 0, .ro, 0, .asIs⟩]⟩,
   ⟨"TE_CTRL", 0x4000, 1, 1, [⟨0, 0, .rw, 0, .asIs⟩, ⟨1, 1, .rw, 1, .asIs⟩, ⟨2, 2, .rw, 0, .asIs⟩]⟩,
   ⟨"TE_LOOP", 0x4004, 1, 1, [⟨13, 0, .rw, 0xC8, (.rangeElse 50 10000 200)⟩]⟩,
   ⟨"TE_GAIN", 0x4008, 1, 1, [⟨15, 0, .rw, 0x40, .asIs⟩, ⟨31, 16, .rw, 0x400, .asIs⟩]⟩,
   ⟨"TE_KD", 0x400C, 1, 1, [⟨15, 0, .rw, 0, .asIs⟩]⟩,
   ⟨"TE_DITHER", 0x4010, 1, 1, [⟨7, 0, .rw, 8, (.zeroTo 1)⟩]⟩,
   ⟨"TE_LIMIT", 0x4014, 1, 1, [⟨13, 0, .rw, 0x200, .asIs⟩, ⟨31, 14, .rw, 0x2000, .asIs⟩]⟩,
   ⟨"TE_DARK", 0x4018, 1, 1, [⟨15, 0, .rw, 0x28, (.raiseTo 20)⟩]⟩,
   ⟨"TE_OSETTLE", 0x401C, 1, 1, [⟨15, 0, .rw, 0x7D0, (.raiseTo 80)⟩]⟩,
   ⟨"TE_RESID", 0x4020, 1, 1, [⟨13, 0, .rw, 0x100, .asIs⟩, ⟨21, 14, .rw, 0x10, (.zeroTo 1)⟩]⟩,
   ⟨"TE_FILT", 0x4024, 1, 1, [⟨1, 0, .rw, 1, .asIs⟩]⟩,
   ⟨"TE_PSEL", 0x4040, 1, 1, [⟨8, 0, .rw, 0, .asIs⟩, ⟨9, 9, .rw, 0, .asIs⟩, ⟨11, 10, .wo, 0, .asIs⟩, ⟨12, 12, .ro, 0, .asIs⟩]⟩,
   ⟨"TE_PCFG0", 0x4044, 1, 1, [⟨1, 0, .rw, 0, .asIs⟩]⟩,
   ⟨"TE_PCFG1", 0x4048, 1, 1, [⟨17, 0, .rw, 0, .asIs⟩, ⟨31, 18, .rw, 0, .asIs⟩]⟩,
   ⟨"TE_PCFG2", 0x404C, 1, 1, [⟨15, 0, .rw, 0x1000, .asIs⟩, ⟨31, 16, .rw, 0, .asIs⟩]⟩]

/-- Registers of the window of a span (R512), part 2. -/
def spRows2 : List RegRow :=
  [⟨"TE_PCFG3", 0x4050, 1, 1, [⟨15, 0, .rw, 0x100, .asIs⟩]⟩,
   ⟨"TE_PSTAT0", 0x4054, 1, 1, [⟨17, 0, .ro, 0, .asIs⟩, ⟨31, 18, .ro, 0, .asIs⟩]⟩,
   ⟨"TE_PSTAT1", 0x4058, 1, 1, [⟨31, 0, .ro, 0, .asIs⟩]⟩,
   ⟨"TE_PSTAT2", 0x405C, 1, 1, [⟨17, 0, .ro, 0, .asIs⟩, ⟨18, 18, .ro, 0, .asIs⟩, ⟨20, 19, .ro, 0, .asIs⟩, ⟨21, 21, .ro, 0, .asIs⟩, ⟨22, 22, .ro, 0, .asIs⟩]⟩,
   ⟨"TE_STATUS_A", 0x4100, 1, 1, [⟨0, 0, .ro, 0, .asIs⟩, ⟨10, 1, .ro, 0, .asIs⟩, ⟨20, 11, .ro, 0, .asIs⟩]⟩,
   ⟨"TE_STATUS_B", 0x4104, 1, 1, [⟨0, 0, .ro, 0, .asIs⟩, ⟨10, 1, .ro, 0, .asIs⟩, ⟨20, 11, .ro, 0, .asIs⟩]⟩,
   ⟨"TE_INT_A", 0x4108, 1, 1, [⟨0, 0, .w1c, 0, .asIs⟩, ⟨1, 1, .w1c, 0, .asIs⟩, ⟨2, 2, .w1c, 0, .asIs⟩, ⟨3, 3, .w1c, 0, .asIs⟩]⟩,
   ⟨"TE_INT_B", 0x410C, 1, 1, [⟨0, 0, .w1c, 0, .asIs⟩, ⟨1, 1, .w1c, 0, .asIs⟩, ⟨2, 2, .w1c, 0, .asIs⟩, ⟨3, 3, .w1c, 0, .asIs⟩]⟩,
   ⟨"TE_MON", 0x5000, 0x4, 512, [⟨14, 0, .rw, 0xC80, (.nearest 8 25600)⟩, ⟨16, 15, .rw, 0, .asIs⟩, ⟨18, 17, .rw, 0, .asIs⟩, ⟨20, 19, .rw, 0, .asIs⟩, ⟨21, 21, .rw, 1, .asIs⟩]⟩,
   ⟨"CAL_SPAN_CFG", 0x8000, 1, 1, [⟨2, 0, .rw, 0, .asIs⟩]⟩,
   ⟨"CAL_SPAN_STATUS", 0x8004, 1, 1, [⟨2, 0, .ro, 0, .asIs⟩, ⟨3, 3, .ro, 0, .asIs⟩, ⟨12, 4, .ro, 0, .asIs⟩]⟩,
   ⟨"CAL_BW", 0x8008, 1, 1, [⟨31, 0, .ro, 0x80808080, .asIs⟩]⟩,
   ⟨"CAL_EXT", 0x800C, 1, 1, [⟨7, 0, .rw, 0x10, (.zeroTo 1)⟩, ⟨15, 8, .rw, 0x10, .asIs⟩, ⟨23, 16, .rw, 8, .asIs⟩]⟩,
   ⟨"CAL_EXT2", 0x8010, 1, 1, [⟨15, 0, .rw, 0x64, .asIs⟩, ⟨31, 16, .rw, 0x7D0, .asIs⟩]⟩,
   ⟨"CAL_OFS", 0x8014, 1, 1, [⟨11, 0, .rw, 0x640, (.rangeElse 160 1600 1600)⟩]⟩,
   ⟨"CAL_SWEEP", 0x8018, 1, 1, [⟨14, 0, .rw, 0x640, (.rangeElse 400 25600 1600)⟩]⟩]

/-- Registers of the window of a span (R512), part 3. -/
def spRows3 : List RegRow :=
  [⟨"CAL_OTRIM_w0", 0x9000, 0x8, 512, [⟨4, 0, .ro, 0, .asIs⟩, ⟨9, 5, .ro, 0, .asIs⟩, ⟨14, 10, .ro, 0, .asIs⟩, ⟨19, 15, .ro, 0, .asIs⟩, ⟨24, 20, .ro, 0, .asIs⟩, ⟨29, 25, .ro, 0, .asIs⟩]⟩,
   ⟨"CAL_OTRIM_w1", 0x9004, 0x8, 512, [⟨4, 0, .ro, 0, .asIs⟩, ⟨9, 5, .ro, 0, .asIs⟩]⟩,
   ⟨"TE_SAMPLE_w0", 0x20000, 0x8, 512, [⟨31, 0, .ro, 0, .asIs⟩]⟩,
   ⟨"TE_SAMPLE_w1", 0x20004, 0x8, 512, [⟨31, 0, .ro, 0, .asIs⟩]⟩]

/-- The window of a span (R512). -/
def spRows : List RegRow :=
  spRows0 ++ spRows1 ++ spRows2 ++ spRows3 ++ counterRows "LZ_CNT" 0x100 10 ++ counterRows "TE_CNT" 0x4200 11

end Sys2Proof.Machine
end

