-- ==== Sys2Proof/Machine/Store.lean ====
section
/-!
DEFINITION. Machine/Store.lean: sparse plain-data tables. A table is a list of (key, value) pairs in ONE canonical form:
keys strictly rising, and no entry equal to what an unlisted key reads as. Registers, memories and per-lane, per-pier
and per-port records are all held so; equal tables are equal data.
-/
namespace Sys2Proof.Machine

/-- What a key reads as: its entry, or the default of the key. -/
def cellGet {α : Type} (d : Nat → α) : List (Nat × α) → Nat → α
  | [], k => d k
  | (k', v) :: t, k => if k = k' then v else cellGet d t k

/-- The table with `k` reading as `v`; writing what an unlisted key reads as removes the entry. -/
def cellPut {α : Type} [DecidableEq α] (d : Nat → α) : List (Nat × α) → Nat → α → List (Nat × α)
  | [], k, v => if v = d k then [] else [(k, v)]
  | (k', v') :: t, k, v =>
    if k < k' then (if v = d k then (k', v') :: t else (k, v) :: (k', v') :: t)
    else if k = k' then (if v = d k then t else (k, v) :: t)
    else (k', v') :: cellPut d t k v

/-- Every key of the table lies above `lo`. -/
def cellAbove {α : Type} (lo : Nat) : List (Nat × α) → Bool
  | [] => true
  | (k, _) :: t => decide (lo < k) && cellAbove lo t

/-- The canonical form: keys strictly rising, no entry equal to the default of its key. -/
def cellWf {α : Type} [DecidableEq α] (d : Nat → α) : List (Nat × α) → Bool
  | [] => true
  | (k, v) :: t => cellAbove k t && decide (v ≠ d k) && cellWf d t

/-- The table with every entry whose key satisfies `p` back at its default. -/
def cellDrop {α : Type} (p : Nat → Bool) (l : List (Nat × α)) : List (Nat × α) := l.filter (fun e => ! p e.1)

end Sys2Proof.Machine
end

