-- ==== Sys2Proof/Machine/State.lean ====
section
/-!
DEFINITION. Machine/State.lean: the state of the GL5184 as plain data. Every register of the index (R512) is one word of
`regs`, under its deck-view address; the memories of the deck view are `mem`, the flash is `flash`; what the spec gives the
blocks beside registers and memories stands in one structure for each block.
-/
namespace Sys2Proof.Machine

/-- What a message carries of its frame: the port it arrived on, its encapsulation (0 Ethernet, 1 UDP over IPv4, 2 UDP
over IPv6), addresses, tags (TPID and TCI, 32 bits each) and UDP ports (R31, R34). -/
structure Route where
  port : Nat
  encap : Nat
  dstMac : Nat
  srcMac : Nat
  tags : List Nat
  srcIp : Nat
  dstIp : Nat
  srcPort : Nat
  dstPort : Nat
  deriving DecidableEq, Repr

/-- A received frame in the packet buffer (R89, R92): its bytes before the FCS and its arrival time in network-time
nanoseconds (R23). -/
structure Frame where
  bytes : List Byte
  arrival : Nat
  deriving DecidableEq, Repr

/-- A frame the device has put on a port: addresses, tags, encapsulation and payload as R34 builds them. -/
structure OutFrame where
  port : Nat
  prio : Nat
  dstMac : Nat
  srcMac : Nat
  tags : List Nat
  encap : Nat
  srcIp : Nat
  dstIp : Nat
  srcPort : Nat
  dstPort : Nat
  udpChecksum : Nat
  payload : List Byte
  deriving DecidableEq, Repr

/-- A PTP message handed to network time (R97): its route, its arrival time and the message bytes. -/
structure PtpMsg where
  route : Route
  arrival : Nat
  bytes : List Byte
  deriving DecidableEq, Repr

/-- A PTP frame whose priority a received pause holds (R94): one to be forwarded on the ring (R162), or a Delay_Req with its
sequenceId (R151). -/
inductive PtpOut where
  | ring (m : PtpMsg)
  | delayReq (f : OutFrame) (seq : Nat)
  deriving DecidableEq, Repr

/-- What one control port holds beside its registers: the frames waiting for a parse engine, oldest first; its firmware
hand-off queue (R98); for each priority the end of a received pause in quarter-nanoseconds (R94); the priorities it has
told its link partner to pause (R93); the PTP frames that a pause holds, oldest first. -/
structure PortState where
  frames : List Frame
  fwq : List Frame
  pauseEnd : List (Nat × Nat)
  xoff : List (Nat × Bool)
  ptpq : List PtpOut
  deriving DecidableEq, Repr

/-- A port after reset. -/
def PortState.init : PortState := ⟨[], [], [], [], []⟩

/-- What the first pass of a fragmented datagram decides (R103). -/
inductive FragDecision where
  | undecided | alp | discard | firmware | defaultAction
  deriving DecidableEq, Repr

/-- One fragment held in an entry: the port that received it, its offset and data in the datagram's payload, and its frame. -/
structure Fragment where
  port : Nat
  off : Nat
  more : Bool
  data : List Byte
  frame : Frame
  deriving DecidableEq, Repr

/-- An entry of the fragment table (R102 to R106); `ext` is the length of the extension headers that stand between the fragment header
and the UDP header, known once the first fragment is parsed. -/
structure FragEntry where
  src : Nat
  dst : Nat
  ident : Nat
  proto : Nat
  v6 : Bool
  ext : Nat
  generation : Nat
  bank : Nat
  decision : FragDecision
  policer : Nat
  pieces : List Fragment
  poisoned : Bool
  deadline : Nat
  deriving DecidableEq, Repr

/-- A token bucket (R112, R139): its level at the instant `stamp` of `elapsed`, in units of 1/500,000 byte, so
that a rate unit of 64 kb/s adds one unit in each quarter-nanosecond. -/
structure Bucket where
  level : Int
  stamp : Nat
  deriving DecidableEq, Repr

/-- A classified message that waits for admission (stage 4 of R22): how it came, its arrival in network-time
nanoseconds, what its rule gives (R108), its bytes, and the frame it came in. -/
structure Msg where
  route : Route
  arrival : Nat
  partner : Nat
  laneBase : Nat
  laneCount : Nat
  perm : Nat
  bytes : List Byte
  frame : Frame
  deriving DecidableEq, Repr

/-- The Tollgate beside its registers: the rule memory (1,024 entries of 16 words in each of two banks, R107), the
policers' buckets, the fragment table, and the messages it has handed on. -/
structure Tollgate where
  rules : List (Nat × Word)
  buckets : List (Nat × Bucket)
  frags : List (Nat × Option FragEntry)
  retiringGen : Nat
  inbox : List Msg
  ptp : List PtpMsg
  deriving DecidableEq, Repr

/-- Where an accepted request stands (R121 and the stages of R22). -/
inductive ReqPhase where
  | queued      -- until its dispatch slot
  | routing     -- dispatched, with Keystone (stages 6 to 8)
  | staged      -- routed and distributed; released at its window
  | released    -- its window's strobe has fired
  deriving DecidableEq, Repr

/-- An accepted request in flight (R120): identity, content, booking and tag. Times are network-time nanoseconds. -/
structure Request where
  id : Nat
  lane : Nat
  partner : Nat
  typ : Nat
  seq : Nat
  echo : Nat
  words : List Word
  cells : Nat
  arrival : Nat
  tW : Nat
  entry : Nat
  wclass : Nat
  slot : Nat
  deliver : Nat
  tag : Nat
  crep : Bool
  dposs : Bool
  disturbed : Nat
  phase : ReqPhase
  deriving DecidableEq, Repr

/-- A booked dispatch slot of a request window; it stays, spent, when its request is cancelled (R133). -/
structure Slot where
  tW : Nat
  time : Nat
  partner : Nat
  taken : Bool
  deriving DecidableEq, Repr

/-- The reply a lane retains for one processed sequence number (R45), and what a request-status query says of it: the delivery time, whether
the request has been delivered, and the disturbed count (R73). -/
structure Retained where
  seq : Nat
  typ : Nat
  time : Nat
  body : List Byte
  deliver : Nat
  delivered : Bool
  disturbed : Nat
  deriving DecidableEq, Repr

/-- A held configuration write of a lane (R133): LN_CFG, LN_QUOTA and LN_PROMISE. -/
structure LaneCfg where
  cfg : Word
  quota : Word
  promise : Word
  deriving DecidableEq, Repr

/-- One lane (R42 to R53, R116, R134): its configuration and a held write of it, the expected SEQ, the device counter,
the total cells C, the finish tag, how its latest message came, the retained replies (newest first), the credit limit its
partner last saw, and its accepted and refused requests of this epoch. -/
structure Lane where
  cfg : LaneCfg
  held : Option LaneCfg
  expSeq : Nat
  devCnt : Nat
  c : Nat
  tag : Nat
  route : Option Route
  retained : List Retained
  shownL : Nat
  accepted : Nat
  refused : Nat
  deriving DecidableEq, Repr

/-- A lane after reset: the LN_CFG reset value (R512), nothing received. -/
def Lane.init : Lane := ⟨⟨0x00010400#32, 0, 0⟩, none, 0, 0, 0, 0, none, [], 0, 0, 0⟩

/-- A device message that waits on an egress shaper (R138). `counts` marks a reply that counts among its lane's four
unsent replies (R137); `stream` is set on TELEMETRY. -/
structure OutMsg where
  lane : Nat
  typ : Nat
  seq : Nat
  echo : Nat
  time : Nat
  credit : Nat
  body : List Byte
  route : Route
  counts : Bool
  owned : Bool
  stream : Option Nat
  deriving DecidableEq, Repr

/-- A partner's egress shaper with its two queues (R138, R139), oldest first. -/
structure Shaper where
  bucket : Bucket
  replies : List OutMsg
  telemetry : List OutMsg
  deriving DecidableEq, Repr

/-- A shaper after reset. -/
def Shaper.init : Shaper := ⟨⟨0, 0⟩, [], []⟩

/-- A telemetry stream of a partner (R77): the subscribing lane, the content mask and the period in ms; and, for lane
statistics, each lane's accepted and refused totals at the stream's previous record (R472). -/
structure Sub where
  lane : Nat
  content : Nat
  period : Nat
  base : List (Nat × (Nat × Nat))
  deriving DecidableEq, Repr

/-- Admission beside its registers: requests in flight in the order of acceptance, booked slots, the number of the next
acceptance, the start of the last request window whose slots have been classified, the windows of those classified that had a slot
booked at close_W and have not started (R170), and the device messages' egress. -/
structure Admission where
  inflight : List Request
  slots : List Slot
  nextId : Nat
  closed : Nat
  booked : List Nat
  starved : List Nat
  lanes : List (Nat × Lane)
  shapers : List (Nat × Shaper)
  subs : List (Nat × Option Sub)
  tx : Option OutFrame
  deriving DecidableEq, Repr

/-- The fault collector beside its registers (R450 to R464): each source's queue, oldest first; the deadline of each open
slot; the fatal conditions that hold; the instants (TH_UPTIME) of past recoveries; and the frequency ALIVE still has after a write of FREQ, with the instant
of the rising edge that ends it (R461). -/
structure Collector where
  queues : List (Nat × List (BitVec 64))
  windows : List (Nat × Nat)
  conditions : List (BitVec 64)
  recoveries : List Nat
  alive : Option (Nat × Nat)
  deriving DecidableEq, Repr

/-- Tally beside its registers: the words of the inactive snapshot bank by counter index times 2 (R471), the lifetime remainders below one unit (R476) and
the saturation mask, the sample count of histogram 9 (R477), and the network time of the snapshot TY_SNAP names (R530). -/
structure TallyState where
  bank : List (Nat × Word)
  remainders : List (Nat × Nat)
  mask : Nat
  sampled : Nat
  instant : Nat
  deriving DecidableEq, Repr

/-- The bus matrix beside its registers: each master's counter latch (address of word 0 and the latched bits [47:32],
R468), the lock in force (master, target, accesses made), the masters whose locked sequence is broken (R499), and the
word the last read returned. -/
structure Matrix where
  latches : List (Nat × Option (Nat × Nat))
  lock : Option (Nat × Nat × Nat)
  broken : List Nat
  readData : Word
  deriving DecidableEq, Repr

/-- A two-step Sync that waits for its Follow_Up (R150, R162): its port, sequenceId and sourcePortIdentity, its ingress
stamp t2 and correction in units of 2^-16 ns; where it was forwarded on the ring, the correction is its residence time. -/
structure PendingSync where
  port : Nat
  seqId : Nat
  source : Nat
  t2 : Int
  corr : Int
  accepted : Bool
  deriving DecidableEq, Repr

/-- A foreign master heard through Announce (R149): how its Announce came, the sourcePortIdentity, and the announced data set in the
order the best master clock algorithm compares it. -/
structure Foreign where
  route : Route
  source : Nat
  priority1 : Nat
  quality : Nat
  priority2 : Nat
  gm : Nat
  steps : Nat
  deriving DecidableEq, Repr

/-- A refused measurement (R157), its grandmaster and its offset in 2^-16 ns; or the persistence they make, with o_p in
whole nanoseconds. -/
structure Refused where
  gm : Nat
  off : Int
  deriving DecidableEq, Repr

/-- A step decision that awaits B (R160): B and the amount in ns, the grandmaster and o_p. -/
structure StepDecision where
  bound : Nat
  delta : Int
  gm : Nat
  op : Int
  deriving DecidableEq, Repr

/-- Network time and the lift schedule beside their registers: the servo's integral I (R153), when the last accepted
measurement was taken, the count toward LOCKED, the refused measurements of the persistence (newest first) and the
persistence itself, the two-step Syncs that wait, the foreign masters, the last Delay_Req and the delay samples, the
step decision, the latches of NT_TIME; and for the schedule the boundary from which windows of
the active bank occur and the last request window before it, the boundary of a pending swap with its N, the next window's start and entry, and
the latest window: its start, end, class, and whether it is a gap from its start (R170). -/
structure NetTime where
  integral : Int
  lastMeas : Option Nat
  lastGood : Nat
  lockCount : Nat
  refused : List Refused
  persist : Option Refused
  syncs : List PendingSync
  ring : List PendingSync
  masters : List Foreign
  dreqSeq : Nat
  dreqT3 : Option Int
  syncDelta : Option Int
  samples : List Int
  decision : Option StepDecision
  latchSL : Word
  latchSH : Word
  latchL32 : Word
  winFrom : Nat
  prevReq : Option Nat
  swapAt : Option (Nat × Nat)
  nextStart : Nat
  nextEntry : Nat
  lastWin : Option (Nat × Nat × Nat × Bool)
  deriving DecidableEq, Repr

/-- Network time after reset. -/
def NetTime.init : NetTime :=
  ⟨0, none, 0, 0, [], none, [], [], [], 0, none, none, [], none, 0, 0, 0, 0, none, none, 0, 0, none⟩

/-- The capture unit beside its registers (R484 to R493): the input queue (16-byte entries as four words, with the 48-bit network
time of the window close, oldest first), the stream selection in force (TC_STREAM as applied, R494), per-stream record counts for decimation, the latest release
at each stream's pier, each stream's last selected count, the releases whose settle time is awaited with the windows since (R490), when
D last rose, the ring position and the entries of the current segment, t_trig and whether its entry is placed, when armed was left, and the central
cycle of the latest trigger, and the streams that carry every window of their pier (R484). -/
structure Capture where
  queue : List (Nat × Nat × Nat × Nat × Nat)
  streams : List (Nat × Word)
  counts : List (Nat × Nat)
  release : List (Nat × Option Nat)
  lastCount : List (Nat × Option Nat)
  settle : List (Nat × Option (Nat × List (Nat × Nat)))
  lastRise : Nat
  pos : Nat
  fill : Nat
  trig : Option Nat
  trigPlaced : Bool
  deadFrom : Option Nat
  lastTrig : Option Nat
  cont : List (Nat × Bool)
  deriving DecidableEq, Repr

/-- The capture unit after reset. -/
def Capture.init : Capture := ⟨[], [], [], [], [], [], 0, 0, 0, none, false, none, none, []⟩

/-- A cell of the element map (R178): its two slots, its kind (0 absent, 1 plain, 2 dilated) and its piers. -/
structure Cell where
  up : Nat
  lo : Nat
  kind : Nat
  ia : Nat
  ib : Nat
  ou : Nat
  ol : Nat
  deriving DecidableEq, Repr

/-- The loaded element map (R175 to R178): its header, its cells stage by stage, and the attenuators of each port (0x7FFF
for none). -/
structure EMap where
  cls : Nat
  n : Nat
  np : Nat
  stages : Nat
  extIn : Nat
  extOut : Nat
  rb : Nat
  incMax : Nat
  cells : List (List Cell)
  ports : List (Nat × Nat)
  deriving DecidableEq, Repr

/-- A circuit of the projected state: output, input, its group if it is a member of one, and its path, the slot before
the first stage and after each stage. -/
structure Circuit where
  out : Nat
  inp : Nat
  group : Option Nat
  path : List Nat
  deriving DecidableEq, Repr

/-- A live group (R56, R199): number, input, member count and weights. -/
structure Group where
  num : Nat
  inp : Nat
  m : Nat
  weights : Word
  deriving DecidableEq, Repr

/-- Keystone beside its registers: the element map; the projected state (circuits, groups and every pier's target, R185);
the window of the latest request routed with the circuits before it and the outputs its requests have named, each with what
it was set to (R205); and the dispatched requests that wait, in dispatch order. -/
structure Keystone where
  map : Option EMap
  circuits : List Circuit
  groups : List Group
  targets : List (Nat × Nat)
  win : Nat
  base : List Circuit
  named : List (Nat × Option (Nat × Option Nat))
  queue : List Nat
  deriving DecidableEq, Repr

/-- Keystone with nothing loaded and nothing live. -/
def Keystone.init : Keystone := ⟨none, [], [], [], 0, [], [], []⟩

/-- A ramp of a pier toward its park codes (R243, R244): whether the fast channel ramps too, where each channel began (the
trim channel per deck), how many strobes it takes and how many have passed. -/
structure Ramp where
  both : Bool
  startF : Nat
  startTA : Nat
  startTB : Nat
  countF : Nat
  countT : Nat
  doneF : Nat
  doneT : Nat
  deriving DecidableEq, Repr

/-- A pier's abutment beside its PR_ registers: a step to the fast park code due at the next fast strobe (R244), a ramp in
progress, the strobe counts of R235, the code pair held by FREEZE (R321), and the fast code that the deglitcher holds at the output with the
instant at which it tracks again (R233). -/
structure Pier where
  step : Bool
  ramp : Option Ramp
  fastN : Nat
  trimN : Nat
  held : Option (Nat × Nat)
  glitch : Option (Nat × Nat)
  deriving DecidableEq, Repr

/-- A pier after reset. -/
def Pier.init : Pier := ⟨false, none, 0, 0, none, none⟩

/-- What one deck asks of a pier: the codes before the slew limiters; the phase Φ_TFF + u and the VHTR its trim code was
formed from (R228); the pre-emphasised code and the end of its drive (R232); the v its staged code was formed with (R222, R238). -/
structure Path where
  reqF : Nat
  reqT : Nat
  arg : Int
  vh : Nat
  boost : Option (Nat × Nat)
  stagedV : Int
  deriving DecidableEq, Repr

/-- A path after reset. -/
def Path.init : Path := ⟨0, 0, 0, 0, none, 0⟩

/-- A routed request that the spans linearize: its window, the targets each deck stages, and the passes that have run or
been abandoned, as 2 × span + deck (R222). -/
structure Routed where
  id : Nat
  tW : Nat
  a : Option (List (Nat × Nat))
  b : Option (List (Nat × Nat))
  done : List Nat
  deriving DecidableEq, Repr

/-- The linearizers and piers beside their registers and memories: abutments, paths (keyed 2 × pier + deck), routed requests in
dispatch order, the piers that wait for a connected deck in a planned handover, the spans at park until the next start
pass (R378), the last complete refresh pass and its DRV_MW (keyed 2 × span + deck), and each deck's filtered power estimates with 16 fraction bits
(keyed 64 × deck + region, R226); the window whose strobe is withheld (R238); the window whose codes the latest pass staged (R29); and the paths
(2 × pier + deck) whose fast code has changed since the power map was last updated (R226, source 1). -/
structure Drive where
  piers : List (Nat × Pier)
  paths : List (Nat × Path)
  routed : List Routed
  parked : List Nat
  refreshed : List (Nat × Nat)
  drvMw : List (Nat × Nat)
  power : List (Nat × Nat)
  withheld : Option Nat
  stagedWin : Option Nat
  moved : List Nat
  deriving DecidableEq, Repr

/-- The drive after reset. -/
def Drive.init : Drive := ⟨[], [], [], [], [], [], [], none, none, []⟩

/-- A mismatch that is unresolved in a span (R318): the pier, the channel, when it began, its mismatch-log entry, and whether
the replay in progress covers it (R319). -/
structure Mismatch where
  pier : Nat
  trim : Bool
  since : Nat
  entry : Nat
  covered : Bool
  deriving DecidableEq, Repr

/-- The decks beside their registers and memories: the spans in a planned handover with the piers still to switch and the deck
that hands over (R327), a write of NOM that waits for them (R311), the unresolved mismatches of each span, when each span's
replay began, the next mismatch-log entry, since when each pier has had RESID set on both decks (R324), and how many resynchronisations in a row
have ended with cause 11 (keyed 2 × span + deck, R331). -/
structure Decks where
  handing : List (Nat × (Nat × List Nat))
  nomPend : Option Nat
  mism : List (Nat × List Mismatch)
  replay : List (Nat × Nat)
  logPtr : Nat
  resid : List (Nat × Nat)
  failed : List (Nat × Nat)
  deriving DecidableEq, Repr

/-- The decks after reset. -/
def Decks.init : Decks := ⟨[], none, [], [], 0, [], []⟩

/-- A pier's monitor front ends and digitizers (R248 to R261): the window open now, if any, with its nominal begin and end in
quarter-nanoseconds, whether it is the loop's, its length, gains and filter, whether it runs in ratio mode, and its MONSEL; the lead-in counts once the diversity choice is made;
the choice of the previous window; windows still to be marked SETTLE; the latest release that changed the pier; a gain exchange
due (R280); a loop-field write that waits and the RRAT of a sweep that waits (R269); whether the window is touched by calibration (R260); whether the next update holds (R265); whether the pier samples continuously (R266);
whether calibration holds its front ends now, and when its latest loop window closed (R377). -/
structure Mon where
  opened : Bool
  start : Nat
  stop : Nat
  loop : Bool
  n : Nat
  gainA : Nat
  gainB : Nat
  filt : Nat
  ratio : Bool
  monsel : Nat
  lead : Option (Nat × Nat)
  choice : Nat
  prevChoice : Nat
  first : Bool
  settle : Nat
  release : Option Nat
  swap : Bool
  write : Option (Word × Word × Word × Word)
  rrat : Option Nat
  cal : Bool
  hold : Bool
  cont : Bool
  calHeld : Bool
  closedAt : Nat
  deriving DecidableEq, Repr

/-- A pier's monitors after reset: filter code 1 (TE_FILT), no window yet. -/
def Mon.init : Mon := ⟨false, 0, 0, true, 0, 0, 0, 1, false, 0, none, 0, 0, true, 0, none, false, none, none, false, false, false, false, 0⟩

/-- A pier's extinction observations (R301, R302): consecutive converged updates since the last release, the latest observation of each
state with its time, and the last candidate for D1 with its time. -/
structure Ext where
  conv : Nat
  u0 : Option (Int × Nat)
  u1 : Option (Int × Nat)
  cand : Option Int
  candAt : Nat
  deriving DecidableEq, Repr

/-- No observation yet. -/
def Ext.init : Ext := ⟨0, none, none, none, 0⟩

/-- The truss engines beside their registers and memories: the monitors of each pier; each span's P0 (R262) and period in force; the next entry
of each history (keyed 2 × span + deck); the piers whose trim table falls (R277); and the
extinction observations of each pier. -/
structure Truss where
  mons : List (Nat × Mon)
  p0 : List (Nat × Nat)
  period : List (Nat × Nat)
  hist : List (Nat × Nat)
  falling : List Nat
  ext : List (Nat × Ext)
  deriving DecidableEq, Repr

/-- The truss engines after reset. -/
def Truss.init : Truss := ⟨[], [], [], [], [], []⟩

/-- A step of a span's calibration sequencer (R295, R299, R323): an OFS compare or a sense-only reference compare of a pier, a digitizer
step (64 piers, MONA in the even steps, MONB in the odd ones), a MON step of one filter code, an EXT evaluation of 64 piers. -/
inductive CalStep where
  | compare (l : Nat)
  | reference (l : Nat)
  | digitizer (i : Nat)
  | bandwidth (f : Nat)
  | extinction (i : Nat)
  deriving DecidableEq, Repr

/-- A run of one kind in one span (R292, R297): its remaining steps in order, and when it last started a step or was triggered. -/
structure CalRun where
  steps : List CalStep
  since : Nat
  deriving DecidableEq, Repr

/-- The sequencer of a span: the step that runs, the deck that was connected when a compare began, and the runs that are due or suspended. -/
structure CalSeq where
  running : Option CalStep
  deck : Nat
  ofs : Option CalRun
  mon : Option CalRun
  ext : Option CalRun
  deriving DecidableEq, Repr

/-- A sequencer with nothing due. -/
def CalSeq.init : CalSeq := ⟨none, 0, none, none, none⟩

/-- Calibration beside its registers and memories: the sequencers; the recorded temperatures (keyed 6 × span + 2 × kind + 1 for zone 8, kinds in the
order OFS, MON, EXT); the consecutive disagreements of each item (keyed 16 × pier + item); whether results were accepted since the
write under way began; when the last write started since VTH; the span being swept with the spans to follow, and when its sweep began. -/
structure Cal where
  seqs : List (Nat × CalSeq)
  temps : List (Nat × Int)
  retry : List (Nat × Nat)
  newer : Bool
  lastStart : Option Nat
  sweep : Option (Nat × List Nat)
  sweepAt : Nat
  deriving DecidableEq, Repr

/-- Calibration after reset. -/
def Cal.init : Cal := ⟨[], [], [], false, none, none, 0⟩

/-- A transition between power states (R375). -/
inductive Move where
  | sleepStandby | standbyReady | readyHold | holdService | serviceHold | holdReady | readyStandby | standbySleep
  deriving DecidableEq, Repr

/-- A transition in progress: its step (for Ready → Hold the steps of R376), when it began and when its step began. -/
structure Moving where
  move : Move
  step : Nat
  began : Nat
  stepAt : Nat
  deriving DecidableEq, Repr

/-- Power beside its registers: the transition in progress, the attempts of each PLL to lock and when the present one began, whether RST_N is
held low, the heater rail request in half millivolts, the oscillator trim (R286), and when Sleep or Standby was entered (R439). -/
structure Power where
  moving : Option Moving
  tries : List (Nat × Option (Nat × Nat))
  rstLow : Bool
  request : Nat
  oscTrim : Nat
  restAt : Nat
  deriving DecidableEq, Repr

/-- Power after VTH is applied. -/
def Power.init : Power := ⟨none, [], false, 2400, 0, 0⟩

/-- A host flash operation (R416): its OP, address, data of a program, length, and whether it waits for the Tollhouse's operation (R418). -/
structure HostOp where
  op : Nat
  addr : Nat
  data : List Byte
  len : Nat
  waits : Bool
  deriving DecidableEq, Repr

/-- The boot beside its registers (R409): its step (0: none), the firmware candidates left, why it runs (0 cold, 1 warm, 2 recovery), the held
REGS pairs (R406), what the Tollhouse recorded at entry to retained Sleep (slot, and the SIG fields of firmware and footing image, R412), the
PARSE record, and the host's flash operation. -/
structure Boot where
  step : Nat
  candidates : List Nat
  reason : Nat
  held : List (Nat × Word)
  retained : Option (Nat × List Byte × List Byte)
  parse : List Byte
  host : Option HostOp
  deriving DecidableEq, Repr

/-- Nothing booted. -/
def Boot.init : Boot := ⟨0, [], 0, [], none, [], none⟩

/-- One flash operation of a Tollhouse job (R445). -/
inductive FlashOp where
  | erase (addr size : Nat)
  | program (addr : Nat) (bytes : List Byte)
  deriving DecidableEq, Repr

/-- What a Tollhouse job writes (R445). -/
inductive JobKind where
  | epoch | shutdown | checkpoint | record
  deriving DecidableEq, Repr

/-- A Tollhouse job: its kind, the body of its log record or the bytes of its calibration record, the calibration slot's address, whether it has begun,
and the flash operations still to start. -/
structure Job where
  kind : JobKind
  body : List Byte
  at_ : Nat
  begun : Bool
  ops : List FlashOp
  deriving DecidableEq, Repr

/-- What a sequence entry holds beside its registers (R434, R435): whether no valid result has come yet, the persistence counts of HI, LO and
RATE, and when its latest valid result came. -/
structure HkEntry where
  fresh : Bool
  hiN : Nat
  loN : Nat
  rateN : Nat
  last : Option Nat
  deriving DecidableEq, Repr

/-- An entry with no valid result yet. -/
def HkEntry.init : HkEntry := ⟨true, 0, 0, 0, none⟩

/-- An urgent request (R430): its input, gain code, mains cycles minus 1, open-wire check, and whether calibration made it (R425). -/
structure Urgent where
  input : Nat
  gain : Nat
  ncyc : Nat
  owd : Bool
  cal : Bool
  deriving DecidableEq, Repr

/-- The Tollhouse beside its registers (R420 to R446): the jobs waiting, oldest first, the job running and the operation that runs on the flash; where
the log goes on (sector, next offset in it, 4,096 where a sector must be begun, SSEQ and LSEQ to come); the housekeeping entries; when the cycle began and
whether one runs; the urgent request pending or running; the calibration conversions still to make and the raw ZERO readings per gain;
when a junction sensor was last valid; whether the log has been read since VTH (R481); when what the converter runs began (R423, R429). -/
structure Toll where
  jobs : List Job
  job : Option Job
  op : Option FlashOp
  sector : Nat
  offset : Nat
  sseq : Nat
  lseq : Nat
  entries : List (Nat × HkEntry)
  cycle : Option Nat
  cycling : Bool
  urgent : Option Urgent
  calQueue : List (Nat × Nat)
  zero : List (Nat × Int)
  jsSeen : Nat
  logRead : Bool
  began : Nat
  deriving DecidableEq, Repr

/-- The Tollhouse after VTH is applied. -/
def Toll.init : Toll := ⟨[], none, none, 0, 4096, 0, 0, [], none, false, none, [], [], 0, false, 0⟩


/-- What a deadline is for. A timer that is not listed is not armed. -/
inductive Timer where
  | pfcXoff (port prio : Nat)            -- R93: the next repetition of a pause frame
  | attempt (port : Nat)                 -- R87: the end of a 50 ms attempt
  | loss (port : Nat)                    -- R87: 2 ms after a loss of block lock
  | credit (lane : Nat)                  -- R53: 2 µs after L advanced
  | telemetry (partner stream : Nat)     -- R79: the next record of a stream
  | followUp (source seqId : Nat)        -- R150: 100 ms after a two-step Sync
  | ringFollowUp (source seqId : Nat)    -- R162: 10 ms after a forwarded two-step Sync
  | announce (source : Nat)              -- R149: announceReceiptTimeout
  | delayReq                             -- R151
  | snapshot                             -- R470
  | checkpoint                           -- R480
  | trigDrive (line : Nat)               -- R493
  | lock                                 -- R499
  | quiet                                -- R463
  | ramp (span : Nat)                    -- R243, R244: the end of a ramp to park
  | misWait (span : Nat)                 -- R319
  | copy (span : Nat)                    -- R328
  | probation (span : Nat)               -- R329
  | watchdog (deck : Nat)                -- R314
  | extRun (span : Nat)                  -- R303
  | wake                                 -- R439
  | tsd                                  -- R441: 3 ms after the decision
  deriving DecidableEq, Repr

/-- Whether an address lies in the request pool or in the Keystone and lane tables (R507, R510). -/
def inTables (a : Nat) : Bool := decide ((0x20000000 ≤ a ∧ a < 0x22800000) ∨ (0x30000000 ≤ a ∧ a < 0x30400000))

/-- Whether an address lies in the loop records of a span's deck (R268, R511). -/
def inLoops (a : Nat) : Bool :=
  decide ((0x40000000 ≤ a ∧ a < 0x64000000) ∧ ((0x200000 ≤ a % 0x1000000 ∧ a % 0x1000000 < 0x208000) ∨ (0x210000 ≤ a % 0x1000000 ∧ a % 0x1000000 < 0x218000)))

/-- A byte of a deck-view memory that nothing has written reads as zero (log entry 5), but KSCALE 256 and RRAT 4,096 of a loop record (R268); one of the pool
and the tables is a byte of a free word, since the manual does not define what the device keeps there (R510, log entry 60). -/
def memDefault (a : Nat) : Byte :=
  if inTables a then (Config.poolWord (a / 4)).extractLsb' (8 * (a % 4)) 8
  else if inLoops a then (if a % 64 = 0x25 then 0x10 else if a % 64 = 0x29 then 1 else 0)
  else 0

/-- A byte of flash that nothing has written reads erased (log entry 6). -/
def flashDefault (_ : Nat) : Byte := 0xFF#8

/-- Window bases by which an address is looked up in the register map (R507): base, size, rows. -/
def windows : List (Nat × Nat × List RegRow) :=
  [(tgBase, 0x10000, tgRows), (adBase, 0x10000, adRows), (ntBase, 0x10000, ntRows), (ksBase, 0x10000, ksRows),
   (dkBase, 0x10000, dkRows), (fcBase, 0x10000, fcRows), (tyBase, 0x10000, tyRows), (tcBase, 0x10000, tcRows),
   (bmBase, 0x10000, bmRows), (nvBase, 0x10000, nvRows), (fuBase, 0x10000, fuRows), (thBase, 0x10000, thRows)]

/-- Whether offset `o` is a word of the row. -/
def RegRow.hits (r : RegRow) (o : Nat) : Bool :=
  decide (r.off ≤ o ∧ (o - r.off) % r.stride = 0 ∧ (o - r.off) / r.stride < r.count)

/-- The row of the register map at a deck-view address, if a register is defined there (R512). -/
def rowAt (a : Nat) : Option RegRow :=
  if 0x40000000 ≤ a ∧ a < 0x64000000 then spRows.find? (fun r => r.hits (a % 0x1000000))
  else if 0xE0100000 ≤ a ∧ a < 0xE0160000 then cpRows.find? (fun r => r.hits (a % 0x10000))
  else match windows.find? (fun w => decide (w.1 ≤ a ∧ a < w.1 + w.2.1)) with
    | some (b, _, rows) => rows.find? (fun r => r.hits (a - b))
    | none => none

/-- The reset word of a row: its fields' reset values in their places. -/
def RegRow.resetWord (r : RegRow) : Word :=
  r.fields.foldl (fun w f => withBits w f.hi f.lo f.reset) 0

/-- The reset word of the register at an address; 0 where none is defined (R508). -/
def resetWord (a : Nat) : Word :=
  match rowAt a with
  | some r => r.resetWord
  | none => 0

/-- The machine's state. -/
structure State where
  /-- The commands that wait, first in first out. -/
  pending : List Instr
  /-- Physical time since VTH, in quarter-nanoseconds: the model's own clock for deadlines (log entry 1). -/
  elapsed : Nat
  /-- Network time (R143) in units of 2^-42 ns, in which R144 is exact. -/
  clock : Nat
  /-- The model's own counter of free values (log entry 2). -/
  free : Nat
  /-- The device epoch (R82). -/
  epoch : Nat
  /-- Every register of the index (R512), by deck-view address. -/
  regs : List (Nat × Word)
  /-- The memories of the deck view (R507), by address. -/
  mem : List Host.Cell
  /-- The SPI NOR flash (R390), by address. -/
  flash : List Host.Cell
  /-- Deadlines in quarter-nanoseconds of `elapsed`. -/
  timers : List (Timer × Nat)
  ports : List (Nat × PortState)
  tg : Tollgate
  ad : Admission
  nt : NetTime
  ks : Keystone
  dr : Drive
  dk : Decks
  te : Truss
  fc : Collector
  ty : TallyState
  tc : Capture
  bm : Matrix
  cal : Cal
  pw : Power
  bt : Boot
  th : Toll
  deriving DecidableEq, Repr

/-- The machine right after VTH is applied and reset (R422, R512): every register at its reset value. -/
def State.reset : State where
  pending := []
  elapsed := 0
  clock := 0
  free := 0
  epoch := 0
  regs := []
  mem := []
  flash := []
  timers := []
  ports := []
  tg := ⟨[], [], [], 0, [], []⟩
  ad := ⟨[], [], 0, 0, [], [], [], [], [], none⟩
  nt := NetTime.init
  ks := Keystone.init
  dr := Drive.init
  dk := Decks.init
  te := Truss.init
  fc := ⟨[], [], [], [], none⟩
  ty := ⟨[], [], 0, 0, 0⟩
  tc := Capture.init
  bm := ⟨[], none, [], 0⟩
  cal := Cal.init
  pw := Power.init
  bt := Boot.init
  th := Toll.init

/-- Why a step stops. -/
inductive Fault where
  /-- Raised by no meaning: the GL5184 reports what goes wrong in it to its collector and goes on (R447 to R466). Kept
  so that the type has a name for a stop; safe. -/
  | halted
  deriving DecidableEq, Repr

/-- Why a command is not run. -/
inductive Refusal where
  /-- A row whose meaning is not written yet. Safe: nothing is proved of it. -/
  | notModelled (mnemonic : String)
  deriving DecidableEq, Repr

/-- The outcome of a command. -/
abbrev Out := Host.Outcome State Fault Refusal

end Sys2Proof.Machine
end

