-- ==== Sys2Proof/Machine/Ops.lean ====
section
/-!
DEFINITION. Machine/Ops.lean: the named operations every meaning is written with: reading and writing a register word and
a field, event bits, block counters (R467), memory bytes, deadlines, the clock (R143 to R145), free values, and reporting
a fault to the collector (R448 to R450).
-/
namespace Sys2Proof.Machine

/-! ### Registers -/

/-- The word of the register at an address. -/
def rd (s : State) (a : Nat) : Word := cellGet resetWord s.regs a

/-- The state with the word of the register at an address replaced. -/
def wr (s : State) (a : Nat) (v : Word) : State := { s with regs := cellPut resetWord s.regs a v }

/-- A field of a register, as a number. -/
def getF (s : State) (f : Fld) : Nat := bitsOf (rd s f.addr) f.hi f.lo

/-- The state with a field of a register replaced by the low bits of `v`. -/
def setF (s : State) (f : Fld) (v : Nat) : State := wr s f.addr (withBits (rd s f.addr) f.hi f.lo v)

/-- A one-bit field as a truth value. -/
def flag (s : State) (f : Fld) : Bool := decide (getF s f ≠ 0)

/-- The state with a one-bit field set or cleared. -/
def setFlag (s : State) (f : Fld) (b : Bool) : State := setF s f (if b then 1 else 0)

/-- A hardware event sets its event bit (R10, W1C). -/
def event (s : State) (f : Fld) : State := setF s f 1

/-- A field as a two's complement number. -/
def getI (s : State) (f : Fld) : Int := signed (width f.hi f.lo) (getF s f)

/-! ### Block counters (R467) -/

/-- The count of the counter whose word 0 stands at `a`. -/
def count (s : State) (a : Nat) : Nat := (rd s a).toNat + 2 ^ 32 * bitsOf (rd s (a + 4)) 15 0

/-- The counter at `a` advanced by `n`; past 2^48 - 1 it wraps and sets WRAP (R467). -/
def bumpBy (s : State) (a n : Nat) : State :=
  let t := count s a + n
  let w1 := withBits (rd s (a + 4)) 15 0 (t / 2 ^ 32)
  let w1 := if 2 ^ 48 ≤ t then withBits w1 31 31 1 else w1
  wr (wr s a (BitVec.ofNat 32 t)) (a + 4) w1

/-- The counter at `a` advanced by 1. -/
def bump (s : State) (a : Nat) : State := bumpBy s a 1

/-! ### Lifetime counters and histograms (R475 to R477) -/

/-- Lifetime counter `i` advanced by `n`, saturating; on reaching the top its mask bit and TY_INT.LT_SAT are set (R476). -/
def lifeBy (s : State) (i n : Nat) : State :=
  let old := (rd s (aTY_LT i)).toNat
  let new := min (old + n) 0xFFFFFFFF
  let s1 := wr s (aTY_LT i) (BitVec.ofNat 32 new)
  if old < 0xFFFFFFFF ∧ new = 0xFFFFFFFF then
    setFlag (event { s1 with ty := { s1.ty with mask := s1.ty.mask ||| 2 ^ i } } TY_INT_LT_SAT) TY_STATUS_LT_SAT true
  else s1

/-- Lifetime counter `i` advanced by 1. -/
def life (s : State) (i : Nat) : State := lifeBy s i 1

/-- A lifetime counter kept in units of `unit` events: the remainder is held, and a whole unit advances it (R476). -/
def lifeRemainder (s : State) (i unit n : Nat) : State :=
  let r := cellGet (fun _ => 0) s.ty.remainders i + n
  let s1 := { s with ty := { s.ty with remainders := cellPut (fun _ => 0) s.ty.remainders i (r % unit) } }
  if r / unit = 0 then s1 else lifeBy s1 i (r / unit)

/-- One sample of lifetime histogram `h` in bin `b`: the bin advances by 1, saturating, with no event (R477). -/
def histogram (s : State) (h b : Nat) : State :=
  let a := aTY_HIST (64 * h + min b 63)
  wr s a (BitVec.ofNat 32 (min ((rd s a).toNat + 1) 0xFFFFFFFF))

/-! ### Memory and flash -/

/-- One byte of a deck-view memory. -/
def rdByte (s : State) (a : Nat) : Byte := cellGet memDefault s.mem a

/-- One byte of a deck-view memory written. -/
def wrByte (s : State) (a : Nat) (v : Byte) : State := { s with mem := cellPut memDefault s.mem a v }

/-- `n` bytes of memory from `a` upward, lowest address first. -/
def rdBytes (s : State) (a n : Nat) : List Byte := (List.range n).map (fun i => rdByte s (a + i))

/-- A byte string stored from `a` upward. -/
def wrBytes (s : State) (a : Nat) : List Byte → State
  | [] => s
  | b :: bs => wrBytes (wrByte s a b) (a + 1) bs

/-- The little-endian number in `n` bytes at `a` (R9). -/
def rdMem (s : State) (a n : Nat) : Nat := leVal (rdBytes s a n)

/-- A little-endian number stored in `n` bytes at `a` (R9). -/
def wrMem (s : State) (a n v : Nat) : State := wrBytes s a (leBytes n v)

/-- `n` bytes of flash from `a` upward. -/
def flashBytes (s : State) (a n : Nat) : List Byte :=
  (List.range n).map (fun i => cellGet flashDefault s.flash (a + i))

/-- Bytes programmed into flash: a program only clears bits (PRESUMED: SPI NOR flash; log entry 6). -/
def flashProgram (s : State) (a : Nat) : List Byte → State
  | [] => s
  | b :: bs =>
    flashProgram { s with flash := cellPut flashDefault s.flash a (cellGet flashDefault s.flash a &&& b) } (a + 1) bs

/-- Flash bytes `a` to `a + n - 1` erased: every byte reads 0xFF. -/
def flashErase (s : State) (a n : Nat) : State :=
  { s with flash := cellDrop (fun k => decide (a ≤ k ∧ k < a + n)) s.flash }

/-! ### Deadlines -/

/-- The deadline of a timer, if it is armed. -/
def timerAt (t : Timer) : List (Timer × Nat) → Option Nat
  | [] => none
  | (t', d) :: l => if t = t' then some d else timerAt t l

/-- The timer disarmed. -/
def disarm (s : State) (t : Timer) : State := { s with timers := s.timers.filter (fun e => decide (e.1 ≠ t)) }

/-- The timer armed for an instant of `elapsed`. -/
def armAt (s : State) (t : Timer) (at_ : Nat) : State :=
  { s with timers := (t, at_) :: s.timers.filter (fun e => decide (e.1 ≠ t)) }

/-- The timer armed to fall due in `n` nanoseconds. -/
def armIn (s : State) (t : Timer) (n : Nat) : State := armAt s t (s.elapsed + 4 * n)

/-- Whether the timer is armed and its deadline reached. -/
def due (s : State) (t : Timer) : Bool :=
  match timerAt t s.timers with
  | some d => decide (d ≤ s.elapsed)
  | none => false

/-- Whether the timer is armed. -/
def armed (s : State) (t : Timer) : Bool := (timerAt t s.timers).isSome

/-! ### The clock -/

/-- Network time in whole nanoseconds: seconds × 10^9 + nanoseconds (R143). -/
def netNs (s : State) : Nat := s.clock / 2 ^ 42

/-- Network time holds 48 bits of seconds (R143): a clock value modulo 2^48 s, in units of 2^-42 ns. -/
def wrapClock (c : Int) : Nat := (c % ((2 ^ 48 * 1000000000 * 2 ^ 42 : Nat) : Int)).toNat

/-- The 48-bit seconds of network time. -/
def netSec (s : State) : Nat := netNs s / 1000000000 % 2 ^ 48

/-- The nanoseconds word of network time. -/
def netNano (s : State) : Nat := netNs s % 1000000000

/-- The 32-bit stamp of a network time in nanoseconds (R145). -/
def stampOf (t : Nat) : Nat := t % 2 ^ 32

/-- The 32-bit stamp of now (R145). -/
def stamp (s : State) : Nat := stampOf (netNs s)

/-- A network time as ALP carries it: 32 bits of seconds, then 32 bits of nanoseconds (R13). -/
def alpTime (t : Nat) : List Byte := beBytes 4 (t / 1000000000 % 2 ^ 32) ++ beBytes 4 (t % 1000000000)

/-- The ALP time of a nanosecond count as one 64-bit number. -/
def alpWord (t : Nat) : Nat := t / 1000000000 % 2 ^ 32 * 2 ^ 32 + t % 1000000000

/-- A 32-bit seconds value that a partner gives, extended to 48 bits: the value nearest to now whose low 32 bits equal
it; of two equally near, the earlier (R143). The result is in seconds. -/
def extendSec (s : State) (sec : Nat) : Nat :=
  let cur := netNs s / 1000000000
  let base := cur - cur % 2 ^ 32 + sec
  -- candidates base - 2^32, base, base + 2^32; distance counted in seconds from the current time
  if base ≤ cur then
    (if base + 2 ^ 32 - cur < cur - base then base + 2 ^ 32 else base)
  else if 2 ^ 32 ≤ base ∧ cur - (base - 2 ^ 32) ≤ base - cur then base - 2 ^ 32
  else base

/-- The servo has a valid time: LOCKED, HOLDOVER or HELD_OFF (R154). -/
def timeValid (s : State) : Bool := decide (2 ≤ getF s NT_STATE_SERVO ∧ getF s NT_STATE_SERVO ≤ 4)

/-! ### Free values -/

/-- A fresh free value below `m` (log entry 2), and the state with the next one in front. -/
def fresh (s : State) (m : Nat) : Nat × State := (Config.freeNat s.free % m, { s with free := s.free + 1 })

/-- A quotient whose rounding the spec does not state: exact where it is exact; otherwise the integer below or the integer
above, which is a free value (log entry 2). A division by zero has a free value. -/
def divFree (s : State) (a : Int) (d : Nat) : Int × State :=
  if d = 0 then ((Config.freeNat s.free : Int), { s with free := s.free + 1 })
  else if a % (d : Int) = 0 then (a / (d : Int), s)
  else (a / (d : Int) + ((Config.freeNat s.free % 2 : Nat) : Int), { s with free := s.free + 1 })

/-! ### Reporting a fault (R448 to R450) -/

/-- A fault message (R448). -/
def faultMsg (source kind cls : Nat) (deckB : Bool) (address : Nat) : BitVec 64 :=
  BitVec.ofNat 64 (source % 2 ^ 12 + kind % 2 ^ 8 * 2 ^ 12 + cls % 4 * 2 ^ 20 + (if deckB then 2 ^ 22 else 0)
    + address % 2 ^ 40 * 2 ^ 23)

/-- The SOURCE of a message. -/
def msgSource (m : BitVec 64) : Nat := m.toNat % 2 ^ 12

/-- The KIND of a message. -/
def msgKind (m : BitVec 64) : Nat := m.toNat / 2 ^ 12 % 2 ^ 8

/-- The CLASS of a message. -/
def msgClass (m : BitVec 64) : Nat := m.toNat / 2 ^ 20 % 4

/-- The ADDRESS of a message. -/
def msgAddress (m : BitVec 64) : Nat := m.toNat / 2 ^ 23 % 2 ^ 40

/-- The queue of a source. -/
def queueOf (s : State) (source : Nat) : List (BitVec 64) := cellGet (fun _ => []) s.fc.queues source

/-- The state with a source's queue replaced. -/
def setQueue (s : State) (source : Nat) (q : List (BitVec 64)) : State :=
  { s with fc := { s.fc with queues := cellPut (fun _ => []) s.fc.queues source q } }

/-- A message enters its source's queue. The queue has four entries, one kept for contained and fatal messages: a
corrected message that finds three waiting is dropped, FC_INT.OVERFLOW is set and the drop counted; contained and fatal
messages are never dropped (R450). -/
def report (s : State) (m : BitVec 64) : State :=
  let q := queueOf s (msgSource m)
  if msgClass m = 1 ∧ 3 ≤ q.length then bump (event s FC_INT_OVERFLOW) (cFC_CNT 5)
  else setQueue s (msgSource m) (q ++ [m])

/-- Classes of R447. -/
def clsCorrected : Nat := 1
/-- Contained (R447). -/
def clsContained : Nat := 2
/-- Fatal (R447). -/
def clsFatal : Nat := 3

/-- A fault of the given source, kind and class is reported (R465). -/
def raise (s : State) (source kind cls : Nat) (deckB : Bool) (address : Nat) : State :=
  report s (faultMsg source kind cls deckB address)

/-- The unit that owns a memory (R449). -/
def eccSource : EccMemory → Nat
  | .rules => 0x000
  | .lanes => 0x001
  | .pool => 0x001
  | .keystone => 0x003
  | .capture => 0x007

/-- A word found in error by its ECC (R18, R465, R494): one that is corrected raises MEM_CE; an uncorrectable one raises MEM_UE_SHARED, fatal,
or in the capture memory MEM_UE_CAP. -/
def meetUpset (s : State) (u : MemUpset) : State :=
  if u.uncorrectable = false then raise s (eccSource u.memory) 0x01 clsCorrected false u.addr.toNat
  else if u.memory = .capture then raise s (eccSource u.memory) 0x05 clsCorrected false u.addr.toNat
  else raise s (eccSource u.memory) 0x02 clsFatal false u.addr.toNat

/-- The words found in error while a command reads its memories. -/
def meetEcc (s : State) (us : List MemUpset) : State := us.foldl meetUpset s

end Sys2Proof.Machine
end

