-- ==== Sys2Proof/Machine/Status.lean ====
section
/-!
DEFINITION. Machine/Status.lean: the power state and the rails as registers show them (R362, R373, R437), and the claims of the decks (R311).
-/
namespace Sys2Proof.Machine

/-- The power state (R373): 0 Sleep, 1 Standby, 2 Ready, 3 Hold, 4 Service, 5 Fault. -/
def pstate (s : State) : Nat := getF s TH_PSTATE_STATE

/-- A rail is reported good: 0 VDD, 1 VIO, 2 VDDA, 3 VDRV, 4 VPD, 5 VHTR (R437). -/
def railGood (s : State) (i : Nat) : Bool := (getF s TH_PSTATE_RAILS).testBit i

/-- The rails from `0` to `n - 1` are good. -/
def railsGood (s : State) (n : Nat) : Bool := (List.range n).all (railGood s)

/-- The CLAIM field of a deck in a span. -/
def claimFld (n d : Nat) : Fld := if d = 0 then DK_CLAIM_CLAIM_A n else DK_CLAIM_CLAIM_B n
/-- The CAUSE field of a deck in a span. -/
def causeFld (n d : Nat) : Fld := if d = 0 then DK_CLAIM_CAUSE_A n else DK_CLAIM_CAUSE_B n
/-- STATE of DK_CLAIM: 0 HEALTHY, 1 FAULTED, 2 COPY, 3 PROBATION. -/
def stateFld (n d : Nat) : Fld := if d = 0 then DK_CLAIM_STATE_A n else DK_CLAIM_STATE_B n
/-- The RUN bit of a deck. -/
def runFld (d : Nat) : Fld := if d = 0 then DK_STATUS_RUN_A else DK_STATUS_RUN_B

/-- The claim a deck presents to a span. -/
def claim (s : State) (n d : Nat) : Nat := getF s (claimFld n d)

/-- R311: a deck is healthy in a span when its claim there equals NOM and its state there is HEALTHY. -/
def healthy (s : State) (n d : Nat) : Bool := decide (claim s n d = getF s DK_CTRL_NOM ∧ getF s (stateFld n d) = 0)

end Sys2Proof.Machine
end

