-- ==== Sys2Proof/Machine/Matrix.lean ====
section
/-!
DEFINITION. Machine/Matrix.lean: what the bus matrix does to a master's burst and lock at a master reset (R500), breaking a
lock (R499), and the saturation and resynchronisation of joints (R501 to R506).
-/
namespace Sys2Proof.Machine

/-- The lock in force is released, if this master holds it. -/
def releaseLock (s : State) (master : Nat) : State :=
  match s.bm.lock with
  | some (m, _, _) =>
    if m = master then
      disarm (setFlag { s with bm := { s.bm with lock := none } } BM_STATUS_LOCKED false) .lock
    else s
  | none => s

/-- Whether a master holds the lock. -/
def holdsLock (s : State) (master : Nat) : Bool :=
  match s.bm.lock with
  | some (m, _, _) => decide (m = master)
  | none => false

/-- The beats of a burst that a reset leaves over. -/
def burstLeft (b : Burst) : Nat := b.total - b.done

/-- R500: a master is reset while it may have a burst granted or a lock held. The rest of a write burst is transferred with
its byte enables cleared, the rest of a read burst is discarded, a lock is released; BM_MRST records it and BM_RESET is
raised. With neither a burst nor a lock, nothing happens. -/
def masterReset (s : State) (master : Nat) (burst : Option Burst) : State :=
  let held := holdsLock s master
  let s1 := { s with bm := { s.bm with broken := s.bm.broken.filter (fun m => decide (m ≠ master)) } }
  if burst.isNone ∧ held = false then s1
  else
    let write := match burst with | some b => b.write | none => false
    let left := match burst with | some b => burstLeft b | none => 0
    let s2 := setF (setFlag (setF (setFlag s1 BM_MRST_WRITE write) BM_MRST_MASTER master) BM_MRST_LOCK_REL held)
      BM_MRST_BEATS left
    let s3 := bump (event (releaseLock s2 master) BM_INT_MASTER_RESET) (cBM_CNT 5)
    let s4 := bumpBy s3 (if write then cBM_CNT 6 else cBM_CNT 7) left
    raise s4 0x008 0x60 clsContained (decide (master = 1)) master

/-- One side of a joint enters reset other than at a start: the joint is down until it resynchronises (R505). -/
def jointDown (s : State) (j : Nat) : State :=
  if flag s (BM_JSTAT_UP j) then event (setF s (BM_JSTAT_UP j) 0) BM_INT_JOINT_DOWN else s

end Sys2Proof.Machine
end

