-- ==== Sys2Proof/Machine/Ports.lean ====
section
/-!
DEFINITION. Machine/Ports.lean: the control ports (R85 to R95): link and rate, the packet buffer's shares and priority flow control, the
firmware hand-off queue and the default action (R98).
-/
namespace Sys2Proof.Machine

/-- What a port holds beside its registers. -/
def portOf (s : State) (p : Nat) : PortState := cellGet (fun _ => PortState.init) s.ports p

/-- The state with a port's own part replaced. -/
def setPort (s : State) (p : Nat) (x : PortState) : State :=
  { s with ports := cellPut (fun _ => PortState.init) s.ports p x }

/-- Frame length: destination address to the last byte of the FCS (R89). -/
def Frame.len (f : Frame) : Nat := f.bytes.length + 4

/-- A VLAN tag's TPID: 0x8100 or 0x88A8 (PRESUMED from IEEE 802.1Q, log entry 13). -/
def isTpid (v : Nat) : Bool := decide (v = 0x8100 ∨ v = 0x88A8)

/-- The port's own MAC address. -/
def portMac (s : State) (p : Nat) : Nat := getF s (CP_MAC_HI_MAC p) * 2 ^ 32 + getF s (CP_MAC_LO_MAC p)

/-- The port's IPv6 address; word 0 holds bits [127:96]. -/
def portIp6 (s : State) (p : Nat) : Nat :=
  getF s (CP_IPV6_ADDR p 0) * 2 ^ 96 + getF s (CP_IPV6_ADDR p 1) * 2 ^ 64 + getF s (CP_IPV6_ADDR p 2) * 2 ^ 32
    + getF s (CP_IPV6_ADDR p 3)

/-- The destination addresses a port accepts (R90): its own, broadcast, flow control, PTP, and the solicited-node multicast
address of CP_IPV6 (33-33-FF and the low 24 bits; PRESUMED from RFC 4291 and RFC 2464, log entry 13). -/
def acceptsMac (s : State) (p d : Nat) : Bool :=
  decide (d = portMac s p ∨ d = 0xFFFFFFFFFFFF ∨ d = 0x0180C2000001 ∨ d = 0x011B19000000 ∨ d = 0x0180C200000E
    ∨ (portIp6 s p ≠ 0 ∧ d = 0x3333FF000000 + portIp6 s p % 2 ^ 24))

/-- The priority of a received frame: its outer tag's PCP, else CP_CTRL.DEF_PRI (R93). -/
def framePrio (s : State) (p : Nat) (f : Frame) : Nat :=
  if isTpid (beAt f.bytes 12 2) then beAt f.bytes 14 2 / 2 ^ 13 else getF s (CP_CTRL_DEF_PRI p)

/-- The frames held in the fragment table that occupy a port's share: each in the share of the port that received it (R92). -/
def heldFrames (s : State) (p : Nat) : List Frame :=
  s.tg.frags.flatMap (fun e => match e.2 with
    | some x => (x.pieces.filter (fun q => decide (q.port = p))).map (fun q => q.frame)
    | none => [])

/-- Every frame that occupies a port's buffer share: waiting, held as fragments, and handed to firmware (R92). -/
def buffered (s : State) (p : Nat) : List Frame :=
  (portOf s p).frames ++ heldFrames s p ++ (portOf s p).fwq

/-- Bytes of the port's share in use. -/
def occupancy (s : State) (p : Nat) : Nat := ((buffered s p).map Frame.len).sum

/-- Bytes in use by one priority. -/
def prioOccupancy (s : State) (p prio : Nat) : Nat :=
  (((buffered s p).filter (fun f => decide (framePrio s p f = prio))).map Frame.len).sum

/-- The frame's length (R89): header, tags, IP and UDP headers, payload, FCS; at least 64 bytes. -/
def outLen (f : OutFrame) : Nat :=
  max 64 (18 + 4 * f.tags.length + (if f.encap = 1 then 28 else if f.encap = 2 then 48 else 0) + f.payload.length)

/-- A frame goes out on its port and is counted there. -/
def sendFrame (s : State) (f : OutFrame) : State :=
  bumpBy (bump { s with ad := { s.ad with tx := some f } } (cCP_CNT f.port 10)) (cCP_CNT f.port 11) (outLen f)

/-- A port runs: CP_CTRL.ENABLE, in the states in which the ports run (R373, R379): not in Sleep or Standby. -/
def portRuns (s : State) (p : Nat) : Bool := flag s (CP_CTRL_ENABLE p) && decide (2 ≤ pstate s)

/-- A port that runs and whose link is up. -/
def portUp (s : State) (p : Nat) : Bool := portRuns s p && flag s (CP_STATUS_LINK p)

/-- The bytes of a priority flow control frame after its addresses: EtherType, opcode, class enable vector and quanta
(PRESUMED from IEEE 802.1Qbb, log entry 13). -/
def pfcBytes (prio quanta : Nat) : List Byte :=
  beBytes 2 0x8808 ++ beBytes 2 0x0101 ++ beBytes 2 (2 ^ prio)
    ++ (List.range 8).flatMap (fun i => beBytes 2 (if i = prio then quanta else 0))

/-- The port sends one PFC frame for a priority (R93); it counts as a PFC frame and as a frame sent, of 64 bytes. A port without PFC_TX_EN, or without a
link, sends none. -/
def sendPfc (s : State) (p prio quanta : Nat) : State :=
  if flag s (CP_CTRL_PFC_TX_EN p) = false ∨ portUp s p = false then s
  else
    let s1 := bumpBy (bump (bump s (cCP_CNT p 7)) (cCP_CNT p 10)) (cCP_CNT p 11) 64
    { s1 with ad := { s1.ad with tx := some ⟨p, prio, 0x0180C2000001, portMac s p, [], 3, 0, 0, 0, 0, 0, pfcBytes prio quanta⟩ } }

/-- Whether the port has told its link partner to pause a priority. -/
def xoffSent (s : State) (p prio : Nat) : Bool := cellGet (fun _ => false) (portOf s p).xoff prio

/-- The priority's pause state toward the link partner. -/
def setXoff (s : State) (p prio : Nat) (b : Bool) : State :=
  let x := portOf s p
  setPort s p { x with xoff := cellPut (fun _ => false) x.xoff prio b }

/-- XOFF threshold in bytes. -/
def xoffBytes (s : State) (p prio : Nat) : Nat := 256 * getF s (CP_PFC_THR_XOFF p prio)

/-- XON threshold in bytes. -/
def xonBytes (s : State) (p prio : Nat) : Nat := 256 * getF s (CP_PFC_THR_XON p prio)

/-- A priority's occupancy has risen: at XOFF or above, a pause frame with quanta 0xFFFF goes out and its repetition is
armed for 640 µs (R93). -/
def pfcRise (s : State) (p prio : Nat) : State :=
  if flag s (CP_CTRL_PFC_TX_EN p) ∧ xoffSent s p prio = false ∧ xoffBytes s p prio ≤ prioOccupancy s p prio then
    armIn (setXoff (sendPfc s p prio 0xFFFF) p prio true) (.pfcXoff p prio) 640000
  else s

/-- A priority's occupancy has fallen: at XON or below, one frame with quanta 0 goes out (R93). -/
def pfcFall (s : State) (p prio : Nat) : State :=
  if xoffSent s p prio ∧ prioOccupancy s p prio ≤ xonBytes s p prio then
    disarm (setXoff (sendPfc s p prio 0) p prio false) (.pfcXoff p prio)
  else s

/-- The test of every priority after frames have left a port's share. -/
def pfcFallAll (s : State) (p : Nat) : State := (List.range 8).foldl (fun s prio => pfcFall s p prio) s

/-- That test for every port, once a frame's way through the Tollgate is decided: what it occupies then is what counts (R92, R93). -/
def pfcSettle (s : State) : State := (List.range 6).foldl pfcFallAll s

/-- The end of a received pause of `quanta` × 512 bit times at the port's rate, in quarter-nanoseconds (R94): 20.48 ns a
quantum at 25GBASE-R, 51.2 ns at 10GBASE-R. -/
def pauseLen (s : State) (p quanta : Nat) : Nat :=
  if flag s (CP_STATUS_RATE p) then (quanta * 2048 + 9) / 10 else (quanta * 8192 + 99) / 100

/-- Whether a priority of a port is paused (R94). -/
def paused (s : State) (p prio : Nat) : Bool := decide (s.elapsed < cellGet (fun _ => 0) (portOf s p).pauseEnd prio)

/-- PFC_XOFF_REPEAT (R93): 640 µs after the last pause frame, while the occupancy is at or above XON, it is sent again. -/
def execPfcXoffRepeat (p : Port) (prio : Prio) (s : State) : Out :=
  if due s (.pfcXoff p prio) ∧ xoffSent s p prio ∧ xonBytes s p prio ≤ prioOccupancy s p prio then
    .next (armIn (sendPfc s p prio 0xFFFF) (.pfcXoff p prio) 640000)
  else .next s

/-- The start of an attempt at a rate (R87): 50 ms. -/
def startAttempt (s : State) (p : Nat) (tenG : Bool) : State :=
  armIn (setFlag s (CP_STATUS_RATE p) tenG) (.attempt p) 50000000

/-- RS-FEC runs at 25GBASE-R with FEC_EN (R85). -/
def fecRuns (s : State) (p : Nat) : Bool := flag s (CP_CTRL_FEC_EN p) && ! flag s (CP_STATUS_RATE p)

/-- The port's link status from its locks and faults (CP_STATUS): block lock, FEC lock where RS-FEC runs, no fault. -/
def linkOf (s : State) (p : Nat) (l : LinkStatus) : Bool :=
  l.blockLock && (l.fecLock || ! fecRuns s p) && ! l.localFault && ! l.remoteFault

/-- The port's status bits take new values; a change of LINK sets CP_INT.LINK_CHG. Where RS-FEC does not run, there is no FEC lock (R86). -/
def setLink (s : State) (p : Nat) (l : LinkStatus) : State :=
  let up := linkOf s p l
  let s1 := if up = flag s (CP_STATUS_LINK p) then s else event s (CP_INT_LINK_CHG p)
  let fec := l.fecLock && fecRuns s p
  setFlag (setFlag (setFlag (setFlag (setFlag s1 (CP_STATUS_BLOCK_LOCK p) l.blockLock) (CP_STATUS_FEC_LOCK p) fec)
    (CP_STATUS_LOCAL_FAULT p) l.localFault) (CP_STATUS_REMOTE_FAULT p) l.remoteFault) (CP_STATUS_LINK p) up

/-- PORT_LINK_CHANGE (R86, R87): the port's status follows its link. On gaining block lock the rate of the attempt is kept,
and CP_INT.FALLBACK is set when it differs from SPEED; a loss of block lock starts the 2 ms of R87. A port that does not run has neither lock (DEDUCED, log entry 9). -/
def execPortLinkChange (p : Port) (l : LinkStatus) (s : State) : Out :=
  if portRuns s p = false then .next (setLink s p { l with blockLock := false, fecLock := false })
  else
    let had := flag s (CP_STATUS_BLOCK_LOCK p)
    let s1 := setLink s p l
    if l.blockLock ∧ had = false then
      let s2 := disarm (disarm s1 (.attempt p)) (.loss p)
      if flag s (CP_CTRL_FALLBACK_EN p) ∧ getF s (CP_STATUS_RATE p) ≠ getF s (CP_CTRL_SPEED p) then
        .next (event s2 (CP_INT_FALLBACK p))
      else .next s2
    else if l.blockLock = false ∧ had ∧ flag s (CP_CTRL_FALLBACK_EN p) then .next (armIn s1 (.loss p) 2000000)
    else .next s1

/-- RATE_FALLBACK_TIMER (R87): a loss that lasts 2 ms restarts the alternation at 25GBASE-R; an attempt of 50 ms without
block lock is followed by one at the other rate. -/
def execRateFallbackTimer (p : Port) (s : State) : Out :=
  if flag s (CP_CTRL_FALLBACK_EN p) = false ∨ flag s (CP_STATUS_BLOCK_LOCK p) ∨ portRuns s p = false then .next s
  else if due s (.loss p) then .next (startAttempt (disarm s (.loss p)) p false)
  else if due s (.attempt p) then .next (startAttempt s p (! flag s (CP_STATUS_RATE p)))
  else .next s

/-- What a write of CP_CTRL does beside storing it: under FALLBACK_EN a port that runs without block lock, and is not alternating yet, begins
its first attempt at 25GBASE-R; otherwise it runs at SPEED (R87); a port that stops drops its attempt. -/
def cpCtrlEffect (s : State) (p : Nat) : State :=
  if portRuns s p then
    if flag s (CP_CTRL_FALLBACK_EN p) then
      (if flag s (CP_STATUS_BLOCK_LOCK p) ∨ armed s (.attempt p) ∨ armed s (.loss p) then s else startAttempt s p false)
    else disarm (disarm (setF s (CP_STATUS_RATE p) (getF s (CP_CTRL_SPEED p))) (.attempt p)) (.loss p)
  else disarm (disarm s (.attempt p)) (.loss p)

/-- A frame is handed to deck firmware: it enters the port's hand-off queue, or is discarded and counted when 64 wait
there (R98). -/
def toFirmware (s : State) (p : Nat) (f : Frame) : State :=
  let x := portOf s p
  if 64 ≤ x.fwq.length then bump (event s (CP_INT_FWQ_FULL p)) (cCP_CNT p 9)
  else setPort s p { x with fwq := x.fwq ++ [f] }

/-- The port's default action on a frame (R98): discard (the cause has been counted), or hand to firmware. -/
def defaultAction (s : State) (p : Nat) (f : Frame) : State :=
  if flag s (CP_CTRL_DEFACT p) then toFirmware s p f else s

/-- A port's PLL has lost lock: block lock is gone, and under FALLBACK_EN the 2 ms of R87 begin. -/
def portLockLost (s : State) (p : Nat) : State :=
  let s1 := setLink s p ⟨false, false, flag s (CP_STATUS_LOCAL_FAULT p), flag s (CP_STATUS_REMOTE_FAULT p)⟩
  if flag s (CP_STATUS_BLOCK_LOCK p) ∧ flag s (CP_CTRL_FALLBACK_EN p) ∧ portRuns s p then armIn s1 (.loss p) 2000000 else s1

/-- The oldest frame of the viewed port's hand-off queue is released (TG_FWQ.POP). -/
def fwqPop (s : State) : State :=
  let p := getF s TG_FWQ_PSEL
  let x := portOf s p
  pfcFallAll (setPort s p { x with fwq := x.fwq.drop 1 }) p

end Sys2Proof.Machine
end

