-- ==== Sys2Proof/Machine/Ptp.lean ====
section
/-!
DEFINITION. Machine/Ptp.lean: PTP messages as they arrive (R147, R148), the transparent clock of the ring ports (R162, R163), and PTP
frames that a received pause holds (R94). The message layout is that of IEEE 1588-2019 (PRESUMED, log entry 13). Corrections are in units of 2^-16 ns.
-/
namespace Sys2Proof.Machine

/-- messageType. -/
def ptpType (b : List Byte) : Nat := beAt b 0 1 % 16
/-- versionPTP. -/
def ptpVersion (b : List Byte) : Nat := beAt b 1 1 % 16
/-- minorVersionPTP. -/
def ptpMinor (b : List Byte) : Nat := beAt b 1 1 / 16
/-- domainNumber. -/
def ptpDomain (b : List Byte) : Nat := beAt b 4 1
/-- twoStepFlag. -/
def ptpTwoStep (b : List Byte) : Bool := decide (beAt b 6 1 / 2 % 2 = 1)
/-- correctionField in 2^-16 ns. -/
def ptpCorr (b : List Byte) : Int := signed 64 (beAt b 8 8)
/-- sourcePortIdentity, ten bytes. -/
def ptpSource (b : List Byte) : Nat := beAt b 20 10
/-- sequenceId. -/
def ptpSeq (b : List Byte) : Nat := beAt b 30 2
/-- logMessageInterval. -/
def ptpLog (b : List Byte) : Int := signed 8 (beAt b 33 1)
/-- The timestamp that follows the header, in 2^-16 ns. -/
def ptpStamp (b : List Byte) : Int := ((beAt b 34 6 * 1000000000 + beAt b 40 4) * 65536 : Nat)

/-- Message types. -/
def ptpSync : Nat := 0
/-- Delay_Req. -/
def ptpDelayReq : Nat := 1
/-- Follow_Up. -/
def ptpFollowUp : Nat := 8
/-- Delay_Resp. -/
def ptpDelayResp : Nat := 9
/-- Announce. -/
def ptpAnnounce : Nat := 11

/-- A message of a type the device uses (R149 to R151). -/
def ptpUsed (b : List Byte) : Bool :=
  decide (ptpType b = ptpSync ∨ ptpType b = ptpFollowUp ∨ ptpType b = ptpDelayResp ∨ ptpType b = ptpAnnounce)

/-- The message with its correctionField increased. -/
def ptpCorrected (b : List Byte) (d : Int) : List Byte :=
  b.take 8 ++ beBytes 8 (unsigned 64 (ptpCorr b + d)) ++ b.drop 16

/-- The ring port a blocked ring blocks (NT_CTRL.RING_BLOCK): 1 CP4, 2 CP5, else none. -/
def ringBlocked (s : State) (p : Nat) : Bool :=
  decide ((getF s NT_CTRL_RING_BLOCK = 1 ∧ p = 4) ∨ (getF s NT_CTRL_RING_BLOCK = 2 ∧ p = 5))

/-- Whether a PTP frame is forwarded on the ring (R162, R163): Ethernet transport, of the device's domain, of a kind that
R148 does not discard, between CP4 and CP5, neither of them blocked. -/
def ringForwards (s : State) (m : PtpMsg) : Bool :=
  flag s NT_CTRL_RING_FWD && decide (m.route.encap = 0 ∧ (m.route.port = 4 ∨ m.route.port = 5)
    ∧ ptpDomain m.bytes = getF s NT_CTRL_DOMAIN ∧ m.route.dstMac ≠ 0x0180C200000E)
    && (ptpUsed m.bytes || decide (ptpType m.bytes = ptpDelayReq))
    && ! ringBlocked s 4 && ! ringBlocked s 5 && portUp s (9 - m.route.port)

/-- The priority of a frame forwarded on the ring: its own outer tag's, else the egress port's (R34, R93). -/
def ringPrio (s : State) (m : PtpMsg) : Nat :=
  match m.route.tags with
  | t :: _ => t % 2 ^ 16 / 2 ^ 13
  | [] => getF s (CP_CTRL_DEF_PRI (9 - m.route.port))

/-- The message leaves on the other ring port. -/
def ringSend (s : State) (m : PtpMsg) (bytes : List Byte) : State :=
  bump (sendFrame s ⟨9 - m.route.port, ringPrio s m, m.route.dstMac, m.route.srcMac, m.route.tags, 0, 0, 0, 0, 0, 0, bytes⟩) (cNT_CNT 6)

/-- The residence time of a frame that leaves now, in 2^-16 ns (R162): the egress stamp minus the ingress stamp, whole nanoseconds of network
time; each stamp's fraction in 1/256 ns (R152) is a free value. -/
def residence (s : State) (m : PtpMsg) : Int × State :=
  let (fo, s1) := fresh s 256
  let (fi, s2) := fresh s1 256
  (((netNs s : Int) - m.arrival) * 65536 + ((fo : Int) - fi) * 256, s2)

/-- R162: a frame leaves as through an end-to-end transparent clock. A one-step Sync and a Delay_Req carry their residence time themselves; a
two-step Sync leaves it to its Follow_Up, for 10 ms. A Follow_Up that finds none waiting is forwarded unchanged and counted. -/
def ringEgress (s : State) (m : PtpMsg) : State :=
  let b := m.bytes
  let key := fun (x : PendingSync) => decide (x.seqId = ptpSeq b ∧ x.source = ptpSource b)
  if ptpType b = ptpFollowUp then
    match s.nt.ring.find? key with
    | some x =>
      let s1 := { s with nt := { s.nt with ring := s.nt.ring.filter (fun y => ! key y) } }
      ringSend (disarm s1 (.ringFollowUp x.source x.seqId)) m (ptpCorrected b x.corr)
    | none => bump (ringSend s m b) (cNT_CNT 7)
  else if ptpType b = ptpSync ∧ ptpTwoStep b then
    let (res, s1) := residence s m
    let x : PendingSync := ⟨m.route.port, ptpSeq b, ptpSource b, 0, res, false⟩
    let s2 := { s1 with nt := { s1.nt with ring := x :: s1.nt.ring.filter (fun y => ! key y) } }
    ringSend (armIn s2 (.ringFollowUp x.source x.seqId) 10000000) m b
  else if ptpType b = ptpSync ∨ ptpType b = ptpDelayReq then
    let (res, s1) := residence s m
    ringSend s1 m (ptpCorrected b res)
  else ringSend s m b

/-! ### PTP frames and received pauses (R94) -/

/-- A Delay_Req leaves (R151): t3 is its egress stamp, with the fraction `frac` in 1/256 ns. -/
def sendDelayReq (s : State) (f : OutFrame) (seq frac : Nat) : State :=
  let s1 := bump (sendFrame s f) (cNT_CNT 2)
  { s1 with nt := { s1.nt with dreqSeq := seq, dreqT3 := some ((netNs s * 65536 + frac * 256 : Nat) : Int) } }

/-- The priority of a PTP frame that waits. -/
def PtpOut.prio (s : State) : PtpOut → Nat
  | .ring m => ringPrio s m
  | .delayReq f _ => f.prio

/-- Whether a PTP frame of a priority must wait on a port: the priority is paused, or an earlier one of it waits (R94). -/
def ptpWaits (s : State) (p prio : Nat) : Bool :=
  paused s p prio || (portOf s p).ptpq.any (fun x => decide (x.prio s = prio))

/-- A PTP frame joins those that wait on a port. -/
def holdPtp (s : State) (p : Nat) (x : PtpOut) : State :=
  setPort s p { portOf s p with ptpq := (portOf s p).ptpq ++ [x] }

/-- A PTP frame that waited leaves; the fraction of a Delay_Req's egress stamp is a free value. -/
def releasePtp (s : State) : PtpOut → State
  | .ring m => ringEgress s m
  | .delayReq f seq => let (frac, s1) := fresh s 256; sendDelayReq s1 f seq frac

/-- The PTP frames of a port whose priority is no longer paused go out, oldest first (R94). -/
def drainPtp (s : State) (p : Nat) : State :=
  let q := (portOf s p).ptpq
  (q.filter (fun x => ! paused s p (x.prio s))).foldl releasePtp
    (setPort s p { portOf s p with ptpq := q.filter (fun x => paused s p (x.prio s)) })

/-- A frame to be forwarded on the ring leaves, or waits for its priority (R94, R162). -/
def ringForward (s : State) (m : PtpMsg) : State :=
  if ptpWaits s (9 - m.route.port) (ringPrio s m) then holdPtp s (9 - m.route.port) (.ring m) else ringEgress s m

/-! ### Arrival -/

/-- A message of a kind that R148 names as not supported: anything but what the device uses. -/
def ptpUnsupported (b : List Byte) : Bool := ! ptpUsed b

/-- A PTP message leaves the Tollgate (R97): it is forwarded on the ring (R162). A kind that is not supported is discarded and counted, whatever
its port (R148); a kind the device uses waits for its row where its port is PTP-enabled and it has the device's version, domain and addressing (R147). -/
def ptpArrive (s : State) (m : PtpMsg) : State :=
  let s1 := if ringForwards s m then ringForward s m else s
  let p := m.route.port
  let own := if m.route.encap = 1 then getF s (CP_IPV4_ADDR p) else portIp6 s p
  if m.bytes.length < 34 then s1
  else if ptpUnsupported m.bytes then bump s1 (cNT_CNT 4)
  else if (getF s NT_CTRL_PTP_EN).testBit p = false ∨ ptpVersion m.bytes ≠ 2 ∨ 1 < ptpMinor m.bytes
      ∨ ptpDomain m.bytes ≠ getF s NT_CTRL_DOMAIN
      ∨ (if m.route.encap = 0 then m.route.dstMac ≠ 0x011B19000000 else m.route.dstIp ≠ own) then s1
  else { s1 with tg := { s1.tg with ptp := s1.tg.ptp ++ [m] } }

/-- RING_FOLLOW_UP_TIMEOUT (R162): 10 ms after a forwarded two-step Sync its residence time is given up; a Follow_Up that comes later is forwarded
unchanged, which is counted then. -/
def execRingFollowUpTimeout (s : State) : Out :=
  match s.nt.ring.find? (fun x => due s (.ringFollowUp x.source x.seqId)) with
  | none => .next s
  | some x =>
    let s1 := { s with nt := { s.nt with ring := s.nt.ring.filter (fun y => decide (y.seqId ≠ x.seqId ∨ y.source ≠ x.source)) } }
    .next (disarm s1 (.ringFollowUp x.source x.seqId))

end Sys2Proof.Machine
end

