-- ==== Sys2Proof/Machine/Receive.lean ====
section
/-!
DEFINITION. Machine/Receive.lean: what a control port receives (R89 to R94): the checks of stage 1 and received priority flow control.
-/
namespace Sys2Proof.Machine

/-- One priority named by a received PFC frame is paused, or resumed by quanta 0 (R94). -/
def pausePrio (s : State) (p prio quanta : Nat) : State :=
  let x := portOf s p
  let e := if quanta = 0 then 0 else s.elapsed + pauseLen s p quanta
  drainPtp (setPort s p { x with pauseEnd := cellPut (fun _ => 0) x.pauseEnd prio e }) p

/-- A received PFC frame (R91, R94). -/
def pfcReceived (s : State) (p enable : Nat) (quanta : List Nat) : State :=
  let s1 := bump s (cCP_CNT p 6)
  if flag s (CP_CTRL_PFC_RX_EN p) then
    (setBitsOf 8 enable).foldl (fun s i => pausePrio s p i (quanta.getD i 0 % 2 ^ 16)) s1
  else s1

/-- The checks of stage 1 on a received frame, in the order length, FCS, address, flow control, buffer (R89 to R92). -/
def frameIn (s : State) (p : Nat) (bytes : List Byte) (fcsOk : Bool) : State :=
  let f : Frame := ⟨bytes, netNs s⟩
  let s1 := bumpBy (bump s (cCP_CNT p 0)) (cCP_CNT p 1) f.len
  if f.len < 64 ∨ getF s (CP_MAX_FRAME_MAX p) < f.len then bump s1 (cCP_CNT p 3)
  else if fcsOk = false then bump s1 (cCP_CNT p 2)
  else if acceptsMac s p (beAt bytes 0 6) = false then bump s1 (cCP_CNT p 4)
  else if beAt bytes 12 2 = 0x8808 then
    if beAt bytes 14 2 = 0x0101 then
      pfcReceived s1 p (beAt bytes 16 2 % 256) ((List.range 8).map (fun i => beAt bytes (18 + 2 * i) 2))
    else bump s1 (cCP_CNT p 5)
  else if getF s (CP_BUF_SHARE p) * 16384 < occupancy s p + f.len then
    bump (event s1 (CP_INT_BUF_DROP p)) (cCP_CNT p 8)
  else
    let x := portOf s1 p
    pfcRise (setPort s1 p { x with frames := x.frames ++ [f] }) p (framePrio s p f)

/-- FRAME_RECEIVED (R89): the frame is counted and passes the checks of stage 1; a port that does not run or has no link
receives nothing. -/
def execFrameReceived (p : Port) (bytes : List Byte) (fcsOk : Bool) (fec : FecCount) (s : State) : Out :=
  if portUp s p then
    let s1 := bumpBy (bumpBy s (cCP_CNT p 12) fec.corrected) (cCP_CNT p 13) fec.uncorrectable
    .next (frameIn s1 p bytes fcsOk)
  else .next s

/-- PFC_FRAME (R94): a priority flow control frame of 64 bytes arrives. -/
def execPfcFrame (p : Port) (enable : BitVec 8) (quanta : List Nat) (s : State) : Out :=
  if portUp s p then
    .next (pfcReceived (bumpBy (bump s (cCP_CNT p 0)) (cCP_CNT p 1) 64) p enable.toNat quanta)
  else .next s

/-- PFC_PAUSE_EXPIRY (R94): a pause whose end is reached is over, and the PTP frames it held go out. -/
def execPfcPauseExpiry (p : Port) (prio : Prio) (s : State) : Out :=
  if paused s p prio then .next s
  else
    let x := portOf s p
    .next (drainPtp (setPort s p { x with pauseEnd := cellPut (fun _ => 0) x.pauseEnd prio 0 }) p)

end Sys2Proof.Machine
end

