-- ==== Sys2Proof/Machine/Tollgate.lean ====
section
/-!
DEFINITION. Machine/Tollgate.lean: the parse graph (R96 to R100; the graph compiled into the footing image is PRESUMED to be
the canonical one for the encapsulations of R31 and R147, log entry 14), engines (R101), IP fragments (R102 to R106),
classification (R107 to R111) and policing (R112 to R114).
-/
namespace Sys2Proof.Machine

/-! ### Checksums (R100) -/

/-- The ones' complement sum of a byte string taken as 16-bit words, an odd last byte padded with 0. -/
def onesSum : List Byte → Nat
  | [] => 0
  | [a] => a.toNat * 256
  | a :: b :: t => a.toNat * 256 + b.toNat + onesSum t

/-- A sum folded to 16 bits with end-around carry. -/
def fold16 (n : Nat) : Nat := (n - 1) % 0xFFFF + (if n = 0 then 0 else 1)

/-- Whether a covered extent sums to all ones. -/
def sumsOk (n : Nat) : Bool := decide (fold16 n = 0xFFFF)

/-- The pseudo-header sum of a UDP datagram: addresses, protocol 17 and UDP length. -/
def pseudoSum (v6 : Bool) (src dst len : Nat) : Nat :=
  onesSum (beBytes (if v6 then 16 else 4) src) + onesSum (beBytes (if v6 then 16 else 4) dst) + 17 + len

/-- The UDP checksum the device computes (R35): never 0, which would mean none. -/
def udpChecksumOf (v6 : Bool) (src dst sport dport : Nat) (payload : List Byte) : Nat :=
  let len := payload.length + 8
  let c := 0xFFFF - fold16 (pseudoSum v6 src dst len + onesSum (beBytes 2 sport ++ beBytes 2 dport ++ beBytes 2 len)
    + onesSum payload)
  if c = 0 then 0xFFFF else c

/-! ### The walk (R96 to R100) -/

/-- How far a walk has come: headers visited and header bytes read. -/
structure Walk where
  headers : Nat
  bytes : Nat
  deriving DecidableEq, Repr

/-- One more header of `n` bytes; none when a limit of R96 would be exceeded (8 headers, 192 bytes; 32 steps are never
reached, since a step visits a header). -/
def Walk.visit (w : Walk) (n : Nat) : Option Walk :=
  if w.headers + 1 ≤ 8 ∧ w.bytes + n ≤ 192 then some ⟨w.headers + 1, w.bytes + n⟩ else none

/-- The outcome of a walk (R97), or the reason for the default action or the discard. -/
inductive Verdict where
  | alp (r : Route) (msg : List Byte)
  | ptp (r : Route) (msg : List Byte)
  | fragment (r : Route) (w : Walk) (ident proto off : Nat) (more : Bool) (data : List Byte)
  | noMatch
  | limit
  | lengths
  | checksum
  deriving DecidableEq, Repr

/-- Whether an inner length fits its outer extent (R99): equal; or, for the first pair of the frame, smaller on a frame of
at most 64 + 4 T bytes. -/
def pairOk (first : Bool) (frameLen tags inner outer : Nat) : Bool :=
  decide (inner = outer) || (first && decide (inner < outer ∧ frameLen ≤ 64 + 4 * tags))

/-- The end of a walk at an ALP header: over Ethernet the pair ALP LENGTH against the frame is tested as the first pair;
over UDP it is exact. `body` is what follows the EtherType or the UDP header. -/
def walkAlp (w : Walk) (r : Route) (frameLen : Nat) (body : List Byte) : Verdict :=
  if body.length < 24 then .lengths
  else match w.visit 24 with
    | none => .limit
    | some _ =>
      let n := beAt body 2 2
      if pairOk (decide (r.encap = 0)) frameLen r.tags.length n body.length then .alp r (body.take n) else .lengths

/-- The UDP header and what it carries. `payload` is the IP payload; the datagram is whole. -/
def walkUdp (alpPort : Nat) (w : Walk) (r : Route) (frameLen : Nat) (payload : List Byte) : Verdict :=
  if payload.length < 8 then .lengths
  else match w.visit 8 with
    | none => .limit
    | some w =>
      let r := { r with srcPort := beAt payload 0 2, dstPort := beAt payload 2 2 }
      let n := beAt payload 4 2
      if n < 8 ∨ n ≠ payload.length then .lengths
      else
        let sum := beAt payload 6 2
        let v6 := decide (r.encap = 2)
        let good := if sum = 0 then ! v6 else sumsOk (pseudoSum v6 r.srcIp r.dstIp n + onesSum payload)
        let data := payload.drop 8
        let isAlp := decide (r.dstPort = alpPort)
        -- every length pair holds before the checksum is tested (R100)
        if isAlp && (decide (data.length < 24) || decide (beAt data 2 2 ≠ data.length)) then
          (if 24 ≤ data.length ∧ (w.visit 24).isNone then .limit else .lengths)
        else if good = false then .checksum
        else if isAlp then walkAlp w r frameLen data
        else if r.dstPort = 319 ∨ r.dstPort = 320 then .ptp r data
        else .noMatch

/-- The IPv6 extension headers before the upper layer: hop-by-hop (0), routing (43), destination options (60) and the
fragment header (44). `fuel` bounds the headers, which R96 bounds at 8. -/
def walkIp6 (alpPort : Nat) (frameLen : Nat) : Nat → Nat → Walk → Route → List Byte → Verdict
  | 0, _, _, _, _ => .limit
  | fuel + 1, next, w, r, rest =>
    if next = 17 then walkUdp alpPort w r frameLen rest
    else if next = 0 ∨ next = 43 ∨ next = 60 then
      let n := 8 + 8 * beAt rest 1 1
      if rest.length < 8 ∨ rest.length < n then .lengths
      else match w.visit n with
        | none => .limit
        | some w => walkIp6 alpPort frameLen fuel (beAt rest 0 1) w r (rest.drop n)
    else if next = 44 then
      if rest.length < 8 then .lengths
      else match w.visit 8 with
        | none => .limit
        | some w =>
          let fo := beAt rest 2 2
          if fo / 8 = 0 ∧ fo % 2 = 0 then walkIp6 alpPort frameLen fuel (beAt rest 0 1) w r (rest.drop 8)
          else .fragment r w (beAt rest 4 4) (beAt rest 0 1) (fo / 8 * 8) (decide (fo % 2 = 1)) (rest.drop 8)
    else .noMatch

/-- The IPv4 header: its checksum before any length pair (R100), then the pair against the frame, then fragment or UDP. -/
def walkIp4 (alpPort : Nat) (w : Walk) (r : Route) (frameLen : Nat) (ip : List Byte) : Verdict :=
  let ihl := beAt ip 0 1 % 16 * 4
  if ip.length < 20 ∨ ihl < 20 ∨ ip.length < ihl then .lengths
  else match w.visit ihl with
    | none => .limit
    | some w =>
      if sumsOk (onesSum (ip.take ihl)) = false then .checksum
      else if beAt ip 0 1 / 16 ≠ 4 then .noMatch
      else
        let total := beAt ip 2 2
        let r := { r with srcIp := beAt ip 12 4, dstIp := beAt ip 16 4 }
        if pairOk true frameLen r.tags.length total ip.length = false ∨ total < ihl then .lengths
        else
          let payload := (ip.take total).drop ihl
          let fo := beAt ip 6 2
          let proto := beAt ip 9 1
          if fo % 2 ^ 13 = 0 ∧ fo / 2 ^ 13 % 2 = 0 then
            if proto = 17 then walkUdp alpPort w r frameLen payload else .noMatch
          else .fragment r w (beAt ip 4 2) proto (fo % 2 ^ 13 * 8) (decide (fo / 2 ^ 13 % 2 = 1)) payload

/-- The VLAN tags (at most two, R31), then the EtherType. -/
def walkEther (alpPort : Nat) (frameLen : Nat) : Nat → Walk → Route → List Byte → Verdict
  | 0, _, _, _ => .noMatch
  | fuel + 1, w, r, rest =>
    let et := beAt rest 0 2
    let body := rest.drop 2
    if isTpid et then
      match w.visit 4 with
      | none => .limit
      | some w => walkEther alpPort frameLen fuel w { r with tags := r.tags ++ [et * 2 ^ 16 + beAt rest 2 2] } (rest.drop 4)
    else if et = 0x88B5 then walkAlp w r frameLen body
    else if et = 0x88F7 then .ptp r body
    else if et = 0x0800 then walkIp4 alpPort w { r with encap := 1 } frameLen body
    else if et = 0x86DD then
      if body.length < 40 then .lengths
      else match w.visit 40 with
        | none => .limit
        | some w =>
          let r := { r with encap := 2, srcIp := beAt body 8 16, dstIp := beAt body 24 16 }
          let n := beAt body 4 2 + 40
          if pairOk true frameLen r.tags.length n body.length = false then .lengths
          else walkIp6 alpPort frameLen 9 (beAt body 6 1) w r ((body.take n).drop 40)
    else .noMatch

/-- The walk of a frame of a port (R96, R97). -/
def walk (s : State) (p : Nat) (f : Frame) : Verdict :=
  walkEther (getF s TG_UDP_PORT_PORT) f.len 3 ⟨1, 14⟩
    ⟨p, 0, beAt f.bytes 0 6, beAt f.bytes 6 6, [], 0, 0, 0, 0⟩ (f.bytes.drop 12)

/-! ### Classification (R107 to R111) -/

/-- Word `k` of entry `i` of a bank of the rule memory. -/
def ruleWord (s : State) (bank i k : Nat) : Word := cellGet (fun _ => 0) s.tg.rules ((bank * 1024 + i) * 16 + k)

/-- A rule word written. -/
def setRuleWord (s : State) (bank i k : Nat) (w : Word) : State :=
  { s with tg := { s.tg with rules := cellPut (fun _ => 0) s.tg.rules ((bank * 1024 + i) * 16 + k) w } }

/-- Seven rule words as one number, word 0 lowest. -/
def ruleBits (s : State) (bank i k : Nat) : Nat :=
  ((List.range 7).map (fun j => (ruleWord s bank i (k + j)).toNat * 2 ^ (32 * j))).sum

/-- The key of a message (R107), packed from PORT at bit 0 upward: PORT 3, TAGS 2, VID_O 12, VID_I 12, ENCAP 2, SRC 128,
SPORT 16, TYPE 8, LANE 14. A field the encapsulation lacks is 0. -/
def ruleKey (r : Route) (typ lane : Nat) : Nat :=
  let vid := fun (i : Nat) => r.tags.getD i 0 % 2 ^ 12
  let src := if r.encap = 0 then r.srcMac else r.srcIp
  r.port + r.tags.length * 2 ^ 3 + vid 0 * 2 ^ 5 + (if r.tags.length = 2 then vid 1 else 0) * 2 ^ 17
    + r.encap * 2 ^ 29 + src % 2 ^ 128 * 2 ^ 31 + r.srcPort * 2 ^ 159 + typ * 2 ^ 175 + lane % 2 ^ 14 * 2 ^ 183

/-- The valid entries of a bank, in ascending order of index. -/
def validRules (s : State) (bank : Nat) : List Nat :=
  (s.tg.rules.filter (fun e => decide (e.1 / 16384 = bank ∧ e.1 % 16 = 14) && e.2.msb)).map (fun e => e.1 / 16 % 1024)

/-- Whether a key matches an entry: every bit whose mask bit is 1 is equal (R107). -/
def ruleMatches (s : State) (bank key i : Nat) : Bool :=
  decide (key &&& ruleBits s bank i 7 = ruleBits s bank i 0 &&& ruleBits s bank i 7)

/-- The lowest valid matching entry of a bank (R107). -/
def lookup (s : State) (bank key : Nat) : Option Nat := (validRules s bank).find? (fun i => ruleMatches s bank key i)

/-- The bank of the active generation. -/
def activeBank (s : State) : Nat := getF s TG_GEN_CTRL_ACTIVE_BANK

/-- The number of the active generation. -/
def activeGen (s : State) : Nat := getF s TG_GEN_STATUS_ACTIVE

/-- An entry's result (R108). -/
structure RuleResult where
  action : Nat
  perm : Nat
  policer : Nat
  partner : Nat
  laneBase : Nat
  laneCount : Nat
  deriving DecidableEq, Repr

/-- The result words of an entry; ACTION 3 is treated as discard. -/
def ruleResult (s : State) (bank i : Nat) : RuleResult :=
  let a := ruleWord s bank i 14
  let b := ruleWord s bank i 15
  ⟨if bitsOf a 1 0 = 3 then 1 else bitsOf a 1 0, bitsOf a 5 2, bitsOf a 11 6, bitsOf a 17 12, bitsOf b 13 0, bitsOf b 28 14⟩

/-! ### Policing (R112 to R114) -/

/-- A policer's bucket at the present instant. -/
def policerLevel (s : State) (n : Nat) : Int :=
  let b := cellGet (fun _ => (⟨0, 0⟩ : Bucket)) s.tg.buckets n
  min ((getF s (TG_POL_w1_DEPTH n) * 500000 : Nat) : Int) (b.level + ((getF s (TG_POL_w0_RATE n) * (s.elapsed - b.stamp) : Nat) : Int))

/-- A policer's bucket set to a level at the present instant. -/
def setPolicer (s : State) (n : Nat) (level : Int) : State :=
  { s with tg := { s.tg with buckets := cellPut (fun _ => ⟨0, 0⟩) s.tg.buckets n ⟨level, s.elapsed⟩ } }

/-- A frame of `len` bytes is charged (R112): true when it conforms. A policer with EN = 0 passes every frame and charges
nothing (R114); a frame that does not conform is counted. -/
def police (s : State) (n len : Nat) : Bool × State :=
  if flag s (TG_POL_w1_EN n) = false then (true, s)
  else
    let charge : Int := ((len + getF s TG_POL_OVH_OVH) * 500000 : Nat)
    let level := policerLevel s n
    if charge ≤ level then (true, setPolicer s n (level - charge)) else (false, bump s (cTG_CNT (8 + n)))

/-- A write to RATE or DEPTH sets the bucket to the new DEPTH (R114). -/
def policerWritten (s : State) (n : Nat) : State := setPolicer s n ((getF s (TG_POL_w1_DEPTH n) * 500000 : Nat) : Int)

/-! ### Fragments (R102 to R106) -/

/-- The fragment table's entry in a place. -/
def fragAt (s : State) (n : Nat) : Option FragEntry := cellGet (fun _ => none) s.tg.frags n

/-- The fragment table with a place replaced. -/
def setFrag (s : State) (n : Nat) (e : Option FragEntry) : State :=
  { s with tg := { s.tg with frags := cellPut (fun _ => none) s.tg.frags n e } }

/-- Messages still stamped with the retiring generation: entries of the fragment table that a second pass still awaits (R110; a poisoned one awaits none: DEDUCED,
log entry 10). -/
def pinned (s : State) : Nat :=
  (s.tg.frags.filter (fun e => match e.2 with
    | some x => decide (x.generation = s.tg.retiringGen ∧ x.decision = .alp) && ! x.poisoned
    | none => false)).length

/-- A retiring generation that no message is stamped with retires, and its bank becomes free (R110). -/
def retire (s : State) : State :=
  if flag s TG_GEN_CTRL_RETIRING ∧ pinned s = 0 then setFlag s TG_GEN_CTRL_RETIRING false else s

/-- A place of the fragment table is freed: its frames leave their ports' shares. -/
def freeFrag (s : State) (n : Nat) : State := retire (setFrag s n none)

/-- Fragments are discarded and counted (TG counter 5). -/
def discardFrags (s : State) (k : Nat) : State := bumpBy s (cTG_CNT 5) k

/-- The place that holds an entry with a key (R102). -/
def fragFind (s : State) (src dst ident proto : Nat) (v6 : Bool) : Option Nat :=
  (s.tg.frags.find? (fun e => match e.2 with
    | some x => decide (x.src = src ∧ x.dst = dst ∧ x.ident = ident ∧ x.v6 = v6 ∧ (v6 = true ∨ x.proto = proto))
    | none => false)).map (fun e => e.1)

/-- A fragment takes the default action of its port (R98): handed to firmware, or discarded and counted (TG counter 5). -/
def refuseFrag (s : State) (q : Fragment) : State :=
  if flag s (CP_CTRL_DEFACT q.port) then toFirmware s q.port q.frame else discardFrags s 1

/-- A free place of the fragment table. -/
def fragFree (s : State) : Option Nat := (List.range 256).find? (fun n => (fragAt s n).isNone)

/-- The entry is poisoned: what it holds is discarded and counted (R106). -/
def poison (s : State) (n : Nat) (e : FragEntry) (more : Nat) : State :=
  retire (setFrag (discardFrags s (e.pieces.length + more)) n (some { e with poisoned := true, pieces := [] }))

/-- The reassembled payload length, once the last fragment is held. -/
def fragTotal (e : FragEntry) : Option Nat := (e.pieces.find? (fun q => ! q.more)).map (fun q => q.off + q.data.length)

/-- Every fragment of the datagram is held: without overlap, their lengths add up to the whole. -/
def fragComplete (e : FragEntry) : Bool :=
  match fragTotal e with
  | some t => decide ((e.pieces.map (fun q => q.data.length)).sum = t) && e.pieces.any (fun q => decide (q.off = 0))
  | none => false

/-- Whether two fragments overlap. -/
def overlaps (a b : Fragment) : Bool := decide (a.off < b.off + b.data.length ∧ b.off < a.off + a.data.length)

/-- What a first pass finds behind the fragmented IP header (R103): a UDP header, something else, too few bytes to tell, or a limit of R96. -/
inductive FirstUpper where
  | udp (w : Walk) (data : List Byte)
  | other
  | short
  | limit
  deriving DecidableEq, Repr

/-- The upper layer of a first fragment; behind an IPv6 fragment header further extension headers may stand. -/
def firstUpper (v6 : Bool) : Nat → Nat → Walk → List Byte → FirstUpper
  | 0, _, _, _ => .limit
  | fuel + 1, next, w, rest =>
    if next = 17 then .udp w rest
    else if v6 && decide (next = 0 ∨ next = 43 ∨ next = 60) then
      let n := 8 + 8 * beAt rest 1 1
      if rest.length < 8 ∨ rest.length < n then .short
      else match w.visit n with
        | none => .limit
        | some w => firstUpper v6 fuel (beAt rest 0 1) w (rest.drop n)
    else .other

/-- What a first pass gives a datagram (R103): its decision, its policer, the counter of the default action it takes (0 limits, 1 malformed, 3 no
match), and the length of the extension headers before the UDP header. -/
structure FirstPass where
  decision : FragDecision
  policer : Nat
  cause : Option Nat
  ext : Nat
  deriving DecidableEq, Repr

/-- A first pass that ends in the default action, for a cause. -/
def FirstPass.refused (cause : Nat) : FirstPass := ⟨.defaultAction, 0, some cause, 0⟩

/-- What the first pass decides for a datagram (R103, R106). -/
def firstPass (s : State) (r : Route) (v6 : Bool) (w : Walk) (proto : Nat) (data : List Byte) : FirstPass :=
  match firstUpper v6 9 proto w data with
  | .limit => .refused 0
  | .other => .refused 3
  | .short => .refused 1
  | .udp w u =>
    if u.length < 8 then .refused 1
    else if beAt u 2 2 ≠ getF s TG_UDP_PORT_PORT then .refused 3
    else if u.length < 32 then .refused 1
    else match (w.visit 8).bind (fun w => w.visit 24) with
      | none => .refused 0
      | some _ =>
        match lookup s (activeBank s) (ruleKey { r with srcPort := beAt u 0 2 } (beAt u 9 1) (beAt u 12 2)) with
        | none => .refused 3
        | some i =>
          let x := ruleResult s (activeBank s) i
          ⟨if x.action = 0 then .alp else if x.action = 1 then .discard else .firmware, x.policer, none, data.length - u.length⟩

/-- One fragment follows its entry's decision as it arrives (R104, R106, R113). The piece is already held in the entry in place `n`. Under
the default action a fragment that is discarded is counted with the fragment discards (R98, log entry 10). -/
def followDecision (s : State) (n : Nat) (q : Fragment) : State :=
  match fragAt s n with
  | none => s
  | some e =>
    if e.poisoned then s
    else
      let drop := { e with pieces := e.pieces.filter (fun x => decide (x ≠ q)) }
      match e.decision with
      | .undecided => s
      | .alp =>
        match police s e.policer q.frame.len with
        | (true, s1) => s1
        | (false, s1) => poison s1 n e 0
      | .discard =>
        match police s e.policer q.frame.len with
        | (true, s1) => discardFrags (bump (setFrag s1 n (some drop)) (cTG_CNT 4)) 1
        | (false, s1) => poison s1 n e 0
      | .firmware =>
        match police s e.policer q.frame.len with
        | (true, s1) => toFirmware (setFrag s1 n (some drop)) q.port q.frame
        | (false, s1) => poison s1 n e 0
      | .defaultAction => refuseFrag (setFrag s n (some drop)) q

/-- A reassembled UDP datagram may have at most 9,008 bytes (R106): a piece that reaches beyond them, the extension headers before the UDP
header not counted. -/
def beyondLimit (e : FragEntry) (q : Fragment) : Bool := decide (9008 + e.ext < q.off + q.data.length)

/-- The first fragment takes the default action for a cause that has been counted. Where it ends before the end of the ALP header (cause 1) the
entry is poisoned (R106); otherwise the held fragments and later ones take the default action too (R104). -/
def refuseDatagram (s : State) (n : Nat) (e : FragEntry) (q : Fragment) (cause : Nat) : State :=
  let e1 := { e with decision := .defaultAction }
  if cause = 1 then
    poison ((e.pieces ++ [q]).foldl refuseFrag s) n { e1 with pieces := [] } 0
  else
    e.pieces.foldl (fun s x => followDecision s n x) (defaultAction (setFrag s n (some e1)) q.port q.frame)

/-- The first fragment decides for the whole datagram; it and the held fragments, in arrival order, follow the decision (R103, R104, R113): the
first is charged before those that were held (log entry 10). -/
def decideFrag (s : State) (n : Nat) (r : Route) (w : Walk) (proto : Nat) (e : FragEntry) (q : Fragment) : State :=
  let x := firstPass s r e.v6 w proto q.data
  match x.cause with
  | some c => refuseDatagram (bump s (cTG_CNT c)) n e q c
  | none =>
    let e1 := { e with decision := x.decision, policer := x.policer, generation := activeGen s, bank := activeBank s, ext := x.ext,
                       pieces := e.pieces ++ [q] }
    if x.decision = .alp ∧ e1.pieces.any (beyondLimit e1) then poison s n e1 0
    else (q :: e.pieces).foldl (fun s x => followDecision s n x) (setFrag s n (some e1))

/-- A fragment joins the entry in place `n` (R104, R106). Rows of R106 that apply together are judged in the order poisoned, repeat, overlap, size,
early overflow (log entry 69). -/
def joinFrag (s : State) (n : Nat) (r : Route) (w : Walk) (proto : Nat) (e : FragEntry) (q : Fragment) : State :=
  if e.poisoned then discardFrags s 1
  else if e.pieces.any (fun x => decide (x.off = q.off ∧ x.data.length = q.data.length)) then discardFrags s 1
  else if e.pieces.any (fun x => overlaps x q) then poison s n e 1
  else if 16 ≤ e.pieces.length ∨ (e.decision = .alp ∧ beyondLimit e q) then poison s n e 1
  else if e.decision = .undecided then
    if q.off = 0 then decideFrag s n r w proto e q
    else if 4 ≤ e.pieces.length then poison s n e 1
    else setFrag s n (some { e with pieces := e.pieces ++ [q] })
  else followDecision (setFrag s n (some { e with pieces := e.pieces ++ [q] })) n q

/-- A fragment arrives (R102 to R106). The frame has left the port's waiting frames. -/
def fragmentIn (s : State) (r : Route) (w : Walk) (ident proto off : Nat) (more : Bool) (data : List Byte) (f : Frame) : State :=
  let v6 := decide (r.encap = 2)
  let q : Fragment := ⟨r.port, off, more, data, f⟩
  match fragFind s r.srcIp r.dstIp ident proto v6 with
  | some n =>
    match fragAt s n with
    | some e => joinFrag s n r w proto e q
    | none => s
  | none =>
    match fragFree s with
    | none => discardFrags s 1
    | some n =>
      let e : FragEntry := ⟨r.srcIp, r.dstIp, ident, proto, v6, 0, 0, 0, .undecided, 0, [], false, s.elapsed + 400000⟩
      joinFrag (setFrag s n (some e)) n r w proto e q

/-! ### Verdicts (R97, R98) -/

/-- A port's oldest frame leaves those that wait for a parse engine. -/
def leaveBuffer (s : State) (p : Nat) : State :=
  let x := portOf s p
  setPort s p { x with frames := x.frames.drop 1 }

/-- A classified message enters admission's queue: ordered by arrival time, then port (R133). -/
def enqueueMsg (m : Msg) : List Msg → List Msg
  | [] => [m]
  | x :: t =>
    if m.arrival < x.arrival ∨ (m.arrival = x.arrival ∧ m.route.port < x.route.port) then m :: x :: t
    else x :: enqueueMsg m t

/-- Recovery mode (R414). -/
def recovering (s : State) : Bool := decide (getF s NV_STATUS_STAGE = 6)

/-- ALP messages are not processed: a boot has begun whose footing image is not checked yet (R385, R408), or whose epoch write has failed (R413). -/
def alpBarred (s : State) : Bool := decide (getF s NV_STATUS_STAGE ≠ 0) && ! flag s NV_STATUS_FOOT_OK && ! recovering s

/-- An ALP message meets the rules of a bank and, on its own frame, the policer (R107, R108, R112). -/
def classify (s : State) (bank : Nat) (r : Route) (msg : List Byte) (f : Frame) (charge : Bool) : State :=
  match lookup s bank (ruleKey r (beAt msg 1 1) (beAt msg 4 2)) with
  | none => defaultAction (bump s (cTG_CNT 3)) r.port f
  | some i =>
    let x := ruleResult s bank i
    match if charge then police s x.policer f.len else (true, s) with
    | (false, s1) => s1
    | (true, s1) =>
      if x.action = 0 then
        if alpBarred s1 then s1 else { s1 with tg := { s1.tg with inbox := enqueueMsg ⟨r, f.arrival, x.partner, x.laneBase, x.laneCount, x.perm, msg, f⟩ s1.tg.inbox } }
      else if x.action = 1 then bump s1 (cTG_CNT 4)
      else toFirmware s1 r.port f

/-- An ALP message in recovery mode: Ethernet encapsulation only, classified as partner 0, lane 0, with every class but requests (R414). -/
def recoveryMsg (s : State) (r : Route) (msg : List Byte) (f : Frame) : State :=
  if r.encap = 0 then { s with tg := { s.tg with inbox := enqueueMsg ⟨r, f.arrival, 0, 0, 1, 0xE, msg, f⟩ s.tg.inbox } }
  else defaultAction s r.port f

/-- What a verdict does with its frame, which has left the buffer (R97, R98, R100). -/
def applyVerdict (s : State) (p : Nat) (f : Frame) : Verdict → State
  | .alp r msg => if recovering s then recoveryMsg s r msg f else classify s (activeBank s) r msg f true
  | .ptp r msg => ptpArrive s ⟨r, f.arrival, msg⟩
  | .fragment r w ident proto off more data =>
    if recovering s then defaultAction s p f else fragmentIn s r w ident proto off more data f
  | .noMatch => defaultAction (bump s (cTG_CNT 3)) p f
  | .limit => defaultAction (bump s (cTG_CNT 0)) p f
  | .lengths => defaultAction (bump s (cTG_CNT 1)) p f
  | .checksum => bump s (cTG_CNT 2)

/-- Whether an engine is in service: its FAILED bit is 0 (R101). -/
def engineFree (s : State) (e : Nat) : Bool := ! (getF s TG_ENGINE_FAILED).testBit e

/-- Whether a frame is one to 01-80-C2-00-00-0E: every such frame is discarded and counted (R148). -/
def peerDelayFrame (f : Frame) : Bool := decide (beAt f.bytes 0 6 = 0x0180C200000E)

/-- PARSE_WALK (R96 to R100): a free engine takes the port's oldest frame. An uncorrectable error of the buffer discards
the frame (MEM_UE_BUF, R465; its byte address is a free value). -/
def execParseWalk (p : Port) (e : Engine) (bufferUe : Bool) (ecc : List MemUpset) (s : State) : Out :=
  match (portOf s p).frames with
  | [] => .next s
  | f :: _ =>
    if engineFree s e = false then .next s
    else if bufferUe then
      let (a, s1) := fresh s (2 ^ 21)
      .next (pfcSettle (raise (leaveBuffer (bump s1 (cCP_CNT p 8)) p) (0x100 + p) 0x04 clsCorrected false a))
    else if peerDelayFrame f then .next (pfcSettle (bump (leaveBuffer s p) (cNT_CNT 4)))
    else .next (pfcSettle (applyVerdict (leaveBuffer (meetEcc s ecc) p) p f (walk s p f)))

/-- Whether the datagram of an entry is complete and awaits its second pass (R105). -/
def awaitsPass (e : FragEntry) : Bool := ! e.poisoned && decide (e.decision = .alp) && fragComplete e

/-- A walk is under way or due: of a frame that waits at the port, or of a datagram that awaits its second pass. -/
def walkDue (s : State) (p : Nat) : Bool :=
  ! (portOf s p).frames.isEmpty || s.tg.frags.any (fun e => e.2.any awaitsPass)

/-- ENGINE_FAULT (R101): the engine is withdrawn, its FAILED bit set; the frame or datagram stays, to be walked again from its first
byte by another engine. -/
def execEngineFault (p : Port) (e : Engine) (s : State) : Out :=
  if engineFree s e = false ∨ walkDue s p = false then .next s
  else
    let s1 := setF s TG_ENGINE_FAILED (getF s TG_ENGINE_FAILED ||| 2 ^ e.val)
    .next (raise (bump s1 (cTG_CNT 7)) 0x000 0x10 clsCorrected false e)

/-- FRAGMENT_TIMEOUT (R102, R106): an entry 100 µs old that has not completed is freed, its fragments discarded. -/
def execFragmentTimeout (n : FragSlot) (s : State) : Out :=
  match fragAt s n with
  | none => .next s
  | some e =>
    if e.deadline ≤ s.elapsed ∧ awaitsPass e = false then
      .next (pfcSettle (freeFrag (discardFrags (bump s (cTG_CNT 6)) e.pieces.length) n))
    else .next s

/-- The whole payload of a completed datagram, in order of offset. -/
def fragPayload (e : FragEntry) : List Byte :=
  (List.range ((fragTotal e).getD 0)).map (fun i =>
    match e.pieces.find? (fun q => decide (q.off ≤ i ∧ i < q.off + q.data.length)) with
    | some q => q.data.getD (i - q.off) 0
    | none => 0)

/-- The walk of a whole datagram (R105): the headers of its first fragment's frame, then the reassembled payload. `f` is the datagram as one frame. -/
def secondWalk (s : State) (e : FragEntry) (q : Fragment) (f : Frame) : Verdict :=
  match walk s q.port q.frame with
  | .fragment r w _ proto _ _ _ =>
    if e.v6 then walkIp6 (getF s TG_UDP_PORT_PORT) f.len 9 proto w r (fragPayload e)
    else walkUdp (getF s TG_UDP_PORT_PORT) w r f.len (fragPayload e)
  | v => v

/-- The arrival time of a reassembled datagram: that of the last fragment to arrive (R23, R105). -/
def lastArrival (e : FragEntry) : Nat := (e.pieces.map (fun q => q.frame.arrival)).foldl max 0

/-- REASSEMBLY_PASS (R105): the completed datagram takes a second pass under its stamped generation; its port is that of its first fragment
(log entry 69); it is not charged again (R113). -/
def execReassemblyPass (n : FragSlot) (e : Engine) (ecc : List MemUpset) (s : State) : Out :=
  match fragAt s n with
  | none => .next s
  | some x =>
    if engineFree s e = false ∨ awaitsPass x = false then .next s
    else
      match x.pieces.find? (fun q => decide (q.off = 0)) with
      | some q =>
        let f : Frame := ⟨q.frame.bytes.take (q.frame.bytes.length - q.data.length) ++ fragPayload x, lastArrival x⟩
        let s1 := setFrag (meetEcc s ecc) n none
        let s2 := match secondWalk s x q f with
          | .alp r msg => classify s1 x.bank r msg f false
          | v => applyVerdict s1 q.port f v
        .next (pfcSettle (retire s2))
      | none => .next s

/-! ### Generations (R109 to R111) -/

/-- COMMIT (R110): the free bank becomes active under the next generation number and the old one retires; while one is
still retiring, nothing changes but COMMIT_ERR. -/
def commit (s : State) : State :=
  if flag s TG_GEN_CTRL_RETIRING then event s TG_GEN_CTRL_COMMIT_ERR
  else
    let old := activeGen s
    let s1 := setF (setF s TG_GEN_STATUS_ACTIVE ((old + 1) % 2 ^ 16)) TG_GEN_CTRL_ACTIVE_BANK (1 - activeBank s)
    retire { setFlag s1 TG_GEN_CTRL_RETIRING true with tg := { s1.tg with retiringGen := old } }

/-- Whether a bank may be written: it is neither active nor retiring (R111). -/
def bankFree (s : State) (bank : Nat) : Bool := decide (bank ≠ activeBank s) && ! flag s TG_GEN_CTRL_RETIRING

/-- An operation of TG_RULE_OP (R111): 1 reads the entry into TG_RULE_DATA, 2 writes it from there, 3 copies the whole active
bank into the addressed bank; a write or copy whose bank is not free sets REFUSED and does nothing else. -/
def ruleOp (s : State) (op : Nat) : State :=
  let bank := getF s TG_RULE_OP_BANK
  let i := getF s TG_RULE_OP_INDEX
  if op = 1 then (List.range 16).foldl (fun t k => wr t (aTG_RULE_DATA_w0 + 4 * k) (ruleWord s bank i k)) s
  else if op = 0 then s
  else if bankFree s bank = false then event s TG_RULE_OP_REFUSED
  else if op = 2 then (List.range 16).foldl (fun t k => setRuleWord t bank i k (rd s (aTG_RULE_DATA_w0 + 4 * k))) s
  else
    let act := s.tg.rules.filter (fun e => decide (e.1 / 16384 = activeBank s))
    let moved := act.map (fun e => (e.1 % 16384 + bank * 16384, e.2))
    { s with tg := { s.tg with rules := if bank = 0 then moved ++ act else act ++ moved } }

end Sys2Proof.Machine
end

