-- ==== Sys2Proof/Machine/Windows.lean ====
section
/-!
DEFINITION. Machine/Windows.lean: the lift schedule as a sequence of windows (R164 to R168), and the quantities admission
computes from it (R122). Times are network-time nanoseconds.
-/
namespace Sys2Proof.Machine

/-- The active bank. -/
def lsBank (s : State) : Nat := getF s LS_CTRL_ACTIVE_BANK

/-- CYCLE of a bank. -/
def cycleOf (s : State) (b : Nat) : Nat := getF s (LS_BANK_w0_CYCLE b)

/-- PHASE of a bank. -/
def phaseOf (s : State) (b : Nat) : Nat := getF s (LS_BANK_w1_PHASE b)

/-- COUNT of a bank. -/
def countOf (s : State) (b : Nat) : Nat := getF s (LS_BANK_w2_COUNT b)

/-- Class of entry i of a bank (R168): 0 full, 1 delta, 2 calibration, 3 quiet. -/
def entryClass (s : State) (b i : Nat) : Nat := getF s (LS_ENTRY_CLASS (256 * b + i))

/-- Duration of entry i of a bank in nanoseconds. -/
def entryDur (s : State) (b i : Nat) : Nat := getF s (LS_ENTRY_DURATION (256 * b + i))

/-- R166: whether a bank is valid. -/
def bankValid (s : State) (b : Nat) : Bool :=
  let c := cycleOf s b
  let n := countOf s b
  decide (0 < c ∧ 1000000000 % c = 0 ∧ phaseOf s b < c ∧ 1 ≤ n ∧ n ≤ 256)
    && decide (((List.range n).map (entryDur s b)).sum = c)
    && (List.range n).all (fun i =>
      if entryClass s b i ≤ 1 then decide (2000 ≤ entryDur s b i ∧ getF s AD_PIPE_C ≤ entryDur s b i)
      else decide (100 ≤ entryDur s b i))

/-- The first cycle boundary of a bank at or after `t` (R165). -/
def boundaryFrom (s : State) (b t : Nat) : Nat :=
  let c := cycleOf s b
  if c = 0 then t else t + (phaseOf s b + (c - t % c)) % c

/-- The last cycle boundary of a bank at or before `t`; 0 where there is none. -/
def boundaryUpTo (s : State) (b t : Nat) : Nat :=
  let n := boundaryFrom s b t
  if n = t then t else n - cycleOf s b

/-- One window of the schedule: its bank, its start and its entry. -/
structure Win where
  bank : Nat
  start : Nat
  entry : Nat
  deriving DecidableEq, Repr

/-- The class of a window. -/
def winClass (s : State) (w : Win) : Nat := entryClass s w.bank w.entry

/-- Whether a window carries requests: full or delta class (R122). -/
def isRequestWin (s : State) (w : Win) : Bool := decide (winClass s w ≤ 1)

/-- The window after a window: the next entry, or entry 0 of the next cycle; at the boundary B of a pending swap the new bank
begins at its boundary N (R172). -/
def nextWin (s : State) (w : Win) : Win :=
  let t := w.start + entryDur s w.bank w.entry
  let i := if w.entry + 1 < countOf s w.bank then w.entry + 1 else 0
  match s.nt.swapAt with
  | some (b, n) => if w.bank = lsBank s ∧ b ≤ t then ⟨1 - w.bank, n, 0⟩ else ⟨w.bank, t, i⟩
  | none => ⟨w.bank, t, i⟩

/-- The first request window at or after a window, among the next `fuel`. -/
def seekReq (s : State) : Nat → Win → Option Win
  | 0, _ => none
  | fuel + 1, w => if isRequestWin s w then some w else seekReq s fuel (nextWin s w)

/-- Two cycles of entries, and one swap: as far as the next request window can lie. -/
def winFuel : Nat := 1026

/-- The request window after a window. -/
def nextReq (s : State) (w : Win) : Option Win := seekReq s winFuel (nextWin s w)

/-- Whether the schedule runs (LS_CTRL.RUN) and admission may find windows in it (R167, R173). A TARGET below Service acts as EN = 0
does (R385). -/
def schedRuns (s : State) : Bool := flag s LS_CTRL_RUN && flag s LS_CTRL_EN && decide (getF s TH_PCTRL_TARGET = 4)

/-- The window the search for request windows begins with: entry 0 of the cycle two before the one that holds `t`. -/
def winBefore (s : State) (t : Nat) : Win :=
  let b := lsBank s
  ⟨b, boundaryUpTo s b (t - 2 * cycleOf s b), 0⟩

/-- A request window together with the start of the request window before it (W′ of R122). -/
structure ReqWin where
  prev : Nat
  win : Win
  deriving DecidableEq, Repr

/-- Steps forward from `w`, a request window, to the first request window that starts at or after `t` and that occurs
(not before `winFrom`). -/
def advanceTo (s : State) (t : Nat) : Nat → Nat → Win → Option ReqWin
  | 0, _, _ => none
  | fuel + 1, prev, w =>
    if t ≤ w.start ∧ s.nt.winFrom ≤ w.start then
      some ⟨if prev < s.nt.winFrom then s.nt.prevReq.getD prev else prev, w⟩
    else match nextReq s w with
      | some w' => advanceTo s t fuel w.start w'
      | none => none

/-- The first request window that starts at or after `t`, with its predecessor. Where none precedes it since the schedule
started, the predecessor is the one the cycle would have had (DEDUCED, log entry 15). -/
def firstReq (s : State) (t : Nat) : Option ReqWin :=
  match seekReq s winFuel (winBefore s t) with
  | none => none
  | some w =>
    let c := cycleOf s (lsBank s)
    let fuel := if s.nt.winFrom ≤ t then 4 * winFuel else 4 * winFuel + 2 * 256 * ((s.nt.winFrom - t) / (c + 1) + 1)
    match nextReq s w with
    | some w' => advanceTo s t fuel w.start w'
    | none => none

/-- The next request window after one. -/
def reqAfter (s : State) (r : ReqWin) : Option ReqWin :=
  match nextReq s r.win with
  | some w => some ⟨r.win.start, w⟩
  | none => none

/-- D: dispatch-to-window-start bound, P - 340 ns (R122). -/
def dispatchBound (s : State) : Int := (getF s AD_PIPE_P : Int) - 340

/-- close_W (R122). -/
def closeOf (s : State) (tW : Nat) : Int := (tW : Int) - dispatchBound s

/-- open_W: the later of close_W′ + c and t_W′ - D + 1,280 ns (R122). -/
def openOf (s : State) (r : ReqWin) : Int :=
  max (closeOf s r.prev + (getF s AD_PIPE_C : Int)) (closeOf s r.prev + 1280)

/-- K_W: the dispatch slots a request window offers, 1 + ⌊(close_W - open_W) / c⌋, none when that is negative (R122). -/
def slotsOf (s : State) (r : ReqWin) : Nat :=
  if getF s AD_PIPE_C = 0 then 1
  else (1 + (closeOf s r.win.start - openOf s r) / (getF s AD_PIPE_C : Int)).toNat

end Sys2Proof.Machine
end

