-- ==== Sys2Proof/Machine/Lanes.lean ====
section
/-!
DEFINITION. Machine/Lanes.lean: lanes and their credit (R42 to R53), the messages the device queues (R34, R47, R63 to R72,
R530), the retained replies (R45), and the egress shapers (R137 to R141, R531).
-/
namespace Sys2Proof.Machine

/-! ### Lanes -/

/-- A lane. -/
def laneOf (s : State) (l : Nat) : Lane := cellGet (fun _ => Lane.init) s.ad.lanes l

/-- The state with a lane replaced. -/
def setLane (s : State) (l : Nat) (x : Lane) : State :=
  { s with ad := { s.ad with lanes := cellPut (fun _ => Lane.init) s.ad.lanes l x } }

/-- Owning partner of a lane's configuration (LN_CFG). -/
def lanePartner (x : Lane) : Nat := bitsOf x.cfg.cfg 5 0
/-- Whether the lane permits a request type 1, 2 or 3 (FULL, DELTA, GROUP). -/
def lanePermits (x : Lane) (typ : Nat) : Bool := decide (1 ≤ typ ∧ typ ≤ 3) && x.cfg.cfg.getLsbD (5 + typ)
/-- The lane admits disturbance. -/
def laneDisturb (x : Lane) : Bool := x.cfg.cfg.getLsbD 9
/-- Completion reports are on. -/
def laneCrep (x : Lane) : Bool := x.cfg.cfg.getLsbD 10
/-- The lane is enabled. -/
def laneEn (x : Lane) : Bool := x.cfg.cfg.getLsbD 11
/-- Weight w. -/
def laneWeight (x : Lane) : Nat := bitsOf x.cfg.cfg 23 16
/-- Cell quota Q. -/
def laneQ (x : Lane) : Nat := bitsOf x.cfg.quota 14 0
/-- Promise limit in nanoseconds. -/
def lanePL (x : Lane) : Nat := 1000 * bitsOf x.cfg.promise 19 0

/-- The requests of a lane that are in flight. -/
def laneFlight (s : State) (l : Nat) : List Request := s.ad.inflight.filter (fun r => decide (r.lane = l))

/-- O: cells of the lane's requests in flight (R49). -/
def laneO (s : State) (l : Nat) : Nat := ((laneFlight s l).map (fun r => r.cells)).sum

/-- L := (C + Q - O) mod 65,536 (R49). -/
def laneL (s : State) (l : Nat) : Nat :=
  let x := laneOf s l
  (x.c + laneQ x + (65536 - laneO s l % 65536)) % 65536

/-- Cells a partner's requests in flight hold. -/
def usedCells (s : State) (p : Nat) : Nat :=
  ((s.ad.inflight.filter (fun r => decide (r.partner = p))).map (fun r => r.cells)).sum

/-- L may have advanced: 2 µs from the first advance that no message has carried, a CREDIT falls due (R53). -/
def creditMoved (s : State) (l : Nat) : State :=
  if laneL s l = (laneOf s l).shownL then s
  else if armed s (.credit l) then s else armIn s (.credit l) 2000

/-! ### Queueing a device message -/

/-- A partner's egress shaper. -/
def shaperOf (s : State) (p : Nat) : Shaper := cellGet (fun _ => Shaper.init) s.ad.shapers p

/-- The state with a shaper replaced. -/
def setShaper (s : State) (p : Nat) (x : Shaper) : State :=
  { s with ad := { s.ad with shapers := cellPut (fun _ => Shaper.init) s.ad.shapers p x } }

/-- A message of lane `l` enters its partner's reply queue with L in CREDIT (R49, R138); the lane's partner has then been
shown L. -/
def queueReply (s : State) (p l typ seq echo time : Nat) (body : List Byte) (r : Route) (counts : Bool) : State :=
  let m : OutMsg := ⟨l, typ, seq, echo, time, laneL s l, body, r, counts, true, none⟩
  let x := shaperOf s p
  let s1 := setShaper s p { x with replies := x.replies ++ [m] }
  disarm (setLane s1 l { laneOf s1 l with shownL := laneL s l }) (.credit l)

/-- The reply to sequence number `r.seq` is retained: it replaces the lane's retained reply for that number (R45). -/
def retainAgain (s : State) (l : Nat) (r : Retained) : State :=
  let x := laneOf s l
  setLane s l { x with retained := x.retained.map (fun q => if q.seq = r.seq then r else q) }

/-- The reply to a newly processed sequence number is retained; four are kept (R45). -/
def retainNew (s : State) (l : Nat) (r : Retained) : State :=
  let x := laneOf s l
  setLane s l { x with retained := (r :: x.retained).take 4 }

/-- An unsolicited message with its own sequence number goes the way of the lane's latest message; on a lane that has
received none it is not sent (R34, R47, R53). -/
def queueUnsolicited (s : State) (l typ time : Nat) (body : List Byte) : State :=
  match (laneOf s l).route with
  | none => s
  | some r =>
    let n := (laneOf s l).devCnt
    let s1 := setLane s l { laneOf s l with devCnt := (n + 1) % 2 ^ 32 }
    queueReply s1 (lanePartner (laneOf s l)) l typ n 0 time body r false

/-- A report on a request (ROUTE_REPORT, CANCEL, COMPLETE): its SEQ and ECHO are the request's, its way that of the lane's
latest message (R34, R47). -/
def queueReport (s : State) (q : Request) (typ time : Nat) (body : List Byte) : State :=
  match (laneOf s q.lane).route with
  | none => s
  | some r => queueReply s q.partner q.lane typ q.seq q.echo time body r false

/-- The epoch as two bytes. -/
def epochBytes (s : State) : List Byte := beBytes 2 (s.epoch % 65536)

/-! ### Requests leave flight -/

/-- The request leaves flight: its entry and cells are returned at the same instant (R119, R120). -/
def dropRequest (s : State) (id : Nat) : State :=
  { s with ad := { s.ad with inflight := s.ad.inflight.filter (fun r => decide (r.id ≠ id)) },
           ks := { s.ks with queue := s.ks.queue.filter (fun i => decide (i ≠ id)) } }

/-- An accepted request is cancelled (R68, R69): its cells return, its slot stays spent and counts as wasted, CANCEL is
queued and retained. -/
def cancelRequest (s : State) (q : Request) (code index detail : Nat) : State :=
  let body := beBytes 1 code ++ [0] ++ beBytes 2 index ++ beBytes 4 detail
  let s1 := bump (bump (dropRequest s q.id) (cAD_CNT 17)) (cTY_SLOT 1)
  let s2 := life s1 13
  let s3 := retainAgain s2 q.lane ⟨q.seq, 0x86, q.deliver, body, q.deliver, false, q.disturbed⟩
  creditMoved (queueReport s3 q 0x86 q.deliver body) q.lane

/-- Every request in flight that `p` selects is discarded without a message (R441, R457, R382, R438): its slot counts as wasted. -/
def discardRequests (s : State) (p : Request → Bool) : State :=
  let gone := s.ad.inflight.filter p
  let s1 := { s with ad := { s.ad with inflight := s.ad.inflight.filter (fun r => ! p r) },
                     ks := { s.ks with queue := s.ks.queue.filter (fun i => ! gone.any (fun r => decide (r.id = i))) } }
  gone.foldl (fun s r => creditMoved (bump s (cTY_SLOT 1)) r.lane) s1

/-- The due request with the earliest delivery time (R126). -/
def dueDelivery (s : State) : Option Request :=
  (s.ad.inflight.filter (fun r => decide (r.deliver ≤ netNs s))).foldl
    (fun b r => match b with
      | none => some r
      | some x => if r.deliver < x.deliver then some r else some x) none

/-- A request is delivered: entry and cells return, its slot is retired, and where its ACCEPT announced one, a COMPLETE is
queued with the delivery time (R71, R119, R120, R473). -/
def deliverRequest (s : State) (q : Request) : State :=
  let s1 := bump (bump (dropRequest s q.id) (cAD_CNT 20)) (cTY_SLOT 0)
  let s2 := lifeRemainder s1 12 (2 ^ 20) 1
  let body := [0#8, 0#8] ++ epochBytes s
  let s3 := if q.crep then
      queueReport (retainAgain s2 q.lane ⟨q.seq, 0x83, q.deliver, body, q.deliver, true, q.disturbed⟩) q 0x83 q.deliver body
    else retainAgain s2 q.lane
      (match (laneOf s2 q.lane).retained.find? (fun r => decide (r.seq = q.seq)) with
        | some r => { r with deliver := q.deliver, delivered := true, disturbed := q.disturbed }
        | none => ⟨q.seq, 0x83, q.deliver, body, q.deliver, true, q.disturbed⟩)
  creditMoved s3 q.lane

/-- DELIVERY (R126): at its delivery time an accepted request is delivered. -/
def execDelivery (s : State) : Out :=
  match dueDelivery s with
  | some q => .next (deliverRequest s q)
  | none => .next s

/-! ### Egress (R137 to R141, R531) -/

/-- A lane's replies that wait and count among its four (R137). -/
def unsent (s : State) (l : Nat) : Nat :=
  (s.ad.shapers.map (fun e => (e.2.replies.filter (fun m => m.counts && decide (m.lane = l))).length)).sum

/-- The priority of a device frame on a route: the copied outer tag's PCP, else DEF_PRI of the port (R34, R94). -/
def routePrio (s : State) (r : Route) : Nat :=
  match r.tags with
  | t :: _ => t % 2 ^ 16 / 2 ^ 13
  | [] => getF s (CP_CTRL_DEF_PRI r.port)

/-- Whether a frame may start on a route now: its port runs with its link up, its priority is not paused (R138). -/
def canStart (s : State) (r : Route) : Bool := portUp s r.port && ! paused s r.port (routePrio s r)

/-- The way a message leaves: its own route, or, where the link of that port is down, the lane's latest (R531). -/
def wayOf (s : State) (m : OutMsg) : Route :=
  if flag s (CP_STATUS_LINK m.route.port) then m.route
  else if m.owned then (match (laneOf s m.lane).route with
    | some r => if flag s (CP_STATUS_LINK r.port) then r else m.route
    | none => m.route)
  else m.route

/-- Whether a destination IP address is unicast (PRESUMED address ranges, log entry 13). -/
def unicastIp (v6 : Bool) (a : Nat) : Bool :=
  if v6 then decide (a / 2 ^ 120 ≠ 0xFF ∧ a ≠ 0) else decide (a / 2 ^ 28 ≠ 14 ∧ a ≠ 0xFFFFFFFF ∧ a ≠ 0)

/-- The ALP message of a device message (R36): VER 1, HFLAGS 0. -/
def alpBytes (m : OutMsg) : List Byte :=
  beBytes 1 0x10 ++ beBytes 1 m.typ ++ beBytes 2 (24 + m.body.length) ++ beBytes 2 m.lane ++ beBytes 2 m.credit
    ++ beBytes 4 m.seq ++ beBytes 4 m.echo ++ alpTime m.time ++ m.body

/-- The frame that carries a message on a way (R34, R35). -/
def frameFor (s : State) (m : OutMsg) (r : Route) : OutFrame :=
  let v6 := decide (r.encap = 2)
  let own := if v6 then portIp6 s r.port else getF s (CP_IPV4_ADDR r.port)
  let src := if r.encap = 0 then 0 else if unicastIp v6 r.dstIp then r.dstIp else own
  let bytes := alpBytes m
  ⟨r.port, routePrio s r, r.srcMac, portMac s r.port, r.tags, r.encap, src, r.srcIp, r.dstPort, r.srcPort,
    if r.encap = 0 then 0 else udpChecksumOf v6 src r.srcIp r.dstPort r.srcPort bytes, bytes⟩

/-- A shaper that passes every message: EN = 0, or RATE = 0 (R139). -/
def shaperOpen (s : State) (p : Nat) : Bool :=
  ! flag s (LN_SHP_w1_EN p) || decide (getF s (LN_SHP_w0_RATE p) = 0)

/-- The shaper's level now (R139), in units of 1/500,000 byte. -/
def shaperLevel (s : State) (p : Nat) : Int :=
  let b := (shaperOf s p).bucket
  min ((getF s (LN_SHP_w1_DEPTH p) * 500000 : Nat) : Int)
    (b.level + ((getF s (LN_SHP_w0_RATE p) * (s.elapsed - b.stamp) : Nat) : Int))

/-- The level as LEVEL shows it: bytes, rounded down; 0 with EN = 1 and RATE = 0 (R139). -/
def shaperBytes (s : State) (p : Nat) : Int :=
  if flag s (LN_SHP_w1_EN p) ∧ getF s (LN_SHP_w0_RATE p) = 0 then 0 else shaperLevel s p / 500000

/-- A write to word 0 or 1 of LN_SHP sets the level to DEPTH or to 0, and discards any debt (R140). -/
def shaperWritten (s : State) (p : Nat) : State :=
  let level : Int := if flag s (LN_SHP_w1_RESET_FULL p) then ((getF s (LN_SHP_w1_DEPTH p) * 500000 : Nat) : Int) else 0
  setShaper s p { shaperOf s p with bucket := ⟨level, s.elapsed⟩ }

/-- The first message of a queue that can start, and the queue without it. -/
def takeFirst (s : State) : List OutMsg → Option (OutMsg × List OutMsg)
  | [] => none
  | m :: t =>
    if canStart s (wayOf s m) then some (m, t)
    else match takeFirst s t with
      | some (x, t') => some (x, m :: t')
      | none => none

/-- A message starts: its frame goes out, is counted on its port and charged to the shaper (R139). -/
def startMsg (s : State) (p : Nat) (m : OutMsg) : State :=
  let r := wayOf s m
  let f := frameFor s m r
  let len := outLen f
  let s2 := bump (sendFrame s f) (cLN_CNT (4 * p))
  if shaperOpen s p then s2
  else
    let charge := len + getF s LN_SHP_OVH_OVH
    let level := shaperLevel s p - ((charge * 500000 : Nat) : Int)
    let s3 := setShaper (bumpBy s2 (cLN_CNT (4 * p + 1)) charge) p { shaperOf s2 p with bucket := ⟨level, s.elapsed⟩ }
    if level < 0 then bump s3 (cLN_CNT (4 * p + 3)) else s3

/-- EGRESS_SEND (R138, R139): with the level at least 0, the first reply that can start does; with none, the first
TELEMETRY that can. -/
def execEgressSend (n : Partner) (s : State) : Out :=
  if shaperOpen s n = false ∧ shaperLevel s n < 0 then .next s
  else
    let x := shaperOf s n
    match takeFirst s x.replies with
    | some (m, rest) => .next (startMsg (setShaper s n { x with replies := rest }) n m)
    | none =>
      match takeFirst s x.telemetry with
      | some (m, rest) => .next (startMsg (setShaper s n { x with telemetry := rest }) n m)
      | none => .next s

/-- CREDIT_TIMER (R53): 2 µs after L advanced with no message to carry it, a CREDIT goes out; on a lane that has received no
message it is not sent. -/
def execCreditTimer (l : LaneIx) (s : State) : Out :=
  if due s (.credit l) then
    let s1 := disarm s (.credit l)
    .next (queueUnsolicited s1 l 0x84 0 [])
  else .next s

end Sys2Proof.Machine
end

