-- ==== Sys2Proof/Machine/Ready.lean ====
section
/-!
DEFINITION. Machine/Ready.lean: the device state as ALP shows it (R373) and the predicted ready time (R383).
-/
namespace Sys2Proof.Machine

/-- A temperature field of 12 bits in 1/16 °C. It holds -880 to 2,800 (R427, R432): a value up to 2,800 is itself, any other is negative (DEDUCED, log
entry 41). -/
def tempOf (t : Nat) : Int := if t ≤ 2800 then (t : Int) else (t : Int) - 4096

/-- The loop period of a span as its register gives it, in units of 100 ns, or the one still in force (R265). -/
def spanPeriod (s : State) (n : Nat) : Nat :=
  let p := cellGet (fun _ => 0) s.te.period n
  if p = 0 then getF s (TE_LOOP_PERIOD n) else p

/-- The longest T of any span, in nanoseconds. -/
def longestT (s : State) : Nat := (List.range 36).foldl (fun m n => max m (100 * spanPeriod s n)) 0

/-- The spans whose clamp is closed. -/
def clampedSpans (s : State) : List Nat := (List.range 36).filter (fun n => flag s (LZ_STATUS_CLAMPED n))

/-- The worst case of the steps of R376 from step `k` on, in nanoseconds. -/
def stepsLeft (s : State) (k : Nat) : Nat :=
  let cs := clampedSpans s
  let ramp := cs.foldl (fun m n => max m (1000 * getF s (LZ_PARK_RAMP n))) 0
  (if k ≤ 1 ∧ cs ≠ [] ∧ flag s CAL_CTRL_PWRUP_EN then 6000000 else 0)
    + (if k ≤ 2 then (if cs ≠ [] then ramp else (List.range 36).foldl (fun m n =>
        if flag s (LZ_STATUS_RAMPING n) ∧ k = 2 then max m (1000 * getF s (LZ_PARK_RAMP n)) else m) 0) else 0)
    + (if k ≤ 3 then 20000 else 0) + (if k ≤ 4 then 2 * longestT s else 0)

/-- R of R383. -/
def readyBound (s : State) : Nat :=
  if pstate s = 3 then 0
  else match s.pw.moving with
    | some m => if m.move = Move.readyHold then stepsLeft s m.step else stepsLeft s 1
    | none => stepsLeft s 1

/-- A transition toward Service is under way (R383, R414, R441). While the device descends, none is (DEDUCED, log entry 30). -/
def underWay (s : State) : Bool :=
  decide (getF s TH_PCTRL_TARGET = 4)
    && ((decide (pstate s = 2) && flag s NV_STATUS_FOOT_OK && decide (getF s NV_STATUS_STAGE ≠ 6)) || decide (pstate s = 3))
    && railsGood s 6 && flag s LS_CTRL_EN && bankValid s (lsBank s) && timeValid s && ! flag s TH_STATUS_TSD_PEND
    && (match s.pw.moving with | some m => decide (m.move = Move.readyHold ∨ m.move = Move.holdService) | none => true)

/-- AD_STATUS follows the state: NOT_READY below Service and once a thermal shutdown is decided (R441), the code of R373 with the transition bit. -/
def showState (s : State) : State :=
  let st := pstate s
  setF (setFlag s AD_STATUS_NOT_READY (decide (st ≠ 4) || flag s TH_STATUS_TSD_PEND)) AD_STATUS_STATE (st + (if flag s TH_PSTATE_TRANSIT then 8 else 0))

/-- t_ready as a time, in AD_READY. -/
def setReady (s : State) (t : Nat) : State :=
  setF (setF s AD_READY_S_SECONDS (t / 1000000000)) AD_READY_NS_NANOSECONDS (t % 1000000000)

/-- The predicted ready time AD_READY shows, in nanoseconds; 0 when no transition is under way. -/
def tReady (s : State) : Nat :=
  if getF s AD_READY_S_SECONDS = 0 ∧ getF s AD_READY_NS_NANOSECONDS = 0 then 0
  else extendSec s (getF s AD_READY_S_SECONDS) * 1000000000 + getF s AD_READY_NS_NANOSECONDS

/-- The first cycle boundary after now + R (R383). -/
def predicted (s : State) : Nat := boundaryFrom s (lsBank s) (netNs s + readyBound s + 1)

/-- Readiness is judged again after something it depends on has changed: it begins, ends, or goes on with t_ready kept (R383). -/
def refreshReady (s : State) : State :=
  if underWay s then
    if flag s TH_PSTATE_TRANSIT then showState s else showState (setReady (setFlag s TH_PSTATE_TRANSIT true) (predicted s))
  else showState (setReady (setFlag s TH_PSTATE_TRANSIT false) 0)

/-- A step waits for a rail (R385). -/
def railWait (s : State) : State := refreshReady (event s TH_PINT_RAIL_WAIT)

/-- The truss loops and refresh passes run (R373, R376): in Hold and Service, and in Ready → Hold from the start pass on. -/
def loopsRun (s : State) : Bool :=
  decide (pstate s = 3 ∨ pstate s = 4) || (match s.pw.moving with | some m => decide (m.move = Move.readyHold ∧ 3 ≤ m.step) | none => false)

/-- t_ready is recomputed at the end of a step, and never moved later (R383). -/
def stepReady (s : State) : State :=
  if underWay s then
    let t := predicted s
    let old := tReady s
    showState (setReady (setFlag s TH_PSTATE_TRANSIT true) (if flag s TH_PSTATE_TRANSIT ∧ old ≠ 0 then min old t else t))
  else refreshReady s

/-- The state code becomes `st`; STATE_CHG and its counter mark a transition that ended (R375). -/
def enterState (s : State) (st : Nat) : State := refreshReady (setF s TH_PSTATE_STATE st)

end Sys2Proof.Machine
end

