-- ==== Sys2Proof/Machine/Admission.lean ====
section
/-!
DEFINITION. Machine/Admission.lean: the tests of R131 in their order, the content checks of R61, the choice of the serving
window (R125), acceptance and refusal (R63 to R66, R132), dispatch between lanes (R134, R135), and the queries of R73.
-/
namespace Sys2Proof.Machine

/-! ### The header (R36) -/

/-- VER. -/
def msgVer (m : Msg) : Nat := beAt m.bytes 0 1 / 16
/-- HFLAGS.NB. -/
def msgNB (m : Msg) : Bool := decide (beAt m.bytes 0 1 / 8 % 2 = 1)
/-- HFLAGS.OOS. -/
def msgOOS (m : Msg) : Bool := decide (beAt m.bytes 0 1 / 4 % 2 = 1)
/-- TYPE. -/
def msgType (m : Msg) : Nat := beAt m.bytes 1 1
/-- LENGTH. -/
def msgLen (m : Msg) : Nat := beAt m.bytes 2 2
/-- LANE, all 16 bits. -/
def msgLane (m : Msg) : Nat := beAt m.bytes 4 2
/-- SEQ. -/
def msgSeq (m : Msg) : Nat := beAt m.bytes 8 4
/-- ECHO. -/
def msgEcho (m : Msg) : Nat := beAt m.bytes 12 4
/-- Seconds word of TIME. -/
def msgSec (m : Msg) : Nat := beAt m.bytes 16 4
/-- Nanoseconds word of TIME. -/
def msgNano (m : Msg) : Nat := beAt m.bytes 20 4
/-- The body after the header. -/
def msgBody (m : Msg) : List Byte := m.bytes.drop 24

/-- Partner-to-device types (R40). -/
def isPartnerType (t : Nat) : Bool :=
  decide (t = 1 ∨ t = 2 ∨ t = 3 ∨ t = 0x10 ∨ t = 0x20 ∨ t = 0x21 ∨ t = 0x30 ∨ t = 0x40)

/-- The bit of the permission class a type requires: request, query, read, write (R40). -/
def classBit (t : Nat) : Nat :=
  if t ≤ 3 then 0 else if t = 0x10 then 1 else if t = 0x20 ∨ t = 0x30 then 2 else 3

/-- R38: the message cannot be answered. -/
def unanswerable (m : Msg) : Bool :=
  decide (msgVer m ≠ 1) || ! isPartnerType (msgType m) || decide (msgLen m < 24 ∨ 9000 < msgLen m)

/-- Cells of a request message (R48). -/
def msgCells (m : Msg) : Nat := if msgType m ≤ 3 then (msgLen m + 255) / 256 else 0

/-! ### Refusing (R64, R65) -/

/-- The body of a REFUSE (R64). -/
def refuseBody (s : State) (code detail : Nat) : List Byte :=
  beBytes 1 code ++ [0] ++ epochBytes s ++ beBytes 4 detail

/-- A refusal is counted; INFLIGHT_FULL, POOL_FULL and ADMIT_FAULT set their event. -/
def countRefusal (s : State) (code : Nat) : State :=
  let s1 := bump s (cAD_CNT code)
  if code = 0x05 then event s1 AD_INT_INFLIGHT_FULL
  else if code = 0x04 then event s1 AD_INT_POOL_FULL
  else if code = 0x10 then event s1 AD_INT_ADMIT_FAULT
  else s1

/-- A refusal for want of credit, pool or entries leaves the window that would close next back-starved (R473). -/
def markStarved (s : State) : State :=
  match firstReq s (netNs s + (dispatchBound s).toNat) with
  | some r => { s with ad := { s.ad with starved := r.win.start :: s.ad.starved } }
  | none => s

/-- A refusal on a lane of the partner. It is retained when the message consumed its sequence number. -/
def refuse (s : State) (m : Msg) (code time detail : Nat) (retained : Bool) : State :=
  let l := msgLane m
  let body := refuseBody s code detail
  let s1 := countRefusal s code
  let s2 := if retained then
      let x := laneOf s1 l
      retainNew (setLane s1 l { x with refused := x.refused + (if msgType m ≤ 3 then 1 else 0) }) l
        ⟨msgSeq m, 0x82, time, body, 0, false, 0⟩
    else s1
  queueReply s2 m.partner l 0x82 (msgSeq m) (msgEcho m) time body m.route true

/-- A REFUSE with LANE_NOT_OWNED: CREDIT 0, no sequence number, no lane's reply store (R42). -/
def refuseNotOwned (s : State) (m : Msg) : State :=
  let o : OutMsg := ⟨msgLane m, 0x82, msgSeq m, msgEcho m, 0, 0, refuseBody s 0x09 0, m.route, false, false, none⟩
  let s1 := countRefusal s 0x09
  let x := shaperOf s1 m.partner
  setShaper s1 m.partner { x with replies := x.replies ++ [o] }

/-- A REFUSE with ADMIT_FAULT (R131): nothing of the message takes effect; AD_INT.ADMIT_FAULT and the contained fault. On a
lane of the partner it is queued as other replies are; otherwise as a REFUSE that belongs to no lane. -/
def refuseAdmitFault (s : State) (m : Msg) (owned : Bool) : State :=
  let s0 := raise s 0x001 0x12 clsContained false (msgLane m)
  if owned then refuse s0 m 0x10 0 0 false
  else
    let o : OutMsg := ⟨msgLane m, 0x82, msgSeq m, msgEcho m, 0, 0, refuseBody s 0x10 0, m.route, false, false, none⟩
    let s1 := countRefusal s0 0x10
    let x := shaperOf s1 m.partner
    setShaper s1 m.partner { x with replies := x.replies ++ [o] }

/-! ### Steps 1 to 5 of R131 -/

/-- Step 2: the lane is one the rule maps to the partner, is enabled, and is configured for that partner (R42, R118). -/
def ownsLane (s : State) (m : Msg) : Bool :=
  let l := msgLane m
  decide (l < 16384 ∧ m.laneBase ≤ l ∧ l < m.laneBase + m.laneCount)
    && (recovering s || (laneEn (laneOf s l) && decide (lanePartner (laneOf s l) = m.partner)))

/-- The outcome of the sequence test (R43). -/
inductive SeqTest where
  | process | outOfSeq | oosMalformed | gap | stale | again (r : Retained)
  deriving DecidableEq, Repr

/-- R43, with d and its converse modulo 2^32. -/
def seqTest (s : State) (m : Msg) : SeqTest :=
  let x := laneOf s (msgLane m)
  if msgOOS m then (if msgType m = 0x10 then .outOfSeq else .oosMalformed)
  else
    let d := (msgSeq m + (2 ^ 32 - x.expSeq)) % 2 ^ 32
    if d = 0 then .process
    else if d < 2 ^ 31 then .gap
    else if 2 ^ 32 - d ≤ 4 then
      match x.retained.find? (fun r => decide (r.seq = msgSeq m)) with
      | some r => .again r
      | none => .stale
    else .stale

/-- The fused role of a port (R392). -/
def fusedRole (s : State) (p : Nat) : Nat :=
  if flag s FU_STATUS_CRC_ERR then 0 else (rd s aFU_ROLE).toNat / 2 ^ (5 * p) % 32

/-- FLASH of a port's role, which has effect only together with the write class (R392). -/
def portHasFlash (s : State) (p : Nat) : Bool := (fusedRole s p).testBit 4 && (fusedRole s p).testBit 3

/-- Step 5: the class is allowed by the fused role and by the rule (R40, R41), and a request's type by the lane. -/
def permitted (s : State) (m : Msg) : Bool :=
  let b := classBit (msgType m)
  (fusedRole s m.route.port).testBit b && m.perm.testBit b
    && (decide (3 < msgType m) || lanePermits (laneOf s (msgLane m)) (msgType m))
    && (! recovering s || decide (msgType m = 0x10 ∨ msgType m = 0x20 ∨ msgType m = 0x21))

/-- The message consumes its sequence number, and a request's cells enter C (R44, R49). -/
def consume (s : State) (m : Msg) : State :=
  let x := laneOf s (msgLane m)
  let adv := if msgOOS m then x.expSeq else (x.expSeq + 1) % 2 ^ 32
  setLane s (msgLane m) { x with expSeq := adv, c := (x.c + msgCells m) % 65536 }

/-- A retained reply is sent again with the present CREDIT and the retransmission's ECHO; it keeps its TIME (R45, R530). A COMPLETE or CANCEL never
counts against the lane's four (R137). -/
def resend (s : State) (m : Msg) (r : Retained) : State :=
  queueReply s m.partner (msgLane m) r.typ r.seq (msgEcho m) r.time r.body m.route (decide (r.typ ≠ 0x83 ∧ r.typ ≠ 0x86))

/-- The message leaves admission's queue. -/
def takeMsg (s : State) : State := { s with tg := { s.tg with inbox := s.tg.inbox.drop 1 } }

/-- The first message of admission's queue, if it is of a type (and for a QUERY, of a kind). -/
def nextMsg (s : State) (p : Msg → Bool) : Option Msg :=
  match s.tg.inbox with
  | m :: _ => if p m then some m else none
  | [] => none

/-- What lockstep mismatches report (R18): the first is corrected, counted and reported. -/
def reportMismatch (s : State) (m : Msg) (mm : Upsets) : State :=
  if mm.mismatches = 0 then s else raise (bump s (cAD_CNT 19)) 0x001 0x11 clsCorrected false (msgLane m % 16384)

/-- Steps 1 to 5 of R131 for the message at the head of the queue, with the upsets its processing meets (R18); `run` is what a message that passes them does, given the
state in which its sequence number is consumed. -/
def process (s : State) (m : Msg) (mm : Upsets) (run : State → State) : State :=
  let s0 := takeMsg s
  if (flag s AD_CTRL_EN = false ∧ recovering s = false) ∨ unanswerable m then defaultAction s0 m.route.port m.frame
  else
    let s1 := reportMismatch (meetEcc s0 mm.ecc) m mm
    let owned := ownsLane s m
    let s2 := if owned then setLane s1 (msgLane m) { laneOf s1 (msgLane m) with route := some m.route } else s1
    if mm.mismatches = 2 then refuseAdmitFault s2 m owned
    else if owned = false then refuseNotOwned s2 m
    else if 4 ≤ unsent s2 (msgLane m) then bump (event s2 AD_INT_REPLY_HOLD) (cAD_CNT 18)
    else
      let e := (laneOf s2 (msgLane m)).expSeq
      match seqTest s2 m with
      | .gap => refuse s2 m 0x07 0 e false
      | .stale => refuse s2 m 0x08 0 e false
      | .oosMalformed => refuse s2 m 0x0B 0 0 false
      | .again r => resend s2 m r
      | .process =>
        let s3 := consume s2 m
        if permitted s2 m = false then refuse s3 m 0x0A 0 (fusedRole s m.route.port) true else run s3
      | .outOfSeq =>
        if permitted s2 m = false then refuse s2 m 0x0A 0 (fusedRole s m.route.port) false else run s2

/-! ### Content of a request (R54 to R61) -/

/-- One word or record of a request body, with its byte offset in the message. -/
inductive Item where
  | entry (off : Nat) (w : Word)
  | group (off : Nat) (w0 w1 : Word)
  | broken (off : Nat)              -- a group record with no word 1
  deriving DecidableEq, Repr

/-- The items of a body of whole words (R54). -/
def itemsOf : Nat → List Word → List Item
  | _, [] => []
  | off, [w] => if bitsOf w 31 30 = 3 then [.broken off] else [.entry off w]
  | off, w :: v :: t =>
    if bitsOf w 31 30 = 3 then .group off w v :: itemsOf (off + 8) t else .entry off w :: itemsOf (off + 4) (v :: t)

/-- The whole words of a body, most significant byte first. -/
def wordsOf (body : List Byte) : List Word :=
  (List.range (body.length / 4)).map (fun i => BitVec.ofNat 32 (beAt body (4 * i) 4))

/-- The entry words with their offsets, in body order. -/
def entriesOf (items : List Item) : List (Nat × Word) :=
  items.filterMap (fun x => match x with | .entry o w => some (o, w) | _ => none)

/-- The group records, in body order. -/
def groupsOf (items : List Item) : List (Word × Word) :=
  items.filterMap (fun x => match x with | .group _ a b => some (a, b) | _ => none)

/-- OP of an entry word (R55). -/
def enOp (w : Word) : Nat := bitsOf w 31 30
/-- MC of a CONNECT entry. -/
def enMC (w : Word) : Bool := decide (enOp w = 0) && w.getLsbD 29
/-- GROUP of an entry. -/
def enGroup (w : Word) : Nat := bitsOf w 28 23
/-- OUT of an entry. -/
def enOut (w : Word) : Nat := bitsOf w 19 10
/-- IN of an entry. -/
def enIn (w : Word) : Nat := bitsOf w 9 0
/-- GROUP of a group record (R56). -/
def grGroup (w : Word) : Nat := bitsOf w 29 24
/-- M of a group record. -/
def grM (w : Word) : Nat := bitsOf w 23 20
/-- IN of a group record. -/
def grIn (w : Word) : Nat := bitsOf w 9 0
/-- Weight k of a group record's word 1: W0 in [31:28]. -/
def grWeight (w1 : Word) (k : Nat) : Nat := bitsOf w1 (31 - 4 * k) (28 - 4 * k)

/-- Whether a record's member count and weights are as R56 states. -/
def groupShapeOk (w0 w1 : Word) : Bool :=
  decide (2 ≤ grM w0 ∧ grM w0 ≤ 8)
    && (List.range 8).all (fun k => if k < grM w0 then decide (1 ≤ grWeight w1 k) else decide (grWeight w1 k = 0))

/-- The first index of a list that satisfies a test with the elements before it. -/
def firstBad {α : Type} (bad : List α → α → Bool) : List α → List α → Nat → Option Nat
  | _, [], _ => none
  | before, x :: t, i => if bad before x then some i else firstBad bad (before ++ [x]) t (i + 1)

/-- Two CONNECT entries that drive two outputs from one input otherwise than as members of one group (R61). -/
def sharesInput (a b : Word) : Bool :=
  decide (enOp a = 0 ∧ enOp b = 0 ∧ enIn a = enIn b ∧ enOut a ≠ enOut b)
    && ! (enMC a && enMC b && decide (enGroup a = enGroup b))

/-- The rows of R61 from top to bottom: the code and DETAIL of the first that fails. `n` is the topology's port count. -/
def contentCheck (typ n : Nat) (body : List Byte) : Option (Nat × Nat) :=
  let items := itemsOf 24 (wordsOf body)
  let es := entriesOf items
  let gs := groupsOf items
  let ws := es.map (fun e => e.2)
  match items.findSome? (fun x => match x with | .broken o => some o | _ => none) with
  | some o => some (0x0B, o)
  | none =>
  if body.length % 4 ≠ 0 then some (0x0B, 24 + body.length / 4 * 4)
  else if 1024 < es.length then some (0x0B, ((es.drop 1024).headD (0, 0)).1)
  else match es.find? (fun e => decide (enOp e.2 = 2)) with
  | some e => some (0x0B, e.1)
  | none =>
  match (if typ = 3 then es.head? else none) with
  | some e => some (0x0B, e.1)
  | none =>
  match items.findSome? (fun x => match x with
      | .entry o w => if n ≤ enOut w ∨ n ≤ enIn w then some (es.findIdx (fun e => decide (e.1 = o))) else none
      | .group _ w _ => if n ≤ grIn w then some (0x80000000 + grGroup w) else none
      | .broken _ => none) with
  | some d => some (0x0C, d)
  | none =>
  match firstBad (fun pre w => pre.any (fun v => decide (enOut v = enOut w))) [] ws 0 with
  | some i => some (0x0D, i)
  | none =>
  match firstBad (fun pre w => pre.any (fun v => sharesInput v w)) [] ws 0 with
  | some i => some (0x0D, i)
  | none =>
  match firstBad (fun _ w => enMC w && (match gs.find? (fun g => decide (grGroup g.1 = enGroup w)) with
      | some g => decide (grIn g.1 ≠ enIn w)
      | none => decide (typ = 1))) [] ws 0 with
  | some i => some (0x0D, i)
  | none =>
  match (if typ = 1 then gs.find? (fun g =>
      decide ((ws.filter (fun w => enMC w && decide (enGroup w = grGroup g.1))).length ≠ grM g.1)) else none) with
  | some g => some (0x0E, grGroup g.1)
  | none =>
  match firstBad (fun pre g => ! groupShapeOk g.1 g.2 || decide (64 ≤ pre.length)) [] gs 0 with
  | some i => some (0x0E, grGroup ((gs.getD i (0, 0)).1))
  | none => none

/-- The time checks that precede R61: R39, then R60. -/
def timeCheck (s : State) (m : Msg) : Option (Nat × Nat) :=
  if msgNB m then
    if 999999999 < msgNano m then some (0x0B, 20)
    else if m.arrival + 1000000000 < extendSec s (msgSec m) * 1000000000 + msgNano m then some (0x0F, 0)
    else none
  else if msgSec m ≠ 0 then some (0x0B, 16)
  else if msgNano m ≠ 0 then some (0x0B, 20)
  else none

/-- The not-before time that applies: none when absent or in the past at arrival (R60). -/
def notBefore (s : State) (m : Msg) : Option Nat :=
  if msgNB m then
    let t := extendSec s (msgSec m) * 1000000000 + msgNano m
    if m.arrival < t then some t else none
  else none

/-! ### Choosing the window (R124, R125) -/

/-- What admission asks of the window search: type, whether the lane admits disturbance, partner, lane, cells, arrival and
not-before time. -/
structure Ask where
  typ : Nat
  disturb : Bool
  partner : Nat
  lane : Nat
  cells : Nat
  arrival : Nat
  nb : Option Nat
  deriving DecidableEq, Repr

/-- R124: whether a window's class may serve the request. -/
def eligible (s : State) (a : Ask) (w : Win) : Bool :=
  decide (winClass s w = 0) || (decide (winClass s w = 1) && decide (a.typ = 3 ∨ (a.typ = 2 ∧ a.disturb = false)))

/-- The latest slot booked in a window. -/
def lastSlot (s : State) (tW : Nat) : Option Nat :=
  ((s.ad.slots.filter (fun x => decide (x.tW = tW))).map (fun x => x.time)).max?

/-- Requests of a partner booked into a window (R129). -/
def bookedBy (s : State) (p tW : Nat) : Nat := (s.ad.slots.filter (fun x => decide (x.tW = tW ∧ x.partner = p))).length

/-- WINCAP passes the window over (R129). -/
def capped (s : State) (p tW : Nat) : Bool :=
  let c := getF s (AD_PART_w0_WINCAP p)
  decide (c ≠ 0 ∧ c ≤ bookedBy s p tW)

/-- The slot R125 takes in a window: the latest of start, open_W and last_W + c. -/
def slotIn (s : State) (start : Int) (r : ReqWin) : Int :=
  let base := max start (openOf s r)
  match lastSlot s r.win.start with
  | some l => max base ((l : Int) + (getF s AD_PIPE_C : Int))
  | none => base

/-- What the search found: the window and slot, and the windows WINCAP passed over. -/
structure Choice where
  found : Option (ReqWin × Nat)
  passed : List Nat
  deriving DecidableEq, Repr

/-- The loop of R125. -/
def chooseLoop (s : State) (a : Ask) (start : Int) (lower bound : Nat) : Nat → Option ReqWin → List Nat → Choice
  | 0, _, passed => ⟨none, passed⟩
  | _, none, passed => ⟨none, passed⟩
  | fuel + 1, some r, passed =>
    if bound < r.win.start then ⟨none, passed⟩
    else if eligible s a r.win = false ∨ r.win.start < lower then chooseLoop s a start lower bound fuel (reqAfter s r) passed
    else if capped s a.partner r.win.start then
      chooseLoop s a start lower bound fuel (reqAfter s r) (r.win.start :: passed)
    else
      let d := slotIn s start r
      if d ≤ closeOf s r.win.start then ⟨some (r, d.toNat), passed⟩
      else chooseLoop s a start lower bound fuel (reqAfter s r) passed

/-- Request windows of one second: each lasts at least 2,000 ns (R166). -/
def secondFuel : Nat := 500002

/-- The device is not ready (AD_STATUS.NOT_READY). -/
def notReady (s : State) : Bool := flag s AD_STATUS_NOT_READY

/-- The window and slot R125 chooses, the promise aside. While the schedule does not run there is none (R167, R173), except against t_ready
while a transition toward Service is under way (R384). -/
def choose (s : State) (a : Ask) : Choice :=
  if schedRuns s = false ∧ tReady s = 0 then ⟨none, []⟩
  else
    let start := if notReady s then max (a.arrival + 340) (tReady s) else a.arrival + 340
    let last := ((laneFlight s a.lane).map (fun r => r.tW)).max?.getD 0
    let lower := max last (match a.nb with | some t => t - 80 | none => 0)
    chooseLoop s a start lower (a.arrival + 1000000000) secondFuel (firstReq s (min start (a.arrival + 340))) []

/-- The device state code (AD_STATUS.STATE). -/
def stateCode (s : State) : Nat := getF s AD_STATUS_STATE

/-- t_s of R160: the start, in the old scale, of the first request window after a pending step. -/
def stepWindow (s : State) (d : StepDecision) : Nat :=
  let b := match s.nt.swapAt with | some (x, _) => if x ≤ d.bound then 1 - lsBank s else lsBank s | none => lsBank s
  let landed := ((d.bound : Int) + d.delta).toNat
  let n := boundaryFrom s b landed
  match seekReq { s with nt := { s.nt with swapAt := none } } winFuel ⟨b, n, 0⟩ with
  | some w => d.bound + (w.start - landed)
  | none => 0

/-- The earliest delivery among `rs` by which the cells returned, added to `have`, reach `n` (R132); 0 where they never do. -/
def earliestFor (rs : List Request) (have_ n : Nat) : Nat :=
  let times := rs.map (fun r => r.deliver)
  let ok := times.filter (fun t => decide (n ≤ have_ + ((rs.filter (fun r => decide (r.deliver ≤ t))).map (fun r => r.cells)).sum))
  ok.min?.getD 0

/-- The decision on a request that has passed step 6. -/
inductive Decision where
  | accept (r : ReqWin) (slot : Nat)
  | refuse (code time detail : Nat)
  deriving DecidableEq, Repr

/-- Steps 7 to 12 of R131, with R132's times. In the state Fault a request that passes step 10 is refused with NOT_READY,
TIME 0 and DETAIL 0x5 (R458). Once a thermal shutdown is decided every request is refused with NOT_READY and TIME 0 (R441). -/
def decision (s : State) (a : Ask) : Decision :=
  let x := laneOf s a.lane
  let q := laneQ x
  let o := laneO s a.lane
  let part := getF s (AD_PART_w0_SIZE a.partner)
  let free := part - usedCells s a.partner
  if flag s TH_STATUS_TSD_PEND then .refuse 0x02 0 (stateCode s)
  else if q < a.cells then .refuse 0x03 0 q
  else if q - o < a.cells then .refuse 0x06 (earliestFor (laneFlight s a.lane) (q - o) a.cells) (q - o)
  else if free < a.cells then
    .refuse 0x04 (earliestFor (s.ad.inflight.filter (fun r => decide (r.partner = a.partner))) free a.cells) free
  else if 8192 ≤ s.ad.inflight.length then .refuse 0x05 (((s.ad.inflight.map (fun r => r.deliver)).min?).getD 0) 0
  else if stateCode s = 5 then .refuse 0x02 0 5
  else
    let c := choose s a
    match c.found with
    | some (r, d) =>
      match s.nt.decision with
      | some sd => if sd.bound ≤ r.win.start then .refuse 0x02 (stepWindow s sd) (stateCode s) else judge s a x r d
      | none => judge s a x r d
    | none => if notReady s then .refuse 0x02 (tReady s) (stateCode s) else .refuse 0x01 0 0xFFFFFFFF
where
  /-- The promise test of R125. -/
  judge (s : State) (a : Ask) (x : Lane) (r : ReqWin) (d : Nat) : Decision :=
    let deliver := r.win.start + 80
    let base := match a.nb with | some t => max a.arrival t | none => a.arrival
    if deliver ≤ base + lanePL x then .accept r d
    else if notReady s then .refuse 0x02 (tReady s) (stateCode s)
    else .refuse 0x01 (deliver - lanePL x) (r.win.start % 1000000000)

/-! ### Acceptance -/

/-- The finish tag of an acceptance (R134): S := max(V, F_lane) modulo 2^32 with a window of 2^31, F := S + ⌊65,536 / w⌋. -/
def finishTag (v fLane w : Nat) : Nat :=
  let start := if (fLane + (2 ^ 32 - v)) % 2 ^ 32 < 2 ^ 31 then fLane else v
  (start + 65536 / w) % 2 ^ 32

/-- An accepted request: entry, cells, slot and tag; the ACCEPT with the final delivery time (R63, R119, R120, R134). -/
def accept (s : State) (m : Msg) (a : Ask) (r : ReqWin) (d : Nat) : State :=
  let l := msgLane m
  let x := laneOf s l
  let rrep := decide (a.typ = 2) && a.disturb
  let tag := finishTag (getF s AD_VT_V) x.tag (laneWeight x)
  let tW := r.win.start
  let q : Request := ⟨s.ad.nextId, l, m.partner, a.typ, msgSeq m, msgEcho m, wordsOf (msgBody m), a.cells, m.arrival, tW,
    r.win.entry, winClass s r.win, d, tW + 80, tag, laneCrep x, rrep, 0, .queued⟩
  let ahead := (laneFlight s l).length
  let body := beBytes 1 r.win.entry ++ beBytes 1 (winClass s r.win)
    ++ beBytes 1 ((if rrep then 3 else 0) + (if laneCrep x then 4 else 0)) ++ [0] ++ beBytes 2 a.cells ++ epochBytes s
    ++ beBytes 4 ahead
  let s1 := { s with ad := { s.ad with inflight := s.ad.inflight ++ [q], slots := s.ad.slots ++ [⟨tW, d, m.partner, false⟩],
                                       nextId := s.ad.nextId + 1 } }
  let s2 := setLane s1 l { laneOf s1 l with tag := tag, accepted := x.accepted + 1 }
  let s3 := lifeRemainder (bump s2 (cAD_CNT 0)) 11 (2 ^ 20) 1
  let n := s3.ty.sampled + 1
  let s4 := { s3 with ty := { s3.ty with sampled := n % 1024 } }
  let s5 := if n % 1024 = 0 then histogram s4 9 ((tW + 80 - m.arrival) / 1000) else s4
  let s6 := retainNew s5 l ⟨msgSeq m, 0x81, tW + 80, body, tW + 80, false, 0⟩
  queueReply s6 m.partner l 0x81 (msgSeq m) (msgEcho m) (tW + 80) body m.route true

/-- The port count of the loaded topology (KS_TOPO); with none loaded there is no port. -/
def portCount (s : State) : Nat := match s.ks.map with | some e => e.n | none => 0

/-- Steps 6 to 12 of R131 for a request. -/
def requestStep (m : Msg) (s : State) : State :=
  let l := msgLane m
  let a : Ask := ⟨msgType m, laneDisturb (laneOf s l), m.partner, l, msgCells m, m.arrival, notBefore s m⟩
  match timeCheck s m with
  | some (c, d) => refuse s m c 0 d true
  | none =>
    match contentCheck (msgType m) (portCount s) (msgBody m) with
    | some (c, d) => refuse s m c 0 d true
    | none =>
      match decision s a with
      | .accept r d =>
        accept { s with ad := { s.ad with starved := (choose s a).passed ++ s.ad.starved } } m a r d
      | .refuse c t d =>
        let s1 := if c = 0x04 ∨ c = 0x05 ∨ c = 0x06 then markStarved s else s
        refuse { s1 with ad := { s1.ad with starved := (if c = 0x01 ∨ c = 0x02 then (choose s a).passed else []) ++ s1.ad.starved } }
          m c t d true

/-- A request row: the message at the head of the queue, when it is of that type, is judged. -/
def admitRequest (typ : Nat) (mm : Upsets) (s : State) : State :=
  match nextMsg s (fun m => decide (msgType m = typ) || (unanswerable m && decide (typ = 1))) with
  | none => s
  | some m => process s m mm (requestStep m)

/-- FULL (R54, R131): the FULL request at the head of admission's queue is admitted or refused. A message that cannot be
answered (R38) is dealt with by this row too. -/
def execFull (mm : Upsets) (s : State) : Out := .next (admitRequest 1 mm s)

/-- DELTA (R58, R131). -/
def execDelta (mm : Upsets) (s : State) : Out := .next (admitRequest 2 mm s)

/-- GROUP (R59, R131). -/
def execGroup (mm : Upsets) (s : State) : Out := .next (admitRequest 3 mm s)

/-! ### Non-request messages: sizes (R532) and answers -/

/-- R532: the first word not wholly present, or the first beyond the size. -/
def sizeCheck (m : Msg) (size : Nat) : Option (Nat × Nat) :=
  let n := (msgBody m).length
  if n < size then some (0x0B, 24 + n / 4 * 4) else if size < n then some (0x0B, 24 + size) else none

/-- A reply to a processed non-request message, retained for its sequence number (R45). -/
def answer (s : State) (m : Msg) (typ time : Nat) (body : List Byte) : State :=
  let s1 := if msgOOS m then s else retainNew s (msgLane m) ⟨msgSeq m, typ, time, body, 0, false, 0⟩
  queueReply s1 m.partner (msgLane m) typ (msgSeq m) (msgEcho m) time body m.route true

/-- A refusal of a non-request message at step 6; out of sequence, it is not retained. -/
def refuseStep6 (s : State) (m : Msg) (c d : Nat) : State := refuse s m c 0 d (! msgOOS m)

/-- A QUERY_REPLY begins with KIND, reserved, EPOCH and reserved (R73). -/
def queryHead (s : State) (kind : Nat) : List Byte := beBytes 1 kind ++ beBytes 3 0 ++ epochBytes s ++ beBytes 2 0

/-- The most restrictive type a lane permits, and the cells of its largest request (R116). -/
def largest (x : Lane) : Option (Nat × Nat) :=
  if lanePermits x 1 then some (1, 19) else if lanePermits x 2 then some (2, 19)
  else if lanePermits x 3 then some (3, 3) else none

/-- The earliest acceptance estimate of a lane-status query. -/
def estimate (s : State) (l : Nat) : Nat :=
  let x := laneOf s l
  match largest x with
  | none => 0
  | some (typ, n) =>
    match decision s ⟨typ, laneDisturb x, lanePartner x, l, n, netNs s, none⟩ with
    | .accept _ _ => netNs s
    | .refuse _ t _ => if netNs s < t then t else 0

/-- The answer to QUERY kind 0x01 (R73). -/
def laneStatus (m : Msg) (s : State) : State :=
  let l := msgLane m
  let x := laneOf s l
  answer s m 0x90 0 (queryHead s 1 ++ beBytes 4 x.expSeq ++ beBytes 2 (laneL s l) ++ beBytes 2 (laneQ x)
    ++ beBytes 4 (laneO s l) ++ beBytes 4 (laneFlight s l).length ++ alpTime (estimate s l))

/-- State, code, disturbed count and delivery time of a request (R73). One that left flight undelivered and without a message (R441, R457) is
unknown (log entry 70). -/
def requestStatus (s : State) (l seq : Nat) : Nat × Nat × Nat × Nat :=
  match (laneFlight s l).find? (fun r => decide (r.seq = seq)) with
  | some r => (1, 0, r.disturbed, r.deliver)
  | none =>
    match (laneOf s l).retained.find? (fun r => decide (r.seq = seq)) with
    | none => (0, 0, 0, 0)
    | some r =>
      if r.typ = 0x82 then (3, beAt r.body 0 1, 0, 0)
      else if r.typ = 0x86 then (4, beAt r.body 0 1, r.disturbed, r.deliver)
      else if r.delivered then (2, 0, r.disturbed, r.deliver)
      else (0, 0, 0, 0)

/-- The answer to QUERY kind 0x02. -/
def requestStatusReply (m : Msg) (s : State) : State :=
  let (st, code, dist, t) := requestStatus s (msgLane m) (beAt (msgBody m) 4 4)
  answer s m 0x90 0 (queryHead s 2 ++ beBytes 1 st ++ beBytes 1 code ++ beBytes 2 dist ++ alpTime t)

/-- The answer to QUERY kind 0x03. -/
def deviceState (m : Msg) (s : State) : State :=
  answer s m 0x90 0 (queryHead s 3 ++ beBytes 1 (stateCode s) ++ beBytes 1 (getF s FC_STATUS_FATAL)
    ++ beBytes 8 (getF s DK_OWNER_HI_B_OWNS * 2 ^ 32 + getF s DK_OWNER_LO_B_OWNS) ++ beBytes 4 (getF s FC_RCV_CNT_COUNT))

/-- The grandmaster identity NT_GMID shows. -/
def gmId (s : State) : Nat := getF s NT_GMID_H_ID_HI * 2 ^ 32 + getF s NT_GMID_L_ID_LO

/-- The answer to QUERY kind 0x04. -/
def networkTime (m : Msg) (s : State) : State :=
  answer s m 0x90 0 (queryHead s 4 ++ alpTime (netNs s) ++ beBytes 1 (getF s NT_STATE_SERVO) ++ beBytes 3 0 ++ beBytes 8 (gmId s))

/-- KIND of a QUERY. -/
def queryKind (m : Msg) : Nat := beAt m.bytes 24 1

/-- Step 6 for a QUERY, then its answer: a size other than 8 and a KIND outside 1 to 4 are MALFORMED (R532, R73). -/
def queryStep (m : Msg) (reply : State → State) (s : State) : State :=
  match sizeCheck m 8 with
  | some (c, d) => refuseStep6 s m c d
  | none => if 1 ≤ queryKind m ∧ queryKind m ≤ 4 then reply s else refuseStep6 s m 0x0B 24

/-- A QUERY of a kind at the head of the queue is answered. -/
def answerQuery (kind : Nat) (reply : Msg → State → State) (mm : Upsets) (s : State) : State :=
  match nextMsg s (fun m => decide (msgType m = 0x10 ∧ queryKind m = kind)) with
  | none => s
  | some m => process s m mm (queryStep m (reply m))

/-- QUERY_LANE_STATUS (R73). -/
def execQueryLaneStatus (mm : Upsets) (s : State) : Out :=
  match nextMsg s (fun m => decide (msgType m = 0x10) && ! decide (2 ≤ queryKind m ∧ queryKind m ≤ 4)) with
  | none => .next s
  | some m => .next (process s m mm (queryStep m (laneStatus m)))

/-- QUERY_REQUEST_STATUS (R73). -/
def execQueryRequestStatus (mm : Upsets) (s : State) : Out := .next (answerQuery 2 requestStatusReply mm s)

/-- QUERY_DEVICE_STATE (R73). -/
def execQueryDeviceState (mm : Upsets) (s : State) : Out := .next (answerQuery 3 deviceState mm s)

/-- QUERY_NETWORK_TIME (R73). -/
def execQueryNetworkTime (mm : Upsets) (s : State) : Out := .next (answerQuery 4 networkTime mm s)

/-- Counter read permission of host software (R394). -/
def counterReads (s : State) : Bool := flag s FU_PROT_CNTRD

/-- A telemetry stream of a partner. -/
def subOf (s : State) (p k : Nat) : Option Sub := cellGet (fun _ => none) s.ad.subs (4 * p + k)

/-- A stream replaced. -/
def setSub (s : State) (p k : Nat) (x : Option Sub) : State :=
  { s with ad := { s.ad with subs := cellPut (fun _ => none) s.ad.subs (4 * p + k) x } }

/-- Lane statistics' base of a new stream: each lane's totals now (R472). -/
def statBase (s : State) (p : Nat) : List (Nat × (Nat × Nat)) :=
  (s.ad.lanes.filter (fun e => decide (lanePartner e.2 = p))).map (fun e => (e.1, (e.2.accepted, e.2.refused)))

/-- SUBSCRIBE at admission (R77, R78): size 8; counter content needs the fused permission; PERIOD 0 cancels; a stream starts
one PERIOD after the RESULT (R79). Which stream a STREAM above 3 names is open: a free value (log entry 2). -/
def subscribeStep (m : Msg) (s0 : State) : State :=
  match sizeCheck m 8 with
  | some (c, d) => refuseStep6 s0 m c d
  | none =>
    let b := msgBody m
    let (k, s) := if beAt b 0 1 < 4 then (beAt b 0 1, s0) else fresh s0 4
    let content := beAt b 1 1 % 16
    let period := beAt b 2 2
    if content.testBit 1 ∧ counterReads s = false then answer s m 0xA1 0 (beBytes 1 0x23 ++ beBytes 7 0)
    else
      let s1 := if period = 0 then disarm (setSub s m.partner k none) (.telemetry m.partner k)
        else armIn (setSub s m.partner k (some ⟨msgLane m, content, period, statBase s m.partner⟩)) (.telemetry m.partner k)
          (period * 1000000)
      answer s1 m 0xA1 0 (beBytes 8 0)

/-- SUBSCRIBE (R77): the message at the head of the queue. -/
def execSubscribe (mm : Upsets) (s : State) : Out :=
  match nextMsg s (fun m => decide (msgType m = 0x30)) with
  | none => .next s
  | some m => .next (process s m mm (subscribeStep m))

/-! ### Dispatch (R135) and the slots of a window (R473) -/

/-- The earliest booked slot whose time has come and at which no request has been dispatched. -/
def dueSlot (s : State) : Option Slot :=
  (s.ad.slots.filter (fun x => ! x.taken && decide (x.time ≤ netNs s))).foldl
    (fun b x => match b with
      | none => some x
      | some y => if x.time < y.time then some x else some y) none

/-- Whether tag `a` stands before tag `b`, modulo 2^32 with a window of 2^31. -/
def tagBefore (a b : Nat) : Bool := decide (a ≠ b ∧ (b + (2 ^ 32 - a)) % 2 ^ 32 < 2 ^ 31)

/-- Requests of a window that wait and whose lane predecessor has been dispatched (R135). -/
def waiting (s : State) (tW : Nat) : List Request :=
  s.ad.inflight.filter (fun r => decide (r.tW = tW ∧ r.phase = .queued)
    && s.ad.inflight.all (fun q => ! decide (q.lane = r.lane ∧ q.phase = .queued ∧ q.id < r.id)))

/-- The waiting request with the smallest F; on equal F the lower lane (R135). -/
def dispatchChoice (s : State) (tW : Nat) : Option Request :=
  (waiting s tW).foldl (fun b r => match b with
    | none => some r
    | some x => if tagBefore r.tag x.tag || (decide (r.tag = x.tag) && decide (r.lane < x.lane)) then some r else some x) none

/-- A routed request has a pass still to run on a deck that is healthy in the span. -/
def passesLeft (s : State) (r : Routed) : Bool :=
  (List.range 36).any (fun n => (List.range 2).any (fun d => healthy s n d && ! decide (2 * n + d ∈ r.done)))

/-- The requests between stage 6 and stage 10 (R28): with Keystone, or with a pass still to run. -/
def inPipe (s : State) : Nat := s.ks.queue.length + (s.dr.routed.filter (passesLeft s)).length

/-- A request in flight changes. -/
def updateRequest (s : State) (id : Nat) (f : Request → Request) : State :=
  { s with ad := { s.ad with inflight := s.ad.inflight.map (fun r => if r.id = id then f r else r) } }

/-- DISPATCH (R135): at a booked slot time the chosen request goes to Keystone; V becomes its F. The slot is used up; with its
window already classified it is forgotten. While two requests stand between stages 6 and 10 the dispatcher waits (R28). -/
def execDispatch (ecc : List MemUpset) (s0 : State) : Out :=
  match dueSlot s0 with
  | none => .next s0
  | some x =>
    if 2 ≤ inPipe s0 then .next s0 else
    let s := meetEcc s0 ecc
    let used := s.ad.slots.map (fun y => if y = x then { y with taken := true } else y)
    let s1 := { s with ad := { s.ad with slots := used.filter (fun y => ! (y.taken && decide (y.tW ≤ s.ad.closed))) } }
    match dispatchChoice s x.tW with
    | none => .next s1
    | some r => 
      let s2 := setF (updateRequest s1 r.id (fun q => { q with phase := .routing })) AD_VT_V r.tag
      .next (setFlag { s2 with ks := { s2.ks with queue := s2.ks.queue ++ [r.id] } } KS_STATUS_BUSY true)

/-- Whether a window would start at or after the boundary of a decided step: it does not occur (R160). -/
def beyondStep (s : State) (t : Nat) : Bool :=
  match s.nt.decision with
  | some d => decide (d.bound ≤ t)
  | none => false

/-- SLOT_CLASSIFY (R473): at close_W of the next request window, whether it has a slot booked is noted (R170), and each unbooked slot counts as back-starved, when a request
was refused for resources or passed over for it, and as front-starved otherwise. -/
def execSlotClassify (s : State) : Out :=
  if flag s LS_CTRL_RUN = false then .next s
  else match firstReq s (s.ad.closed + 1) with
  | none => .next s
  | some r =>
    if ((netNs s : Nat) : Int) < closeOf s r.win.start ∨ beyondStep s r.win.start then .next s
    else
      let booked := (s.ad.slots.filter (fun x => decide (x.tW = r.win.start))).length
      let idle := slotsOf s r - booked
      let back := s.ad.starved.any (fun t => decide (t = r.win.start))
      let s1 := bumpBy s (cTY_SLOT (if back then 3 else 2)) idle
      .next { s1 with ad := { s1.ad with
        closed := r.win.start,
        booked := if booked = 0 then s1.ad.booked else r.win.start :: s1.ad.booked,
        starved := s1.ad.starved.filter (fun t => decide (r.win.start < t)),
        slots := s1.ad.slots.filter (fun y => ! (y.taken && decide (y.tW ≤ r.win.start))) } }

/-! ### Lane and partition registers (R133) -/

/-- LN_SEL load (OP 0b01): the lane's configuration and state appear in LN_CFG to LN_STATE2. -/
def laneLoad (s : State) : State :=
  let l := getF s LN_SEL_LANE
  let x := laneOf s l
  let s1 := wr (wr (wr s aLN_CFG x.cfg.cfg) aLN_QUOTA x.cfg.quota) aLN_PROMISE x.cfg.promise
  let s2 := setF (setF (setF s1 LN_STATE0_EXP_SEQ x.expSeq) LN_STATE1_O (laneO s l)) LN_STATE1_QUEUED (laneFlight s l).length
  setF (setF s2 LN_STATE2_C x.c) LN_STATE2_L (laneL s l)

/-- A lane takes a new configuration. -/
def applyLaneCfg (s : State) (l : Nat) (c : LaneCfg) : State :=
  creditMoved (setLane s l { laneOf s l with cfg := c, held := none }) l

/-- LN_SEL write (OP 0b10): LN_CFG, LN_QUOTA and LN_PROMISE are applied to the lane, or held while it has requests in
flight; a later write replaces a held one (R133). -/
def laneWrite (s : State) : State :=
  let l := getF s LN_SEL_LANE
  let c : LaneCfg := ⟨rd s aLN_CFG, rd s aLN_QUOTA, rd s aLN_PROMISE⟩
  if laneFlight s l = [] then applyLaneCfg s l c else setLane s l { laneOf s l with held := some c }

/-- LANE_CONFIG_APPLY (R133): a held write is applied once the lane has no request in flight. -/
def execLaneConfigApply (l : LaneIx) (s : State) : Out :=
  match (laneOf s l).held with
  | some c => if laneFlight s l = [] then .next (applyLaneCfg s l c) else .next s
  | none => .next s

/-- The sum of the partitions (R115). -/
def partitionTotal (s : State) : Nat := ((List.range 64).map (fun p => getF s (AD_PART_w0_SIZE p))).sum

end Sys2Proof.Machine
end

