-- ==== Sys2Proof/Machine/Capture.lean ====
section
/-!
DEFINITION. Machine/Capture.lean: the transient capture unit (R484 to R494).
-/
namespace Sys2Proof.Machine

/-- The capture memory (R507). -/
def capBase : Nat := 0x38000000

/-- States of TC_STATUS: 0 idle; 1 pre-fill; 2 armed; 3 post-fill; 4 done. -/
def tcState (s : State) : Nat := getF s TC_STATUS_STATE

/-- HMODE in force: 3 is treated as 0. -/
def tcMode (s : State) : Nat := if getF s TC_CTRL_HMODE = 3 then 0 else getF s TC_CTRL_HMODE

/-- Entries of one segment (R485). A remainder of the division stays unused (DEDUCED, log entry 17). -/
def segSize (s : State) : Nat := (if tcMode s = 0 then 524288 else 516096) / (getF s TC_CTRL_SEGS + 1)

/-- The pre-trigger part of a segment (R485). -/
def segPre (s : State) : Nat := segSize s * getF s TC_CTRL_PRE / 16

/-- Armed is entered: the dead time of the last trigger ends (R488). -/
def enterArmed (s : State) : State :=
  let s1 := setF { s with tc := { s.tc with pos := 0 } } TC_STATUS_STATE 2
  match s.tc.deadFrom with
  | some t =>
    let d := min ((s.elapsed - t) / 4) 0xFFFFFFFF
    setF (setF { s1 with tc := { s1.tc with deadFrom := none } } TC_DEAD_LAST d) TC_DEAD_MAX_MAX (max d (getF s TC_DEAD_MAX_MAX))
  | none => s1

/-- Pre-fill of segment `n` begins (R486); with no pre-trigger part it is full at once. -/
def enterPrefill (s : State) (n : Nat) : State :=
  let s1 := { s with tc := { s.tc with fill := 0, pos := 0, trig := none, trigPlaced := false } }
  let s2 := setF (setF s1 TC_STATUS_STATE 1) TC_STATUS_SEG n
  if segPre s2 = 0 then enterArmed s2 else s2

/-- A segment ends (R486): the next one's pre-fill, or done. -/
def endSegment (s : State) : State :=
  let n := getF s TC_STATUS_SEG
  if flag s TC_CTRL_REARM ∧ n < getF s TC_CTRL_SEGS then enterPrefill s (n + 1)
  else bump (event (setF s TC_STATUS_STATE 4) TC_INT_DONE) (cTC_CNT 5)

/-- The selection in force of stream `k`. -/
def streamOf (s : State) (k : Nat) : Word := cellGet (fun _ => 0) s.tc.streams k

/-- Whether two selections name the same pier, both enabled. -/
def samePier (a b : Word) : Bool := a.getLsbD 31 && b.getLsbD 31 && decide (bitsOf a 14 0 = bitsOf b 14 0)

/-- Whether a stream carries every window of its pier. -/
def setCont (s : State) (k : Nat) (b : Bool) : State := { s with tc := { s.tc with cont := cellPut (fun _ => false) s.tc.cont k b } }

/-- ARM (R486, R489, R494): the memory, the segments and the histogram are cleared, the stream selection is applied, D starts at DECIM. -/
def captureArm (s : State) : State :=
  let s1 := { s with
    mem := cellDrop (fun a => decide (capBase ≤ a ∧ a < capBase + 0x800000)) s.mem
    regs := cellDrop (fun a => decide (aTC_SEG_w0 0 ≤ a ∧ a < aTC_SEG_w0 0 + 0x400)) s.regs
    tc := { Capture.init with
      streams := (List.range 64).foldl (fun t k => cellPut (fun _ => 0) t k (rd s (aTC_STREAM k))) []
      deadFrom := s.tc.deadFrom
      cont := s.tc.cont.filter (fun e => samePier (streamOf s e.1) (rd s (aTC_STREAM e.1))) } }
  enterPrefill (setF (setF s1 TC_STATUS_D (getF s TC_CTRL_DECIM)) TC_DEAD_MAX_MAX 0) 0

/-- STOP (R486) ends post-fill of the current segment. -/
def captureStop (s : State) : State := if tcState s = 3 then endSegment s else s

/-- Lines that an accepted trigger of source bit `src` drives (R493). -/
def driveLines (s : State) (src : Nat) : State :=
  let s1 := if flag s TC_BUS_DRIVE0 ∧ src ≠ 4 then armIn s (.trigDrive 0) 40 else s
  if flag s TC_BUS_DRIVE1 ∧ src ≠ 5 then armIn s1 (.trigDrive 1) 40 else s1

/-- The index of the first entry of the ring that is stamped at or after `t`, looking back from place `i` over `n` entries; `best` is what
has been found. -/
def ringSearch (s : State) (base pre t : Nat) : Nat → Nat → Option Nat → Option Nat
  | 0, _, best => best
  | n + 1, i, best =>
    let stampAt := rdMem s (capBase + 16 * (base + i) + 8) 4
    if (stampAt + (2 ^ 32 - stampOf t)) % 2 ^ 32 < 2 ^ 31 then ringSearch s base pre t n ((i + (pre - 1)) % pre) (some (base + i)) else best

/-- A trigger time in the past (R493): an entry already in the ring that is stamped at or after t_trig carries TRIG (R486). -/
def markRing (s : State) (t : Nat) : State :=
  let pre := segPre s
  let n := getF s TC_STATUS_SEG
  match ringSearch s (n * segSize s) pre t pre ((s.tc.pos + (pre - 1)) % pre) none with
  | none => s
  | some i =>
    let a := capBase + 16 * i + 12
    setF { wrMem s a 4 (rdMem s a 4 % 2 ^ 6 + 2 ^ 6 + rdMem s a 4 / 2 ^ 7 * 2 ^ 7) with tc := { s.tc with trigPlaced := true } } (TC_SEG_w0_TRIG_IDX n) i

/-- A trigger of source bit `src`, adjusted back by `comp` ns (R486, R487, R493). Two in one central cycle count as one. -/
def offerTrigger (s : State) (src comp : Nat) : State :=
  let st := tcState s
  if (getF s TC_TRIG_SRC).testBit src = false ∨ st = 0 ∨ st = 4 ∨ s.tc.lastTrig = some (s.elapsed / 5) then s
  else
    let s0 := { s with tc := { s.tc with lastTrig := some (s.elapsed / 5) } }
    if st = 2 then
      let n := getF s TC_STATUS_SEG
      let t := netNs s - comp
      let s1 := { s0 with tc := { s0.tc with trig := some t, trigPlaced := false, deadFrom := some (s.elapsed - 4 * comp) } }
      let s2 := setF (setF (setF s1 TC_STATUS_STATE 3) (TC_SEG_w1_T_TRIG n) (stampOf t)) (TC_SEG_w3_VALID n) 1
      driveLines (bump (event (markRing s2 t) TC_INT_TRIG) (cTC_CNT 0)) src
    else bump (event s0 TC_INT_IGNORED) (cTC_CNT 1)

/-- FORCE (R487, source 0). -/
def captureForce (s : State) : State := offerTrigger s 0 0

/-- A window event of the lift schedule (R171, R487, source 1). -/
def captureWindow (s : State) (entry cls : Nat) : State :=
  let hit := if flag s TC_TRIG_ANYENT then decide (cls = getF s TC_TRIG_CLASS) else decide (entry = getF s TC_TRIG_ENTRY)
  if hit then offerTrigger s 1 0 else s

/-- A contained or fatal fault is recorded (R487, source 6). -/
def captureFault (s : State) : State := offerTrigger s 6 0

/-! ### Streams -/

/-- The streams of pier `g`. -/
def streamsAt (s : State) (g : Nat) : List Nat :=
  (s.tc.streams.filter (fun e => e.2.getLsbD 31 && decide (bitsOf e.2 14 0 = g))).map (fun e => e.1)

/-- Whether pier `g` is named by a stream with CONT = 1 (R266). -/
def contWanted (s : State) (g : Nat) : Bool := (streamsAt s g).any (fun k => (streamOf s k).getLsbD 30)

/-- One count in bin `b` of the settle histogram (R490). -/
def settleBin (s : State) (b : Nat) : State :=
  let a := capBase + 0x7E0000 + 4 * min b 255
  wrMem s a 4 (min (rdMem s a 4 + 1) 0xFFFFFFFF)

/-- The release whose settle time stream `k` awaits. -/
def awaited (s : State) (k : Nat) : Option (Nat × List (Nat × Nat)) := cellGet (fun _ => none) s.tc.settle k

/-- The state with a stream's awaited release replaced. -/
def setAwaited (s : State) (k : Nat) (x : Option (Nat × List (Nat × Nat))) : State :=
  { s with tc := { s.tc with settle := cellPut (fun _ => none) s.tc.settle k x } }

/-- Stream `k` awaits its settling after a release (R490); one that still awaited an earlier release counts in bin 255. -/
def awaitSettle (s : State) (k : Nat) : State :=
  if tcMode s = 1 then setAwaited (if (awaited s k).isSome then settleBin s 255 else s) k (some (s.elapsed, [])) else s

/-- A release strobe changes the live code of a pier (R487 source 2, R490, R491). Before the first ARM only the settle histogram is built (R491,
R492). -/
def captureRelease (s : State) (g : Nat) : State :=
  if tcState s = 4 then s
  else if tcState s = 0 then (streamsAt s g).foldl awaitSettle s
  else (streamsAt s g).foldl (fun s k =>
    let s1 := { s with tc := { s.tc with release := cellPut (fun _ => none) s.tc.release k (some s.elapsed) } }
    let s2 := awaitSettle s1 k
    if k = getF s2 TC_TRIG_STREAM then offerTrigger s2 2 0 else s2) s

/-- IFS of a gain, in pA (R248). -/
def fullScale (gain : Nat) : Nat := 2000000000 / 10 ^ (gain % 4)

/-- The current of a count over `m` modulator cycles (R250), in pA. -/
def current (count gain m : Nat) : Nat := if m = 0 then 0 else count * fullScale gain / m

/-- Lead-in cycles of a window of `n` cycles (R251). -/
def leadIn (n : Nat) : Nat := max (n / 16) 1

/-- Currents of MONA and MONB in a sample record, each with its own m (R253). -/
def recordCurrents (w0 w1 : Word) : Nat × Nat :=
  let n := bitsOf w1 30 16
  let m := fun (full : Bool) => if full then n else leadIn n
  (current (bitsOf w0 15 0) (bitsOf w1 4 3) (m (w1.getLsbD 1)), current (bitsOf w0 31 16) (bitsOf w1 6 5) (m (w1.getLsbD 2)))

/-- One record of stream `k` in the settle-time histogram (R490). -/
def settleRecord (s : State) (k : Nat) (w0 w1 : Word) : State :=
  match awaited s k with
  | none => s
  | some (t, ws) =>
    let (a, b) := recordCurrents w0 w1
    let all := (ws ++ [(s.elapsed, if w1.getLsbD 0 then b else a)])
    let last4 := all.drop (all.length - 4)
    let bin := fun (close : Nat) => (close - t) / (4 * getF s TC_HIST_BIN)
    match last4 with
    | [x, y, z, v] =>
      let near := fun (i : Nat) => decide ((max i v.2 - min i v.2) * 4096 ≤ getF s TC_HIST_TOL * v.2)
      if near x.2 ∧ near y.2 ∧ near z.2 then setAwaited (settleBin s (bin x.1)) k none
      else if 256 ≤ bin y.1 then setAwaited (settleBin s 255) k none
      else setAwaited s k (some (t, last4))
    | _ => setAwaited s k (some (t, last4))

/-- One record of stream `k` in the persistence map (R491). -/
def mapRecord (s : State) (k : Nat) (w0 w1 : Word) (rrat : Nat) : State :=
  match cellGet (fun _ => none) s.tc.release k with
  | none => s
  | some t =>
    let (a, b0) := recordCurrents w0 w1
    let b := b0 * rrat / 4096
    if bitsOf w1 15 9 ≠ 0 ∨ a + b = 0 then s
    else
      let x := min ((s.elapsed - t) / (4 * getF s TC_HIST_BIN)) 255
      let y := min (256 * a / (a + b)) 255
      let c := capBase + 0x7E0000 + 2 * (256 * y + x)
      wrMem s c 2 (min (rdMem s c 2 + 1) 0xFFFF)

/-- Past 192 entries in the queue D rises, at most once per 100 ns, up to 15 (R489). -/
def raiseD (s : State) : State :=
  let d := getF s TC_STATUS_D
  if 192 < s.tc.queue.length ∧ d < 15 ∧ s.tc.lastRise + 400 ≤ s.elapsed then
    event (setF { s with tc := { s.tc with lastRise := s.elapsed } } TC_STATUS_D (d + 1)) TC_INT_DECIM
  else s

/-- An entry joins the input queue (R489): dropped when the queue is full. -/
def enqueueEntry (s : State) (k : Nat) (w0 w1 : Word) : State :=
  if 256 ≤ s.tc.queue.length then bump (event s TC_INT_DROP) (cTC_CNT 4)
  else
    let e := (w0.toNat, w1.toNat, stamp s, k + 2 ^ 7 * getF s TC_STATUS_D, netNs s)
    raiseD { s with tc := { s.tc with queue := s.tc.queue ++ [e] } }

/-- Trigger source 3: the selected count of a stream's record crosses LEVEL (R487; the sense of crossing is DEDUCED, log entry 17). -/
def levelTrigger (s : State) (k : Nat) (w0 : Word) : State :=
  let c := if flag s TC_LEVEL_SEL then bitsOf w0 31 16 else bitsOf w0 15 0
  let v := getF s TC_LEVEL_LEVEL
  let crossed : Bool := match cellGet (fun _ => none) s.tc.lastCount k with
    | some p => if flag s TC_LEVEL_DIR then decide (v ≤ p ∧ c < v) else decide (p < v ∧ v ≤ c)
    | none => false
  let s1 := { s with tc := { s.tc with lastCount := cellPut (fun _ => none) s.tc.lastCount k (some c) } }
  if crossed ∧ k = getF s TC_TRIG_STREAM then offerTrigger s1 3 0 else s1

/-- A record of stream `k` (R484, R489 to R492). -/
def streamRecord (s : State) (k : Nat) (w0 w1 : Word) (rrat : Nat) : State :=
  let s1 := levelTrigger s k w0
  let s2 := if tcMode s1 = 1 then settleRecord s1 k w0 w1 else if tcMode s1 = 2 then mapRecord s1 k w0 w1 rrat else s1
  let c := cellGet (fun _ => 0) s2.tc.counts k
  let s3 := { s2 with tc := { s2.tc with counts := cellPut (fun _ => 0) s2.tc.counts k (c + 1) } }
  if c % 2 ^ getF s TC_STATUS_D = 0 then enqueueEntry s3 k w0 w1 else bump s3 (cTC_CNT 3)

/-- Whether stream `k` carries every window of its pier: its CONT as of the pier's latest loop window close (R484). -/
def carriesAll (s : State) (k : Nat) : Bool := cellGet (fun _ => false) s.tc.cont k

/-- A record of each stream of a pier (R253, R484): every window of a stream with CONT = 1, the loop windows of the others. Before the first ARM
it enters the settle histogram alone (R492). -/
def sampleStreams (s : State) (g : Nat) (w0 w1 : Word) (isLoop : Bool) (rrat : Nat) : State :=
  let one := fun (s : State) (k : Nat) =>
    if tcState s = 0 then (if tcMode s = 1 then settleRecord s k w0 w1 else s) else streamRecord s k w0 w1 rrat
  if tcState s = 4 then s
  else (streamsAt s g).foldl (fun s k => if isLoop ∨ carriesAll s k then one s k else s) s

/-- A sample record on the monitor-sample bus. At a loop window close a change of CONT takes effect (R484). -/
def captureSample (s : State) (g : Nat) (w0 w1 : Word) (isLoop : Bool) (rrat : Nat) : State :=
  let s1 := sampleStreams s g w0 w1 isLoop rrat
  if isLoop then (streamsAt s1 g).foldl (fun s k => setCont s k ((streamOf s k).getLsbD 30)) s1 else s1

/-! ### The store (R486, R489) -/

/-- Entry `i` of the capture memory written. -/
def putEntry (s : State) (i : Nat) (e : Nat × Nat × Nat × Nat × Nat) (trig : Bool) : State :=
  let a := capBase + 16 * i
  wrMem (wrMem (wrMem (wrMem s a 4 e.1) (a + 4) 4 e.2.1) (a + 8) 4 e.2.2.1) (a + 12) 4 (e.2.2.2.1 + (if trig then 2 ^ 6 else 0))

/-- FILL of the current segment. -/
def showFill (s : State) (n : Nat) : State :=
  setF { s with tc := { s.tc with fill := n } } (TC_SEG_w2_FILL (getF s TC_STATUS_SEG)) n

/-- An entry goes into the ring over the pre-trigger part (R486). -/
def ringEntry (s : State) (e : Nat × Nat × Nat × Nat × Nat) : State :=
  if segPre s = 0 then s
  else
    let i := getF s TC_STATUS_SEG * segSize s + s.tc.pos % segPre s
    let s1 := putEntry s i e false
    bump { s1 with tc := { s1.tc with pos := (s1.tc.pos + 1) % segPre s } } (cTC_CNT 2)

/-- An entry after the trigger (R486): the first one carries TRIG and TC_SEG notes its place. -/
def postEntry (s : State) (e : Nat × Nat × Nat × Nat × Nat) : State :=
  let n := getF s TC_STATUS_SEG
  let i := n * segSize s + s.tc.fill
  let s1 := putEntry s i e (! s.tc.trigPlaced)
  let s2 := if s.tc.trigPlaced then s1 else setF { s1 with tc := { s1.tc with trigPlaced := true } } (TC_SEG_w0_TRIG_IDX n) i
  let s3 := showFill (bump s2 (cTC_CNT 2)) (s.tc.fill + 1)
  if segSize s ≤ s3.tc.fill then endSegment s3 else s3

/-- The store takes one entry from the input queue (R489). Entries stamped before t_trig still belong to the ring. Outside a capture they are
dropped with it. -/
def execCaptureStore (s : State) : Out :=
  match s.tc.queue with
  | [] => .next s
  | e :: rest =>
    let s1 := raiseD { s with tc := { s.tc with queue := rest } }
    match tcState s with
    | 1 =>
      let s2 := bump (putEntry s1 (getF s TC_STATUS_SEG * segSize s + s.tc.fill) e false) (cTC_CNT 2)
      let s3 := showFill s2 (s.tc.fill + 1)
      .next (if segPre s ≤ s3.tc.fill then enterArmed s3 else s3)
    | 2 => .next (ringEntry s1 e)
    | 3 =>
      if s.tc.trigPlaced = false ∧ s.tc.trig.any (fun t => decide (e.2.2.2.2 < t)) then .next (ringEntry s1 e)
      else .next (postEntry s1 e)
    | _ => .next s1

/-! ### The trigger bus (R493) -/

/-- A falling edge on TRIG0 or TRIG1 is recognised. With CSYNC_EN it is at a rising edge of CSYNC, which also ends a loss of CSYNC. -/
def execTrigBusEdge (line : Fin 2) (s : State) : Out :=
  let s1 := setF s TC_STATUS_CSYNC_LOST 0
  let comp := if line.val = 0 then getF s TC_BUS_COMP0 else getF s TC_BUS_COMP1
  .next (offerTrigger s1 (4 + line.val) comp)

/-- CSYNC has shown no edge for 1 µs (R493). -/
def execCsyncLost (s : State) : Out :=
  .next (if flag s TC_CTRL_CSYNC_EN then setF s TC_STATUS_CSYNC_LOST 1 else s)

/-- This unit's drive of a trigger line ends (R493): after 40 ns, or with CSYNC_EN after 4 periods of CSYNC, which the device does
not know. -/
def execTrigDriveEnd (line : Fin 2) (s : State) : Out :=
  if armed s (.trigDrive line) ∧ (flag s TC_CTRL_CSYNC_EN ∨ due s (.trigDrive line)) then .next (disarm s (.trigDrive line)) else .next s

end Sys2Proof.Machine
end

