-- ==== Sys2Proof/Machine/NetTime.lean ====
section
/-!
DEFINITION. Machine/NetTime.lean: the best master clock algorithm (R149), Sync and delay measurements (R150, R151), the servo
and its states (R153 to R157), permitted steps (R158 to R161), and the TIME_STEP message (R81, R159).
-/
namespace Sys2Proof.Machine

/-- The PTP message at the head of the queue, when it is of a type. -/
def nextPtp (s : State) (typ : Nat) : Option PtpMsg :=
  match s.tg.ptp with
  | m :: _ => if ptpType m.bytes = typ then some m else none
  | [] => none

/-- That message taken from the queue. -/
def takePtp (s : State) : State := { s with tg := { s.tg with ptp := s.tg.ptp.drop 1 } }

/-! ### The best master (R149) -/

/-- Lexicographic order on equally long lists of numbers. -/
def lexLt : List Nat → List Nat → Bool
  | a :: as, b :: bs => decide (a < b) || (decide (a = b) && lexLt as bs)
  | _, _ => false

/-- Data set comparison: of two grandmasters by priority1, clockQuality, priority2 and identity; of two paths to one by steps
removed, sender and port (PRESUMED from IEEE 1588-2019, log entry 13). -/
def betterMaster (a b : Foreign) : Bool :=
  if a.gm = b.gm then lexLt [a.steps, a.source, a.route.port] [b.steps, b.source, b.route.port]
  else lexLt [a.priority1, a.quality, a.priority2, a.gm] [b.priority1, b.quality, b.priority2, b.gm]

/-- The best foreign master on a PTP-enabled port. -/
def bestMaster (s : State) : Option Foreign :=
  (s.nt.masters.filter (fun m => (getF s NT_CTRL_PTP_EN).testBit m.route.port)).foldl
    (fun b m => match b with
      | none => some m
      | some x => if betterMaster m x then some m else some x) none

/-- The interval of Delay_Req in nanoseconds, 2^DREQ_LOG s (R151). -/
def dreqInterval (s : State) : Nat :=
  let l := getI s NT_CTRL_DREQ_LOG
  if 0 ≤ l then 1000000000 * 2 ^ l.toNat else 1000000000 / 2 ^ (-l).toNat

/-- The selection follows the masters heard; a change of the selected grandmaster sets NT_INT.GM_CHANGE. -/
def reselect (s : State) : State :=
  match bestMaster s with
  | none =>
    disarm (setF (setF (setFlag s NT_STATE_GM_VALID false) NT_GMID_L_ID_LO 0) NT_GMID_H_ID_HI 0) .delayReq
  | some m =>
    let changed := ! flag s NT_STATE_GM_VALID || decide (gmId s ≠ m.gm)
    let s1 := setF (setF (setF (setFlag s NT_STATE_GM_VALID true) NT_STATE_PORT m.route.port) NT_GMID_H_ID_HI (m.gm / 2 ^ 32))
      NT_GMID_L_ID_LO m.gm
    let s2 := if armed s1 .delayReq then s1 else armIn s1 .delayReq (dreqInterval s1)
    if changed then event s2 NT_INT_GM_CHANGE else s2

/-- The timer of a foreign master's announceReceiptTimeout. -/
def announceKey (m : Foreign) : Timer := .announce (m.source * 8 + m.route.port)

/-- ANNOUNCE (R149): the message is counted and its data set remembered for three announce intervals; the best master is
chosen anew. -/
def execAnnounce (s : State) : Out :=
  match nextPtp s ptpAnnounce with
  | none => .next s
  | some m =>
    let b := m.bytes
    let s1 := bump (takePtp s) (cNT_CNT 1)
    if b.length < 64 then .next s1
    else
      let f : Foreign := ⟨m.route, ptpSource b, beAt b 47 1, beAt b 48 4, beAt b 52 1, beAt b 53 8, beAt b 61 2⟩
      let others := s1.nt.masters.filter (fun x => decide (x.source ≠ f.source ∨ x.route.port ≠ f.route.port))
      let wait := if 0 ≤ ptpLog b then 3000000000 * 2 ^ (ptpLog b).toNat else 3000000000 / 2 ^ (-(ptpLog b)).toNat
      .next (reselect (armIn { s1 with nt := { s1.nt with masters := others ++ [f] } } (announceKey f) wait))

/-- ANNOUNCE_RECEIPT_TIMEOUT (R149): a master unheard for three announce intervals is forgotten. -/
def execAnnounceReceiptTimeout (s : State) : Out :=
  match s.nt.masters.find? (fun m => due s (announceKey m)) with
  | none => .next s
  | some m =>
    let rest := s.nt.masters.filter (fun x => decide (announceKey x ≠ announceKey m))
    .next (reselect (disarm { s with nt := { s.nt with masters := rest } } (announceKey m)))

/-! ### The servo (R153 to R157) -/

/-- |o| in units of 2^-16 ns against a limit in nanoseconds. -/
def withinNs (o : Int) (limit : Nat) : Bool := decide (o.natAbs ≤ limit * 65536)

/-- The servo's limit of y: ±PPM × 10^-6 × 2^40 (R153). -/
def servoLimit (s : State) : Nat := getF s NT_SERVO_LIM_PPM * 2 ^ 40 / 1000000

/-- R153: one accepted measurement drives the PI servo. Roundings that the rule does not state are free. -/
def feed (s : State) (o : Int) : State :=
  let tau := s.elapsed - s.nt.lastMeas.getD s.elapsed
  let (u, s1) := divFree s (-o * 2 ^ 26) tau
  let lim : Int := (servoLimit s : Nat)
  let (di, s2) := divFree s1 ((getF s NT_SERVO_KI : Int) * u) 65536
  let i := clampInt (-lim) lim (s.nt.integral + di)
  let (dp, s3) := divFree s2 ((getF s NT_SERVO_KP : Int) * u) 65536
  let y := clampInt (-lim) lim (i + dp)
  setF { s3 with nt := { s3.nt with integral := i, lastMeas := some s3.elapsed, lastGood := s3.elapsed } } NT_RATE_Y (unsigned 32 y)

/-- The clock set to the grandmaster's time (R155): an initial set. -/
def setClock (s : State) (o : Int) : State :=
  let s1 := setF (setF s NT_STEP_CNT_COUNT (getF s NT_STEP_CNT_COUNT + 1)) LS_CTRL_RUN 0
  { s1 with clock := wrapClock ((s.clock : Int) - o * 2 ^ 26),
            nt := { s1.nt with lastMeas := some s.elapsed, lastGood := s.elapsed, lockCount := 0 } }

/-- LOCKED is entered. -/
def enterLocked (s : State) : State :=
  let s1 := event (setF s NT_STATE_SERVO 2) NT_INT_LOCKED
  refreshReady { s1 with nt := { s1.nt with lastGood := s.elapsed } }

/-- The count of consecutive refused measurements as NT_STATE shows it. -/
def showRefused (s : State) : State := setF s NT_STATE_PERSIST_CNT (min s.nt.refused.length 255)

/-- No refused measurement counts any more. -/
def forgetRefused (s : State) : State := showRefused { s with nt := { s.nt with refused := [] } }

/-- R157: the latest K refused measurements, when they all lie within TOL of the first of them. -/
def persistRun (s : State) : Option (List Refused) :=
  let k := getF s NT_PERSIST_K
  let l := s.nt.refused.take k
  match l.getLast? with
  | none => none
  | some first =>
    if l.length = k ∧ l.all (fun r => withinNs (r.off - first.off) (getF s NT_PERSIST_TOL)) then some l else none

/-- A permission is stored. -/
def permitStored (s : State) : Bool := flag s NT_PERMIT_w6_VALID

/-- The stored permission's grandmaster. -/
def permitGm (s : State) : Nat := getF s NT_PERMIT_w1_GMID * 2 ^ 32 + getF s NT_PERMIT_w0_GMID

/-- The stored permission's MAXSTEP in nanoseconds. -/
def permitMax (s : State) : Nat := getF s NT_PERMIT_w3_MAXSTEP * 2 ^ 32 + getF s NT_PERMIT_w2_MAXSTEP

/-- The stored permission's VALID_UNTIL in nanoseconds, extended to 48 bits against the present time before each comparison (R143). -/
def permitUntil (s : State) : Nat := extendSec s (getF s NT_PERMIT_w4_VALID_UNTIL) * 1000000000 + getF s NT_PERMIT_w5_VALID_UNTIL

/-- The stored permission is discarded. -/
def dropPermit (s : State) : State := setFlag s NT_PERMIT_w6_VALID false

/-- The start of the latest booked request window; 0 with none. -/
def latestBooked (s : State) : Nat :=
  max ((s.ad.inflight.map (fun r => r.tW)).max?.getD 0) ((s.ad.slots.map (fun x => x.tW)).max?.getD 0)

/-- R160, R174: the first lift-cycle boundary later than the decision, the latest booked request window and a pending swap's
boundary. A schedule without a cycle has no boundary: then B is a free value later than these. -/
def stepBound (s : State) : Nat × State :=
  let (bank, floor) := match s.nt.swapAt with
    | some (b, _) => (1 - lsBank s, b)
    | none => (lsBank s, 0)
  let t := max (max (netNs s) (latestBooked s)) floor + 1
  if cycleOf s bank = 0 then let (k, s1) := fresh s (2 ^ 30); (t + k, s1) else (boundaryFrom s bank t, s)

/-- The step decision (R158, R160): B is fixed, the amount is -o_p, and the permission is used up. -/
def decideStep (s : State) (x : Refused) : State :=
  let (b, s0) := stepBound (dropPermit s)
  let d := unsigned 64 (-x.off)
  let s1 := setF (setF s0 NT_STEP_S_B_SECONDS (b / 1000000000)) NT_STEP_NS_B_NANOSECONDS (b % 1000000000)
  let s2 := setF (setF s1 NT_STEP_VAL_L_DELTA_VAL_L d) NT_STEP_VAL_H_DELTA_VAL_H (d / 2 ^ 32)
  setFlag { s2 with nt := { s2.nt with decision := some ⟨b, -x.off, x.gm, x.off⟩ } } NT_STATE_STEP_PEND true

/-- The conditions of R158 are looked at: a persistence in HELD_OFF and a valid permission for its grandmaster. A persistent
offset above MAXSTEP discards the permission and sets NT_INT.PERSIST (R159). -/
def considerStep (s : State) : State :=
  match s.nt.persist with
  | none => s
  | some x =>
    if getF s NT_STATE_SERVO ≠ 4 ∨ s.nt.decision.isSome ∨ permitStored s = false ∨ permitGm s ≠ x.gm ∨ permitUntil s < netNs s
    then s
    else if permitMax s < x.off.natAbs then event (dropPermit s) NT_INT_PERSIST
    else decideStep s x

/-- The refused measurements whose mean becomes o_p: in HELD_OFF, from the grandmaster of the persistence, the latest K; otherwise the latest K
when they meet the persistence condition (R157). -/
def persistBase (s : State) (gm : Nat) : Option (List Refused) :=
  let k := getF s NT_PERSIST_K
  let renews := decide (getF s NT_STATE_SERVO = 4) && (match s.nt.persist with | some x => decide (x.gm = gm) | none => false)
  if renews then
    if 0 < k ∧ k ≤ s.nt.refused.length then some (s.nt.refused.take k) else none
  else persistRun s

/-- R156, R157: a measurement beyond THR is refused and counted; K of them from one grandmaster make a persistence. -/
def refuseMeasure (s : State) (o : Int) : State :=
  let gm := gmId s
  let s1 := event (bump s (cNT_CNT 5)) NT_INT_JUMP
  let same := match s1.nt.refused with | r :: _ => decide (r.gm = gm) | [] => false
  let run := ((⟨gm, o⟩ : Refused) :: (if same then s1.nt.refused else [])).take 255
  let s2 := showRefused { s1 with nt := { s1.nt with refused := run } }
  match persistBase s2 gm with
  | none => s2
  | some l =>
    let (op, s3) := divFree s2 ((l.map (fun r => r.off)).sum) (65536 * l.length)
    let s4 := { s3 with nt := { s3.nt with persist := some ⟨gm, op⟩ } }
    let s5 := if getF s4 NT_STATE_SERVO = 4 then s4 else event (setF s4 NT_STATE_SERVO 4) NT_INT_PERSIST
    considerStep s5

/-- An accepted measurement in LOCKED, HOLDOVER or HELD_OFF (R155): it restarts the persistence count and is fed to the servo, except in
HELD_OFF where it comes from another grandmaster than the persistence's: then the clock goes on at the last y (R154). -/
def acceptMeasure (s : State) (o : Int) : State :=
  let st := getF s NT_STATE_SERVO
  let ofPersistence := match s.nt.persist with | some x => decide (x.gm = gmId s) | none => false
  if st = 4 ∧ ofPersistence = false then
    forgetRefused { s with nt := { s.nt with lastMeas := some s.elapsed, lastGood := s.elapsed } }
  else
    let s1 := forgetRefused (feed s o)
    if st = 4 then enterLocked { s1 with nt := { s1.nt with persist := none } } else if st = 3 then enterLocked s1 else s1

/-- One offset measurement o, in 2^-16 ns (R155, R156). -/
def measure (s0 : State) (o : Int) : State :=
  let (ns, s) := divFree s0 o 65536
  let s := setF s NT_OFFSET_O (unsigned 32 (clampInt (-2147483648) 2147483647 ns))
  let thr := getF s NT_JUMP_THR
  match getF s NT_STATE_SERVO with
  | 0 => setF (setClock s o) NT_STATE_SERVO 1
  | 1 =>
    if withinNs o thr = false then setClock s o
    else
      let s1 := feed s o
      let n := if withinNs o (getF s NT_LOCK_LIMIT) then s1.nt.lockCount + 1 else 0
      let s2 := { s1 with nt := { s1.nt with lockCount := n } }
      if getF s NT_LOCK_COUNT ≤ n then enterLocked s2 else s2
  | _ => if withinNs o thr then acceptMeasure s o else refuseMeasure s o

/-- The mean path delay in 2^-16 ns over the last DLY_AVG samples (0 means 64); each sample is held doubled (R151). -/
def pathDelay (s : State) : Int × State :=
  let n := s.nt.samples.length
  if n = 0 then (0, s) else divFree s (s.nt.samples.sum) (2 * n)

/-- t2 - t1 - corrections of a complete Sync becomes an offset measurement (R151). -/
def syncDone (s : State) (p : Nat) (delta : Int) : State :=
  let s1 := { s with nt := { s.nt with syncDelta := some delta } }
  let (d, s2) := pathDelay s1
  measure s2 (delta - d - signed 32 (getF s (NT_ASYM_ASYM p)) * 256)

/-- Whether a message comes from the selected master on the selected port. -/
def fromSelected (s : State) (m : PtpMsg) : Bool :=
  flag s NT_STATE_GM_VALID && (match bestMaster s with
    | some f => decide (f.source = ptpSource m.bytes ∧ f.route.port = m.route.port)
    | none => false)

/-- SYNC (R150, R151): counted; one whose logMessageInterval lies outside -7 to 1, or that is not the selected master's, is
ignored; a one-step Sync is a measurement, a two-step one waits 100 ms for its Follow_Up. `frac` is the ingress stamp's
fraction in 1/256 ns (R152). -/
def execSync (frac : Fin 256) (s : State) : Out :=
  match nextPtp s ptpSync with
  | none => .next s
  | some m =>
    let b := m.bytes
    let s1 := bump (takePtp s) (cNT_CNT 0)
    if b.length < 44 ∨ ptpLog b < -7 ∨ 1 < ptpLog b ∨ fromSelected s1 m = false then .next s1
    else
      let t2 : Int := (m.arrival * 65536 + frac.val * 256 : Nat)
      if ptpTwoStep b then
        let x : PendingSync := ⟨m.route.port, ptpSeq b, ptpSource b, t2, ptpCorr b, true⟩
        let others := s1.nt.syncs.filter (fun y => decide (y.seqId ≠ x.seqId ∨ y.source ≠ x.source))
        .next (armIn { s1 with nt := { s1.nt with syncs := others ++ [x] } } (.followUp x.source x.seqId) 100000000)
      else .next (syncDone s1 m.route.port (t2 - ptpStamp b - ptpCorr b))

/-- FOLLOW_UP (R150): it completes the two-step Sync of the same sequenceId and sourcePortIdentity. -/
def execFollowUp (s : State) : Out :=
  match nextPtp s ptpFollowUp with
  | none => .next s
  | some m =>
    let b := m.bytes
    let s1 := takePtp s
    match s1.nt.syncs.find? (fun x => decide (x.seqId = ptpSeq b ∧ x.source = ptpSource b ∧ x.port = m.route.port)) with
    | none => .next s1
    | some x =>
      if b.length < 44 then .next s1
      else
        let rest := s1.nt.syncs.filter (fun y => decide (y.seqId ≠ x.seqId ∨ y.source ≠ x.source))
        let s2 := disarm { s1 with nt := { s1.nt with syncs := rest } } (.followUp x.source x.seqId)
        .next (syncDone s2 x.port (x.t2 - ptpStamp b - ptpCorr b - x.corr))

/-- FOLLOW_UP_TIMEOUT (R150): a two-step Sync without its Follow_Up for 100 ms is discarded and counted. -/
def execFollowUpTimeout (s : State) : Out :=
  match s.nt.syncs.find? (fun x => due s (.followUp x.source x.seqId)) with
  | none => .next s
  | some x =>
    let rest := s.nt.syncs.filter (fun y => decide (y.seqId ≠ x.seqId ∨ y.source ≠ x.source))
    .next (bump (disarm { s with nt := { s.nt with syncs := rest } } (.followUp x.source x.seqId)) (cNT_CNT 3))

/-- The Delay_Req of a sequence number: header and an originTimestamp of 0 (R151). The sender's identity is the device's. -/
def delayReqBytes (s : State) (port seq : Nat) : List Byte :=
  [0x01, 0x02] ++ beBytes 2 44 ++ beBytes 1 (getF s NT_CTRL_DOMAIN) ++ beBytes 15 0
    ++ beBytes 8 Config.clockIdentity ++ beBytes 2 (port + 1) ++ beBytes 2 seq ++ [0x01, 0x7F] ++ beBytes 10 0

/-- DELAY_REQ_TIMER (R151): every 2^DREQ_LOG s a Delay_Req goes out on the selected port, the way the master's Announce came; where its priority
is paused, it waits (R94). -/
def execDelayReqTimer (frac : Fin 256) (s : State) : Out :=
  if due s .delayReq = false then .next s
  else match bestMaster s with
  | none => .next (disarm s .delayReq)
  | some m =>
    let s1 := armIn s .delayReq (dreqInterval s)
    let p := m.route.port
    if portUp s p = false then .next s1
    else
      let v6 := decide (m.route.encap = 2)
      let seq := (s.nt.dreqSeq + 1) % 2 ^ 16
      let bytes := delayReqBytes s p seq
      let own := if v6 then portIp6 s p else getF s (CP_IPV4_ADDR p)
      let prio := match m.route.tags with | t :: _ => t % 2 ^ 16 / 2 ^ 13 | [] => getF s (CP_CTRL_DEF_PRI p)
      let f : OutFrame := if m.route.encap = 0 then ⟨p, prio, 0x011B19000000, portMac s p, m.route.tags, 0, 0, 0, 0, 0, 0, bytes⟩
        else ⟨p, prio, m.route.srcMac, portMac s p, m.route.tags, m.route.encap, own, m.route.srcIp, 319, 319,
          udpChecksumOf v6 own m.route.srcIp 319 319 bytes, bytes⟩
      .next (if ptpWaits s1 p prio then holdPtp s1 p (.delayReq f seq) else sendDelayReq s1 f seq frac)

/-- DELAY_RESP (R151): the answer to the last Delay_Req gives one sample of the path delay, and the mean its new value. -/
def execDelayResp (s : State) : Out :=
  match nextPtp s ptpDelayResp with
  | none => .next s
  | some m =>
    let b := m.bytes
    let s1 := takePtp s
    if b.length < 54 ∨ fromSelected s1 m = false ∨ ptpSeq b ≠ s1.nt.dreqSeq
        ∨ beAt b 44 10 ≠ Config.clockIdentity % 2 ^ 64 * 65536 + m.route.port + 1 then .next s1
    else match s1.nt.dreqT3, s1.nt.syncDelta with
    | some t3, some d =>
      let n := if getF s1 NT_CTRL_DLY_AVG = 0 then 64 else getF s1 NT_CTRL_DLY_AVG
      let x := d + (ptpStamp b - t3) - ptpCorr b
      let s2 := { s1 with nt := { s1.nt with dreqT3 := none, samples := (x :: s1.nt.samples).take n } }
      let (mean, s3) := divFree s2 s2.nt.samples.sum (2 * 65536 * s2.nt.samples.length)
      .next (setF s3 NT_PDELAY_D (unsigned 32 mean))
    | _, _ => .next s1

/-- GM_LOSS_TIMEOUT (R155): LOCKED with no accepted measurement for NT_LOSS.MS falls to HOLDOVER. -/
def execGmLossTimeout (s : State) : Out :=
  if getF s NT_STATE_SERVO = 2 ∧ s.nt.lastGood + 4000000 * getF s NT_LOSS_MS ≤ s.elapsed then
    .next (event (setF s NT_STATE_SERVO 3) NT_INT_HOLDOVER)
  else .next s

/-- PERMIT_EXPIRY (R159): a stored permission past VALID_UNTIL is discarded. -/
def execPermitExpiry (s : State) : Out :=
  if permitStored s ∧ permitUntil s < netNs s then .next (dropPermit s) else .next s

/-! ### Steps (R158 to R161, R174) -/

/-- The latest request window before `t` among the next `fuel` windows. -/
def lastReqFrom (s : State) (t : Nat) : Nat → Win → Option Nat → Option Nat
  | 0, _, acc => acc
  | fuel + 1, w, acc =>
    if t ≤ w.start then acc
    else lastReqFrom s t fuel (nextWin s w) (if isRequestWin s w ∧ s.nt.winFrom ≤ w.start then some w.start else acc)

/-- The latest request window of the running schedule that starts before `t`. -/
def lastReqBefore (s : State) (t : Nat) : Option Nat := lastReqFrom s t winFuel (winBefore s t) s.nt.prevReq

/-- The banks change at the boundary B of a swap, and windows resume at N of the new bank (R172). -/
def swapBanks (s : State) (b n : Nat) : State :=
  let s1 := bump (setFlag (setF s LS_CTRL_ACTIVE_BANK (1 - lsBank s)) LS_CTRL_SWAP_PEND false) (cLS_CNT 5)
  { s1 with nt := { s1.nt with swapAt := none, winFrom := n, prevReq := lastReqBefore s b, nextStart := n, nextEntry := 0, lastWin := none } }

/-- TIME_STEP_EXECUTE (R160, R174): at B the clock jumps by Δ; windows resume at the first cycle boundary at or after B + Δ.
Where a swap shares B, the banks change first. -/
def execTimeStepExecute (s : State) : Out :=
  match s.nt.decision with
  | none => .next s
  | some d =>
    if netNs s < d.bound then .next s
    else
      let s0 := match s.nt.swapAt with
        | some (b, n) => if b ≤ d.bound then swapBanks s b n else s
        | none => s
      let landed := ((d.bound : Int) + d.delta).toNat
      let n := boundaryFrom s0 (lsBank s0) landed
      let move := fun (t : Nat) => ((t : Int) + d.delta).toNat
      let s1 := event (setFlag (setF s0 NT_STEP_CNT_COUNT (getF s0 NT_STEP_CNT_COUNT + 1)) NT_STATE_STEP_PEND false) NT_INT_STEP
      let s2 := { s1 with
        clock := wrapClock ((s1.clock : Int) + d.delta * 2 ^ 42),
        ad := { s1.ad with closed := move s1.ad.closed, booked := [] },
        nt := { s1.nt with decision := none, persist := none, winFrom := n, nextStart := n, nextEntry := 0, lastWin := none,
                           prevReq := (if s.nt.swapAt.isSome then s0.nt.prevReq else lastReqBefore s d.bound).map move } }
      let s3 := forgetRefused s2
      let s4 := if getF s3 NT_STATE_SERVO = 4 then enterLocked s3 else s3
      -- a predicted ready time is predicted again on the new clock (DEDUCED, log entry 30)
      .next (if flag s4 TH_PSTATE_TRANSIT then setReady s4 (predicted s4) else s4)

/-- A permission enters the store, replacing any earlier one (R159). -/
def storePermit (s : State) (gm maxStep sec nano : Nat) : State :=
  let s1 := setF (setF s NT_PERMIT_w0_GMID gm) NT_PERMIT_w1_GMID (gm / 2 ^ 32)
  let s2 := setF (setF s1 NT_PERMIT_w2_MAXSTEP maxStep) NT_PERMIT_w3_MAXSTEP (maxStep / 2 ^ 32)
  let s3 := setF (setF s2 NT_PERMIT_w4_VALID_UNTIL sec) NT_PERMIT_w5_VALID_UNTIL nano
  setFlag s3 NT_PERMIT_w6_VALID true

/-- o_p as VALUE carries it: 32 bits, saturating (R78). -/
def opValue (op : Int) : Nat := unsigned 32 (clampInt (-2147483648) 2147483647 op)

/-- A RESULT (R78): STATUS, reserved, VALUE; TIME. -/
def result (s : State) (m : Msg) (status value time : Nat) : State :=
  answer s m 0xA1 time (beBytes 1 status ++ beBytes 3 0 ++ beBytes 4 value)

/-- R159: the first row that applies. -/
def timeStepStep (m : Msg) (s : State) : State :=
  match sizeCheck m 24 with
  | some (c, d) => refuseStep6 s m c d
  | none =>
    let b := msgBody m
    let gm := beAt b 0 8
    let maxStep := beAt b 8 8
    let sec := beAt b 16 4
    let nano := beAt b 20 4
    let until_ := extendSec s sec * 1000000000 + nano
    if 999999999 < nano then refuseStep6 s m 0x0B 44
    else if until_ < netNs s then result s m 0x26 0 0
    else match s.nt.decision with
    | some d => if gm = d.gm then result s m 0 (opValue d.op) d.bound else result s m 0x25 0 0
    | none =>
      match (if getF s NT_STATE_SERVO = 4 then s.nt.persist else none) with
      | some x =>
        if gm ≠ x.gm then result s m 0x25 0 0
        else if maxStep < x.off.natAbs then result s m 0x27 (opValue x.off) 0
        else
          let s1 := decideStep s x
          result s1 m 0 (opValue x.off) ((s1.nt.decision.map (fun d => d.bound)).getD 0)
      | none =>
        if flag s NT_STATE_GM_VALID ∧ gm ≠ gmId s then result s m 0x25 0 0
        else result (storePermit s gm maxStep sec nano) m 1 0 until_

/-- TIME_STEP (R81, R159): the message at the head of the queue. -/
def execTimeStep (mm : Upsets) (s : State) : Out :=
  match nextMsg s (fun m => decide (msgType m = 0x40)) with
  | none => .next s
  | some m => .next (process s m mm (timeStepStep m))

end Sys2Proof.Machine
end

