-- ==== Sys2Proof/Machine/Keystone.lean ====
section
/-!
DEFINITION. Machine/Keystone.lean: the element map (R175 to R180), targets (R182 to R184, R195 to R198), the two routing
methods (R185 to R189), disturbance (R191), failed piers (R201 to R204), conflicts (R205) and the route check (R206).
-/
namespace Sys2Proof.Machine

/-! ### The map -/

/-- No pier in a role (R178). -/
def noPier : Nat := 0x7FFF

/-- The cell of a stage that a slot passes. -/
def cellAt (stage : List Cell) (x : Nat) : Option Cell := stage.find? (fun c => decide (c.up = x ∨ c.lo = x))

/-- The side of a cell a slot is on: 0 upper, 1 lower. -/
def sideIn (c : Cell) (x : Nat) : Nat := if c.up = x then 0 else 1

/-- The slots that light on slot `x` may have after a stage, upper first; an absent cell passes it straight (R178). -/
def slotsAfter (stage : List Cell) (x : Nat) : List Nat :=
  match cellAt stage x with
  | some c => if c.kind = 0 then [x] else [c.up, c.lo]
  | none => [x]

/-- Every path from slot `x` to slot `out` through the stages, in the order that takes the upper side first (R188). -/
def allPaths : List (List Cell) → Nat → Nat → List (List Nat)
  | [], x, out => if x = out then [[x]] else []
  | st :: rest, x, out => (slotsAfter st x).flatMap (fun y => (allPaths rest y out).map (fun p => x :: p))

/-- The elements a circuit uses in one cell, from slot `x` to slot `y`, each with its state i XOR o (R182). -/
def stepElements (stage : List Cell) (x y : Nat) : List (Nat × Nat) :=
  match cellAt stage x with
  | none => []
  | some c =>
    let i := sideIn c x
    let o := sideIn c y
    let st := (i + o) % 2
    if c.kind = 2 then [(if i = 0 then c.ia else c.ib, st), (if o = 0 then c.ou else c.ol, st)]
    else if c.kind = 1 then [(c.ia, st)] else []

/-- The elements of a path through the stages. -/
def pathElements : List (List Cell) → List Nat → List (Nat × Nat)
  | st :: rest, x :: y :: t => stepElements st x y ++ pathElements rest (y :: t)
  | _, _ => []

/-- Input and output attenuators of a port. -/
def attIn (m : EMap) (p : Nat) : Nat := (m.ports.getD p (noPier, noPier)).1
/-- Output attenuator. -/
def attOut (m : EMap) (p : Nat) : Nat := (m.ports.getD p (noPier, noPier)).2

/-- Every pier on a circuit's path: its elements and the two attenuators. -/
def circuitPiers (m : EMap) (c : Circuit) : List Nat :=
  ((pathElements m.cells c.path).map (fun e => e.1) ++ [attIn m c.inp, attOut m c.out]).filter (fun g => decide (g ≠ noPier))

/-- Piers the map names (R175). -/
def mapPiers (m : EMap) : List Nat :=
  ((m.cells.flatMap (fun st => st.flatMap (fun c =>
      if c.kind = 2 then [c.ia, c.ib, c.ou, c.ol] else if c.kind = 1 then [c.ia] else [])))
    ++ m.ports.flatMap (fun p => [p.1, p.2])).filter (fun g => decide (g ≠ noPier))

/-- Whether a pier is an attenuator of the map. -/
def isAttenuator (m : EMap) (g : Nat) : Bool := m.ports.any (fun p => decide (p.1 = g ∨ p.2 = g)) && decide (g ≠ noPier)

/-! ### Failed piers (R201) -/

/-- The piers marked failed. -/
def failedPiers (s : State) : List Nat :=
  (s.regs.filter (fun e => decide (aKS_FAILMAP 0 ≤ e.1 ∧ e.1 < aKS_FAILMAP 0 + 4 * 576))).flatMap
    (fun e => (setBitsOf 32 e.2.toNat).map (fun b => 8 * (e.1 - aKS_FAILMAP 0) + b))

/-- Whether a pier is marked failed. -/
def isFailed (s : State) (g : Nat) : Bool := (rd s (aKS_FAILMAP (g / 32))).toNat.testBit (g % 32)

/-! ### Targets (R183, R184) -/

/-- Target words. -/
def tgtState (st : Nat) : Nat := st % 2
/-- MODE 2 with a LEVEL. -/
def tgtLevel (l : Nat) : Nat := 2 + 4 * l
/-- MODE 3: block. -/
def tgtBlock : Nat := 3
/-- HOLD. -/
def tgtHold : Nat := 2 ^ 14
/-- MODE of a target. -/
def tgtMode (t : Nat) : Nat := t % 4
/-- LEVEL of a target. -/
def tgtLvl (t : Nat) : Nat := t / 4 % 4096

/-- A pier's projected target. A pier that no route has given one has the target of the start pass (R376): block for an
attenuator, state 0 otherwise. -/
def projected (s : State) (g : Nat) : Nat :=
  cellGet (fun k => match s.ks.map with
    | some m => if isAttenuator m k then tgtBlock else tgtState 0
    | none => tgtState 0) s.ks.targets g

/-- The members of a group among circuits, in ascending order of OUT. -/
def membersOf (cs : List Circuit) (g : Nat) : List Circuit :=
  ((cs.filter (fun c => decide (c.group = some g))).mergeSort (fun a b => decide (a.out ≤ b.out)))

/-- The weight of a member: W_k for the k-th member in ascending order of OUT (R56). -/
def weightOf (cs : List Circuit) (g : Group) (out : Nat) : Nat :=
  grWeight g.weights ((membersOf cs g.num).findIdx (fun c => decide (c.out = out)))

/-- Circuits at slot `x` before stage `k`. -/
def onSlot (cs : List Circuit) (k x : Nat) : List Circuit := cs.filter (fun c => decide (c.path.getD k noPier = x))

/-- The circuits that pass a cell of stage `k`. -/
def inCell (cs : List Circuit) (k : Nat) (c : Cell) : List Circuit := onSlot cs k c.up ++ onSlot cs k c.lo

/-- Whether a split lies in a cell: circuits on one slot leave on both sides. -/
def splitsAt (cs : List Circuit) (k : Nat) (c : Cell) : Bool :=
  let leaves := fun (x y : Nat) => (onSlot cs k x).any (fun d => decide (d.path.getD (k + 1) noPier = y))
  (leaves c.up c.up && leaves c.up c.lo) || (leaves c.lo c.up && leaves c.lo c.lo)

/-- The LEVEL of a split: 4,096 times the fraction to the upper output, rounded, from the upper input; 4,096 minus that from
the lower (R196). -/
def splitLevel (cs : List Circuit) (gs : List Group) (k : Nat) (c : Cell) : Nat :=
  let thr := inCell cs k c
  let weight := fun (d : Circuit) => match gs.find? (fun g => decide (d.group = some g.num)) with
    | some g => weightOf cs g d.out
    | none => 0
  let a := ((thr.filter (fun d => decide (d.path.getD (k + 1) noPier = c.up))).map weight).sum
  let total := (thr.map weight).sum
  let f := (8192 * a + total) / (2 * total)
  if (onSlot cs k c.up).isEmpty then 4096 - f else f

/-- The targets of one cell of stage `k` (R182, R184, R196): nothing for a dark cell. -/
def cellTargets (cs : List Circuit) (gs : List Group) (k : Nat) (c : Cell) : List (Nat × Nat) :=
  let thr := inCell cs k c
  if c.kind = 0 ∨ thr = [] then []
  else if splitsAt cs k c then
    let i := if (onSlot cs k c.up).isEmpty then 1 else 0
    let lvl := tgtLevel (splitLevel cs gs k c)
    if c.kind = 2 then [(if i = 0 then c.ia else c.ib, lvl), (c.ou, tgtState i), (c.ol, tgtState (1 - i))] else [(c.ia, lvl)]
  else
    let used := thr.flatMap (fun d => stepElements [c] (d.path.getD k noPier) (d.path.getD (k + 1) noPier))
    let guard := match thr with
      | [d] =>
        if c.kind = 2 ∧ d.group = none then
          let i := sideIn c (d.path.getD k noPier)
          let o := sideIn c (d.path.getD (k + 1) noPier)
          [(if o = 0 then c.ol else c.ou, (i + o) % 2)]
        else []
      | _ => []
    (used ++ guard).eraseDups

/-- The targets of every lit cell, stage by stage. -/
def elementTargets (cs : List Circuit) (gs : List Group) : Nat → List (List Cell) → List (Nat × Nat)
  | _, [] => []
  | k, st :: rest => st.flatMap (cellTargets cs gs k) ++ elementTargets cs gs (k + 1) rest

/-- The targets of the attenuators (R184); `level` gives the LEVEL of a connected output. -/
def attTargets (m : EMap) (cs : List Circuit) (level : Nat → Nat) : List (Nat × Nat) :=
  ((List.range m.n).flatMap (fun p =>
    [(attIn m p, if cs.any (fun c => decide (c.inp = p)) then tgtLevel 4095 else tgtBlock),
     (attOut m p, if cs.any (fun c => decide (c.out = p)) then tgtLevel (level p) else tgtBlock)])).filter
    (fun e => decide (e.1 ≠ noPier))

/-- Every target other than HOLD of a routed pattern; a failed pier's target is HOLD (R202). -/
def routeTargets (s : State) (m : EMap) (cs : List Circuit) (gs : List Group) (level : Nat → Nat) : List (Nat × Nat) :=
  (elementTargets cs gs 0 m.cells ++ attTargets m cs level).filter (fun e => ! isFailed s e.1)

/-! ### When a routed pattern is lawful -/

/-- Whether a path leads from the circuit's input to its output through the stages. -/
def pathOk (m : EMap) (c : Circuit) : Bool :=
  let rec steps : List (List Cell) → List Nat → Bool
    | [], [x] => decide (x = c.out)
    | st :: rest, x :: y :: t => decide (y ∈ slotsAfter st x) && steps rest (y :: t)
    | _, _ => false
  decide (c.path.head? = some c.inp) && steps m.cells c.path

/-- Two circuits may stand together: those of different inputs share no slot; members of one group part once and do not
meet again. -/
def compatible (a b : Circuit) : Bool :=
  if a.inp = b.inp then
    a.group.isSome && decide (a.group = b.group)
      && (List.range a.path.length).all (fun k =>
        decide (a.path.getD (k + 1) noPier ≠ b.path.getD (k + 1) noPier ∨ a.path.getD k noPier = b.path.getD k noPier
          ∨ a.path.length ≤ k + 1))
  else (List.range a.path.length).all (fun k => decide (a.path.getD k noPier ≠ b.path.getD k noPier))

/-- The branches of every split are the first ⌈m/2⌉ of its members in ascending order of OUT and the rest (R195). -/
def balanced (m : EMap) (cs : List Circuit) : Bool :=
  (List.range m.cells.length).all (fun k => (m.cells.getD k []).all (fun c =>
    if splitsAt cs k c then
      let mem := (inCell cs k c).mergeSort (fun a b => decide (a.out ≤ b.out))
      let first := mem.take ((mem.length + 1) / 2)
      let rest := mem.drop ((mem.length + 1) / 2)
      let goes := fun (l : List Circuit) (y : Nat) => l.all (fun d => decide (d.path.getD (k + 1) noPier = y))
      (goes first c.up && goes rest c.lo) || (goes first c.lo && goes rest c.up)
    else true))

/-- A circuit avoids the failed piers (R202). -/
def avoidsFailed (s : State) (m : EMap) (c : Circuit) : Bool := (circuitPiers m c).all (fun g => ! isFailed s g)

/-- `new` circuits may be placed beside `old` ones. -/
def lawful (s : State) (m : EMap) (old new : List Circuit) : Bool :=
  new.all (fun c => pathOk m c && avoidsFailed s m c && old.all (fun d => compatible c d)
      && new.all (fun d => decide (d.out = c.out) || compatible c d))
    && balanced m new

/-! ### Searching (R188, R189, R203) -/

/-- A circuit asked for: output, input and group. -/
abbrev Conn := Nat × Nat × Option Nat

/-- A path may join those placed so far. -/
def fits (s : State) (m : EMap) (old acc : List Circuit) (c : Circuit) : Bool :=
  pathOk m c && avoidsFailed s m c && old.all (compatible c) && acc.all (compatible c)

/-- The first lawful placement of the circuits asked for beside `old` ones: each in turn takes, stage by stage, the upper side wherever a
placement of all of them continues from there. -/
def searchAll (s : State) (m : EMap) (old : List Circuit) (ok : List Circuit → Bool) : List Conn → List Circuit → Option (List Circuit)
  | [], acc => if ok acc then some acc else none
  | (o, i, g) :: rest, acc => (allPaths m.cells i o).findSome? (fun p =>
      if fits s m old acc ⟨o, i, g, p⟩ then searchAll s m old ok rest (acc ++ [⟨o, i, g, p⟩]) else none)

/-- Circuits asked for in ascending order of OUT. -/
def byOut (want : List Conn) : List Conn := want.mergeSort (fun a b => decide (a.1 ≤ b.1))

/-- A circuit coded as numbers, for the free choices of Config. -/
def codeCircuit (c : Circuit) : List Nat := c.out :: c.inp :: (match c.group with | some g => g + 1 | none => 0) :: c.path

/-- A placement where the rules fix that one is found and not which (R203): a free choice among the lawful ones. -/
def pickRoute (s : State) (m : EMap) (ok : List Circuit → Bool) (want : List Conn) : Option (List Circuit) :=
  let key := (s.ks.circuits.flatMap codeCircuit) ++ failedPiers s ++ want.flatMap (fun w => [w.1, w.2.1, w.2.2.getD 64])
  let paths := Config.routeChoice key
  let cand := (want.zip paths).map (fun x => (⟨x.1.1, x.1.2.1, x.1.2.2, x.2⟩ : Circuit))
  if cand.length = want.length ∧ ok cand then some cand else searchAll s m [] ok (byOut want) []

/-- One path of an incremental route: the first in upper-first order that stands beside the circuits placed (R188). -/
def placeOne (s : State) (m : EMap) (placed : List Circuit) (o i : Nat) : Option Circuit :=
  ((allPaths m.cells i o).map (fun p => (⟨o, i, none, p⟩ : Circuit))).find? (fun c => lawful s m placed [c])

/-! ### The seeded route (R189) -/

/-- A circuit in the decomposition: its slots so far from the input side and from the output side, the inner ones in front. -/
structure LoopC where
  out : Nat
  inp : Nat
  prev : Option (List Nat)
  fwd : List Nat
  bwd : List Nat
  deriving DecidableEq, Repr

/-- The slots joined to those of `xs` by one stage's cells. -/
def joinStage (xs : List Nat) (stage : List Cell) : List Nat :=
  stage.foldl (fun xs c =>
    if c.kind = 0 then xs
    else if c.up ∈ xs ∧ c.lo ∉ xs then c.lo :: xs
    else if c.lo ∈ xs ∧ c.up ∉ xs then c.up :: xs
    else xs) xs

/-- The slots of the subnetwork of some stages that holds the slots `xs`. -/
def subnet (stages : List (List Cell)) : Nat → List Nat → List Nat
  | 0, xs => xs
  | n + 1, xs => subnet stages n (stages.foldl joinStage xs)

/-- The name of the subnetwork between stages `a` and `b` that slot `x` lies in: its lowest slot. -/
def netOf (m : EMap) (a b x : Nat) : Nat :=
  ((subnet ((m.cells.take b).drop (a + 1)) m.stages [x]).min?).getD x

/-- The other slot of the cell at `x`. -/
def mate (stage : List Cell) (x : Nat) : Nat :=
  match cellAt stage x with
  | some c => if c.up = x then c.lo else c.up
  | none => x

/-- Whether two slots pass one cell. -/
def sameCell (stage : List Cell) (x y : Nat) : Bool := decide (x = y) || (decide (mate stage x = y) && decide (x ≠ y))

/-- The slot chosen for an output so far. -/
def chosen (asg : List (Nat × Nat)) (o : Nat) : Option Nat := (asg.find? (fun e => decide (e.1 = o))).map (fun e => e.2)

/-- The slot after stage `a` that circuits already given one force on `c`: the other slot of a shared input cell, or the
other subnetwork where the output cell is shared. -/
def forced (m : EMap) (a b : Nat) (cs : List LoopC) (asg : List (Nat × Nat)) (c : LoopC) : Option Nat :=
  let sa := m.cells.getD a []
  let sb := m.cells.getD b []
  let here := c.fwd.headD 0
  let there := c.bwd.headD 0
  match cs.findSome? (fun d =>
      if d.out ≠ c.out ∧ sameCell sa (d.fwd.headD 0) here then (chosen asg d.out).map (mate sa) else none) with
  | some x => some x
  | none => cs.findSome? (fun d =>
      if d.out ≠ c.out ∧ sameCell sb (d.bwd.headD 0) there then
        (chosen asg d.out).map (fun x => if netOf m a b here = netOf m a b x then mate sa here else here)
      else none)

/-- Circuits that those already given a slot force, one after another. -/
def spread (m : EMap) (a b : Nat) (cs : List LoopC) : Nat → List (Nat × Nat) → List (Nat × Nat)
  | 0, asg => asg
  | n + 1, asg =>
    match cs.findSome? (fun c => if (chosen asg c.out).isSome then none else (forced m a b cs asg c).map (fun x => (c.out, x))) with
    | some e => spread m a b cs n (e :: asg)
    | none => asg

/-- The loop of a starting circuit gets its sides (R189): those of the starting circuit's present path, if it persists here;
else those the persisting circuits agree on; the upper side with none; a free choice where they differ. -/
def placeLoop (m : EMap) (a b : Nat) (cs : List LoopC) (asg : List (Nat × Nat)) (c : LoopC) : List (Nat × Nat) :=
  if (chosen asg c.out).isSome then asg
  else
    let sa := m.cells.getD a []
    let here := c.fwd.headD 0
    let up := match cellAt sa here with | some x => x.up | none => here
    let high := spread m a b cs cs.length ((c.out, up) :: asg)
    let low := spread m a b cs cs.length ((c.out, mate sa up) :: asg)
    let vote := fun (d : LoopC) => match d.prev with
      | some p => if (chosen asg d.out).isNone ∧ p.getD a noPier = d.fwd.headD 0 then
          (chosen high d.out).map (fun x => decide (x = p.getD (a + 1) noPier)) else none
      | none => none
    let votes := cs.filterMap vote
    let upper := match vote c with
      | some v => v
      | none => if votes = [] ∨ votes.all id then true else if votes.any id then Config.loopUpper a c.out else false
    if upper then high else low

/-- One level of the decomposition: stages `a` and `b`. Loops start from the lowest-numbered output not yet placed. -/
def loopLevel (m : EMap) (a b : Nat) (cs : List LoopC) : List LoopC :=
  let asg := cs.foldl (placeLoop m a b cs) []
  let sb := m.cells.getD b []
  cs.map (fun c =>
    let x := (chosen asg c.out).getD (c.fwd.headD 0)
    let there := c.bwd.headD 0
    let y := if netOf m a b there = netOf m a b x then there else mate sb there
    { c with fwd := x :: c.fwd, bwd := y :: c.bwd })

/-- The levels from stage `a` inward to the middle stage of the core. -/
def loopLevels (m : EMap) : Nat → Nat → List LoopC → List LoopC
  | 0, _, cs => cs
  | n + 1, a, cs => loopLevels m n (a + 1) (loopLevel m a (m.stages - 1 - m.extOut - (a - m.extIn)) cs)

/-- The stages of the core (R177). -/
def coreStages (m : EMap) : Nat := m.stages - (m.extIn + m.extOut)

/-- The seeded route of the unicast circuits of a pattern: recursive decomposition of the core (R189); an extension stage is passed straight
(DEDUCED, log entry 38). -/
def loopRoute (s : State) (m : EMap) (want : List Conn) : List Circuit :=
  let start := (byOut want).map (fun w => (⟨w.1, w.2.1,
    (s.ks.circuits.find? (fun c => decide (c.out = w.1 ∧ c.inp = w.2.1 ∧ c.group = none))).map (fun c => c.path),
    List.replicate (m.extIn + 1) w.2.1, List.replicate (m.extOut + 1) w.1⟩ : LoopC))
  (loopLevels m ((coreStages m - 1) / 2) m.extIn start).map (fun c => ⟨c.out, c.inp, none, c.fwd.reverse ++ c.bwd⟩)

/-- The trees of the groups of a pattern, in ascending order of the group's number, beside the circuits placed: members in ascending order of OUT,
each taking the upper side wherever the tree continues from there (R195; DEDUCED, log entry 38). -/
def placeTrees (s : State) (m : EMap) (want : List Conn) (placed : List Circuit) : Option (List Circuit) :=
  (List.range 64).foldl (fun acc n =>
    acc.bind (fun p =>
      let mem := byOut (want.filter (fun w => decide (w.2.2 = some n)))
      if mem = [] then some p else (searchAll s m p (fun cs => lawful s m p cs) mem []).map (fun t => p ++ t))) (some placed)

/-- The seeded route of a pattern: none where no lawful route exists. The loops of R189 place the unicast circuits, and the groups' trees stand
beside them; where that is not lawful (a failed pier, a tree in the way of a loop) R203 fixes only that a route is found. `quiet` is what a route must
also satisfy where R186 forbids disturbance and R203 leaves a choice. -/
def seededRoute (s : State) (m : EMap) (want : List Conn) (quiet : List Circuit → Bool) : Option (List Circuit) :=
  let ok := lawful s m []
  match (placeTrees s m want (loopRoute s m (want.filter (fun w => w.2.2.isNone)))).filter ok with
  | some r => some r
  | none => match pickRoute s m (fun cs => ok cs && quiet cs) want with
    | some cs => some cs
    | none => pickRoute s m ok want

/-! ### What a request asks for (R57 to R59, R199) -/

/-- The entries and group records of a request. -/
structure Ops where
  entries : List Word
  groups : List (Word × Word)
  deriving DecidableEq, Repr

/-- A request's words read as entries and records. -/
def opsOf (ws : List Word) : Ops := ⟨(entriesOf (itemsOf 24 ws)).map (fun e => e.2), groupsOf (itemsOf 24 ws)⟩

/-- The circuit a CONNECT entry asks for. -/
def connOf (w : Word) : Conn := (enOut w, enIn w, if enMC w then some (enGroup w) else none)

/-- A circuit as what was asked. -/
def asConn (c : Circuit) : Conn := (c.out, c.inp, c.group)

/-- A record as a group. -/
def recGroup (r : Word × Word) : Group := ⟨grGroup r.1, grIn r.1, grM r.1, r.2⟩

/-- The pattern and groups after the request. -/
def resulting (s : State) (typ : Nat) (x : Ops) : List Conn × List Group :=
  let recs := x.groups.map recGroup
  if typ = 3 then
    (s.ks.circuits.map asConn, s.ks.groups.map (fun g => (recs.find? (fun r => decide (r.num = g.num))).getD g))
  else if typ = 1 then ((x.entries.filter (fun w => decide (enOp w = 0))).map connOf, recs)
  else
    let conns := x.entries.foldl (fun l w =>
      let rest := l.filter (fun c => decide (c.1 ≠ enOut w))
      if enOp w = 0 then rest ++ [connOf w] else rest) (s.ks.circuits.map asConn)
    let kept := s.ks.groups.filter (fun g => ! recs.any (fun r => decide (r.num = g.num))
      && conns.any (fun c => decide (c.2.2 = some g.num)))
    let gs := kept ++ recs
    (conns.map (fun c => match c.2.2 with
      | some n => (c.1, (match gs.find? (fun g => decide (g.num = n)) with | some g => g.inp | none => c.2.1), some n)
      | none => c), gs)

/-- A CONNECT that changes its output: another input, or another membership (R205). -/
def changes (s : State) (w : Word) : Bool :=
  decide (enOp w = 0) && ! s.ks.circuits.any (fun c => decide (asConn c = connOf w))

/-- k of R186: unicast CONNECTs that change their output, plus M for each record of a DELTA. -/
def newPaths (s : State) (x : Ops) : Nat :=
  (x.entries.filter (fun w => ! enMC w && changes s w)).length + (x.groups.map (fun r => grM r.1)).sum

/-! ### Conflicts (R205) -/

/-- The request as a whole, or no entry (R69, R205). -/
def wholeIndex : Nat := 0xFFFF

/-- The index of the lowest-numbered entry that satisfies a test. -/
def entryIndex (x : Ops) (p : Word → Bool) : Nat := (x.entries.findIdx? p).getD wholeIndex

/-- The groups a request leaves live whose membership changes without a record, or whose members are not M. -/
def brokenGroups (s : State) (x : Ops) (conns : List Conn) (gs : List Group) : List Nat :=
  let mem := fun (l : List Conn) (n : Nat) => (l.filter (fun c => decide (c.2.2 = some n))).map (fun c => c.1)
  let named := x.groups.map (fun r => grGroup r.1)
  let old := s.ks.circuits.map asConn
  ((conns.filterMap (fun c => c.2.2)).eraseDups.filter (fun n => decide (n ∉ named)
      && ! ((mem conns n).all (fun o => decide (o ∈ mem old n)) && (mem old n).all (fun o => decide (o ∈ mem conns n)))))
    ++ ((gs.filter (fun g => decide (g.num ∈ named ∧ (mem conns g.num).length ≠ g.m))).map (fun g => g.num))

/-- What an earlier request of the window set an output to. -/
def namedAs (s : State) (o : Nat) : Option (Option (Nat × Option Nat)) :=
  (s.ks.named.find? (fun e => decide (e.1 = o))).map (fun e => e.2)

/-- What a pattern sets an output to. -/
def setAs (conns : List Conn) (o : Nat) : Option (Nat × Option Nat) :=
  (conns.find? (fun c => decide (c.1 = o))).map (fun c => c.2)

/-- The checks of R205 from top to bottom: code and INDEX of the first that fails. -/
def conflict (s : State) (typ : Nat) (x : Ops) (conns : List Conn) (gs : List Group) : Option (Nat × Nat) :=
  if typ = 3 then
    let bad := x.groups.any (fun r => ! s.ks.groups.any (fun g =>
      decide (g.num = grGroup r.1 ∧ g.inp = grIn r.1 ∧ g.m = grM r.1)))
    if bad then some (0x43, wholeIndex) else none
  else
    let clash := fun (w : Word) => decide (enOp w = 0) && ! enMC w &&
      (conns.any (fun c => decide (c.2.1 = enIn w ∧ c.1 ≠ enOut w ∧ c.2.2 = none)) || gs.any (fun g => decide (g.inp = enIn w)))
    let bad2 := x.groups.any (fun r => conns.any (fun c => decide (c.2.1 = grIn r.1 ∧ c.2.2 = none))
      || gs.any (fun g => decide (g.inp = grIn r.1 ∧ g.num ≠ grGroup r.1)))
    let broken := brokenGroups s x conns gs
    let touches := fun (w : Word) => (enMC w && decide (enGroup w ∈ broken))
      || s.ks.circuits.any (fun c => decide (c.out = enOut w) && (match c.group with | some n => decide (n ∈ broken) | none => false))
    let differs := fun (o : Nat) => match namedAs s o with
      | some v => decide (v ≠ setAs conns o)
      | none => false
    -- an output this request sets otherwise than the projected state has it, be it by a group record alone
    let moves := fun (o : Nat) => decide (setAs conns o ≠ setAs (s.ks.circuits.map asConn) o)
    if x.entries.any clash then some (0x42, entryIndex x clash)
    else if bad2 then some (0x42, wholeIndex)
    else if broken ≠ [] then some (0x42, entryIndex x touches)
    else if typ = 1 ∧ s.ks.named.any (fun e => differs e.1) then some (0x42, entryIndex x (fun w => differs (enOut w)))
    else if s.ks.named.any (fun e => differs e.1 && (x.entries.any (fun w => decide (enOut w = e.1)) || moves e.1)) then
      some (0x42, entryIndex x (fun w => differs (enOut w)))
    else if 64 < gs.length then some (0x43, wholeIndex)
    else none

/-! ### Disturbance (R191) -/

/-- The circuits live for a request (R185): in the projected state before its window, still there, and kept by the request: a unicast circuit as it
is, a member of a group as long as its output stays in the group, also where a record changes the group's IN (R191). -/
def liveFor (s : State) (conns : List Conn) : List Circuit :=
  s.ks.circuits.filter (fun c => s.ks.base.any (fun b => decide (asConn b = asConn c))
    && conns.any (fun d => decide (d.1 = c.out ∧ d.2.2 = c.group ∧ (d.2.1 = c.inp ∨ c.group ≠ none))))

/-- The target a pier has after a result. -/
def targetAfter (s : State) (ts : List (Nat × Nat)) (g : Nat) : Nat :=
  match ts.find? (fun e => decide (e.1 = g)) with
  | some e => e.2
  | none => projected s g

/-- Whether a result changes a target on a circuit's path. -/
def pathTouched (s : State) (m : EMap) (ts : List (Nat × Nat)) (c : Circuit) : Bool :=
  (circuitPiers m c).any (fun g => decide (targetAfter s ts g ≠ projected s g))

/-- Whether it changes one in any way other than the split ratio of an element (R191). -/
def pathMoved (s : State) (m : EMap) (ts : List (Nat × Nat)) (c : Circuit) : Bool :=
  (circuitPiers m c).any (fun g => decide (targetAfter s ts g ≠ projected s g)
    && (isAttenuator m g || ! decide (tgtMode (targetAfter s ts g) = 2 ∨ tgtMode (projected s g) = 2)))

/-- Whether a live circuit is disturbed: a target on its path changes; for a member of a group named by a record, its path. -/
def disturbed (s : State) (m : EMap) (x : Ops) (new : List Circuit) (ts : List (Nat × Nat)) (c : Circuit) : Bool :=
  let moved := ! new.any (fun d => decide (d = c))
  match c.group with
  | some n => if x.groups.any (fun r => decide (grGroup r.1 = n)) then moved else moved || pathTouched s m ts c
  | none => moved || pathTouched s m ts c

/-! ### Routing a request -/

/-- The outcome of a route: the circuits, groups and targets it stages with the disturbed circuits; or a cancellation. -/
inductive RouteResult where
  | staged (circuits : List Circuit) (groups : List Group) (targets : List (Nat × Nat)) (list : List (Nat × Nat))
  | cancel (code index detail : Nat)
  deriving DecidableEq, Repr

/-- The cells through which a path from `i` to `o` could run, with their piers. -/
def possiblePiers (m : EMap) (i o : Nat) : List Nat :=
  (allPaths m.cells i o).flatMap (fun p => (List.range m.cells.length).flatMap (fun k =>
    match cellAt (m.cells.getD k []) (p.getD k noPier) with
    | some c => if c.kind = 2 then [c.ia, c.ib, c.ou, c.ol] else if c.kind = 1 then [c.ia] else []
    | none => []))

/-- DETAIL of UNROUTABLE (R202, R203): a failed attenuator of the port, else the lowest failed pier of the cells the path
could have used, else the lowest pier marked failed. -/
def blockedBy (s : State) (m : EMap) (i o : Nat) : Nat :=
  if attIn m i ≠ noPier ∧ isFailed s (attIn m i) then attIn m i
  else if attOut m o ≠ noPier ∧ isFailed s (attOut m o) then attOut m o
  else match ((possiblePiers m i o).filter (isFailed s)).min? with
    | some g => g
    | none => (failedPiers s).min?.getD 0

/-- LEVEL of a connected output: as read when it was connected; a circuit that stays keeps it (R184, R208). -/
def outLevel (s : State) (m : EMap) (new : List Circuit) (o : Nat) : Nat :=
  let stays := s.ks.circuits.any (fun c => decide (c.out = o) && new.any (fun d => decide (asConn d = asConn c)))
  if stays ∧ tgtMode (projected s (attOut m o)) = 2 then tgtLvl (projected s (attOut m o)) else getF s (KS_ATT_LVL_LEVEL o)

/-- A routed pattern becomes a result with its disturbance list, in ascending order of OUT (R193). -/
def finishRoute (s : State) (m : EMap) (x : Ops) (conns : List Conn) (cs : List Circuit) (gs : List Group) : RouteResult :=
  let ts := routeTargets s m cs gs (outLevel s m cs)
  let dl := ((liveFor s conns).filter (disturbed s m x cs ts)).mergeSort (fun a b => decide (a.out ≤ b.out))
  .staged cs gs ts (dl.map (fun c => (c.out, c.inp)))

/-- An incremental route in progress. -/
inductive Placing where
  | going (placed : List Circuit)
  | stop (code index detail : Nat)
  deriving DecidableEq, Repr

/-- R188, R203: a path that cannot be placed is UNROUTABLE where the failed piers alone leave none, else WOULD_DISTURB. -/
def placeFails (s : State) (m : EMap) (alone : Bool) (index i o : Nat) : Placing :=
  if alone then .stop 0x40 index 0 else .stop 0x41 index (blockedBy s m i o)

/-- One unicast CONNECT of an incremental route. -/
def placeEntry (s : State) (m : EMap) (x : Ops) (p : Placing) (w : Word) : Placing :=
  match p with
  | .stop c i d => .stop c i d
  | .going placed =>
    match placeOne s m placed (enOut w) (enIn w) with
    | some c => .going (placed ++ [c])
    | none => placeFails s m (placeOne s m [] (enOut w) (enIn w)).isSome (entryIndex x (fun v => decide (v = w))) (enIn w) (enOut w)

/-- One group record of an incremental route (R188): the positions the group held are usable, and its tree takes the upper side wherever it can go
on from there, among the trees that disturb no member that stays, as the lane demands (R186, R203). Which entry of the group a failure names is free. -/
def placeGroup (s : State) (m : EMap) (x : Ops) (conns : List Conn) (k : Nat) (p : Placing) (r : Word × Word) : Placing :=
  match p with
  | .stop c i d => .stop c i d
  | .going placed =>
    let want := byOut (conns.filter (fun c => decide (c.2.2 = some (grGroup r.1))))
    let stay := (liveFor s conns).filter (fun c => decide (c.group = some (grGroup r.1)))
    let quiet := fun (cs : List Circuit) => stay.all (fun c => cs.any (fun d => decide (d = c)))
    match searchAll s m placed (fun cs => lawful s m placed cs && quiet cs) want [] with
    | some cs => .going (placed ++ cs)
    | none =>
      let es := x.entries.filter (fun w => enMC w && decide (enGroup w = grGroup r.1))
      match es[k % es.length]? with
      | some w => placeFails s m (searchAll s m [] (lawful s m []) want []).isSome (entryIndex x (fun v => decide (v = w))) (enIn w) (enOut w)
      | none => placeFails s m (searchAll s m [] (lawful s m []) want []).isSome wholeIndex (grIn r.1)
          ((want.map (fun c => c.1)).min?.getD 0)

/-- The incremental method (R188). -/
def routeIncremental (s : State) (m : EMap) (x : Ops) (conns : List Conn) (gs : List Group) (k : Nat) : RouteResult :=
  let kept := s.ks.circuits.filter (fun c => decide (asConn c ∈ conns)
    && (match c.group with | some n => ! x.groups.any (fun r => decide (grGroup r.1 = n)) | none => true))
  let p1 := (x.entries.filter (fun w => changes s w && ! enMC w)).foldl (placeEntry s m x) (.going kept)
  match x.groups.foldl (placeGroup s m x conns k) p1 with
  | .going cs => finishRoute s m x conns cs gs
  | .stop c i d => .cancel c i d

/-- The outputs of a pattern in ascending order; the lowest that has no route together with those below it (R203). -/
def blockedOutput (s : State) (m : EMap) (conns : List Conn) : Option Conn :=
  let sorted := byOut conns
  ((List.range sorted.length).find? (fun n => (searchAll s m [] (lawful s m []) (sorted.take (n + 1)) []).isNone)).bind
    (fun n => sorted[n]?)

/-- UNROUTABLE on a path of the pattern: INDEX names the entry that names its output, if one does (R203). -/
def unroutableAt (s : State) (m : EMap) (x : Ops) (w : Option Conn) : RouteResult :=
  match w with
  | some c => .cancel 0x41 (entryIndex x (fun v => decide (enOut v = c.1))) (blockedBy s m c.2.1 c.1)
  | none => .cancel 0x41 wholeIndex ((failedPiers s).min?.getD 0)

/-- UNROUTABLE of a seeded route. -/
def seededFails (s : State) (m : EMap) (x : Ops) (conns : List Conn) : RouteResult :=
  unroutableAt s m x (blockedOutput s m conns)

/-- The seeded method (R189); on a lane that refuses disturbance a route that disturbs is cancelled (R186). -/
def routeSeeded (s : State) (m : EMap) (x : Ops) (conns : List Conn) (gs : List Group) (refuses : Bool) : RouteResult :=
  let quiet := fun (cs : List Circuit) => ! refuses || (match finishRoute s m x conns cs gs with
    | .staged _ _ _ dl => decide (dl = [])
    | .cancel _ _ _ => false)
  match seededRoute s m conns quiet with
  | none => seededFails s m x conns
  | some cs => if quiet cs then finishRoute s m x conns cs gs else .cancel 0x40 wholeIndex 0

/-- A ratio update (R200): only the LEVELs of the named groups' fractional elements. -/
def routeRatio (s : State) (m : EMap) (x : Ops) (gs : List Group) : RouteResult :=
  let named := x.groups.map (fun r => grGroup r.1)
  let cs := s.ks.circuits.filter (fun c => match c.group with | some n => decide (n ∈ named) | none => false)
  let ts := (elementTargets cs gs 0 m.cells).filter (fun e => decide (tgtMode e.2 = 2) && ! isFailed s e.1)
  .staged s.ks.circuits gs ts []

/-- The methods of R186. -/
inductive Method where
  | seeded | incremental | ratio
  deriving DecidableEq, Repr

/-- R186: the method of a request. -/
def methodOf (s : State) (m : EMap) (typ : Nat) (admits : Bool) (x : Ops) : Method :=
  if typ = 3 then .ratio
  else if typ = 1 ∨ admits ∨ m.incMax < newPaths s x then .seeded
  else .incremental

/-- R187: the longest a route takes, in nanoseconds; with more than 32 piers marked a search may go on to RB (R203). -/
def routeBound (s : State) (m : EMap) (x : Ops) : Method → Nat
  | .seeded => m.rb
  | .incremental =>
    if newPaths s x = 0 then 30 else if 32 < (failedPiers s).length then max m.rb (90 * newPaths s x) else 90 * newPaths s x
  | .ratio => 60

/-- R202: a changed CONNECT from or to a port whose attenuator is failed. -/
def deadPort (s : State) (m : EMap) (typ : Nat) (x : Ops) : Option RouteResult :=
  let bad := fun (w : Word) => decide (enOp w = 0) && (decide (typ = 1) || changes s w)
    && ((decide (attIn m (enIn w) ≠ noPier) && isFailed s (attIn m (enIn w)))
      || (decide (attOut m (enOut w) ≠ noPier) && isFailed s (attOut m (enOut w))))
  (x.entries.find? bad).map (fun w => .cancel 0x41 (entryIndex x (fun v => decide (v = w))) (blockedBy s m (enIn w) (enOut w)))

/-- With more than 32 piers marked the search stops at RB and may miss a route (R203): whether it does, and on which of the paths it places, is
free. A seeded route places every output of the pattern, an incremental one those of the new paths. -/
def givesUp (s : State) (m : EMap) (x : Ops) (paths : List Conn) (k : Nat) : Option RouteResult :=
  if 32 < (failedPiers s).length ∧ k % 2 = 1 then some (unroutableAt s m x paths[(k / 2) % paths.length]?) else none

/-- The new paths of an incremental route. -/
def pathsAsked (s : State) (x : Ops) (conns : List Conn) : List Conn :=
  conns.filter (fun c => x.entries.any (fun w => changes s w && ! enMC w && decide (enOut w = c.1))
    || (match c.2.2 with | some n => x.groups.any (fun r => decide (grGroup r.1 = n)) | none => false))

/-- Keystone routes a request against the projected state (R185 to R205). `k` is a free value. -/
def routeRequest (s : State) (m : EMap) (q : Request) (admits : Bool) (k : Nat) : RouteResult :=
  let x := opsOf q.words
  let (conns, gs) := resulting s q.typ x
  match conflict s q.typ x conns gs with
  | some (c, i) => .cancel c i 0
  | none =>
    match methodOf s m q.typ admits x with
    | .ratio => routeRatio s m x gs
    | .incremental =>
      match deadPort s m q.typ x, givesUp s m x (pathsAsked s x conns) k with
      | some r, _ => r
      | none, some r => r
      | none, none => routeIncremental s m x conns gs k
    | .seeded =>
      match deadPort s m q.typ x, givesUp s m x conns k with
      | some r, _ => r
      | none, some r => r
      | none, none => routeSeeded s m x conns gs (decide (q.typ = 2) && ! admits)

/-! ### The route check (R206) -/

/-- Light on a slot: the input it comes from and its fraction of that input's power. -/
structure Light where
  slot : Nat
  inp : Nat
  part : Rat
  deriving DecidableEq, Repr

/-- The share of the light that an element in a target sends along its state-0 path. -/
def share0 (t : Nat) : Rat := if tgtMode t = 0 then 1 else if tgtMode t = 2 then (tgtLvl t : Rat) / 4096 else 0

/-- Light through one cell under targets `f` (R182). -/
def cellLight (f : Nat → Nat) (c : Cell) (l : Light) : List Light :=
  let upper := fun (p : Rat) => (⟨c.up, l.inp, p⟩ : Light)
  let lower := fun (p : Rat) => (⟨c.lo, l.inp, p⟩ : Light)
  let i := sideIn c l.slot
  let outs :=
    if c.kind = 1 then
      let a := share0 (f c.ia)
      if i = 0 then [upper (l.part * a), lower (l.part * (1 - a))] else [lower (l.part * a), upper (l.part * (1 - a))]
    else if c.kind = 2 then
      if i = 0 then
        let a := share0 (f c.ia)
        (if tgtMode (f c.ou) = 0 then [upper (l.part * a)] else []) ++ (if tgtMode (f c.ol) = 1 then [lower (l.part * (1 - a))] else [])
      else
        let b := share0 (f c.ib)
        (if tgtMode (f c.ol) = 0 then [lower (l.part * b)] else []) ++ (if tgtMode (f c.ou) = 1 then [upper (l.part * (1 - b))] else [])
    else [l]
  outs.filter (fun x => decide (x.part ≠ 0))

/-- Light through the stages. -/
def traceLight (f : Nat → Nat) : List (List Cell) → List Light → List Light
  | [], ls => ls
  | st :: rest, ls => traceLight f rest (ls.flatMap (fun l => match cellAt st l.slot with
    | some c => cellLight f c l
    | none => [l]))

/-- The light that reaches each output from every lit input, past the attenuators. -/
def reaches (m : EMap) (f : Nat → Nat) (inputs : List Nat) : List Light :=
  let start := (inputs.filter (fun p => decide (attIn m p = noPier ∨ tgtMode (f (attIn m p)) ≠ 3))).map (fun p => (⟨p, p, 1⟩ : Light))
  (traceLight f m.cells start).filter (fun l => decide (l.slot < m.n ∧ (attOut m l.slot = noPier ∨ tgtMode (f (attOut m l.slot)) ≠ 3)))

/-- The share of the group's power a circuit should have: 1 for a unicast circuit. -/
def dueShare (cs : List Circuit) (gs : List Group) (c : Circuit) : Rat :=
  match c.group with
  | none => 1
  | some n =>
    match gs.find? (fun g => decide (g.num = n)) with
    | none => 1
    | some g => (weightOf cs g c.out : Rat) / (((membersOf cs n).map (fun d => weightOf cs g d.out)).sum : Nat)

/-- R206: what a checker tests of one half's targets, given the pattern it should realise, the groups the request names, the live circuits and the
disturbance list. On the path of a member of a group the request names, only a split ratio may change (R191). -/
def checkRoute (s : State) (m : EMap) (cs : List Circuit) (gs : List Group) (named : List Nat) (ts : List (Nat × Nat)) (live : List Circuit)
    (dl : List (Nat × Nat)) (refuses : Bool) : Bool :=
  let f := targetAfter s ts
  let ls := reaches m f ((cs.map (fun c => c.inp)).eraseDups)
  ls.all (fun l => cs.any (fun c => decide (c.out = l.slot ∧ c.inp = l.inp)))
    && cs.all (fun c => match ls.filter (fun l => decide (l.slot = c.out ∧ l.inp = c.inp)) with
      | [l] => decide (l.part - dueShare cs gs c ≤ 1 / 4096 ∧ dueShare cs gs c - l.part ≤ 1 / 4096)
      | _ => false)
    && ts.all (fun e => decide (e.2 = tgtHold) || ! isFailed s e.1)
    && (live.filter (fun c => decide ((c.out, c.inp) ∉ dl))).all (fun c =>
      if c.group.any (fun n => decide (n ∈ named)) then ! pathMoved s m ts c else ! pathTouched s m ts c)
    && (! refuses || decide (dl = []))

/-! ### The registers of Keystone -/

/-- Whether a projected circuit uses a failed pier (R204). -/
def onFailed (s : State) (c : Circuit) : Bool :=
  match s.ks.map with
  | some m => (circuitPiers m c).any (isFailed s)
  | none => false

/-- KS_GROUP and KS_STATUS follow the projected state. -/
def showKeystone (s : State) : State :=
  let s1 := (List.range 64).foldl (fun s n =>
    match s.ks.groups.find? (fun g => decide (g.num = n)) with
    | some g => setF (setF (setF (setF s (KS_GROUP_w0_IN n) g.inp) (KS_GROUP_w0_M n) g.m) (KS_GROUP_w0_LIVE n) 1)
        (KS_GROUP_w1_WEIGHTS n) g.weights.toNat
    | none => setF (setF (setF (setF s (KS_GROUP_w0_IN n) 0) (KS_GROUP_w0_M n) 0) (KS_GROUP_w0_LIVE n) 0) (KS_GROUP_w1_WEIGHTS n) 0) s
  let s2 := setF (setFlag s1 KS_STATUS_BUSY (! s.ks.queue.isEmpty)) KS_STATUS_GROUPS s.ks.groups.length
  setFlag s2 KS_STATUS_LIVE_ON_FAILED (s.ks.circuits.any (onFailed s))

/-- KS_STATUS.FAILED and FAIL_OVER follow the failed map (R203). -/
def showFailed (s : State) : State :=
  let n := (failedPiers s).length
  let many := decide (32 < n)
  let s1 := if many ∧ flag s KS_STATUS_FAIL_OVER = false then event s KS_INT_FAIL_OVER else s
  let s2 := setFlag (setF s1 KS_STATUS_FAILED (min n 0x7FFF)) KS_STATUS_FAIL_OVER many
  setFlag s2 KS_STATUS_LIVE_ON_FAILED (s.ks.circuits.any (onFailed s))

/-- A pier is marked failed (R201, R204). -/
def markFailed (s : State) (g : Nat) : State :=
  if isFailed s g then s
  else
    let a := aKS_FAILMAP (g / 32)
    let s1 := event (wr s a (withBits (rd s a) (g % 32) (g % 32) 1)) KS_INT_FAIL_MARK
    let hit := match s.ks.map with
      | some m => s.ks.circuits.any (fun c => decide (g ∈ circuitPiers m c))
      | none => false
    showFailed (if hit then event s1 KS_INT_LIVE_ON_FAILED else s1)

/-- A pier's mark is cleared (R201). -/
def clearFailed (s : State) (g : Nat) : State :=
  let a := aKS_FAILMAP (g / 32)
  if g < 18432 then showFailed (wr s a (withBits (rd s a) (g % 32) (g % 32) 0)) else s

/-- The projected state is cleared: every output dark, no group live (R377). -/
def clearKeystone (s : State) : State :=
  showKeystone { s with ks := { Keystone.init with map := s.ks.map } }

/-- KS_QRES: the circuit of the output KS_QSEL names. -/
def queryWord (s : State) : Word :=
  let o := getF s KS_QSEL_OUT
  match s.ks.circuits.find? (fun c => decide (c.out = o)) with
  | none => 0
  | some c =>
    BitVec.ofNat 32 (c.inp % 1024 + 2 ^ 10 + (match c.group with | some g => 2 ^ 11 + g % 64 * 2 ^ 12 | none => 0)
      + (if onFailed s c then 2 ^ 18 else 0))

end Sys2Proof.Machine
end

