-- ==== Sys2Proof/Machine/Angles.lean ====
section
/-!
DEFINITION. Machine/Angles.lean: the table A(L) of R212: 65 rows of 63 entries of 12 bits, entry 1 first and lowest in
its row.
-/
namespace Sys2Proof.Machine

/-- The rows of A(L). -/
def angleRows0 : List Nat :=
  [0xebcebeec1ec4ec6ec9ecceceed1ed4ed7edaedcedfee2ee5ee8eebeeeef1ef4ef7efbefef01f04f08f0bf0ff12f16f19f1df21f24f28f2cf30f34f38f3cf41f45f4af4ef53f58f5df62f67f6df73f79f7ff86f8df94f9cfa5faefb9fc6fd7,
   0xe34e36e38e3ae3ce3ee3fe41e43e45e47e49e4be4de4fe51e53e55e57e59e5be5de5fe61e63e65e67e69e6be6de6fe71e73e76e78e7ae7ce7ee80e83e85e87e89e8ce8ee90e92e95e97e99e9ce9eea0ea3ea5ea8eaaeadeafeb2eb4eb7eb9,
   0xdcbdcddcfdd0dd2dd3dd5dd6dd8dd9ddbddcddede0de1de3de4de6de7de9debdecdeedefdf1df3df4df6df8df9dfbdfddfee00e01e03e05e07e08e0ae0ce0de0fe11e12e14e16e18e19e1be1de1fe20e22e24e26e28e29e2be2de2fe31e32,
   0xd72d74d75d76d78d79d7ad7cd7dd7ed80d81d82d84d85d87d88d89d8bd8cd8dd8fd90d92d93d94d96d97d99d9ad9bd9dd9eda0da1da2da4da5da7da8daadabdacdaedafdb1db2db4db5db7db8dbadbbdbcdbedbfdc1dc2dc4dc5dc7dc8dca,
   0xd23d24d26d27d28d29d2ad2cd2dd2ed2fd31d32d33d34d35d37d38d39d3ad3cd3dd3ed3fd40d42d43d44d45d47d48d49d4ad4cd4dd4ed4fd51d52d53d55d56d57d58d5ad5bd5cd5ed5fd60d61d63d64d65d67d68d69d6ad6cd6dd6ed70d71,
   0xcdbcdccddcdece0ce1ce2ce3ce4ce5ce6ce7ce8ceacebceccedceecefcf0cf1cf3cf4cf5cf6cf7cf8cf9cfacfccfdcfecffd00d01d02d04d05d06d07d08d09d0bd0cd0dd0ed0fd10d12d13d14d15d16d17d19d1ad1bd1cd1dd1fd20d21d22,
   0xc98c99c9ac9bc9cc9dc9ec9fca0ca2ca3ca4ca5ca6ca7ca8ca9caacabcaccadcaecafcb0cb1cb2cb3cb4cb5cb6cb8cb9cbacbbcbccbdcbecbfcc0cc1cc2cc3cc4cc5cc6cc8cc9ccaccbcccccdcceccfcd0cd1cd2cd3cd5cd6cd7cd8cd9cda,
   0xc59c5ac5bc5cc5dc5ec5fc60c61c62c63c64c65c66c67c68c69c6ac6bc6cc6dc6ec6fc70c71c72c73c74c75c76c77c78c79c7ac7bc7cc7dc7ec7fc80c81c82c83c84c85c86c87c88c89c8ac8bc8cc8dc8ec8fc90c91c92c93c94c95c96c97,
   0xc1ec1fc20c21c22c23c23c24c25c26c27c28c29c2ac2bc2cc2dc2ec2fc30c30c31c32c33c34c35c36c37c38c39c3ac3bc3cc3dc3ec3fc40c41c41c42c43c44c45c46c47c48c49c4ac4bc4cc4dc4ec4fc50c51c52c53c54c55c56c57c57c58,
   0xbe5be6be7be8be9beabeabebbecbedbeebefbf0bf1bf2bf2bf3bf4bf5bf6bf7bf8bf9bfabfabfbbfcbfdbfebffc00c01c02c03c03c04c05c06c07c08c09c0ac0bc0cc0dc0dc0ec0fc10c11c12c13c14c15c16c17c17c18c19c1ac1bc1cc1d,
   0xbafbafbb0bb1bb2bb3bb4bb5bb5bb6bb7bb8bb9bbabbbbbbbbcbbdbbebbfbc0bc1bc1bc2bc3bc4bc5bc6bc7bc7bc8bc9bcabcbbccbcdbcebcebcfbd0bd1bd2bd3bd4bd4bd5bd6bd7bd8bd9bdabdbbdbbdcbddbdebdfbe0be1be2be2be3be4,
   0xb7ab7bb7cb7db7db7eb7fb80b81b81b82b83b84b85b86b86b87b88b89b8ab8bb8bb8cb8db8eb8fb90b90b91b92b93b94b95b95b96b97b98b99b9ab9ab9bb9cb9db9eb9fb9fba0ba1ba2ba3ba4ba4ba5ba6ba7ba8ba9baabaababbacbadbae,
   0xb47b48b49b4ab4ab4bb4cb4db4eb4eb4fb50b51b52b52b53b54b55b56b56b57b58b59b5ab5ab5bb5cb5db5eb5eb5fb60b61b62b62b63b64b65b66b66b67b68b69b6ab6bb6bb6cb6db6eb6fb6fb70b71b72b73b74b74b75b76b77b78b78b79]

/-- The rows of A(L). -/
def angleRows1 : List Nat :=
  [0xb16b16b17b18b19b1ab1ab1bb1cb1db1db1eb1fb20b21b21b22b23b24b24b25b26b27b28b28b29b2ab2bb2cb2cb2db2eb2fb2fb30b31b32b33b33b34b35b36b37b37b38b39b3ab3ab3bb3cb3db3eb3eb3fb40b41b42b42b43b44b45b46b46,
   0xae6ae6ae7ae8ae9ae9aeaaebaecaecaedaeeaefaefaf0af1af2af2af3af4af5af5af6af7af8af9af9afaafbafcafcafdafeaffaffb00b01b02b02b03b04b05b06b06b07b08b09b09b0ab0bb0cb0cb0db0eb0fb10b10b11b12b13b13b14b15,
   0xab6ab7ab8ab9ab9abaabbabcabcabdabeabfabfac0ac1ac2ac2ac3ac4ac5ac5ac6ac7ac8ac8ac9acaacbacbaccacdacdaceacfad0ad0ad1ad2ad3ad3ad4ad5ad6ad6ad7ad8ad9ad9adaadbadcadcaddadeadfadfae0ae1ae2ae3ae3ae4ae5,
   0xa88a89a8aa8ba8ba8ca8da8da8ea8fa90a90a91a92a93a93a94a95a95a96a97a98a98a99a9aa9ba9ba9ca9da9da9ea9faa0aa0aa1aa2aa3aa3aa4aa5aa6aa6aa7aa8aa8aa9aaaaabaabaacaadaaeaaeaafab0ab1ab1ab2ab3ab4ab4ab5ab6,
   0xa5ba5ca5da5da5ea5fa5fa60a61a62a62a63a64a64a65a66a67a67a68a69a69a6aa6ba6ca6ca6da6ea6ea6fa70a71a71a72a73a73a74a75a76a76a77a78a78a79a7aa7ba7ba7ca7da7ea7ea7fa80a80a81a82a83a83a84a85a85a86a87a88,
   0xa2fa2fa30a31a32a32a33a34a34a35a36a36a37a38a39a39a3aa3ba3ba3ca3da3da3ea3fa40a40a41a42a42a43a44a44a45a46a47a47a48a49a49a4aa4ba4ca4ca4da4ea4ea4fa50a51a51a52a53a53a54a55a55a56a57a58a58a59a5aa5a,
   0xa03a04a04a05a06a06a07a08a08a09a0aa0ba0ba0ca0da0da0ea0fa0fa10a11a11a12a13a14a14a15a16a16a17a18a18a19a1aa1aa1ba1ca1da1da1ea1fa1fa20a21a21a22a23a24a24a25a26a26a27a28a28a29a2aa2ba2ba2ca2da2da2e,
   0x9d89d89d99da9db9db9dc9dd9dd9de9df9df9e09e19e19e29e39e39e49e59e59e69e79e79e89e99ea9ea9eb9ec9ec9ed9ee9ee9ef9f09f09f19f29f29f39f49f49f59f69f79f79f89f99f99fa9fb9fb9fc9fd9fd9fe9ff9ffa00a01a02a02,
   0x9ad9ae9ae9af9b09b19b19b29b39b39b49b59b59b69b79b79b89b99b99ba9bb9bb9bc9bd9bd9be9bf9bf9c09c19c19c29c39c39c49c59c59c69c79c79c89c99ca9ca9cb9cc9cc9cd9ce9ce9cf9d09d09d19d29d29d39d49d49d59d69d69d7,
   0x98398498498598698698798898898998a98a98b98c98c98d98e98e98f99099099199299299399499499599699699799899899999a99a99b99c99c99d99e99e99f9a09a09a19a29a29a39a49a49a59a69a69a79a89a89a99aa9aa9ab9ac9ac,
   0x95995a95b95b95c95d95d95e95f95f96096196196296296396496496596696696796896896996a96a96b96c96c96d96e96e96f97097097197297297397497497597697697797897897997a97a97b97c97c97d97e97e97f980980981982982,
   0x93093193193293293393493493593693693793893893993a93a93b93c93c93d93e93e93f94094094194294294394494494594694694794794894994994a94b94b94c94d94d94e94f94f950951951952953953954955955956957957958959,
   0x90790790890990990a90b90b90c90d90d90e90f90f91091191191291291391491491591691691791891891991a91a91b91c91c91d91e91e91f92092092192192292392392492592592692792792892992992a92b92b92c92d92d92e92f92f]

/-- The rows of A(L). -/
def angleRows2 : List Nat :=
  [0x8de8df8df8e08e18e18e28e38e38e48e48e58e68e68e78e88e88e98ea8ea8eb8ec8ec8ed8ed8ee8ef8ef8f08f18f18f28f38f38f48f58f58f68f78f78f88f98f98fa8fa8fb8fc8fc8fd8fe8fe8ff900900901902902903904904905905906,
   0x8b58b68b78b78b88b98b98ba8bb8bb8bc8bc8bd8be8be8bf8c08c08c18c28c28c38c48c48c58c58c68c78c78c88c98c98ca8cb8cb8cc8cd8cd8ce8ce8cf8d08d08d18d28d28d38d48d48d58d68d68d78d88d88d98d98da8db8db8dc8dd8dd,
   0x88d88e88e88f89089089189189289389389489589589689789789889889989a89a89b89c89c89d89e89e89f8a08a08a18a18a28a38a38a48a58a58a68a78a78a88a98a98aa8aa8ab8ac8ac8ad8ae8ae8af8b08b08b18b28b28b38b38b48b5,
   0x86586586686786786886986986a86a86b86c86c86d86e86e86f87087087187187287387387487587587687787787887887987a87a87b87c87c87d87e87e87f88088088188188288388388488588588688788788888888988a88a88b88c88c,
   0x83d83d83e83e83f84084084184284284384484484584584684784784884984984a84b84b84c84c84d84e84e84f85085085185285285385385485585585685785785885985985a85a85b85c85c85d85e85e85f860860861861862863863864,
   0x81481581681681781881881981981a81b81b81c81d81d81e81f81f82082082182282282382482482582682682782782882982982a82b82b82c82d82d82e82e82f83083083183283283383483483583583683783783883983983a83b83b83c,
   0x7ec7ed7ee7ee7ef7ef7f07f17f17f27f37f37f47f57f57f67f67f77f87f87f97fa7fa7fb7fc7fc7fd7fd7fe7ff7ff80080180180280380380480480580680680780880880980a80a80b80b80c80d80d80e80f80f810811811812812813814,
   0x7c47c57c57c67c77c77c87c97c97ca7cb7cb7cc7cc7cd7ce7ce7cf7d07d07d17d27d27d37d37d47d57d57d67d77d77d87d97d97da7da7db7dc7dc7dd7de7de7df7e07e07e17e17e27e37e37e47e57e57e67e77e77e87e87e97ea7ea7eb7ec,
   0x79c79d79d79e79f79f7a07a07a17a27a27a37a47a47a57a67a67a77a77a87a97a97aa7ab7ab7ac7ad7ad7ae7ae7af7b07b07b17b27b27b37b47b47b57b57b67b77b77b87b97b97ba7bb7bb7bc7bc7bd7be7be7bf7c07c07c17c27c27c37c3,
   0x77477477577677677777877877977977a77b77b77c77d77d77e77f77f78078078178278278378478478578678678778878878978978a78b78b78c78d78d78e78f78f79079079179279279379479479579679679779779879979979a79b79b,
   0x74b74c74d74d74e74e74f75075075175275275375475475575675675775775875975975a75b75b75c75d75d75e75f75f76076076176276276376476476576676676776876876976976a76b76b76c76d76d76e76f76f770770771772772773,
   0x72372372472572572672772772872872972a72a72b72c72c72d72e72e72f73073073173273273373373473573573673773773873973973a73b73b73c73c73d73e73e73f74074074174274274374474474574574674774774874974974a74b,
   0x6fa6fb6fb6fc6fc6fd6fe6fe6ff70070070170270270370470470570670670770770870970970a70b70b70c70d70d70e70f70f71071171171271371371471471571671671771871871971a71a71b71c71c71d71d71e71f71f720721721722]

/-- The rows of A(L). -/
def angleRows3 : List Nat :=
  [0x6d16d16d26d36d36d46d56d56d66d76d76d86d96d96da6db6db6dc6dd6dd6de6df6df6e06e06e16e26e26e36e46e46e56e66e66e76e86e86e96ea6ea6eb6ec6ec6ed6ee6ee6ef6ef6f06f16f16f26f36f36f46f56f56f66f76f76f86f96f9,
   0x6a76a86a96a96aa6ab6ab6ac6ad6ad6ae6af6af6b06b16b16b26b36b36b46b56b56b66b76b76b86b96b96ba6ba6bb6bc6bc6bd6be6be6bf6c06c06c16c26c26c36c46c46c56c66c66c76c86c86c96ca6ca6cb6cc6cc6cd6ce6ce6cf6cf6d0,
   0x67e67e67f68068068168268268368468468568668668768868868968a68a68b68c68c68d68e68e68f69069069169269269369469469569669669769869869969a69a69b69c69c69d69e69e69f69f6a06a16a16a26a36a36a46a56a56a66a7,
   0x65465465565665665765865865965a65a65b65c65c65d65e65e65f66066066166266266366466466566666666766866866966a66a66b66c66c66d66e66e66f67067067167267267367467467567667667767867867967a67a67b67c67c67d,
   0x62962a62a62b62c62c62d62e62e62f63063063163263263363463463563663663763863963963a63b63b63c63d63d63e63f63f64064164164264364364464564564664764764864964964a64b64b64c64d64d64e64f64f650651652652653,
   0x5fe5fe5ff60060160160260360360460560560660760760860960960a60b60c60c60d60e60e60f61061061161261261361461461561661661761861961961a61b61b61c61d61d61e61f61f620621621622623623624625625626627628628,
   0x5d25d35d35d45d55d55d65d75d85d85d95da5da5db5dc5dc5dd5de5df5df5e05e15e15e25e35e35e45e55e65e65e75e85e85e95ea5ea5eb5ec5ec5ed5ee5ef5ef5f05f15f15f25f35f35f45f55f55f65f75f85f85f95fa5fa5fb5fc5fc5fd,
   0x5a65a65a75a85a85a95aa5ab5ab5ac5ad5ad5ae5af5af5b05b15b25b25b35b45b45b55b65b75b75b85b95b95ba5bb5bc5bc5bd5be5be5bf5c05c05c15c25c35c35c45c55c55c65c75c75c85c95ca5ca5cb5cc5cc5cd5ce5ce5cf5d05d15d1,
   0x57857957a57b57b57c57d57d57e57f58058058158258258358458558558658758858858958a58a58b58c58d58d58e58f58f59059159259259359459459559659759759859959959a59b59c59c59d59e59e59f5a05a15a15a25a35a35a45a5,
   0x54a54b54c54c54d54e54f54f55055155255255355455555555655755855855955a55a55b55c55d55d55e55f56056056156256356356456556556656756856856956a56b56b56c56d56d56e56f570570571572573573574575575576577578,
   0x51b51c51d51d51e51f52052152152252352452452552652752752852952a52a52b52c52d52d52e52f53053053153253353353453553553653753853853953a53b53b53c53d53e53e53f54054154154254354454454554654754754854954a,
   0x4eb4ec4ed4ed4ee4ef4f04f04f14f24f34f44f44f54f64f74f74f84f94fa4fa4fb4fc4fd4fe4fe4ff50050150150250350450450550650750750850950a50b50b50c50d50e50e50f51051151151251351451451551651751751851951a51a,
   0x4ba4ba4bb4bc4bd4be4be4bf4c04c14c24c24c34c44c54c64c64c74c84c94c94ca4cb4cc4cd4cd4ce4cf4d04d14d14d24d34d44d44d54d64d74d84d84d94da4db4dc4dc4dd4de4df4df4e04e14e24e34e34e44e54e64e64e74e84e94ea4ea]

/-- The rows of A(L). -/
def angleRows4 : List Nat :=
  [0x48748848848948a48b48c48c48d48e48f49049149149249349449549549649749849949a49a49b49c49d49e49e49f4a04a14a24a24a34a44a54a64a64a74a84a94aa4aa4ab4ac4ad4ae4ae4af4b04b14b24b24b34b44b54b64b64b74b84b9,
   0x45245345445545645645745845945a45b45c45c45d45e45f46046146146246346446546646646746846946a46b46b46c46d46e46f47047047147247347447547547647747847947a47a47b47c47d47e47f47f480481482483483484485486,
   0x41c41d41e41e41f42042142242342442542542642742842942a42b42c42c42d42e42f43043143243243343443543643743843943943a43b43c43d43e43f43f44044144244344444544544644744844944a44b44b44c44d44e44f450451451,
   0x3e33e43e53e63e73e83e93e93ea3eb3ec3ed3ee3ef3f03f13f23f33f33f43f53f63f73f83f93fa3fb3fc3fd3fd3fe3ff40040140240340440540640640740840940a40b40c40d40e40e40f41041141241341441541641641741841941a41b,
   0x3a83a93a93aa3ab3ac3ad3ae3af3b03b13b23b33b43b53b63b73b83b93ba3bb3bc3bd3be3bf3bf3c03c13c23c33c43c53c63c73c83c93ca3cb3cc3cd3ce3cf3d03d03d13d23d33d43d53d63d73d83d93da3db3dc3dd3dd3de3df3e03e13e2,
   0x36936a36b36c36d36e36f37037137237337437537637737837937a37b37c37d37e37f38038138238338438538638738838938a38b38c38d38e38f39039139239339439539639739839939a39b39c39d39e39f3a03a13a23a33a43a53a63a7,
   0x32632732832932a32b32d32e32f33033133233333433533633733833a33b33c33d33e33f34034134234334434534634734834a34b34c34d34e34f35035135235335435535635735835935a35b35c35d35e360361362363364365366367368,
   0x2de2df2e02e12e32e42e52e62e72e92ea2eb2ec2ed2ee2f02f12f22f32f42f52f72f82f92fa2fb2fc2fe2ff30030130230330430630730830930a30b30c30d30f31031131231331431531631831931a31b31c31d31e31f320322323324325,
   0x28f29029229329429629729829929b29c29d29f2a02a12a22a42a52a62a82a92aa2ab2ad2ae2af2b12b22b32b42b62b72b82b92bb2bc2bd2be2c02c12c22c32c42c62c72c82c92cb2cc2cd2ce2cf2d12d22d32d42d62d72d82d92da2dc2dd,
   0x23623823923b23c23e23f24124224424524624824924b24c24e24f25125225425525625825925b25c25e25f26026226326526626726926a26c26d26e27027127327427527727827927b27c27e27f28028228328428628728828a28b28c28e,
   0x1ce1cf1d11d31d51d71d81da1dc1de1e01e11e31e51e71e81ea1ec1ee1ef1f11f31f41f61f81f91fb1fd1ff20020220320520720820a20c20d20f21121221421521721921a21c21d21f22022222422522722822a22b22d22e230231233235,
   0x14714914c14e15115315615815b15d16016216416716916b16e17017217417717917b17d18018218418618818a18d18f19119319519719919b19d19f1a11a31a51a71a91ab1ad1af1b11b31b51b71b91bb1bd1bf1c11c21c41c61c81ca1cc,
   0x2903a04705205b06406c07307a08108708d09309909e0a30a80ad0b20b60bb0bf0c40c80cc0d00d40d80dc0df0e30e70ea0ee0f10f50f80fc0ff10210510910c10f11211511811b11e12112412612912c12f13213413713a13c13f142144]

/-- A(L) of R212: the phase, relative to state 0, at which the ideal element sends L / 4,096 of its power into its state-0
path. L = 0 is not in the table; it reads as 4,096, a half turn (DEDUCED from the formula; no target has it, R183). -/
def angle (l : Nat) : Nat :=
  if l = 0 then 4096
  else ((angleRows0 ++ angleRows1 ++ angleRows2 ++ angleRows3 ++ angleRows4).getD ((l - 1) / 63) 0) / 2 ^ (12 * ((l - 1) % 63)) % 4096

end Sys2Proof.Machine
end

