-- ==== Sys2Proof/Machine/Pier.lean ====
section
/-!
DEFINITION. Machine/Pier.lean: the calibration and loop records in memory (R213 to R217, R268), interpolation (R221), the
code of each channel (R210, R211, R228), and what a clamp, a park request and a ramp do to a pier (R242 to R245).
-/
namespace Sys2Proof.Machine

/-- A deck as a number. -/
def deckNum : Deck → Nat
  | .a => 0
  | .b => 1

/-- The global index of local pier `l` of span `n` (R8). -/
def pierIx (n l : Nat) : Nat := 512 * n + l

/-! ### Registers of a pier by deck -/

def liveWord (n l d : Nat) : Nat := if d = 0 then aPR_LIVE_A n l else aPR_LIVE_B n l
/-- FAST of PR_LIVE_A or PR_LIVE_B. -/
def liveF (n l d : Nat) : Fld := ⟨liveWord n l d, 13, 0⟩
/-- TRIM of PR_LIVE_A or PR_LIVE_B. -/
def liveT (n l d : Nat) : Fld := ⟨liveWord n l d, 27, 16⟩
def stagedWord (n l d : Nat) : Nat := if d = 0 then aPR_STAGED_A n l else aPR_STAGED_B n l
/-- FAST of PR_STAGED_A or PR_STAGED_B. -/
def stagedF (n l d : Nat) : Fld := ⟨stagedWord n l d, 13, 0⟩
/-- STAGED of PR_STAGED_A or PR_STAGED_B. -/
def stagedBit (n l d : Nat) : Fld := ⟨stagedWord n l d, 31, 31⟩

/-- The abutment of a pier. -/
def pierOf (s : State) (g : Nat) : Pier := cellGet (fun _ => Pier.init) s.dr.piers g

/-- The state with a pier's abutment replaced. -/
def setPier (s : State) (g : Nat) (p : Pier) : State :=
  { s with dr := { s.dr with piers := cellPut (fun _ => Pier.init) s.dr.piers g p } }

/-- One deck's path at a pier. -/
def pathOf (s : State) (g d : Nat) : Path := cellGet (fun _ => Path.init) s.dr.paths (2 * g + d)

/-- The state with one deck's path at a pier replaced. -/
def setPath (s : State) (g d : Nat) (p : Path) : State :=
  { s with dr := { s.dr with paths := cellPut (fun _ => Path.init) s.dr.paths (2 * g + d) p } }

/-- The monitors of a pier. -/
def monOf (s : State) (g : Nat) : Mon := cellGet (fun _ => Mon.init) s.te.mons g

/-- The state with a pier's monitors replaced. -/
def setMon (s : State) (g : Nat) (m : Mon) : State :=
  { s with te := { s.te with mons := cellPut (fun _ => Mon.init) s.te.mons g m } }

/-- The fast code a deck requests of a pier's strings now, after slew limiter, pre-emphasis and park (R232, R247). -/
def requestedFast (s : State) (n l d : Nat) : Nat :=
  match (pathOf s (pierIx n l) d).boost with
  | some (v, t) => if s.elapsed < t then v else getF s (liveF n l d)
  | none => getF s (liveF n l d)

/-- The fast code of the connected deck as it is driven now: pre-emphasised while that lasts (R232), else the code PR_OUT holds. -/
def drivenFast (s : State) (n l : Nat) : Nat :=
  match (pathOf s (pierIx n l) (getF s (PR_OUT_OWNER n l))).boost with
  | some (v, t) => if s.elapsed < t ∧ ! flag s (PR_OUT_CLAMPED n l) then v else getF s (PR_OUT_FAST n l)
  | none => getF s (PR_OUT_FAST n l)

/-- A deck's live fast code takes a value; a change counts as activity of source 1 (R226). -/
def setLiveF (s : State) (n l d v : Nat) : State :=
  let k := 2 * pierIx n l + d
  let s1 := setF s (liveF n l d) v
  if getF s1 (liveF n l d) = getF s (liveF n l d) ∨ k ∈ s.dr.moved then s1 else { s1 with dr := { s1.dr with moved := k :: s1.dr.moved } }

/-- The deglitcher holds the pier's previous output for 2.5 ns while the strings switch (R233). -/
def deglitch (s : State) (n l : Nat) : State :=
  setPier s (pierIx n l) { pierOf s (pierIx n l) with glitch := some (drivenFast s n l, s.elapsed + 10) }

/-- A pier leaves the freeze: the connected deck's codes move from the held pair through the slew limiters (R321). -/
def unfreeze (s : State) (n l : Nat) : State :=
  let p := pierOf s (pierIx n l)
  match p.held with
  | none => s
  | some (f, t) =>
    let d := getF s (PR_OUT_OWNER n l)
    setPier (setF (setLiveF s n l d f) (liveT n l d) t) (pierIx n l) { p with held := none }

/-- A pier leaves the freeze at once and shows the code of the deck that takes over (R333). -/
def dropHold (s : State) (n l : Nat) : State :=
  setPier s (pierIx n l) { pierOf s (pierIx n l) with held := none }

/-- The span's clamp of R242 is closed. -/
def clamped (s : State) (n : Nat) : Bool := flag s (LZ_STATUS_CLAMPED n)

/-- The span is parked until the device next completes Ready to Hold (R378). -/
def spanParked (s : State) (n : Nat) : Bool := decide (n ∈ s.dr.parked)

/-! ### Words of a memory -/

/-- A field of a word in memory: the word's offset in its record and its bits. -/
structure MFld where
  off : Nat
  hi : Nat
  lo : Nat
  deriving DecidableEq, Repr

/-- A 32-bit little-endian word of memory. -/
def memWord (s : State) (a : Nat) : Word := BitVec.ofNat 32 (rdMem s a 4)

/-- A 32-bit little-endian word of memory written. -/
def putWord (s : State) (a : Nat) (w : Word) : State := wrMem s a 4 w.toNat

/-- A field of the record at `a`. -/
def getM (s : State) (a : Nat) (f : MFld) : Nat := bitsOf (memWord s (a + f.off)) f.hi f.lo

/-- A field of the record at `a`, two's complement. -/
def getMI (s : State) (a : Nat) (f : MFld) : Int := signed (width f.hi f.lo) (getM s a f)

/-- A field of the record at `a` replaced by the low bits of `v`. -/
def putM (s : State) (a : Nat) (f : MFld) (v : Nat) : State :=
  putWord s (a + f.off) (withBits (memWord s (a + f.off)) f.hi f.lo v)

/-- A two's complement field of the record at `a` replaced. -/
def putMI (s : State) (a : Nat) (f : MFld) (v : Int) : State := putM s a f (unsigned (width f.hi f.lo) v)

/-! ### Calibration memory (R213 to R217) -/

/-- The per-pier record of local pier `l` (R213). -/
def calRec (n l : Nat) : Nat := spBase n + 0x100000 + 0x280 * l
/-- The span record (R213). -/
def spanRec (n : Nat) : Nat := spBase n + 0x150000
/-- The device thermal record (R213). -/
def thermalRec : Nat := spBase 0 + 0x160000

def cFT_START : MFld := ⟨0x260, 17, 0⟩
def cFT_STEP : MFld := ⟨0x260, 31, 18⟩
def cTT_START : MFld := ⟨0x264, 17, 0⟩
def cTT_STEP : MFld := ⟨0x264, 31, 18⟩
def cPHI_F0 : MFld := ⟨0x268, 17, 0⟩
def cPE_GAIN : MFld := ⟨0x268, 25, 18⟩
def cPE_TIME : MFld := ⟨0x268, 29, 26⟩
def cPHI_B : MFld := ⟨0x26C, 17, 0⟩
def cPM_SCALE : MFld := ⟨0x26C, 25, 18⟩
def cRH : MFld := ⟨0x270, 15, 0⟩
def cD1 : MFld := ⟨0x274, 17, 0⟩
def cVALID : MFld := ⟨0x27C, 0, 0⟩

/-- FT[i] of a record. -/
def ftAt (s : State) (r i : Nat) : Nat := rdMem s (r + 2 * i) 2 % 2 ^ 14
/-- TT[i] of a record. -/
def ttAt (s : State) (r i : Nat) : Nat := rdMem s (r + 0x100 + 2 * i) 2 % 2 ^ 12

/-! ### Loop state (R267, R268) -/

/-- One deck's loop state of a span. -/
def loopBase (n d : Nat) : Nat := spBase n + 0x200000 + 0x10000 * d
/-- The loop record of local pier `l` in one deck. -/
def loopRec (n l d : Nat) : Nat := loopBase n d + 0x40 * l

def lINTEG : MFld := ⟨0x00, 31, 0⟩
def lU : MFld := ⟨0x04, 17, 0⟩
def lV : MFld := ⟨0x04, 31, 18⟩
def lPHI_TFF : MFld := ⟨0x08, 17, 0⟩
def lDLIVE : MFld := ⟨0x0C, 17, 0⟩
def lMLIVE : MFld := ⟨0x0C, 19, 18⟩
def lLLIVE : MFld := ⟨0x0C, 31, 20⟩
def lDSTG : MFld := ⟨0x10, 17, 0⟩
def lMSTG : MFld := ⟨0x10, 19, 18⟩
def lLSTG : MFld := ⟨0x10, 31, 20⟩
def lFPREV : MFld := ⟨0x14, 24, 0⟩
def lSPREV : MFld := ⟨0x14, 26, 25⟩
def lPVALID : MFld := ⟨0x14, 27, 27⟩
def lMPREV : MFld := ⟨0x14, 28, 28⟩
def lEPREV : MFld := ⟨0x18, 17, 0⟩
def lEVALID : MFld := ⟨0x18, 18, 18⟩
def lRESCNT : MFld := ⟨0x18, 26, 19⟩
def lLMODE : MFld := ⟨0x1C, 1, 0⟩
def lDARK : MFld := ⟨0x1C, 2, 2⟩
def lLIM : MFld := ⟨0x1C, 4, 3⟩
def lRESID : MFld := ⟨0x1C, 5, 5⟩
def lULIM : MFld := ⟨0x1C, 6, 6⟩
def lPRESET : MFld := ⟨0x1C, 7, 7⟩
def lDARK_AGE : MFld := ⟨0x1C, 31, 16⟩
def lUMAN : MFld := ⟨0x20, 17, 0⟩
def lVMAN : MFld := ⟨0x20, 31, 18⟩
def lRRAT : MFld := ⟨0x24, 15, 0⟩
def lSTEP_K : MFld := ⟨0x24, 31, 16⟩
def lKSCALE : MFld := ⟨0x28, 15, 0⟩
def lUN : MFld := ⟨0x2C, 17, 0⟩
def lVN : MFld := ⟨0x2C, 31, 18⟩

/-! ### Phases and codes -/

/-- A result in a two's complement format of `w` bits; one outside the format, of which the spec says nothing, has a free value
(log entry 2). -/
def fitInt (s : State) (w : Nat) (v : Int) : Int × State :=
  if -(2 ^ (w - 1) : Int) ≤ v ∧ v < (2 ^ (w - 1) : Int) then (v, s)
  else (signed w (Config.freeNat s.free), { s with free := s.free + 1 })

/-- A phase in the 18-bit format of R209. -/
def phase18 (s : State) (v : Int) : Int × State := fitInt s 18 v

/-- RANGE_LOW or RANGE_HIGH is set and the range counter advances (R221). -/
def rangeFlag (s : State) (n : Nat) (low : Bool) : State :=
  bump (event s (if low then LZ_INT_RANGE_LOW n else LZ_INT_RANGE_HIGH n)) (cLZ_CNT n 4)

/-- interp of R221 in span `n`. A step of 0, which the format excludes, has a free result below `top` (log entry 2). -/
def interp (s : State) (n : Nat) (t : Nat → Nat) (start : Int) (step top : Nat) (phi : Int) : Nat × State :=
  let x := phi - start
  if x < 0 then (t 0, rangeFlag s n true)
  else if step = 0 then fresh s top
  else
    let i := (x / (step : Int)).toNat
    if 127 ≤ i then (t 127, rangeFlag s n false)
    else
      let f := x - (i : Int) * (step : Int)
      (((t i : Int) + (((t (i + 1) : Int) - (t i : Int)) * f + (step / 2 : Nat)) / (step : Int)).toNat, s)

/-- The state phase of a target (R211) from the record's D1. -/
def deltaOf (d1 : Int) (t : Nat) : Int :=
  match t % 4 with
  | 0 => 0
  | 2 => (d1 * (angle (t / 4 % 4096) : Int) + 2048) / 4096
  | _ => d1

/-- The loop class of a target (R270). -/
def classOf (t : Nat) : Nat :=
  match t % 4 with
  | 0 => 0
  | 2 => if t / 4 % 4096 < 8 then 1 else if 4088 < t / 4 % 4096 then 0 else 2
  | _ => 1

/-- The fast code of a pier for state phase `delta` and correction `v` (R210, R221). -/
def fastCode (s : State) (n l : Nat) (delta v : Int) : Nat × State :=
  let r := calRec n l
  let (phi, s1) := phase18 s (getMI s r cPHI_F0 + delta + v)
  interp s1 n (ftAt s r) (getMI s r cFT_START) (getM s r cFT_STEP) 16384 phi

/-- A trim code with its limit, 0 free, 1 high, 2 low (R277), and whether it sets TRIM_LIMIT (R228). -/
structure TrimCode where
  code : Nat
  lim : Nat
  tl : Bool
  deriving DecidableEq, Repr

/-- The trim code of R228 from Φ_TFF + u and VHTR. RH = 0, which no heater has, leaves tcmax free. -/
def trimCode (s : State) (n l : Nat) (arg : Int) (vh : Nat) : TrimCode × State :=
  let r := calRec n l
  let (phi, s1) := phase18 s arg
  let (raw, s2) := interp s1 n (ttAt s r) (getMI s r cTT_START) (getM s r cTT_STEP) 4096 phi
  let dv := (vh : Int) - (getF s (LZ_VHCFG_VHNOM n) : Int)
  let tc := ((raw : Int) * (65536000 - getI s (LZ_VHK_VHK n) * dv) + 32768000) / 65536000
  let vhr := getF s (LZ_VHCFG_VHR n)
  let rh := getM s r cRH
  let (top, s3) := if vh ≤ vhr then (0, s2) else if rh = 0 then fresh s2 4096 else (25600 * (vh - vhr) / rh, s2)
  if tc < 0 then (⟨0, 2, false⟩, s3)
  else if (min top 4095 : Nat) < tc then (⟨min top 4095, 1, decide ((top : Int) < tc)⟩, s3)
  else (⟨tc.toNat, 0, false⟩, s3)

/-! ### Clamp, park and ramp -/

/-- Staged codes of a pier are discarded on both decks. -/
def discardStaged (s : State) (n l : Nat) : State := setF (setF s (stagedBit n l 0) 0) (stagedBit n l 1) 0

/-- A pier's outputs at 0 V and 0 mA (R242): both paths disconnected, PR_OUT.CLAMPED. -/
def clampPier (s : State) (n l : Nat) : State :=
  let w := rd s (aPR_OUT n l)
  let s1 := wr s (aPR_OUT n l) (withBits (withBits (withBits (withBits w 13 0 0) 27 16 0) 29 29 0) 31 31 1)
  setPier (discardStaged s1 n l) (pierIx n l) { pierOf s (pierIx n l) with step := false, ramp := none, held := none, glitch := none }

/-- The clamp of a span closes (R242). -/
def closeClamp (s : State) (n : Nat) : State :=
  let s1 := (List.range 512).foldl (fun s l => clampPier s n l) s
  disarm (setF (setF (setF s1 (LZ_STATUS_CLAMPED n) 1) (LZ_STATUS_RAMPING n) 0) (LZ_STATUS_PARKED n) 0) (.ramp n)

/-- The clamps of all spans close. -/
def closeClamps (s : State) : State := (List.range 36).foldl closeClamp s

/-- Strobes of the fast channel in LZ_PARK.RAMP (20 ns apart, R234). -/
def rampF (s : State) (n : Nat) : Nat := getF s (LZ_PARK_RAMP n) * 50
/-- Strobes of the trim channel in LZ_PARK.RAMP (100 ns apart, R229). -/
def rampT (s : State) (n : Nat) : Nat := getF s (LZ_PARK_RAMP n) * 10

/-- code(k) of R243. -/
def rampCode (start park k count : Nat) : Nat :=
  if count = 0 then park else ((2 * ((start : Int) * count + ((park : Int) - start) * k) + count) / (2 * count)).toNat

/-- Whether a park request moves a pier: one that is not parked, or still in its first ramp (R243). A pier at park, or ramping to it on an earlier
request, goes on as it is. -/
def parkMoves (s : State) (n l : Nat) : Bool :=
  ! flag s (PR_OUT_PARKED n l) || (match (pierOf s (pierIx n l)).ramp with | some r => r.both | none => false)

/-- One pier parks (R244): staged codes discarded, a fast step at the next fast strobe, a trim ramp from the code its output has. -/
def parkPier (s : State) (n l : Nat) : State :=
  let s1 := discardStaged s n l
  if parkMoves s n l = false then s1
  else
    let s2 := unfreeze s1 n l
    let p := pierOf s2 (pierIx n l)
    setPier (setF s2 (PR_OUT_PARKED n l) 1) (pierIx n l)
      { p with step := true, ramp := some ⟨false, 0, getF s2 (liveT n l 0), getF s2 (liveT n l 1), 0, rampT s2 n, 0, 0⟩ }

/-- A park request reaches a span (R244). A clamped span stays clamped. -/
def parkSpan (s : State) (n : Nat) : State :=
  if clamped s n then s
  else
    let s1 := (List.range 512).foldl (fun s l => parkPier s n l) s
    let s2 := { s1 with dr := { s1.dr with parked := n :: s1.dr.parked.filter (fun k => decide (k ≠ n)) } }
    if (List.range 512).any (parkMoves s n) then
      armIn (setF (setF s2 (LZ_STATUS_RAMPING n) 1) (LZ_STATUS_PARKED n) 0) (.ramp n) (1000 * getF s (LZ_PARK_RAMP n))
    else s2

/-- A park request goes to every span (R244). -/
def parkAll (s : State) : State := (List.range 36).foldl parkSpan s

/-- A span's clamp opens and every pier ramps from 0 to its park codes (R243). -/
def openAndRamp (s : State) (n : Nat) : State :=
  let one := fun (s : State) (l : Nat) =>
    let s1 := setF (setF (setLiveF (setLiveF s n l 0 0) n l 1 0) (liveT n l 0) 0) (liveT n l 1) 0
    let s2 := setF (setF s1 (PR_OUT_CLAMPED n l) 0) (PR_OUT_PARKED n l) 1
    setPier s2 (pierIx n l) { pierOf s (pierIx n l) with step := false, ramp := some ⟨true, 0, 0, 0, rampF s n, rampT s n, 0, 0⟩ }
  let s1 := (List.range 512).foldl one s
  let s2 := { s1 with dr := { s1.dr with parked := n :: s1.dr.parked.filter (fun k => decide (k ≠ n)) } }
  armIn (setF (setF s2 (LZ_STATUS_CLAMPED n) 0) (LZ_STATUS_RAMPING n) 1) (.ramp n) (1000 * getF s (LZ_PARK_RAMP n))

/-- A pier reaches its park codes. -/
def reachPark (s : State) (n l : Nat) : State :=
  let p := pierOf s (pierIx n l)
  match p.ramp with
  | none => s
  | some r =>
    let f := getF s (PR_PARK_FAST n l)
    let t := getF s (PR_PARK_TRIM n l)
    let s1 := setF (setF (setF s (liveT n l 0) t) (liveT n l 1) t) (PR_OUT_TRIM n l) t
    let s2 := if r.both then setF (setLiveF (setLiveF s1 n l 0 f) n l 1 f) (PR_OUT_FAST n l) f else s1
    setPier s2 (pierIx n l) { p with ramp := none }

/-- The ramps of a span end: RAMPING clears, PARKED shows whether every pier is at park. -/
def endRamp (s : State) (n : Nat) : State :=
  let s1 := (List.range 512).foldl (fun s l => reachPark s n l) s
  let all := (List.range 512).all (fun l => flag s1 (PR_OUT_PARKED n l))
  disarm (setFlag (setF s1 (LZ_STATUS_RAMPING n) 0) (LZ_STATUS_PARKED n) all) (.ramp n)

end Sys2Proof.Machine
end

