-- ==== Sys2Proof/Machine/Decks.lean ====
section
/-!
DEFINITION. Machine/Decks.lean: claims and ownership (R311 to R317), the abutment's comparison (R318), signature replay (R319 to
R321), path exclusion (R323, R324), handover (R326, R327), resynchronisation (R328, R329) and the lead deck (R330).
-/
namespace Sys2Proof.Machine

/-! ### Claims -/

/-- The span's DK_OWNER bit. -/
def ownerFld (n : Nat) : Fld := if n < 32 then ⟨aDK_OWNER_LO, n, n⟩ else ⟨aDK_OWNER_HI, n - 32, n - 32⟩

/-- The owner of a span (R313). -/
def owner (s : State) (n : Nat) : Nat := getF s (ownerFld n)

/-- The lead deck (R330). -/
def lead (s : State) : Nat := getF s DK_STATUS_LEAD

/-- The source of a deck's reports about a span: its truss engine there. -/
def trussSource (n d : Nat) : Nat := 0x201 + 4 * n + d

/-- A deck is faulted in a span (R311): its claim is below NOM or its state is not HEALTHY. Before it has reported the span it has no fault
to show (R313). -/
def degraded (s : State) (n d : Nat) : Bool :=
  ! healthy s n d && decide (¬ (claim s n d = 0 ∧ getF s (stateFld n d) = 0 ∧ getF s (causeFld n d) = 0))

/-- DK_STATUS.DEGR_A, DEGR_B and REPLAY follow the claims. -/
def showDecks (s : State) : State :=
  let deg := fun d => (List.range 36).any (fun n => degraded s n d)
  let s1 := setFlag (setFlag s DK_STATUS_DEGR_A (deg 0)) DK_STATUS_DEGR_B (deg 1)
  setFlag s1 DK_STATUS_REPLAY (! s.dk.replay.isEmpty)

/-- The unresolved mismatches of a span. -/
def mismOf (s : State) (n : Nat) : List Mismatch := cellGet (fun _ => []) s.dk.mism n

/-- The state with a span's mismatches replaced; DK_CLAIM.MISMATCH follows. -/
def setMism (s : State) (n : Nat) (l : List Mismatch) : State :=
  setFlag { s with dk := { s.dk with mism := cellPut (fun _ => []) s.dk.mism n l } } (DK_CLAIM_MISMATCH n) (! l.isEmpty)

/-- Whether a replay runs in a span. -/
def replaying (s : State) (n : Nat) : Bool := s.dk.replay.any (fun e => decide (e.1 = n))

/-- The replay of a span, if one runs, ends without an outcome, and with it every mismatch (R333). -/
def abandonReplay (s : State) (n : Nat) (drop : Bool) : State :=
  let s1 := (mismOf s n).foldl (fun s m => if drop then dropHold s n m.pier else unfreeze s n m.pier) s
  let s2 := setMism { s1 with dk := { s1.dk with replay := s1.dk.replay.filter (fun e => decide (e.1 ≠ n)) } } n []
  disarm (setFlag s2 (DK_CLAIM_REPLAY n) false) (.misWait n)

/-- The owner of a span follows the claims: the other deck takes over when its claim is higher (R312, R313). -/
def reown (s : State) (n : Nat) : State :=
  let o := owner s n
  if claim s n o < claim s n (1 - o) then
    life (bump (event (setF s (ownerFld n) (1 - o)) DK_INT_TAKEOVER) (cDK_CNT 0)) 10
  else s

/-- The claim a cause presents (R314). -/
def causeClaim (cause : Nat) : Nat :=
  match cause with
  | 1 | 2 => 0x00
  | 3 | 5 => 0x10
  | 4 => 0x40
  | 6 | 7 | 8 => 0x20
  | _ => 0x30

/-- Both decks are faulted in a span: a fatal fault, and the span is parked (R317). Before the footing check ends the rule does
not apply. -/
def bothFaulted (s : State) (n : Nat) : State :=
  if flag s NV_STATUS_FOOT_OK ∧ healthy s n 0 = false ∧ healthy s n 1 = false then
    raise (parkSpan s n) (0x200 + 4 * n) 0x24 clsFatal false n
  else s

/-- A deck is being resynchronised in a span (R328, R329). -/
def resyncing (s : State) (n d : Nat) : Bool := decide (getF s (stateFld n d) = 2 ∨ getF s (stateFld n d) = 3)

/-- The resynchronisations in a row that have ended with cause 11 (R331). -/
def failedCount (s : State) (n d : Nat) : Nat := cellGet (fun _ => 0) s.dk.failed (2 * n + d)

/-- The state with that count replaced. -/
def setFailed (s : State) (n d k : Nat) : State :=
  { s with dk := { s.dk with failed := cellPut (fun _ => 0) s.dk.failed (2 * n + d) k } }

/-- A resynchronisation ends with cause 11 (R329): the claim stays as it was. -/
def failResync (s : State) (n d : Nat) : State :=
  let s1 := bump (bump (setF (setF s (stateFld n d) 1) (causeFld n d) 11) (cDK_CNT 11)) (cDK_CNT 16)
  let s2 := raise (event s1 DK_INT_RESYNC_FAIL) (trussSource n d) 0x20 clsCorrected (decide (d = 1)) (n + 2 ^ 8 * 11)
  setFailed (showDecks (disarm (disarm s2 (.copy n)) (.probation n))) n d (failedCount s n d + 1)

/-- A deck's claim falls in one span (R314, R315): the lowest value stands, its cause the latest among equals; a replay in the span is
abandoned (R333); the owner follows. A new cause during a resynchronisation ends that with cause 11 and leaves the claim (R329). -/
def lowerSpan (s : State) (n d cause v : Nat) : State :=
  if resyncing s n d then failResync s n d
  else
    let was := healthy s n d
    let other := healthy s n (1 - d)
    let s1 := if v ≤ claim s n d then bump (setF (setF s (claimFld n d) v) (causeFld n d) cause) (cDK_CNT cause) else s
    let s2 := setF s1 (stateFld n d) 1
    let s3 := reown (abandonReplay s2 n (decide (d = owner s n))) n
    if was ∧ other = false then bothFaulted s3 n else s3

/-- A deck faults in one span: its claim falls and the fault is reported (R465: DK_CLAIM, or DK_MISMATCH for cause 10). -/
def lowerOne (s : State) (n d cause : Nat) : State :=
  let s1 := lowerSpan s n d cause (causeClaim cause)
  let s2 := if resyncing s n d then s1
    else if cause = 10 then raise s1 (trussSource n d) 0x21 clsContained (decide (d = 1)) (n + 2 ^ 8 * 10)
    else raise s1 (trussSource n d) 0x20 clsCorrected (decide (d = 1)) (n + 2 ^ 8 * cause)
  showDecks s2

/-- The lead passes from a deck that takes cause 1 or 2 (R330). -/
def passLead (s : State) (d : Nat) : State :=
  if lead s = d then event (setF s DK_STATUS_LEAD (1 - d)) DK_INT_LEAD_CHG else s

/-- A deck faults in every span (causes 1, 2, 7 and 8): one report names all spans. Under causes 1 and 2 its cluster stops, its
remap bit clears, its joint goes down (R505) and the lead passes. -/
def lowerAll (s : State) (d cause : Nat) : State :=
  let s1 := (List.range 36).foldl (fun s n => lowerSpan s n d cause (causeClaim cause)) s
  let s2 := raise s1 (0x300 + d) 0x20 clsCorrected (decide (d = 1)) (0x3F + 2 ^ 8 * cause)
  let s3 := if cause ≤ 2 then
      passLead (jointDown (setF (disarm (setFlag s2 (runFld d) false) (.watchdog d)) (if d = 0 then NV_REMAP_REMAP_A else NV_REMAP_REMAP_B) 0) (14 + d)) d
    else s2
  showDecks s3

/-- A deck finds a fault of its own (R314, causes 2, 3 and 4). -/
def execClaimLower (d : Deck) (f : SelfFault) (s : State) : Out :=
  match f with
  | .ramUe burst => .next (lowerAll (masterReset s (deckNum d) burst) (deckNum d) 2)
  | .loopUe n => .next (lowerOne s n (deckNum d) 3)
  | .resid n l =>
    let a := loopRec n l (deckNum d)
    let b := loopRec n l (1 - deckNum d)
    if healthy s n (deckNum d) ∧ getM s a lRESID = 1 ∧ getM s b lRESID = 0 then .next (lowerOne s n (deckNum d) 4) else .next s

/-- Cause 4 (R314): at an update that sets a deck's RESID the other deck's record has it clear. `wasA`, `wasB` are the bits before it. -/
def residDiffers (s : State) (n l wasA wasB : Nat) : State :=
  let a := getM s (loopRec n l 0) lRESID
  let b := getM s (loopRec n l 1) lRESID
  if a = 1 ∧ b = 0 ∧ wasA = 0 then lowerOne s n 0 4
  else if b = 1 ∧ a = 0 ∧ wasB = 0 then lowerOne s n 1 4
  else s

/-! ### The watchdogs and deck firmware (R314, R331) -/

def wdogTimeout (d : Nat) : Fld := if d = 0 then DK_WDOG_A_TIMEOUT else DK_WDOG_B_TIMEOUT

/-- A deck's watchdog count restarts. -/
def kick (s : State) (d : Nat) : State := armIn s (.watchdog d) (1000 * getF s (wdogTimeout d))

/-- The watchdog expires (R314, cause 1): the deck is reset with whatever burst it has granted (R500). -/
def execWatchdogExpiry (d : Deck) (burst : Option Burst) (s : State) : Out :=
  if due s (.watchdog (deckNum d)) then .next (lowerAll (masterReset s (deckNum d) burst) (deckNum d) 1)
  else .next s

/-- A deck's firmware reports a span loaded (R313): before the footing check ends its claim becomes NOM. A claim that a cause has lowered does
not rise by it (R316). -/
def execSpanLoadedReport (d : Deck) (n : Span) (s : State) : Out :=
  if flag s NV_STATUS_FOOT_OK ∨ getF s (stateFld n (deckNum d)) ≠ 0 then .next s
  else .next (setF (setF s (claimFld n (deckNum d)) (getF s DK_CTRL_NOM)) (stateFld n (deckNum d)) 0)

/-- The footing check ends (R313): unreported spans are faulted with cause 0; Deck B owns a span where Deck A alone is not healthy; a
span that neither deck reported raises DK_BOTH. -/
def settleOwners (s : State) : State :=
  let one := fun (s : State) (n : Nat) =>
    let s1 := [0, 1].foldl (fun s d => if healthy s n d then s else setF s (stateFld n d) 1) s
    let s2 := setF s1 (ownerFld n) (if healthy s1 n 0 then 0 else if healthy s1 n 1 then 1 else 0)
    bothFaulted s2 n
  showDecks ((List.range 36).foldl one s)

/-- A new NOM takes effect (R311): every claim equal to the old one takes it. -/
def applyNom (s : State) (old new : Nat) : State :=
  let one := fun (s : State) (n : Nat) =>
    [0, 1].foldl (fun s d => if claim s n d = old ∧ 0x80 ≤ old then setF s (claimFld n d) new else s) s
  showDecks ((List.range 36).foldl one (setF s DK_CTRL_NOM new))

/-! ### Comparison (R318) -/

/-- The mismatch log of deck `d`, entry `i` (R332). -/
def mismLog (d i : Nat) : Nat := spBase 0 + 0x220000 + 0x20000 * d + 0x20 * (i % 256)

/-- One entry of the mismatch log written on both decks (R332). -/
def logMismatch (s : State) (n l : Nat) (trim : Bool) (a b : Nat) : State :=
  let put := fun (s : State) (d : Nat) =>
    let e := mismLog d s.dk.logPtr
    putWord (putWord (putWord (putWord s e (BitVec.ofNat 32 (stamp s)))
      (e + 4) (BitVec.ofNat 32 (n + 2 ^ 6 * l + (if trim then 2 ^ 15 else 0)))) (e + 8) (BitVec.ofNat 32 (a + 2 ^ 16 * b))) (e + 12) 0
  let s1 := put (put s 0) 1
  { s1 with dk := { s1.dk with logPtr := (s1.dk.logPtr + 1) % 256 } }

/-- The outcome of a replay in a mismatch's log entry (R332). -/
def logOutcome (s : State) (i outcome : Nat) : State :=
  [0, 1].foldl (fun s d => putWord s (mismLog d i + 12) (BitVec.ofNat 32 outcome)) s

/-- Whether a deck's path at a pier is excluded (DK_PEXCL). -/
def excluded (s : State) (g d : Nat) : Bool :=
  (rd s (if d = 0 then aDK_PEXCL_A (g / 32) else aDK_PEXCL_B (g / 32))).toNat.testBit (g % 32)

/-- The wait of the oldest mismatch of a span for its replay (R319): until it has lasted MISWAIT; no wait without one, or while a replay runs. -/
def awaitReplay (s : State) (n : Nat) : State :=
  match mismOf s n with
  | [] => disarm s (.misWait n)
  | m :: _ => if replaying s n then s else armAt s (.misWait n) (max s.elapsed (m.since + 40 * getF s DK_TIMING_MISWAIT))

/-- A mismatch begins at a pier (R318): logged and counted; under FREEZE the pier holds the last pair both decks agreed on
(R321). During a replay's first 2 µs it is added to the replay (R319). -/
def startMismatch (s : State) (n l : Nat) (trim : Bool) (a b : Nat) : State :=
  let g := pierIx n l
  let covered := match s.dk.replay.find? (fun e => decide (e.1 = n)) with
    | some (_, t) => decide (s.elapsed ≤ t + 8000)
    | none => false
  let s1 := bump (event s DK_INT_MISMATCH) (cDK_CNT 12)
  let s2 := setMism s1 n (mismOf s1 n ++ [⟨l, trim, s.elapsed, s.dk.logPtr, covered⟩])
  let s3 := logMismatch s2 n l trim a b
  let p := pierOf s3 g
  let s4 := if flag s3 DK_CTRL_FREEZE ∧ p.held.isNone then
      setPier s3 g { p with held := some (getF s (PR_OUT_FAST n l), getF s (PR_OUT_TRIM n l)) }
    else s3
  awaitReplay s4 n

/-- Codes agree again before a replay has begun: the mismatch does not persist (R319; DEDUCED, log entry 16). -/
def endMismatch (s : State) (n l : Nat) (trim : Bool) : State :=
  let keep := (mismOf s n).filter (fun m => ! (decide (m.pier = l) && (m.trim == trim) && ! m.covered))
  if keep.length = (mismOf s n).length then s
  else
    let s1 := setMism s n keep
    let s2 := if keep.any (fun m => decide (m.pier = l)) then s1 else unfreeze s1 n l
    awaitReplay s2 n

/-- The abutment compares two codes of a channel (R318). A difference counts as a mismatch while both decks are healthy in the
span, and ends the probation of a deck that is in it (R329). -/
def compareCodes (s : State) (n l : Nat) (trim : Bool) : State :=
  let f := fun d => if trim then getF s (liveT n l d) else requestedFast s n l d
  if healthy s n 0 ∧ healthy s n 1 then
    if f 0 = f 1 then endMismatch s n l trim
    else if (mismOf s n).any (fun m => decide (m.pier = l) && (m.trim == trim)) then s
    else startMismatch s n l trim (f 0) (f 1)
  else if f 0 ≠ f 1 ∧ getF s (stateFld n 0) = 3 ∧ healthy s n 1 then failResync s n 0
  else if f 0 ≠ f 1 ∧ getF s (stateFld n 1) = 3 ∧ healthy s n 0 then failResync s n 1
  else s

/-- The abutment finds that a deck's requested code differs: the code an upset presents, then the comparison (R318). -/
def execAbutmentMismatch (n : Span) (l : Local) (u : CodeUpset) (s : State) : Out :=
  let d := deckNum u.deck
  let p := pathOf s (pierIx n l) d
  let s1 := if u.trim then setPath (setF s (liveT n l d) u.code.toNat) (pierIx n l) d { p with reqT := u.code.toNat % 4096 }
    else setPath (setLiveF s n l d u.code.toNat) (pierIx n l) d { p with reqF := u.code.toNat, boost := none }
  .next (compareCodes s1 n l u.trim)

/-! ### Signature replay (R319 to R321) -/

/-- A mismatch has lasted MISWAIT with both decks healthy: each deck runs a replay on the span (R319). -/
def execReplayStart (n : Span) (s : State) : Out :=
  if due s (.misWait n) ∧ healthy s n 0 ∧ healthy s n 1 ∧ replaying s n = false ∧ mismOf s n ≠ [] then
    let s1 := setMism s n ((mismOf s n).map (fun m => { m with covered := true }))
    let s2 := { s1 with dk := { s1.dk with replay := s1.dk.replay ++ [(n.val, s.elapsed)] } }
    .next (disarm (bump (setFlag (setFlag s2 (DK_CLAIM_REPLAY n) true) DK_STATUS_REPLAY true) (cDK_CNT 13)) (.misWait n))
  else .next s

/-! ### Drive-path exclusion (R323, R324) -/

/-- A deck's path at a pier is excluded (R323); with both excluded the pier is marked failed (R324). -/
def excludePath (s : State) (g d : Nat) : State :=
  if excluded s g d then s
  else
    let a := if d = 0 then aDK_PEXCL_A (g / 32) else aDK_PEXCL_B (g / 32)
    let s1 := bump (event (wr s a (withBits (rd s a) (g % 32) (g % 32) 1)) DK_INT_PATH) (cDK_CNT 17)
    let s2 := raise s1 (0x203 + 4 * (g / 512)) 0x22 clsCorrected (decide (d = 1)) g
    if excluded s2 g (1 - d) then markFailed (raise s2 (0x203 + 4 * (g / 512)) 0x23 clsContained false g) g else s2

/-- A path returns (R312): the pier's rule applies again from the next fast strobe. -/
def returnPath (s : State) (g d : Nat) : State :=
  let a := if d = 0 then aDK_PEXCL_A (g / 32) else aDK_PEXCL_B (g / 32)
  if g < 18432 then wr s a (withBits (rd s a) (g % 32) (g % 32) 0) else s

/-- RESID on both decks for FAIL_MS marks the pier failed under AUTOFAIL (R324). -/
def execAutofailTimeout (n : Span) (l : Local) (s : State) : Out :=
  match (s.dk.resid.find? (fun e => decide (e.1 = pierIx n l))) with
  | some (_, t) =>
    if flag s DK_CTRL_AUTOFAIL ∧ t + 4000000 * getF s DK_TIMING_FAIL_MS ≤ s.elapsed then .next (markFailed s (pierIx n l)) else .next s
  | none => .next s

/-- The RESID bits of a pier's two records changed: since when both are set (R324). -/
def residMoved (s : State) (n l : Nat) : State :=
  let g := pierIx n l
  let both := decide (getM s (loopRec n l 0) lRESID = 1 ∧ getM s (loopRec n l 1) lRESID = 1)
  let has := s.dk.resid.any (fun e => decide (e.1 = g))
  if both = has then s
  else if both then { s with dk := { s.dk with resid := s.dk.resid ++ [(g, s.elapsed)] } }
  else { s with dk := { s.dk with resid := s.dk.resid.filter (fun e => decide (e.1 ≠ g)) } }

/-! ### Planned handover (R326, R327) -/

/-- Whether a request pass of a span is in progress: a routed request whose pass on a deck has not ended. -/
def passPending (s : State) (n : Nat) : Bool :=
  s.dr.routed.any (fun r => [0, 1].any (fun d => decide (2 * n + d ∉ r.done)))

/-- One span is handed to the non-owner, where R326 allows it. -/
def handSpan (s : State) (n : Nat) : State :=
  if healthy s n 0 ∧ healthy s n 1 ∧ mismOf s n = [] ∧ replaying s n = false ∧ passPending s n = false then
    let o := owner s n
    let s1 := bump (setF (setF s (claimFld n o) (getF s DK_CTRL_NOM - 1)) (causeFld n o) 9) (cDK_CNT 9)
    let s2 := setF s1 (ownerFld n) (1 - o)
    { s2 with dk := { s2.dk with handing := s2.dk.handing ++ [(n, (o, List.range 512))] } }
  else event s DK_INT_CMD_REFUSED

/-- DK_CMD.HANDOVER (R326). -/
def handover (s : State) : State :=
  if flag s DK_CMD_ALL then showDecks ((List.range 36).foldl handSpan s)
  else if getF s DK_CMD_SPAN < 36 then showDecks (handSpan s (getF s DK_CMD_SPAN))
  else event s DK_INT_CMD_REFUSED

/-- A span's handover ends: the deck that handed over presents NOM again (R327); a write of NOM that waited takes effect once no
handover is left (R311). -/
def endHandover (s : State) (n o : Nat) : State :=
  let s1 := { s with dk := { s.dk with handing := s.dk.handing.filter (fun e => decide (e.1 ≠ n)) } }
  let s2 := if getF s1 (causeFld n o) = 9 then setF (setF s1 (claimFld n o) (getF s1 DK_CTRL_NOM)) (causeFld n o) 0 else s1
  let s3 := showDecks (bump s2 (cDK_CNT 18))
  match s3.dk.nomPend with
  | some v => if s3.dk.handing = [] then applyNom { s3 with dk := { s3.dk with nomPend := none } } (getF s3 DK_CTRL_NOM) v else s3
  | none => s3

/-- A pier of a span in handover has switched (R327). -/
def pierSwitched (s : State) (n l : Nat) : State :=
  match s.dk.handing.find? (fun e => decide (e.1 = n)) with
  | none => s
  | some (_, (o, ps)) =>
    let rest := ps.filter (fun k => decide (k ≠ l))
    if rest = [] then endHandover s n o
    else { s with dk := { s.dk with handing := s.dk.handing.map (fun e => if e.1 = n then (n, (o, rest)) else e) } }

/-! ### Resynchronisation (R328, R329) -/

/-- The loop period of a span in force, in units of 100 ns (R262, R265). -/
def periodOf (s : State) (n : Nat) : Nat :=
  let p := cellGet (fun _ => 0) s.te.period n
  if p = 0 then getF s (TE_LOOP_PERIOD n) else p

/-- Whether D may be brought back into a span (R328). -/
def canResync (s : State) (n d : Nat) : Bool :=
  decide (getF s (stateFld n d) = 1) && healthy s n (1 - d) && flag s (runFld d) && ! spanParked s n && ! clamped s n

/-- A resynchronisation of D starts in a span (R328). -/
def startResync (s : State) (n d : Nat) : State :=
  armIn (setF s (stateFld n d) 2) (.copy n) (100 * periodOf s n)

/-- DK_CMD.RESYNC (R328). -/
def resync (s : State) : State :=
  let d := getF s DK_CMD_DECK
  let spans := if flag s DK_CMD_ALL then List.range 36 else (List.range 36).filter (fun n => decide (n = getF s DK_CMD_SPAN))
  let go := spans.filter (fun n => canResync s n d)
  let stuck := spans.any (fun n => decide (getF s (stateFld n d) = 1) && ! canResync s n d)
  let s1 := go.foldl (fun s n => startResync s n d) s
  if stuck ∨ go = [] then event (showDecks s1) DK_INT_CMD_REFUSED else showDecks s1

/-- The deck in a given DK_CLAIM state in a span, if one is. -/
def deckIn (s : State) (n st : Nat) : Option Nat :=
  if getF s (stateFld n 0) = st then some 0 else if getF s (stateFld n 1) = st then some 1 else none

/-- The period of the copy ends (R328): loop records and history are those of the healthy deck, as are the staged registers, STAGED bits
and requested codes; D enters PROBATION. -/
def execResyncCopyEnd (n : Span) (s : State) : Out :=
  match deckIn s n 2 with
  | none => .next s
  | some d =>
    if due s (.copy n) then
      let h := 1 - d
      let s1 := wrBytes s (loopBase n d) (rdBytes s (loopBase n h) 0x8800)
      let one := fun (s : State) (l : Nat) =>
        setPath (wr (wr s (stagedWord n l d) (rd s (stagedWord n l h))) (liveWord n l d) (rd s (liveWord n l h))) (pierIx n l) d
          (pathOf s (pierIx n l) h)
      let s2 := (List.range 512).foldl one s1
      let s3 := { s2 with te := { s2.te with hist := cellPut (fun _ => 0) s2.te.hist (2 * n + d) (cellGet (fun _ => 0) s2.te.hist (2 * n + h)) } }
      .next (armIn (disarm (setF s3 (stateFld n d) 3) (.copy n)) (.probation n) (100 * periodOf s n * getF s DK_TIMING_PROBATION))
    else .next s

/-- The open contained faults of a pattern are cleared (R454). -/
def clearOpenWhere (s : State) (p : Nat → Nat → Bool) : State :=
  (List.range 16).foldl (fun s i =>
    if flag s (FC_OPEN_w3_VALID i) ∧ p (getF s (FC_OPEN_w0_MSG_LO i)) (getF s (FC_OPEN_w1_MSG_HI i)) then
      let s1 := setF s (FC_OPEN_w3_VALID i) 0
      { s1 with fc := { s1.fc with windows := s1.fc.windows.filter (fun e => decide (e.1 ≠ i)) } }
    else s) s

/-- The message an open DK_MISMATCH of a span and deck carries (R465). -/
def mismatchMsg (n d : Nat) : Nat := (faultMsg (trussSource n d) 0x21 clsContained (decide (d = 1)) (n + 2 ^ 8 * 10)).toNat

/-- PROBATION periods have passed without a difference (R329): D is healthy again, as the standby deck, and an open DK_MISMATCH of that deck
and span is cleared (R320). -/
def execProbationEnd (n : Span) (s : State) : Out :=
  match deckIn s n 3 with
  | none => .next s
  | some d =>
    if due s (.probation n) then
      let s1 := setF (setF (setF s (stateFld n d) 0) (claimFld n d) (getF s DK_CTRL_NOM)) (causeFld n d) 0
      let s2 := setFailed (bump (event (disarm s1 (.probation n)) DK_INT_RESYNC_DONE) (cDK_CNT 15)) n d 0
      let m := mismatchMsg n d
      .next (showDecks (clearOpenWhere s2 (fun lo hi => decide (lo + 2 ^ 32 * hi = m))))
    else .next s

/-- A park request or a fatal fault abandons the resynchronisations of a span (R329). -/
def abandonResync (s : State) (n : Nat) : State :=
  let one := fun (s : State) (d : Nat) =>
    if getF s (stateFld n d) = 2 ∨ getF s (stateFld n d) = 3 then setF s (stateFld n d) 1 else s
  disarm (disarm ([0, 1].foldl one s) (.copy n)) (.probation n)

/-- Whether an address is the PR_OUT of a pier. -/
def isPierOut (a : Nat) : Bool :=
  decide (0x40000000 ≤ a ∧ a < 0x64000000 ∧ 0x10000 ≤ a % 0x1000000 ∧ a % 0x1000000 < 0x14000 ∧ a % 32 = 24)

/-- Every abutment connects Deck A, as at the start of each epoch (R313). -/
def connectDeckA (s : State) : State :=
  s.regs.foldl (fun t e => if isPierOut e.1 then wr t e.1 (withBits e.2 28 28 0) else t) s

end Sys2Proof.Machine
end

