-- ==== Sys2Proof/Machine/Drive.lean ====
section
/-!
DEFINITION. Machine/Drive.lean: the update strobes of a pier (R234, R235, R247, R312), forced parking (R245), the end of a
ramp (R243, R244), the refresh pass (R224, R225, R227), the power map (R226) and the measured heater rail (R229).
-/
namespace Sys2Proof.Machine

/-! ### Strobes -/

/-- One step of a slew limiter (R235). -/
def slewStep (req out step : Nat) : Nat :=
  ((out : Int) + min (max ((req : Int) - (out : Int)) (-(step : Int))) (step : Int)).toNat

/-- The deck that the rule connects at a pier (R312): the higher claim, on equal claims the deck connected so far, never an excluded path. -/
def deckFor (s : State) (n l : Nat) : Nat :=
  let g := pierIx n l
  let c := getF s (PR_OUT_OWNER n l)
  if excluded s g c then 1 - c
  else if excluded s g (1 - c) = false ∧ claim s n c < claim s n (1 - c) then 1 - c else c

/-- The abutment chooses the deck it connects (R312); with both paths excluded it closes the pier's clamp. -/
def connectDeck (s : State) (n l : Nat) : State :=
  let g := pierIx n l
  if excluded s g 0 ∧ excluded s g 1 then setF (setF (setF s (PR_OUT_CLAMPED n l) 1) (PR_OUT_FAST n l) 0) (PR_OUT_TRIM n l) 0
  else setF (setF s (PR_OUT_CLAMPED n l) 0) (PR_OUT_OWNER n l) (deckFor s n l)

/-- PR_OUT takes the codes of the connected deck; under the freeze, the held pair (R321). A pre-emphasised code lies over them while it lasts (`drivenFast`). -/
def showOut (s : State) (n l : Nat) : State :=
  if flag s (PR_OUT_CLAMPED n l) then s
  else
    let o := getF s (PR_OUT_OWNER n l)
    let (f, t) := ((pierOf s (pierIx n l)).held).getD (getF s (liveF n l o), getF s (liveT n l o))
    setF (setF s (PR_OUT_FAST n l) f) (PR_OUT_TRIM n l) t

/-- One deck's fast code at a fast strobe: the slew limiter's step (R235). -/
def slewFast (s : State) (n l d : Nat) : State :=
  if (pierOf s (pierIx n l)).fastN % 2 ^ getF s (LZ_SLEW_F_RATE n) = 0 then
    setLiveF s n l d (slewStep (pathOf s (pierIx n l) d).reqF (getF s (liveF n l d)) (getF s (LZ_SLEW_F_STEP n)))
  else s

/-- One deck's trim code at a trim strobe (R235). -/
def slewTrim (s : State) (n l d : Nat) : State :=
  if (pierOf s (pierIx n l)).trimN % 2 ^ getF s (LZ_SLEW_T_RATE n) = 0 then
    setF s (liveT n l d) (slewStep (pathOf s (pierIx n l) d).reqT (getF s (liveT n l d)) (getF s (LZ_SLEW_T_STEP n)))
  else s

/-! ### The fast phase of a sweep (R305) -/

/-- A sweep of the span runs. -/
def swept (s : State) (n : Nat) : Bool := s.cal.sweep.any (fun e => decide (e.1 = n))

/-- The step of a sweep at an instant: each lasts one window of CAL_SWEEP.WIN modulator cycles. -/
def sweepStep (s : State) (n t : Nat) : Nat := (t - s.cal.sweepAt) / (10 * getF s (CAL_SWEEP_WIN n))

/-- The steps of one pass at a pier: 32 pu each, over D1 + 2,048 pu. -/
def sweepSpan (s : State) (n l : Nat) : Nat := ((getMI s (calRec n l) cD1 + 2048) / 32).toNat

/-- The fast phase at step `k`, measured from PHI_F0: up from -1,024, then back down. -/
def sweepDelta (s : State) (n l k : Nat) : Int :=
  let top := sweepSpan s n l
  32 * ((if k ≤ top then k else 2 * top + 1 - k : Nat) : Int) - 1024

/-- The fast codes of a swept pier at a strobe; its phase is converted where a step has begun since the strobe before. -/
def sweepCodes (s : State) (n l : Nat) : State :=
  let k := sweepStep s n s.elapsed
  let (c, s1) := fastCode s n l (sweepDelta s n l k) 0
  let s2 := if sweepStep s n (s.elapsed - 80) = k then s else s1
  setLiveF (setLiveF s2 n l 0 c) n l 1 c

/-- A deck's pre-emphasis at a pier is over. -/
def endBoost (s : State) (g d : Nat) : State := setPath s g d { pathOf s g d with boost := none }

/-- The fast codes of both decks at a fast strobe: a step to park through the deglitcher (R233, R244), a step of the ramp (R243), park, a sweep's phase
(R305), or the slew limiter. -/
def fastCodes (s : State) (n l : Nat) : State :=
  let g := pierIx n l
  let p := pierOf s g
  let park := getF s (PR_PARK_FAST n l)
  if p.step then
    let s1 := endBoost (endBoost (deglitch s n l) g 0) g 1
    setPier (setLiveF (setLiveF s1 n l 0 park) n l 1 park) g { pierOf s1 g with step := false }
  else if flag s (PR_OUT_PARKED n l) then
    match p.ramp with
    | some r =>
      if r.both ∧ r.doneF < r.countF then
        let c := rampCode r.startF park (r.doneF + 1) r.countF
        setPier (setLiveF (setLiveF s n l 0 c) n l 1 c) g { p with ramp := some { r with doneF := r.doneF + 1 } }
      else s
    | none => s
  else if swept s n then sweepCodes s n l
  else slewFast (slewFast s n l 0) n l 1

/-- The trim codes of both decks at a trim strobe; a sweep keeps them (R305). -/
def trimCodes (s : State) (n l : Nat) : State :=
  let g := pierIx n l
  let p := pierOf s g
  let park := getF s (PR_PARK_TRIM n l)
  if flag s (PR_OUT_PARKED n l) then
    match p.ramp with
    | some r =>
      if r.doneT < r.countT then
        setPier (setF (setF s (liveT n l 0) (rampCode r.startTA park (r.doneT + 1) r.countT)) (liveT n l 1)
          (rampCode r.startTB park (r.doneT + 1) r.countT)) g { p with ramp := some { r with doneT := r.doneT + 1 } }
      else s
    | none => s
  else if swept s n then s
  else slewTrim (slewTrim s n l 0) n l 1

/-- A fast update strobe at a pier (R234, R235, R312, R318). Under a closed clamp of R242 nothing is driven and nothing moves; the rule still chooses the
deck, so that a handover of a clamped span completes (R327). -/
def execFastUpdateStrobe (n : Span) (l : Local) (s : State) : Out :=
  let g := pierIx n l
  let count := fun (s : State) => setPier s g { pierOf s g with fastN := (pierOf s g).fastN + 1 }
  if clamped s n then
    let s1 := count s
    .next (pierSwitched (setF s1 (PR_OUT_OWNER n l) (deckFor s1 n l)) n l)
  else .next (pierSwitched (showOut (compareCodes (connectDeck (count (fastCodes s n l)) n l) n l false) n l) n l)

/-- A trim update strobe at a pier (R229, R235, R318). -/
def execTrimUpdateStrobe (n : Span) (l : Local) (s : State) : Out :=
  let g := pierIx n l
  let count := fun (s : State) => setPier s g { pierOf s g with trimN := (pierOf s g).trimN + 1 }
  if clamped s n then .next (count s)
  else .next (showOut (compareCodes (count (trimCodes s n l)) n l true) n l)

/-! ### Forced parking and the end of a ramp -/

/-- FORCE_PARK written 1 (R245): the pier parks as R244 states. -/
def forcePark (s : State) (n l : Nat) : State :=
  if clamped s n then s
  else if parkMoves s n l then armIn (setF (parkPier s n l) (LZ_STATUS_RAMPING n) 1) (.ramp n) (1000 * getF s (LZ_PARK_RAMP n))
  else parkPier s n l

/-- A pier leaves park: its codes go to what its loops ask for through the slew limiters, and the loops have no predecessor window
(R285). -/
def leavePark (s : State) (n l : Nat) : State :=
  let s1 := putM (putM s (loopRec n l 0) lPVALID 0) (loopRec n l 1) lPVALID 0
  setPier (setF (setF s1 (PR_OUT_PARKED n l) 0) (LZ_STATUS_PARKED n) 0) (pierIx n l)
    { pierOf s (pierIx n l) with step := false, ramp := none }

/-- Whether the loaded map names a pier. -/
def mapNames (s : State) (g : Nat) : Bool := match s.ks.map with | some m => decide (g ∈ mapPiers m) | none => false

/-- FORCE_PARK written 0 (R245): the pier returns to its loop's codes, unless the span itself is parked (R378) or no map names the pier, which then stays
at park (R359). -/
def releasePark (s : State) (n l : Nat) : State :=
  if clamped s n ∨ spanParked s n ∨ mapNames s (pierIx n l) = false then s else leavePark s n l

/-- In recovery mode, once no span is ramping to park, the clamps close; a Fault that led there ends in Ready (R415). -/
def recoveryClamps (s : State) : State :=
  if getF s NV_STATUS_STAGE = 6 ∧ (List.range 36).all (fun n => ! flag s (LZ_STATUS_RAMPING n)) then
    let s1 := closeClamps s
    if pstate s1 = 5 then enterState (setFlag s1 FC_STATUS_FATAL false) 2 else s1
  else s

/-- The ramp to park of a span completes (R243, R244). In recovery mode the clamps then close (R415). -/
def execParkRampEnd (n : Span) (s : State) : Out :=
  if due s (.ramp n) then .next (recoveryClamps (endRamp s n)) else .next s

/-! ### The refresh pass -/

/-- A correctable error in a word of the calibration memory (R219, R465). -/
def calCorrected (s : State) (n a : Nat) : State :=
  bump (raise s (0x200 + 4 * n) 0x01 clsCorrected false a) (cLZ_CNT n 8)

/-- An uncorrectable error in a record that a pass reads for a pier (R219). -/
def calUncorrectable (s : State) (n l : Nat) : State :=
  raise (bump (event s (LZ_INT_CAL_UE n)) (cLZ_CNT n 9)) (0x200 + 4 * n) 0x03 clsContained false (pierIx n l)

/-- Whether a pass met an uncorrectable error while it worked on a pier. -/
def upsetAt (fs : List CalUpset) (l : Nat) : Bool := fs.any (fun u => decide (u.pier.val = l) && u.uncorrectable)

/-- A pass meets the errors of the records it reads (R219). -/
def meetUpsets (s : State) (n : Nat) (fs : List CalUpset) : State :=
  fs.foldl (fun s u => if u.uncorrectable then calUncorrectable s n u.pier else calCorrected s n u.addr.toNat) s

/-- P9 of R225: the heater power of a pier, in units of 2^-9 mW. -/
def heaterPower (rh tc : Nat) : Nat := rh * tc * tc / 12800000

/-- One neighbour word's part of the crosstalk sum (R215, R225). -/
def neighbourTerm (s : State) (n d : Nat) (w : Word) : Int :=
  let xc := signed 16 (bitsOf w 31 16)
  let ref := bitsOf w 9 0
  if xc = 0 then 0
  else if bitsOf w 15 15 = 0 then xc * (heaterPower (getM s (calRec n (ref % 512)) cRH) (getF s (liveT n (ref % 512) d)) : Int)
  else xc * (rdMem s (spanRec n + 0x100 + 0x1000 * d + 4 * ref + 2) 2 : Int)

/-- X_i of R225. -/
def crosstalk (s : State) (n l d : Nat) : Int :=
  (((List.range 24).map (fun k => neighbourTerm s n d (memWord s (calRec n l + 0x200 + 4 * k)))).sum + 65536) / 131072

/-- The integer part of a deck's filtered power estimate of a region. -/
def powerMw (s : State) (d r : Nat) : Nat := cellGet (fun _ => 0) s.dr.power (64 * d + r) / 65536

/-- Σ K × P̃ of a span (R227). -/
def kernelSum (s : State) (n d : Nat) : Int :=
  ((List.range 48).map (fun r => signed 16 (rdMem s (spanRec n + 4 * r) 2) * (powerMw s d r : Int))).sum

/-- G_i of R227. -/
def powerTerm (s : State) (n l d : Nat) : Int := ((getM s (calRec n l) cPM_SCALE : Int) * kernelSum s n d + 262144) / 524288

/-- One pier of a refresh pass (R224): Φ_TFF := PHI_B - X - G; a record with an uncorrectable error leaves it unchanged. -/
def refreshPier (fs : List CalUpset) (n d : Nat) (s : State) (l : Nat) : State :=
  if upsetAt fs l then s
  else
    let (phi, s1) := phase18 s (getMI s (calRec n l) cPHI_B - crosstalk s n l d - powerTerm s n l d)
    putMI s1 (loopRec n l d) lPHI_TFF phi

/-- DRV_MW's exact value of R226 times 1,677,721,600,000, from a deck's live trim codes. -/
def driverPower (s : State) (n d : Nat) : Int :=
  ((List.range 512).map (fun l =>
    let tc := getF s (liveT n l d)
    let v : Int := ((409600 * getF s (LZ_VHTR_MV n) : Nat) : Int) - ((16 * getM s (calRec n l) cRH * tc : Nat) : Int)
    max 0 (v * ((16 * tc : Nat) : Int)))).sum

/-- A refresh pass of one deck in a span (R224), due every REFRESH_US where refresh passes run (R373). `late` says that it still ran when the next was due. -/
def execRefreshPass (n : Span) (d : Deck) (faults : List CalUpset) (late : Bool) (s : State) : Out :=
  let k := 2 * n.val + deckNum d
  let lastRun := cellGet (fun _ => 0) s.dr.refreshed k
  if loopsRun s ∧ flag s (LZ_CTRL_REFRESH_EN n) ∧ lastRun + 4000 * getF s (LZ_CTRL_REFRESH_US n) ≤ s.elapsed then
    let s1 := (List.range 512).foldl (refreshPier faults n (deckNum d)) (meetUpsets s n faults)
    let (mw, s2) := divFree s1 (driverPower s1 n (deckNum d)) 1677721600000
    let s3 := { s2 with dr := { s2.dr with refreshed := cellPut (fun _ => 0) s2.dr.refreshed k s2.elapsed,
                                           drvMw := cellPut (fun _ => 0) s2.dr.drvMw k (min mw.toNat 65535) } }
    let s4 := if deckNum d = 0 then setF s3 (LZ_PM_DRV_MW n) (min mw.toNat 65535) else s3
    let s5 := bump s4 (cLZ_CNT n (2 + deckNum d))
    .next (if late then event s5 (LZ_INT_REFRESH_LATE n) else s5)
  else .next s

/-! ### The power map (R226) -/

/-- Source 1 of R226: the piers of a span whose fast code has changed on a deck since the last update, in 1/512. -/
def movedPiers (s : State) (d r : Nat) : Nat := ((s.dr.moved.filter (fun k => decide (k % 2 = d ∧ k / 1024 = r)))).length

/-- Source 4 of R226: the digitizers of a span that count now, in 1/1,024: both of a pier in the lead-in of its window and in ratio mode, else the chosen
one (R255). -/
def openDigitizers (s : State) (r : Nat) : Nat :=
  ((List.range 512).map (fun l =>
    let m := monOf s (pierIx r l)
    if m.opened = false then 0 else if m.lead.isNone ∨ m.ratio then 2 else 1)).sum

/-- The activity of a source in a region over the last microsecond, 0 to 256. Sources 1 to 4 read 0 in a central region, reserved
sources everywhere. Sources 1 and 4 the model knows; the others it does not time, and the world supplies them (log entry 52). -/
def activityOf (s : State) (d : Nat) (as : List Activity) (r src : Nat) : Nat :=
  if src = 0 ∨ 10 < src ∨ (36 ≤ r ∧ src ≤ 4) then 0
  else if src = 1 then movedPiers s d r / 2
  else if src = 4 then openDigitizers s r / 4
  else match as.find? (fun x => decide ((src ≤ 4 → x.region.val = r) ∧ x.source.val = src)) with
    | some x => x.level
    | none => 0

/-- P_r of R226 in one deck's estimate. -/
def regionPower (s : State) (d r : Nat) (as : List Activity) : Nat :=
  let e := thermalRec + 32 * r
  let terms := (List.range 8).map (fun k => rdMem s (e + 4 + 2 * k) 2 * activityOf s d as r (rdMem s (e + 20 + k) 1) / 256)
  rdMem s e 2 + terms.sum + (if r < 36 then cellGet (fun _ => 0) s.dr.drvMw (2 * r + d) else 0)

/-- One region of one deck's estimate is filtered (R226). -/
def filterRegion (as : List Activity) (d : Nat) (s : State) (r : Nat) : State :=
  let old := cellGet (fun _ => 0) s.dr.power (64 * d + r)
  let tau := getM s (thermalRec + 32 * r) ⟨0, 19, 16⟩
  let (step, s1) := divFree s (((65536 * regionPower s d r as : Nat) : Int) - (old : Int)) (2 ^ tau)
  let new := ((old : Int) + step).toNat
  let s2 := { s1 with dr := { s1.dr with power := cellPut (fun _ => 0) s1.dr.power (64 * d + r) new } }
  if d = 0 ∧ r < 36 then setF s2 (LZ_PM_TILE_MW r) (min (new / 65536) 65535) else s2

/-- An error met in the device thermal record (R219): a corrected one is reported; one that cannot be corrected leaves the region's estimate as it is. -/
def meetThermal (s : State) (fs : List ThermalUpset) : State :=
  fs.foldl (fun s u => if u.uncorrectable then s else calCorrected s 0 u.addr.toNat) s

/-- The power map of both decks after one microsecond's activity (R226). -/
def execPowerMapUpdate (as : List Activity) (faults : List ThermalUpset) (s : State) : Out :=
  let bad := fun (r : Nat) => faults.any (fun u => decide (u.region.val = r) && u.uncorrectable)
  let s1 := meetThermal s faults
  let s2 := [0, 1].foldl (fun s d => (List.range 48).foldl (fun s r => if bad r then s else filterRegion as d s r) s) s1
  .next { s2 with dr := { s2.dr with moved := [] } }

/-- A span measures VHTR (R229). -/
def execVhtrMeasure (n : Span) (mv : BitVec 13) (s : State) : Out := .next (setF s (LZ_VHTR_MV n) mv.toNat)

end Sys2Proof.Machine
end

