-- ==== Sys2Proof/Machine/Truss.lean ====
section
/-!
DEFINITION. Machine/Truss.lean: monitor windows and sample records (R248 to R266), and the truss loops (R267 to R283) with the
extinction observations of R301.
-/
namespace Sys2Proof.Machine

/-- P0 of a span, in quarter-nanoseconds of `elapsed` (R262). -/
def p0Of (s : State) (n : Nat) : Nat := cellGet (fun _ => 0) s.te.p0 n

/-- WIN in effect for a pier, shortened to 40 × PERIOD cycles (R262). -/
def winLen (s : State) (n l : Nat) : Nat := min (getF s (TE_MON_WIN n l)) (40 * periodOf s n)

/-- The first loop window close t_k of a pier later than `t` (R262). -/
def nextClose (s : State) (n l t : Nat) : Nat :=
  let period := 400 * periodOf s n
  let base := p0Of s n + 400 * (l * periodOf s n / 512)
  if t < base then base else base + ((t - base) / period + 1) * period

/-- The window of a pier that is in progress at `t` by the loop's timing (R262, R266): its begin, its end, and whether it is the loop's. -/
def windowAt (s : State) (n l t : Nat) (cont : Bool) : Option (Nat × Nat × Bool) :=
  let len := 10 * winLen s n l
  let close := nextClose s n l t
  let j := if cont ∧ len ≠ 0 then (close - t - 1) / len else 0
  let stop := close - j * len
  if len ≤ stop ∧ stop - len ≤ t ∧ (j = 0 ∨ close ≤ stop - len + 400 * periodOf s n) then some (stop - len, stop, decide (j = 0)) else none

/-- The deck whose loop record stands for the pier where the monitors need one: the owner of the span (DEDUCED, log entry 18). -/
def monRec (s : State) (n l : Nat) : Nat := loopRec n l (owner s n)

/-- Whether a pier is in ratio mode (R270). -/
def ratioMode (s : State) (n l : Nat) : Bool := decide (getM s (monRec s n l) lMLIVE = 2)

/-! ### Opening (R251, R256, R257, R280) -/

/-- A gain exchange due after a change of MLIVE (R280). -/
def swapGains (s : State) (n l : Nat) : State :=
  setF (setF s (TE_MON_GAIN_A n l) (getF s (TE_MON_GAIN_B n l))) (TE_MON_GAIN_B n l) (getF s (TE_MON_GAIN_A n l))

/-- A monitor window begins: gain and filter changes take effect, with the SETTLE marks of R257; its mode and MONSEL are those of its begin (R253, R285). -/
def openWindow (s : State) (n l start stop : Nat) (isLoop : Bool) : State :=
  let g := pierIx n l
  let m := monOf s g
  let s1 := if m.swap then swapGains s n l else s
  let ga := getF s1 (TE_MON_GAIN_A n l)
  let gb := getF s1 (TE_MON_GAIN_B n l)
  let f := getF s1 (TE_FILT_FILT n)
  let changed := decide (ga ≠ m.gainA ∨ gb ≠ m.gainB)
  let s2 := if changed then bump s1 (cTE_CNT n 7) else s1
  setMon s2 g { m with opened := true, start := start, stop := stop, loop := isLoop, n := winLen s n l, gainA := ga, gainB := gb, filt := f,
                       ratio := ratioMode s n l, monsel := getF s (TE_MON_MONSEL n l), lead := none, settle := if changed ∨ f ≠ m.filt then 2 else m.settle, swap := false, cal := m.calHeld }

/-- MONITOR_WINDOW_OPEN: the window of the pier that is in progress now, if none is open, where the loops run (R373). -/
def execMonitorWindowOpen (n : Span) (l : Local) (s : State) : Out :=
  let m := monOf s (pierIx n l)
  if m.opened ∨ loopsRun s = false then .next s
  else match windowAt s n l s.elapsed m.cont with
    | some (a, b, k) => .next (openWindow s n l a b k)
    | none => .next s

/-! ### The diversity choice (R254, R255) -/

/-- A count above ⌊15 × m / 16⌋ is over-range (R250). -/
def overRange (count m : Nat) : Bool := decide (15 * m / 16 < count)

/-- TE_DARK.TH in pA. -/
def darkPa (s : State) (n : Nat) : Nat := 1000 * getF s (TE_DARK_TH n)

/-- The choice of R255 from the lead-in counts. -/
def chooseMonitor (s : State) (n l : Nat) (m : Mon) (ca cb : Nat) : Nat :=
  let k := leadIn m.n
  let ia := current ca m.gainA k
  let ib := current cb m.gainB k
  let usable := fun (i c : Nat) => decide (darkPa s n ≤ i) && ! overRange c k
  if m.ratio then 0
  else match m.monsel with
    | 1 => 0
    | 2 => 1
    | _ =>
      let ibc := ib * getM s (monRec s n l) lRRAT / 4096
      match usable ia ca, usable ib cb with
      | true, true => if ia < ibc then 0 else if ibc < ia then 1 else m.prevChoice
      | true, false => 0
      | false, true => 1
      | false, false => m.prevChoice

/-- DIVERSITY_CHOICE: the lead-in ends with these counts. -/
def execDiversityChoice (n : Span) (l : Local) (countA countB : BitVec 16) (s : State) : Out :=
  let g := pierIx n l
  let m := monOf s g
  if m.opened ∧ m.lead.isNone ∧ m.start + 10 * leadIn m.n ≤ s.elapsed then
    .next (setMon s g { m with lead := some (countA.toNat, countB.toNat), choice := chooseMonitor s n l m countA.toNat countB.toNat })
  else .next s

/-! ### The sample record (R253 to R260) -/

/-- What the close of a window makes known: the two record words, and what they say. -/
structure Sample where
  w0 : Word
  w1 : Word
  dark : Bool
  marked : Bool
  choice : Nat
  ratio : Bool
  overA : Bool
  overB : Bool
  deriving DecidableEq, Repr

/-- The chosen count is over-range. -/
def Sample.overChosen (x : Sample) : Bool := if x.choice = 0 then x.overA else x.overB

/-- Bit `b` at position `i` of a word. -/
def markBit (i : Nat) (b : Bool) : Nat := if b then 2 ^ i else 0

/-- The sample record of a window that closes with the lead-in counts `ca`, `cb` and the whole-window counts `fa`, `fb`. -/
def sampleOf (s : State) (n : Nat) (m : Mon) (ca cb fa fb : Nat) : Sample :=
  let k := leadIn m.n
  let ratio := m.ratio
  let fullA := ratio || decide (m.choice = 0)
  let fullB := ratio || decide (m.choice = 1)
  let a := if fullA then fa else ca
  let b := if fullB then fb else cb
  let overA := overRange a (if fullA then m.n else k)
  let overB := overRange b (if fullB then m.n else k)
  let settle := decide (0 < m.settle)
  let switched := ! m.first && decide (m.choice ≠ m.prevChoice)
  let stepMark := match m.release with
    | some t => decide (t ≤ m.stop ∧ m.start ≤ t + 4 * getF s (TE_OSETTLE_OSETTLE n))
    | none => false
  let dark := decide (current ca m.gainA k < darkPa s n ∧ current cb m.gainB k < darkPa s n)
  let w1 := m.choice % 2 + markBit 1 fullA + markBit 2 fullB + m.gainA % 4 * 2 ^ 3 + m.gainB % 4 * 2 ^ 5 + m.filt % 4 * 2 ^ 7
    + markBit 9 overA + markBit 10 overB + markBit 11 settle + markBit 12 switched + markBit 13 stepMark + markBit 14 dark
    + markBit 15 m.cal + m.n % 2 ^ 15 * 2 ^ 16 + markBit 31 ratio
  ⟨BitVec.ofNat 32 (a % 65536 + 65536 * (b % 65536)), BitVec.ofNat 32 w1, dark, settle || switched || stepMark || m.cal, m.choice, ratio, overA, overB⟩

/-- Counters of the marks of a record. -/
def countMarks (s : State) (n : Nat) (x : Sample) : State :=
  [(11, 2), (12, 3), (13, 4), (15, 5), (14, 6)].foldl (fun s e => if x.w1.getLsbD e.1 then bump s (cTE_CNT n e.2) else s) s

/-- One gain step of GAUTO (R256): the new gain from the count reported over `m` cycles. -/
def autoGain (gain count m : Nat) : Nat :=
  if overRange count m ∧ 0 < gain then gain - 1 else if count < m / 64 ∧ gain < 3 then gain + 1 else gain

/-- GAUTO at a loop window close (R256, R266): TE_MON takes the gains of the next window. A gain written while the window was open stands: it has not
been used yet, and takes effect at the next window's start. -/
def gainAutorange (s : State) (n l : Nat) (m : Mon) (x : Sample) : State :=
  if flag s (TE_MON_GAUTO n l) then
    let len := fun (full : Bool) => if full then m.n else leadIn m.n
    let step := fun (set used count k : Nat) => if set = used then autoGain used count k else set
    let ga := step (getF s (TE_MON_GAIN_A n l)) m.gainA (bitsOf x.w0 15 0) (len (x.w1.getLsbD 1))
    let gb := step (getF s (TE_MON_GAIN_B n l)) m.gainB (bitsOf x.w0 31 16) (len (x.w1.getLsbD 2))
    setF (setF s (TE_MON_GAIN_A n l) ga) (TE_MON_GAIN_B n l) gb
  else s

/-! ### The error (R271 to R274) -/

/-- F of R271 from a record's words and the chosen monitor; none where no current flows. -/
def fractionF (w0 w1 : Word) (choice rrat : Nat) : Option Nat :=
  let (a, b0) := recordCurrents w0 w1
  let b := b0 * rrat / 4096
  if a + b = 0 then none else some ((if choice = 0 then a else b) * 2 ^ 24 / (a + b))

/-- e of R272 from F of two windows: `pos` is σ_k = +1, `other` that the chosen monitor is that of the path not selected. -/
def barE (s : State) (n l : Nat) (f fprev : Nat) (pos other : Bool) : Int :=
  let df : Int := (if pos then 1 else -1) * ((f : Int) - (fprev : Int)) * (if other then 1 else -1)
  let d1 := getMI s (calRec n l) cD1
  let dd : Int := (getF s (TE_DITHER_D n) : Nat)
  (d1 * d1 * df * 6640 + dd * 2 ^ 39) / (dd * 2 ^ 40)

/-- e of R274 from the currents of both monitors, responsivity corrected. -/
def ratioE (s : State) (n l a ia ib : Nat) : Int :=
  let sum := ia + ib
  let lm := max 1 (min 4095 ((8192 * ia + sum) / (2 * sum)))
  (getMI s (calRec n l) cD1 * ((angle lm : Int) - (angle (getM s a lLLIVE) : Int)) + 2048) / 4096

/-- Whether the chosen monitor is that of the path that MLIVE does not select (R272). -/
def otherPath (s : State) (a choice : Nat) : Bool := decide (choice = (if getM s a lMLIVE = 0 then 1 else 0))

/-- σ of the V applied during the window: 0 none, 1 positive, 2 negative (R268). -/
def sigmaOf (v : Int) : Nat := if v = 0 then 0 else if 0 < v then 1 else 2

/-- The error of a bar or cross window (R272) against the record at `a`; `v` is the V applied during the window. -/
def barError (s : State) (n l a : Nat) (x : Sample) (v : Int) : Option Int :=
  let sg := sigmaOf v
  match fractionF x.w0 x.w1 x.choice (getM s a lRRAT) with
  | none => none
  | some f =>
    if x.marked ∨ x.dark ∨ x.overChosen ∨ getM s a lPVALID = 0 ∨ getM s a lMPREV ≠ x.choice ∨ sg = 0 ∨ getM s a lSPREV = 0 ∨ sg = getM s a lSPREV then none
    else some (barE s n l f (getM s a lFPREV) (decide (sg = 1)) (otherPath s a x.choice))

/-- The error of a ratio window (R274). -/
def ratioError (s : State) (n l a : Nat) (x : Sample) : Option Int :=
  let (ia, ib0) := recordCurrents x.w0 x.w1
  let ib := ib0 * getM s a lRRAT / 4096
  if x.marked ∨ x.dark ∨ x.overA ∨ x.overB ∨ ia + ib = 0 then none else some (ratioE s n l a ia ib)

/-! ### The update (R275 to R283) -/

/-- Whether the engines hold a pier: LMODE OFF, parked or ramping, TE_CTRL.EN 0, or a falling trim table (R275, R277). -/
def loopOff (s : State) (n l a : Nat) : Bool :=
  decide (getM s a lLMODE = 0 ∨ getM s a lLMODE = 3) || flag s (PR_OUT_PARKED n l) || ! flag s (TE_CTRL_EN n)
    || decide (pierIx n l ∈ s.te.falling)

/-- VN per R273: the dither alternates in AUTO, also while the pier is held at park; it is 0 where the pier is treated as OFF (DEDUCED, log
entry 19). -/
def nextV (s : State) (n l a : Nat) : Int :=
  if getM s a lLMODE = 2 ∧ flag s (TE_CTRL_EN n) ∧ pierIx n l ∉ s.te.falling ∧ getM s a lMLIVE ≠ 2 ∧ flag s (TE_CTRL_DITHER_EN n)
      ∧ getM s a lDARK = 0 then
    (if 0 < getMI s a lV then -(getF s (TE_DITHER_D n) : Int) else (getF s (TE_DITHER_D n) : Int))
  else 0

/-- A hold (R276). -/
def holdLoop (s : State) (n l a : Nat) : State := putMI (putM s a lEVALID 0) a lVN (nextV s n l a)

/-- Dark hold (R282). -/
def darkHold (s : State) (a : Nat) : State :=
  putM (putM (putM (putM (putM s a lEVALID 0) a lPVALID 0) a lVN 0) a lDARK 1) a lDARK_AGE (min (getM s a lDARK_AGE + 1) 65535)

/-- One deck's TE_INT bit. -/
def teInt (n d bit : Nat) : Fld := if d = 0 then ⟨aTE_INT_A n, bit, bit⟩ else ⟨aTE_INT_B n, bit, bit⟩

/-- The residual test of R283 on a scaled error. -/
def residTest (s : State) (n d a : Nat) (e : Int) : State :=
  if (getF s (TE_RESID_RLIM n) : Int) < (e.natAbs : Int) then
    let c := min (getM s a lRESCNT + 1) 255
    let s1 := putM s a lRESCNT c
    if getF s (TE_RESID_RCNT n) ≤ c then
      let s2 := if getM s1 a lRESID = 0 then bump s1 (cTE_CNT n (8 + d)) else s1
      event (putM s2 a lRESID 1) (teInt n d 0)
    else s1
  else putM (putM s a lRESCNT 0) a lRESID 0

/-- One update of the history (R267). -/
def history (s : State) (n l d : Nat) (x : Sample) (e : Int) : State :=
  let k := 2 * n + d
  let i := cellGet (fun _ => 0) s.te.hist k
  let h := loopBase n d + 0x8000 + 0x20 * i
  let a := loopRec n l d
  let s1 := putWord (putWord (putWord (putWord (putWord (putWord s h (BitVec.ofNat 32 l)) (h + 4) x.w0) (h + 8) x.w1)
    (h + 12) (memWord s (a + lINTEG.off))) (h + 16) (memWord s (a + lUN.off))) (h + 20) (BitVec.ofNat 32 (unsigned 18 e))
  { s1 with te := { s1.te with hist := cellPut (fun _ => 0) s1.te.hist k ((i + 1) % 64) } }

/-- An error scaled by the record's KSCALE (R275). -/
def scaledE (s : State) (a : Nat) (e0 : Int) : Int := e0 * (getM s a lKSCALE : Int) / 256

/-- A scaled error within ±ELIM (R275). -/
def limitedE (s : State) (n : Nat) (es : Int) : Int := clampInt (-(getF s (TE_LIMIT_ELIM n) : Int)) (getF s (TE_LIMIT_ELIM n) : Int) es

/-- ULIM of a span. -/
def ulimOf (s : State) (n : Nat) : Int := (getF s (TE_LIMIT_ULIM n) : Nat)

/-- The integrator after a step −KI × e, which LIM `lim` may stop (R275, R277). -/
def lawInteg (s : State) (n lim : Nat) (integ0 e : Int) : Int :=
  let raw := -(getF s (TE_GAIN_KI n) : Int) * e
  let step : Int := if (lim = 1 ∧ 0 < raw) ∨ (lim = 2 ∧ raw < 0) then 0 else raw
  clampInt (-ulimOf s n * 16384) (ulimOf s n * 16384) (integ0 + step)

/-- UN of R275 from the integrator, the error and the derivative term. -/
def lawOut (s : State) (n : Nat) (integ e dd : Int) : Int :=
  clampInt (-ulimOf s n) (ulimOf s n) ((integ - 64 * ((getF s (TE_GAIN_KP n) : Int) * e + dd) + 8192) / 16384)

/-- An update that computes an error (R275); `e0` is the error of R272 or R274. -/
def computedUpdate (s : State) (n l d a : Nat) (x : Sample) (e0 : Int) : State :=
  let es := scaledE s a e0
  let s0 := residTest s n d a es
  let e := limitedE s n es
  let integ0 : Int := if getM s0 a lPRESET = 1 then getMI s0 a lUMAN * 16384 + 64 * (getF s (TE_GAIN_KP n) : Int) * e else getMI s0 a lINTEG
  let integ := lawInteg s n (getM s0 a lLIM) integ0 e
  let dd : Int := if flag s (TE_CTRL_DEN n) ∧ getM s0 a lEVALID = 1 then (getF s (TE_KD_KD n) : Int) * (e - getMI s0 a lEPREV) else 0
  let un := lawOut s n integ e dd
  let ulim := ulimOf s n
  let (integW, sA) := fitInt s0 32 integ
  let (unW, sB) := fitInt sA 18 un
  let s1 := putMI (putM (putMI (putM (putMI sB a lINTEG integW) a lPRESET 0) a lUN unW) a lULIM (if un = ulim ∨ un = -ulim then 1 else 0)) a lEPREV e
  let s2 := if un = ulim ∨ un = -ulim then event s1 (teInt n d 1) else s1
  let s3 := putMI (putM s2 a lEVALID 1) a lVN (nextV s2 n l a)
  bump (history s3 n l d x e) (cTE_CNT n d)

/-- FPREV, SPREV, MPREV and PVALID are refreshed from a window neither marked nor DARK, and cleared for every other (R275). A
window over-range on its chosen count leaves FPREV unusable (R272; DEDUCED, log entry 19). -/
def refreshPrev (s : State) (a : Nat) (x : Sample) (v : Int) : State :=
  if x.marked ∨ x.dark then putM (putM (putM (putM s a lFPREV 0) a lSPREV 0) a lMPREV 0) a lPVALID 0
  else match fractionF x.w0 x.w1 x.choice (getM s a lRRAT) with
    | some f => putM (putM (putM (putM s a lFPREV f) a lSPREV (sigmaOf v)) a lMPREV x.choice) a lPVALID
        (if x.overChosen then 0 else 1)
    | none => putM s a lPVALID 0

/-- The codes formed at t_k + T from the U and V just applied (R263, R264): the trim code always, the fast code where V has changed. -/
def applyCodes (s : State) (n l d a : Nat) (vOld : Int) : State :=
  let g := pierIx n l
  let arg := getMI s a lPHI_TFF + getMI s a lU
  let vh := getF s (LZ_VHTR_MV n)
  let (t, s1) := trimCode s n l arg vh
  let s2 := if t.tl then bump (event s1 (LZ_INT_TRIM_LIMIT n)) (cLZ_CNT n 5) else s1
  let s3 := if d = getF s (PR_OUT_OWNER n l) then setFlag s2 (PR_OUT_TRIM_LIMIT n l) t.tl else s2
  let s4 := setPath (putM s3 a lLIM t.lim) g d { pathOf s3 g d with reqT := t.code, arg := arg, vh := vh }
  if getMI s a lV = vOld then s4
  else
    let (f, s5) := fastCode s4 n l (getMI s a lDLIVE) (getMI s a lV)
    setPath s5 g d { pathOf s5 g d with reqF := f }

/-- A pending write of loop fields reaches one deck's record before its update (R269); a change of LMODE to AUTO sets PRESET (R279). -/
def applyPcfg (s : State) (a : Nat) (w : Word × Word × Word × Word) : State :=
  let old := getM s a lLMODE
  let new := bitsOf w.1 1 0
  let s1 := putM s a lLMODE new
  let s2 := if new = 2 ∧ old ≠ 2 then putM s1 a lPRESET 1 else s1
  let s3 := putWord (putWord s2 (a + 0x20) w.2.1) (a + 0x24) w.2.2.1
  putM s3 a lKSCALE (bitsOf w.2.2.2 15 0)

/-- What waits for a pier's window close reaches one deck's record (R269): a write of loop fields, then the RRAT of a sweep. -/
def applyWaiting (s : State) (a : Nat) (m : Mon) : State :=
  let s1 := match m.write with | some w => applyPcfg s a w | none => s
  match m.rrat with | some r => putM s1 a lRRAT r | none => s1

/-- One deck's update of a pier at its loop window close (R275). In OFF and AUTO the engine first writes UMAN := U (R269), so that an integrator preset
continues from the last output (R279). -/
def deckUpdate (s : State) (n l d : Nat) (m : Mon) (x : Sample) : State :=
  let a := loopRec n l d
  let s0 := applyWaiting s a m
  let v0 := getMI s0 a lV
  -- UN and VN become U and V (R263), and the codes follow
  let s1 := applyCodes (putM (putM s0 a lU (getM s0 a lUN)) a lV (getM s0 a lVN)) n l d a v0
  let mode := if pierIx n l ∈ s.te.falling then 0 else getM s1 a lLMODE
  let sU := if mode = 1 then s1 else putM s1 a lUMAN (getM s1 a lU)
  let s2 := if x.dark then sU else putM (putM sU a lDARK 0) a lDARK_AGE 0
  let e := if x.ratio then ratioError s2 n l a x else barError s2 n l a x v0
  let s3 :=
    if mode = 1 then putM (putM (putM s2 a lUN (getM s2 a lUMAN)) a lVN (getM s2 a lVMAN)) a lEVALID 0
    else if loopOff s2 n l a then holdLoop s2 n l a
    else if x.dark then darkHold s2 a
    else if m.hold then holdLoop s2 n l a
    else match e with
      | none => holdLoop s2 n l a
      | some e => computedUpdate s2 n l d a x e
  refreshPrev s3 a x v0

/-- TE_STATUS_A or TE_STATUS_B as read: the engine runs, piers of the deck's records in dark hold and with RESID. -/
def engineWord (s : State) (n d : Nat) : Word :=
  let cnt := fun (f : MFld) => ((List.range 512).filter (fun l => decide (getM s (loopRec n l d) f = 1))).length
  let a := if d = 0 then aTE_STATUS_A n else aTE_STATUS_B n
  let w := withBits (withBits (rd s a) 10 1 (min (cnt lDARK) 1023)) 20 11 (min (cnt lRESID) 1023)
  withBits w 0 0 (getF s (TE_CTRL_EN n))

/-! ### Extinction observations (R301) -/

/-- The observations of a pier. -/
def extOf (s : State) (g : Nat) : Ext := cellGet (fun _ => Ext.init) s.te.ext g

/-- The state with a pier's observations replaced. -/
def setExt (s : State) (g : Nat) (x : Ext) : State := { s with te := { s.te with ext := cellPut (fun _ => Ext.init) s.te.ext g x } }

/-- After an update: a converged one counts, a hold leaves the count, any other computed one clears it; NCONV in a row give an observation where
both decks' U are equal. -/
def observe (s : State) (n l : Nat) : State :=
  let a := monRec s n l
  let g := pierIx n l
  let x := extOf s g
  if getM s a lMLIVE = 2 ∨ getM s a lLMODE ≠ 2 then (if x.conv = 0 then s else setExt s g { x with conv := 0 })
  else if getM s a lEVALID = 0 then s
  else
    let ok := decide ((getMI s a lEPREV).natAbs ≤ getF s (CAL_EXT_ECONV n) ∧ getM s a lRESID = 0 ∧ getM s a lULIM = 0 ∧ getM s a lLIM = 0)
    let c := if ok then x.conv + 1 else 0
    let u := getMI s a lU
    if getF s (CAL_EXT_NCONV n) ≤ c ∧ u = getMI s (loopRec n l 0) lU ∧ u = getMI s (loopRec n l 1) lU then
      setExt s g (if getM s a lMLIVE = 0 then { x with conv := c, u0 := some (u, s.elapsed) } else { x with conv := c, u1 := some (u, s.elapsed) })
    else setExt s g { x with conv := c }

/-! ### The close -/

/-- The period written takes effect at pier 0's window close, and every pier holds at its first update under it (R265). -/
def periodStep (s : State) (n l : Nat) : State :=
  if l = 0 ∧ periodOf s n ≠ getF s (TE_LOOP_PERIOD n) then
    let s1 := { s with te := { s.te with period := cellPut (fun _ => 0) s.te.period n (getF s (TE_LOOP_PERIOD n)) } }
    (List.range 512).foldl (fun s k => setMon s (pierIx n k) { monOf s (pierIx n k) with hold := true }) s1
  else s

/-- A chosen count is over-range at GAIN 0 (R285, R361); in ratio mode both counts are chosen. -/
def overAtZero (m : Mon) (x : Sample) : Bool :=
  ((x.ratio || decide (x.choice = 0)) && x.overA && decide (m.gainA = 0)) || ((x.ratio || decide (x.choice = 1)) && x.overB && decide (m.gainB = 0))

/-- What the loops make of the loop window of a pier (R275, R285, R314). TE_PSEL.PENDING falls with the last write of the span that waited. -/
def loopClose (s : State) (n l : Nat) (m : Mon) (x : Sample) : State :=
  let s1 := periodStep s n l
  let s2 := gainAutorange s1 n l m x
  let s3 := if overAtZero m x then bump (event (event s2 (teInt n 0 2)) (teInt n 1 2)) (cTE_CNT n 10) else s2
  let s4 := deckUpdate (deckUpdate s3 n l 0 m x) n l 1 m x
  let s5 := residDiffers (observe (residMoved s4 n l) n l) n l (getM s3 (loopRec n l 0) lRESID) (getM s3 (loopRec n l 1) lRESID)
  let others := (List.range 512).any (fun k => decide (k ≠ l) && (monOf s5 (pierIx n k)).write.isSome)
  if m.write.isSome ∧ others = false then setF s5 (TE_PSEL_PENDING n) 0 else s5

/-- MONITOR_WINDOW_CLOSE: a window closes with these whole-window counts (R253). The record goes to TE_SAMPLE, the sample bus and, for a loop
window, to both decks' loops. -/
def execMonitorWindowClose (n : Span) (l : Local) (countA countB : BitVec 16) (s : State) : Out :=
  let g := pierIx n l
  let m := monOf s g
  match m.opened, m.lead with
  | true, some (ca, cb) =>
    if m.stop ≤ s.elapsed then
      let x := sampleOf s n m ca cb countA.toNat countB.toNat
      let s1 := countMarks (wr (wr s (aTE_SAMPLE_w0 n l) x.w0) (aTE_SAMPLE_w1 n l) x.w1) n x
      let s2 := captureSample s1 g x.w0 x.w1 m.loop (getM s (monRec s n l) lRRAT)
      let s3 := if m.loop then loopClose s2 n l m x else s2
      let m3 := monOf s3 g
      let done := { m3 with opened := false, lead := none, prevChoice := m.choice, first := false, settle := m.settle - 1, cal := m.calHeld }
      .next (setMon s3 g (if m.loop then { done with write := none, rrat := none, cont := contWanted s g,
                                                     hold := decide (l = 0 ∧ periodOf s3 n ≠ periodOf s n), closedAt := s.elapsed }
        else done))
    else .next s
  | _, _ => .next s

/-! ### Releases and register commands -/

/-- The part of u that an integrator gives (R275). -/
def integU (integ : Int) : Int := (integ + 8192) / 16384

/-- A release strobe changes a pier's live code on a deck (R270, R280): class, level and state phase move, INTEG takes the step
feed-forward, and UN the change of u that goes with it, so that it appears at the next update, computed or held. In MANUAL u is UMAN, and stays
(DEDUCED, log entry 19). -/
def releaseRecord (s : State) (n l d : Nat) : State :=
  let a := loopRec n l d
  let dd := getMI s a lDSTG - getMI s a lDLIVE
  let integ := getMI s a lINTEG + getMI s a lSTEP_K * dd * 4
  let (v, s0) := fitInt s 32 integ
  let un := clampInt (-ulimOf s n) (ulimOf s n) (getMI s a lUN + integU v - integU (getMI s a lINTEG))
  let (unW, sA) := if v = getMI s a lINTEG ∨ getM s a lLMODE = 1 then (getMI s a lUN, s0) else fitInt s0 18 un
  let s1 := putMI (putMI sA a lINTEG v) a lUN unW
  putM (putM (putM s1 a lDLIVE (getM s a lDSTG)) a lMLIVE (getM s a lMSTG)) a lLLIVE (getM s a lLSTG)

/-- TE_PSEL.OP (R269): 1 loads a record into the registers, 2 queues a write for both decks. -/
def pselOp (s : State) (n op : Nat) : State :=
  let l := getF s (TE_PSEL_PIER n)
  let a := loopRec n l (getF s (TE_PSEL_DECK n))
  match op with
  | 1 =>
    let s1 := setF s (TE_PCFG0_LMODE n) (getM s a lLMODE)
    let s2 := wr (wr (setF s1 (TE_PCFG3_KSCALE n) (getM s a lKSCALE)) (aTE_PCFG1 n) (memWord s (a + 0x20))) (aTE_PCFG2 n) (memWord s (a + 0x24))
    let s3 := wr (wr s2 (aTE_PSTAT0 n) (memWord s (a + 0x04))) (aTE_PSTAT1 n) (memWord s (a + 0x00))
    setF (setF (setF (setF (setF s3 (TE_PSTAT2_EPREV n) (getM s a lEPREV)) (TE_PSTAT2_DARK n) (getM s a lDARK)) (TE_PSTAT2_LIM n) (getM s a lLIM))
      (TE_PSTAT2_RESID n) (getM s a lRESID)) (TE_PSTAT2_ULIM n) (getM s a lULIM)
  | 2 =>
    let w := (rd s (aTE_PCFG0 n), rd s (aTE_PCFG1 n), rd s (aTE_PCFG2 n), rd s (aTE_PCFG3 n))
    setF (setMon s (pierIx n l) { monOf s (pierIx n l) with write := some w, rrat := none }) (TE_PSEL_PENDING n) 1
  | _ => s

/-- A write to TE_LOOP keeps the period in force until pier 0's next close (R265). -/
def periodWritten (s : State) (n old : Nat) : State :=
  if cellGet (fun _ => 0) s.te.period n = 0 then { s with te := { s.te with period := cellPut (fun _ => 0) s.te.period n old } } else s

/-- A per-pier record was written (R277): a TT entry below its predecessor makes both decks treat the pier as OFF. -/
def ttWritten (s : State) (n l : Nat) : State :=
  let r := calRec n l
  let g := pierIx n l
  let falls := (List.range 127).any (fun i => decide (ttAt s r (i + 1) < ttAt s r i))
  if falls then
    event (event { s with te := { s.te with falling := g :: s.te.falling.filter (fun k => decide (k ≠ g)) } } (teInt n 0 3)) (teInt n 1 3)
  else { s with te := { s.te with falling := s.te.falling.filter (fun k => decide (k ≠ g)) } }

end Sys2Proof.Machine
end

