-- ==== Sys2Proof/Machine/Lift.lean ====
section
/-!
DEFINITION. Machine/Lift.lean: request passes (R222), the stage-ready test (R230, R238), window starts and the release strobe (R169, R171,
R231, R232), and the start, swap and stop of the lift schedule (R167, R172, R173).
-/
namespace Sys2Proof.Machine

/-! ### Request passes -/

/-- The targets a deck stages for a routed request. -/
def targetsFor (r : Routed) (d : Nat) : List (Nat × Nat) := (if d = 0 then r.a else r.b).getD []

/-- A pass of a span on a deck has run or been abandoned. -/
def passDone (r : Routed) (n d : Nat) : Bool := decide (2 * n + d ∈ r.done)

/-- The routed request is marked: its pass in a span on a deck is over. -/
def markDone (s : State) (id n d : Nat) : State :=
  { s with dr := { s.dr with routed := s.dr.routed.map (fun r => if r.id = id then { r with done := (2 * n + d) :: r.done } else r) } }

/-- One pier of a request pass (R222): the staged code of its target, and the class, level and state phase to release with it (R270). A record with
an uncorrectable error or without VALID makes the target act as HOLD (R219, R238). -/
def stagePier (fs : List CalUpset) (n d : Nat) (s : State) (e : Nat × Nat) : State :=
  let l := e.1 % 512
  if e.2 = tgtHold then s
  else
    let s0 := setF s (PR_TARGET_TARGET n l) e.2
    if upsetAt fs l then s0
    else if getM s0 (calRec n l) cVALID = 0 then bump (event s0 (LZ_INT_CAL_UE n)) (cLZ_CNT n 9)
    else
      let a := loopRec n l d
      let delta := deltaOf (getMI s0 (calRec n l) cD1) e.2
      let (c, s1) := fastCode s0 n l delta (getMI s0 a lV)
      let s2 := setF (setF s1 (stagedF n l d) c) (stagedBit n l d) 1
      let s3 := setPath s2 (pierIx n l) d { pathOf s2 (pierIx n l) d with stagedV := getMI s0 a lV }
      putM (putM (putMI s3 a lDSTG delta) a lMSTG (classOf e.2)) a lLSTG (tgtLvl e.2)

/-- The window the spans stage for: the earliest with routed requests. -/
def stagingWindow (s : State) : Option Nat := (s.dr.routed.map (fun r => r.tW)).min?

/-- REQUEST_PASS: the oldest routed request of the staging window that still waits for this span and deck runs its pass. Codes of a later window
are not staged before the earlier window's release (R29). -/
def execRequestPass (n : Span) (d : Deck) (faults : List CalUpset) (s : State) : Out :=
  match s.dr.routed.find? (fun r => ! passDone r n (deckNum d) && decide (some r.tW = stagingWindow s)) with
  | none => .next s
  | some r =>
    let ts := (targetsFor r (deckNum d)).filter (fun e => decide (e.1 / 512 = n.val))
    let s1 := ts.foldl (stagePier faults n (deckNum d)) (meetUpsets s n faults)
    .next (bump (markDone { s1 with dr := { s1.dr with stagedWin := some r.tW } } r.id n (deckNum d)) (cLZ_CNT n (deckNum d)))

/-! ### The stage-ready test -/

/-- Whether a deck is stage-ready in a span for window `t` (R230). -/
def stageReady (s : State) (n d t : Nat) : Bool := (s.dr.routed.filter (fun r => decide (r.tW = t))).all (fun r => passDone r n d)

/-- A late deck abandons its passes for the window in the span (R238). -/
def abandonPasses (s : State) (n d t : Nat) : State :=
  { s with dr := { s.dr with routed := s.dr.routed.map (fun r => if r.tW = t ∧ ! passDone r n d then { r with done := (2 * n + d) :: r.done } else r) } }

/-- One late deck (R238): cause 6 in the span. -/
def lateDeck (s : State) (n d t : Nat) : State :=
  lowerOne (abandonPasses s n d t) n d 6

/-- The stage-ready test of a span for window `t` (R230): a healthy deck that is not stage-ready yields the span; with both late the strobe is
withheld in every span and the fault is fatal (R238), and each deck's claim in the span is lowered (R314). -/
def stageTest (t : Nat) (s : State) (n : Nat) : State :=
  let late := fun (d : Nat) => healthy s n d && ! stageReady s n d t
  let seen := bump (event s (LZ_INT_NOT_READY n)) (cLZ_CNT n 7)
  if late 0 ∧ late 1 then
    let s1 := lateDeck (lateDeck seen n 0 t) n 1 t
    raise { s1 with dr := { s1.dr with withheld := some t } } (0x200 + 4 * n) 0x25 clsFatal false n
  else if late 0 then lateDeck seen n 0 t
  else if late 1 then lateDeck seen n 1 t
  else s

/-- STAGE_READY_TEST at t_W - 40 ns (R230). -/
def execStageReadyTest (n : Span) (s : State) : Out :=
  match stagingWindow s with
  | none => .next s
  | some t => if netNs s + 40 < t then .next s else .next (stageTest t s n)

/-! ### The release strobe -/

/-- E of R232. -/
def preEmphasis (gain ds dl : Nat) : Int :=
  (if dl < ds then 1 else if ds < dl then -1 else 0) * (((gain * (max ds dl - min ds dl) + 32) / 64 : Nat) : Int)

/-- One deck's live code of a pier is replaced by its staged code (R231, R232, R270, R280). A v that has changed since the code was staged enters through
the slew limiter (R238). -/
def releaseDeck (s : State) (n l d : Nat) : State :=
  let g := pierIx n l
  let ds := getF s (stagedF n l d)
  let dl := getF s (liveF n l d)
  let r := calRec n l
  let cycles := min (getM s r cPE_TIME) 8
  let pe := flag s (LZ_CTRL_PE_EN n) && decide (0 < cycles) && ! flag s (PR_CTRL_PE_DIS n l)
  let boost := if pe then some ((clampInt 0 16383 ((ds : Int) + preEmphasis (getM s r cPE_GAIN) ds dl)).toNat, s.elapsed + 5 * cycles) else none
  let s1 := setLiveF s n l d ds
  let s2 := if ds = dl then s1 else releaseRecord s1 n l d
  let a := loopRec n l d
  let (f, s3) := if getMI s2 a lV = (pathOf s2 g d).stagedV then (ds, s2) else fastCode s2 n l (getMI s2 a lDLIVE) (getMI s2 a lV)
  setPath s3 g d { pathOf s3 g d with reqF := f, boost := boost }

/-- A pier whose STAGED bit is set on the owner is released (R231). The other deck's live code follows its own staged code unless that deck is faulted
(R238). -/
def releasePier (s : State) (n l o : Nat) : State :=
  let g := pierIx n l
  let changed := decide (getF s (stagedF n l o) ≠ getF s (liveF n l o))
  let cls0 := getM s (loopRec n l o) lMLIVE
  let other := flag s (stagedBit n l (1 - o)) && decide (getF s (stateFld n (1 - o)) ≠ 1)
  let s1 := releaseDeck (deglitch s n l) n l o
  let s2 := if other then releaseDeck s1 n l (1 - o) else s1
  let s3 := if (pathOf s2 g o).boost.isSome then bump s2 (cLZ_CNT n 6) else s2
  let p := pierOf s3 g
  let s4 := setPier s3 g { p with held := p.held.map (fun h => (getF s3 (liveF n l o), h.2)) }
  if changed then
    let m := monOf s4 g
    let cls1 := getM s4 (loopRec n l o) lMLIVE
    let s5 := setMon s4 g { m with release := some s4.elapsed, swap := m.swap ^^ decide (cls0 + cls1 = 1) }
    captureRelease (setExt s5 g { extOf s5 g with conv := 0 }) g
  else s4

/-- The strobe at one pier: codes staged for its window (`own`) are released, or discarded at a parked pier (R238), and codes staged for another
stay staged (R29); the strobe count restarts; the abutment acts as at every fast strobe (R234, R312, R318). -/
def strobePier (own : Bool) (n o : Nat) (s : State) (l : Nat) : State :=
  let g := pierIx n l
  let s1 := if own = false ∨ flag s (PR_OUT_PARKED n l) then s else if flag s (stagedBit n l o) then releasePier s n l o else s
  let s1 := if own ∨ flag s (PR_OUT_PARKED n l) then discardStaged s1 n l else s1
  let s2 := setPier s1 g { pierOf s1 g with fastN := 1 }
  pierSwitched (showOut (compareCodes (connectDeck s2 n l) n l false) n l) n l

/-- The strobe in one span. A clamped span has nothing connected; its staged codes are discarded. -/
def strobeSpan (own : Bool) (s : State) (n : Nat) : State :=
  if clamped s n then (List.range 512).foldl (fun s l => discardStaged s n l) s
  else (List.range 512).foldl (strobePier own n (owner s n)) s

/-- Whether any pier has a code staged on the owner of its span. -/
def anyStaged (s : State) : Bool :=
  (List.range 36).any (fun n => (List.range 512).any (fun l => flag s (stagedBit n l (owner s n))))

/-- The release strobe of the full or delta window `t` (R231), carried by the trees that work; one failed tree is a corrected fault (R18). -/
def releaseStrobe (t : Nat) (s : State) (treeA treeB : Bool) : State :=
  let own := decide (s.dr.stagedWin = some t)
  let s0 := if treeA ∧ treeB then s else raise s 0x002 0x15 clsCorrected treeA 0
  if treeA ∨ treeB then
    let s1 := if own && anyStaged s0 then s0 else bump s0 (cLS_CNT 4)
    let s2 := (List.range 36).foldl (strobeSpan own) s1
    if own then { s2 with dr := { s2.dr with stagedWin := none } } else s2
  else s0

/-! ### Window starts -/

/-- Whether a window that starts at `t` occurs: not past a pending swap's or step's boundary (R160, R172). -/
def windowOccurs (s : State) (t : Nat) : Bool :=
  (match s.nt.swapAt with | some (b, _) => decide (t < b) | none => true)
    && (match s.nt.decision with | some d => decide (t < d.bound) | none => true)

/-- A request window in which no slot is booked at close_W is a gap from its start (R170): as SLOT_CLASSIFY noted it, and, before that row
has run, as the slots stand. -/
def gapFromStart (s : State) (t : Nat) : Bool :=
  if t ≤ s.ad.closed then ! s.ad.booked.any (fun x => decide (x = t)) else ! s.ad.slots.any (fun x => decide (x.tW = t))

/-- A transition of one step that begins now. -/
def moveNow (s : State) (m : Move) : Moving := ⟨m, 1, s.elapsed, s.elapsed⟩

/-- RUN falls: in Service, Service → Hold begins (R375); a start of the schedule that no window has followed yet is over. -/
def runOff (s : State) : State :=
  if flag s LS_CTRL_RUN then
    let moving := if pstate s = 4 then some (moveNow s .serviceHold) else s.pw.moving.filter (fun m => decide (m.move ≠ Move.holdService))
    setF { s with pw := { s.pw with moving := moving } } LS_CTRL_RUN 0
  else s

/-- RUN falls once nothing booked is left to start (R173; a lowered TARGET acts as EN = 0, R385). -/
def runFalls (s : State) (t : Nat) : State :=
  if (flag s LS_CTRL_EN = false ∨ getF s TH_PCTRL_TARGET ≠ 4) ∧ latestBooked s ≤ t then runOff s else s

/-- LIFT_WINDOW_START: the next entry begins (R164, R171). A full or delta window fires its release strobe (R169), unless the strobe is
withheld (R238). Stages 9 and 10 of its requests are over by then (R22): a deck that is still late in a span is taken as its stage-ready test takes it. -/
def execLiftWindowStart (treeA treeB : Bool) (s : State) : Out :=
  let t := s.nt.nextStart
  if flag s LS_CTRL_RUN ∧ t ≤ netNs s ∧ windowOccurs s t then
    let w : Win := ⟨lsBank s, t, s.nt.nextEntry⟩
    let cls := winClass s w
    let gap := decide (cls ≤ 1) && gapFromStart s t
    let s0 := if cls ≤ 1 then (List.range 36).foldl (stageTest t) s else s
    let s1 := captureWindow (setF (setF (bump s0 (cLS_CNT cls)) LS_STATUS_ENTRY w.entry) LS_STATUS_CLASS cls) w.entry cls
    let s2 := if cls ≤ 1 ∧ s0.dr.withheld ≠ some t then releaseStrobe t s1 treeA treeB else s1
    let s3 := { s2 with
      ad := { s2.ad with booked := s2.ad.booked.filter (fun x => decide (t < x)), inflight := s2.ad.inflight.map (fun (r : Request) => if r.tW = t ∧ r.phase = ReqPhase.staged then { r with phase := ReqPhase.released } else r) },
      dr := { s2.dr with routed := s2.dr.routed.filter (fun r => decide (t < r.tW)), withheld := none } }
    let w' := nextWin { s3 with nt := { s3.nt with swapAt := none } } w
    let s4 := { s3 with nt := { s3.nt with nextStart := w'.start, nextEntry := w'.entry, lastWin := some (t, w'.start, cls, gap) } }
    .next (runFalls s4 t)
  else .next s

/-! ### The schedule starts, swaps and stops -/

/-- Service is wanted: EN with TARGET Service, or bookings that stand, for which an EN or a TARGET lowered since takes effect later (R173, R385). -/
def serviceWanted (s : State) : Bool := (flag s LS_CTRL_EN && decide (getF s TH_PCTRL_TARGET = 4)) || decide (s.ad.inflight ≠ [])

/-- SCHEDULE_START (R167, R375): in Hold, with a valid bank and a valid time, the schedule starts at the first cycle boundary from now, where Service is
wanted. It waits for rails that are not good (R363, R385). -/
def execScheduleStart (s : State) : Out :=
  if serviceWanted s ∧ bankValid s (lsBank s) ∧ timeValid s ∧ flag s LS_CTRL_RUN = false ∧ flag s FC_STATUS_FATAL = false
      ∧ getF s TH_PSTATE_STATE = 3 ∧ s.pw.moving.isNone then
    if railsGood s 6 then
      let t := boundaryFrom s (lsBank s) (netNs s)
      let s1 := setF s LS_CTRL_RUN 1
      .next { s1 with nt := { s1.nt with winFrom := t, nextStart := t, nextEntry := 0, lastWin := none },
                      pw := { s1.pw with moving := some (moveNow s .holdService) } }
    else .next (railWait s)
  else .next s

/-- LS_CTRL.SWAP written 1 (R172): the inactive bank is checked and B and N are fixed. An active bank without a cycle has no boundary: B is
then a free value (log entry 2). -/
def swapWritten (s : State) : State :=
  if bankValid s (1 - lsBank s) = false then event s LS_CTRL_SWAP_ERR
  else if s.nt.swapAt.isSome then s
  else
    let t := max (netNs s) (latestBooked s) + 1
    let (b, s1) := if cycleOf s (lsBank s) = 0 then let (k, s1) := fresh s (2 ^ 30); (t + k, s1) else (boundaryFrom s (lsBank s) t, s)
    let n := boundaryFrom s1 (1 - lsBank s1) b
    let s2 := setF (setF (setFlag s1 LS_CTRL_SWAP_PEND true) LS_SWAP_S_SECONDS (b / 1000000000)) LS_SWAP_NS_NANOSECONDS (b % 1000000000)
    { s2 with nt := { s2.nt with swapAt := some (b, n) } }

/-- SWAP_EXECUTE at B (R172). -/
def execSwapExecute (s : State) : Out :=
  match s.nt.swapAt with
  | some (b, n) => if b ≤ netNs s then .next (swapBanks s b n) else .next s
  | none => .next s

/-- EN written 0 (R173): with nothing booked to start, RUN falls at once. -/
def enCleared (s : State) : State := runFalls s (netNs s)

/-- A bank that a write may not change: the active one, and the one that becomes active at a pending swap (R172). -/
def bankHeld (s : State) (b : Nat) : Bool := decide (b = lsBank s) || s.nt.swapAt.isSome

/-- The schedule stops at once (R167, R456): no window starts. -/
def stopSchedule (s : State) : State := runOff s

end Sys2Proof.Machine
end

