-- ==== Sys2Proof/Machine/Sequence.lean ====
section
/-!
DEFINITION. Machine/Sequence.lean: the housekeeping converter's sequence (R429), its urgent requests (R430, R425), how long what it runs takes (R423, R429),
its switch of clock (R420), and the zones (R433).
-/
namespace Sys2Proof.Machine

/-! ### Entries -/

/-- A housekeeping entry as the model keeps it. -/
def hkEntryOf (s : State) (i : Nat) : HkEntry := cellGet (fun _ => HkEntry.init) s.th.entries i

/-- The entry replaced. -/
def setHkEntry (s : State) (i : Nat) (e : HkEntry) : State :=
  { s with th := { s.th with entries := cellPut (fun _ => HkEntry.init) s.th.entries i e } }

/-- An entry starts afresh (R434): its next valid result is taken as it is, and no test has counted. -/
def hkFresh (s : State) (i : Nat) : State := setHkEntry s i { HkEntry.init with last := (hkEntryOf s i).last }

/-- The inputs whose code is not reserved (R426). -/
def inputExists (i : Nat) : Bool := decide (i ≤ 11 ∨ (16 ≤ i ∧ i ≤ 22) ∨ i = 24 ∨ i = 25)

/-- An input outside the chip, where the open-wire check applies (R431). -/
def inputExternal (i : Nat) : Bool := decide (i ≤ 11)

/-- The last entry of the sequence whose INPUT is `z`. -/
def zoneEntry (s : State) (z : Nat) : Option Nat :=
  ((List.range (min 16 (getF s HK_CTRL_COUNT))).filter (fun i => decide (getF s (HK_ENTRY_w0_INPUT i) = z))).getLast?

/-- Zones 0 to 7 take the latest results of the entries that convert their diodes (R433). -/
def showZones (s : State) : State :=
  (List.range 8).foldl (fun s z =>
    match zoneEntry s z with
    | some i =>
      if flag s (HK_ENTRY_w7_VALID i) then
        setF (setF s (TH_ZONE_TEMP z) (getF s (HK_ENTRY_w5_VALUE i) % 4096)) (TH_ZONE_VALID z) 1
      else setF s (TH_ZONE_VALID z) 0
    | none => setF s (TH_ZONE_VALID z) 0) s

/-- An entry's result is invalid (R433, R434): its persistence counts begin again. -/
def invalidEntry (s : State) (i : Nat) : State := setHkEntry s i { hkEntryOf s i with hiN := 0, loN := 0, rateN := 0 }

/-- An entry with a reserved input gets its invalid result, without a conversion (R426). -/
def reservedEntry (s : State) (i : Nat) : State :=
  let s1 := setF (setF (setF (setF s (HK_ENTRY_w7_VALID i) 0) (HK_ENTRY_w7_OPEN i) 0) (HK_ENTRY_w7_SHORT i) 0) (HK_ENTRY_w7_OVER i) 0
  showZones (invalidEntry s1 i)

/-! ### Times (R423, R429) -/

/-- Conversions that an input takes (R426). -/
def conversionsOf (input : Nat) : Nat := if input ≤ 7 then 2 else 1

/-- A mains cycle in quarter-nanoseconds (R423). -/
def mainsCycle (s : State) : Nat := if flag s HK_CTRL_MAINS then 66668000 else 80000000

/-- How long an entry or an urgent conversion takes, in quarter-nanoseconds: the open-wire check, and the integrations where the input is not found open. On the RC oscillator
it may be 1 % less (R289, R423). -/
def conversionTime (s : State) (input ncyc : Nat) (owd opened : Bool) : Nat :=
  let check := owd && inputExternal input
  let t := (if check then 4000000 else 0) + (if check ∧ opened then 0 else conversionsOf input * (ncyc + 1) * mainsCycle s)
  if flag s TH_STATUS_CLK then t else t * 99 / 100

/-- What the converter runs begins now. -/
def beginConversion (s : State) : State := { s with th := { s.th with began := s.elapsed } }

/-! ### The sequence (R429) -/

/-- Whether a rail is required in the present state (R362). -/
def railRequired (s : State) (i : Nat) : Bool :=
  let rising : Bool := match s.pw.moving with | some m => decide (m.move = Move.readyHold) | none => false
  if i = 0 then decide (1 ≤ pstate s) || flag s TH_PSTATE_RETAINED
  else if i = 1 then decide (1 ≤ pstate s)
  else if i = 2 then decide (2 ≤ pstate s)
  else decide (3 ≤ pstate s) || rising

/-- BUSY follows whether an entry or an urgent conversion runs. -/
def showBusy (s : State) : State := setFlag s HK_STATUS_BUSY (s.th.cycling || s.th.urgent.isSome)

/-- A cycle ends: its duration is shown. -/
def endCycle (s : State) : State :=
  let began := match s.th.cycle with | some t => t | none => s.elapsed
  showBusy (setF (setF { s with th := { s.th with cycling := false } } HK_STATUS_CYCLE_MS (min 65535 ((s.elapsed - began) / 4000000))) HK_STATUS_ENTRY 0)

/-- Whether the sequence passes over an entry: in Sleep one without SLEEP, and a supply tap whose rail is not required (R429). -/
def entrySkipped (s : State) (i : Nat) : Bool :=
  let input := getF s (HK_ENTRY_w0_INPUT i)
  (decide (pstate s = 0) && ! flag s (HK_ENTRY_w0_SLEEP i)) || (decide (16 ≤ input ∧ input ≤ 21) && ! railRequired s (input - 16))

/-- The sequence goes on with entry `i` or the first after it that converts; entries with a reserved input get their invalid result in passing
(R426). -/
def seekEntry (s : State) : Nat → Nat → State
  | 0, _ => endCycle s
  | fuel + 1, i =>
    if getF s HK_CTRL_COUNT ≤ i ∨ 16 ≤ i ∨ flag s HK_CTRL_EN = false then endCycle s
    else if entrySkipped s i then seekEntry s fuel (i + 1)
    else if inputExists (getF s (HK_ENTRY_w0_INPUT i)) = false then seekEntry (reservedEntry s i) fuel (i + 1)
    else showBusy (beginConversion (setF s HK_STATUS_ENTRY i))

/-! ### Urgent requests (R430, R425) -/

/-- The running conversion is aborted: its entry will restart from its beginning. -/
def abortConversion (s : State) : State := if flag s HK_STATUS_BUSY then bump (beginConversion s) (cHK_CNT 2) else s

/-- An urgent request begins, or is refused while one is pending or running. -/
def requestUrgent (s : State) (u : Urgent) : State :=
  if s.th.urgent.isSome then event s TH_INT_URG_BUSY
  else
    let s1 := setFlag (setFlag (beginConversion (abortConversion s)) HK_STATUS_BUSY true) HK_STATUS_URGENT true
    { s1 with th := { s1.th with urgent := some u } }

/-- HK_URG.GO written 1. -/
def urgentWritten (s : State) : State :=
  requestUrgent s ⟨getF s HK_URG_INPUT, getF s HK_URG_GAIN, getF s HK_URG_NCYC, flag s HK_URG_OWD, false⟩

/-- Calibration's next conversion, when no urgent request stands (R425); it integrates for one mains cycle (log entry 34). -/
def nextCalConversion (s : State) : State :=
  match s.th.calQueue, s.th.urgent with
  | (i, g) :: rest, none => requestUrgent { s with th := { s.th with calQueue := rest } } ⟨i, g, 0, false, true⟩
  | _, _ => s

/-- OFS calibration begins on the housekeeping ADC (R425, R430): ZERO and REF at each gain, as urgent requests. -/
def calibrateHk (s : State) : State :=
  if s.th.calQueue = [] then nextCalConversion { s with th := { s.th with calQueue := (List.range 4).flatMap (fun g => [(24, g), (25, g)]) } }
  else s

/-! ### The clock and Sleep (R420, R429) -/

/-- The Tollhouse's clock switches: the running conversion is aborted and restarts (R420). -/
def switchClock (s : State) (crystal : Bool) : State :=
  abortConversion (setFlag (setFlag s TH_STATUS_XTAL_VALID crystal) TH_STATUS_CLK crystal)

/-- Sleep is entered with the crystal stopped (R420); where the entry that runs is none of Sleep's, the sequence goes on behind it (R429). -/
def sleepClock (s : State) : State :=
  let s1 := if flag s TH_STATUS_CLK ∨ flag s TH_STATUS_XTAL_VALID then switchClock s false else s
  if s1.th.cycling ∧ entrySkipped s1 (getF s1 HK_STATUS_ENTRY) then
    let s2 := seekEntry s1 17 (getF s1 HK_STATUS_ENTRY + 1)
    { s2 with th := { s2.th with began := if s1.th.urgent.isSome then s1.th.began else s2.th.began } }
  else s1

end Sys2Proof.Machine
end

