-- ==== Sys2Proof/Machine/Cal.lean ====
section
/-!
DEFINITION. Machine/Cal.lean: calibration (R286 to R310): triggers, steps and runs, offset trims, extinction tracking and sweeps, and when a
calibration record is due to be written.
-/
namespace Sys2Proof.Machine

/-- A span's sequencer. -/
def seqOf (s : State) (n : Nat) : CalSeq := cellGet (fun _ => CalSeq.init) s.cal.seqs n

/-- CAL_SPAN_STATUS and CAL_DUE show the sequencer (R297). -/
def showSeq (s : State) (n : Nat) (q : CalSeq) : State :=
  let dueBits := markBit 0 q.ofs.isSome + markBit 1 q.mon.isSome + markBit 2 q.ext.isSome
  let place := fun (r : Option CalRun) => match r with
    | some ⟨.compare l :: _, _⟩ => l
    | some ⟨.reference l :: _, _⟩ => l
    | some ⟨.digitizer i :: _, _⟩ => 64 * (i / 2)
    | some ⟨.extinction i :: _, _⟩ => 64 * i
    | _ => 0
  let next := if q.ofs.isSome then place q.ofs else if q.mon.isSome then place q.mon else place q.ext
  let s1 := setF (setFlag (setF s (CAL_SPAN_STATUS_DUE n) dueBits) (CAL_SPAN_STATUS_STEP n) q.running.isSome) (CAL_SPAN_STATUS_PIER n) next
  setFlag s1 (if n < 32 then ⟨aCAL_DUE_LO, n, n⟩ else ⟨aCAL_DUE_HI, n - 32, n - 32⟩) (decide (dueBits ≠ 0))

/-- The state with a span's sequencer replaced. -/
def setSeq (s : State) (n : Nat) (q : CalSeq) : State :=
  showSeq { s with cal := { s.cal with seqs := cellPut (fun _ => CalSeq.init) s.cal.seqs n q } } n q

/-! ### Runs and their steps (R292, R295, R297) -/

/-- The steps of an OFS run: compares from pier 0 upward, then the digitizer steps. -/
def ofsSteps : List CalStep := (List.range 512).map CalStep.compare ++ (List.range 16).map CalStep.digitizer
/-- The steps of a MON run: one trim per filter code (R286). -/
def monSteps : List CalStep := (List.range 4).map CalStep.bandwidth
/-- The steps of one round of EXT evaluation. -/
def extSteps : List CalStep := (List.range 8).map CalStep.extinction

/-- Kinds of runs in the order of R307: 0 OFS, 1 MON, 2 EXT. -/
def runOf (q : CalSeq) (k : Nat) : Option CalRun := if k = 0 then q.ofs else if k = 1 then q.mon else q.ext

/-- The sequencer with a kind's run replaced. -/
def withRun (q : CalSeq) (k : Nat) (r : Option CalRun) : CalSeq :=
  if k = 0 then { q with ofs := r } else if k = 1 then { q with mon := r } else { q with ext := r }

/-- All steps of a kind. -/
def stepsOf (k : Nat) : List CalStep := if k = 0 then ofsSteps else if k = 1 then monSteps else extSteps

/-- A kind's enable bit in CAL_CTRL. -/
def kindEn (s : State) (k : Nat) : Bool :=
  if k = 0 then flag s CAL_CTRL_OFS_EN else if k = 1 then flag s CAL_CTRL_MON_EN else flag s CAL_CTRL_TRACK_EN

/-- A run becomes due (R292); one that is due or suspended stays as it is. An EXT run ends SPAN_MS later (R303). -/
def trigger (s : State) (n k : Nat) : State :=
  let q := seqOf s n
  if (runOf q k).isSome then s
  else
    let s1 := setSeq s n (withRun q k (some ⟨stepsOf k, s.elapsed⟩))
    if k = 2 then armIn s1 (.extRun n) (1000000 * getF s (CAL_EXT2_SPAN_MS n)) else s1

/-! ### Temperatures (R291 to R293) -/

/-- The current temperature of a zone, if it is valid (R433). -/
def zoneTemp (s : State) (z : Nat) : Option Int := if flag s (TH_ZONE_VALID z) then some (tempOf (getF s (TH_ZONE_TEMP z))) else none

/-- A recorded temperature of a span and kind: of the span's zone, or of zone 8. With no run yet it is 0 (log entry 31). -/
def recorded (s : State) (n k : Nat) (core : Bool) : Int := cellGet (fun _ => 0) s.cal.temps (6 * n + 2 * k + (if core then 1 else 0))

/-- One recorded temperature and its CAL_ZTEMP. An invalid zone keeps what was recorded (R293). -/
def recordZone (s : State) (n k z : Nat) (core : Bool) : State :=
  match zoneTemp s z with
  | some t =>
    setF { s with cal := { s.cal with temps := cellPut (fun _ => 0) s.cal.temps (6 * n + 2 * k + (if core then 1 else 0)) t } }
      (CAL_ZTEMP_TEMP z) (unsigned 12 t)
  | none => event s CAL_INT_ZONE_ERR

/-- A run of a kind ends in a span: its zones' temperatures are recorded (R293). -/
def recordTemps (s : State) (n k : Nat) : State :=
  recordZone (recordZone s n k (getF s (CAL_SPAN_CFG_ZONE n)) false) n k 8 true

/-- A kind's run ends. -/
def endRun (s : State) (n k : Nat) : State :=
  let s1 := recordTemps (setSeq s n (withRun (seqOf s n) k none)) n k
  if k = 2 then disarm s1 (.extRun n) else s1

/-- The temperature a kind watches has moved by more than its delta (R292). -/
def moved (s : State) (n k : Nat) : Bool :=
  let z := if k = 2 then getF s (CAL_SPAN_CFG_ZONE n) else 8
  match zoneTemp s z with
  | some t => decide (getF s (if k = 2 then CAL_TEMP_DX else CAL_TEMP_DC) < (t - recorded s n k (decide (k ≠ 2))).natAbs)
  | none => false

/-- Zones have been measured (R292, R293): while the central island runs, each span's kinds are tested against their deltas. The housekeeping ADC is
measured with the device's OFS runs (R425). -/
def calTemps (s : State) : State :=
  if 2 ≤ pstate s then
    let s0 := if (List.range 9).any (fun z => (zoneTemp s z).isNone) then event s CAL_INT_ZONE_ERR else s
    if flag s0 CAL_CTRL_TEMP_EN then
      let one := fun (s : State) (e : Nat × Nat) =>
        if kindEn s e.2 ∧ moved s e.1 e.2 then trigger s e.1 e.2 else s
      let s1 := ((List.range 36).flatMap (fun n => (List.range 3).map (fun k => (n, k)))).foldl one s0
      let begun := (List.range 36).any (fun n => (seqOf s0 n).ofs.isNone && (seqOf s1 n).ofs.isSome)
      if begun then calibrateHk s1 else s1
    else s0
  else s

/-! ### Available time (R296) -/

/-- A request window that nothing books is a gap from its start once its close has passed, where GAPCAL is 1 (R170). -/
def isGap (s : State) (t : Nat) : Bool :=
  flag s LS_CTRL_GAPCAL && decide (closeOf s t ≤ (netNs s : Int)) && gapFromStart s t

/-- The first window after a step of the clock that is decided, in the old scale: N lies N - (B + Δ) after B (R160). -/
def windowAfterStep (s : State) (d : StepDecision) : Win :=
  let swapped : Bool := match s.nt.swapAt with | some (b, _) => decide (b ≤ d.bound) | none => false
  let bank := if swapped then 1 - lsBank s else lsBank s
  let landed := ((d.bound : Int) + d.delta).toNat
  ⟨bank, d.bound + (boundaryFrom s bank landed - landed), 0⟩

/-- The end of the available time from a window on; windows at or after `need` do not matter. From B to N of a decided step of the clock no window occurs,
and all of it is available. -/
def scanAvailable (s : State) (need : Nat) : Nat → Option StepDecision → Win → Nat
  | 0, _, w => w.start
  | fuel + 1, d, w =>
    match d.filter (fun d => decide (d.bound ≤ w.start)) with
    | some d => scanAvailable s need fuel none (windowAfterStep s d)
    | none =>
      if need ≤ w.start then w.start
      else match winClass s w with
        | 2 => scanAvailable s need fuel d (nextWin s w)
        | 3 => w.start
        | _ => if isGap s w.start then scanAvailable s need fuel d (nextWin s w) else w.start

/-- E of R296 where there is available time now, looked for as far as `need`. -/
def availableUntil (s : State) (need : Nat) : Option Nat :=
  if flag s LS_CTRL_RUN = false then some need
  else
    let e := scanAvailable s need 257 s.nt.decision ⟨lsBank s, s.nt.nextStart, s.nt.nextEntry⟩
    match s.nt.lastWin with
    | none => some e
    | some (a, b, cls, gap) =>
      if b ≤ netNs s then some e
      else if cls = 2 then some e
      else if cls = 3 then none
      else if flag s LS_CTRL_GAPCAL ∧ (gap ∨ a + getF s LS_GUARD_GUARD ≤ netNs s) then some e else none

/-- A step's worst case in ns (R295). A digitizer step follows DWIN, at 2.5 ns a cycle (DEDUCED, log entry 32). -/
def worstCase (s : State) (n : Nat) : CalStep → Nat
  | .compare _ => 600
  | .reference _ => 600
  | .digitizer _ => 400 + 5 * getF s (CAL_OFS_DWIN n) / 2
  | .bandwidth _ => 4800
  | .extinction _ => 2000

/-- A step of this worst case ends in time (R296). -/
def endsInTime (s : State) (worst : Nat) : Bool :=
  let need := netNs s + worst + getF s CAL_GUARD_END
  match availableUntil s need with
  | some e => decide (need ≤ e)
  | none => false

/-- Power-up calibration runs: step 1 of Ready → Hold (R376). -/
def powerUp (s : State) : Bool := match s.pw.moving with | some m => decide (m.move = Move.readyHold ∧ m.step = 1) | none => false

/-- Both decks' live codes at a pier are equal (R299). -/
def codesEqual (s : State) (n l : Nat) : Bool :=
  decide (getF s (liveF n l 0) = getF s (liveF n l 1) ∧ getF s (liveT n l 0) = getF s (liveT n l 1))

/-- Whether a step may start now (R296, R299). -/
def startable (s : State) (n : Nat) (x : CalStep) : Bool :=
  (match x with | .compare l => clamped s n || codesEqual s n l | _ => true) && (powerUp s || endsInTime s (worstCase s n x))

/-- The front ends a step holds: the piers of its windows' CAL marks (R295). A MON step's front end is a free value. -/
def heldPiers (s : State) (n : Nat) : CalStep → List Nat × State
  | .digitizer i => ((List.range 64).map (fun k => pierIx n (64 * (i / 2) + k)), s)
  | .bandwidth _ => let (l, s1) := fresh s 512; ([pierIx n l], s1)
  | _ => ([], s)

/-- Calibration holds or releases the front ends of piers. -/
def holdFronts (s : State) (b : Bool) (gs : List Nat) : State :=
  gs.foldl (fun s g => let m := monOf s g; setMon s g { m with calHeld := b, cal := m.cal || (b && m.opened) }) s

/-- Every front end of a span is released. -/
def releaseFronts (s : State) (n : Nat) : State := holdFronts s false ((List.range 512).map (pierIx n))

/-- The front ends of a span after a step: released, but a sweep of the span keeps them (R305). -/
def freeFronts (s : State) (n : Nat) : State := if swept s n then s else releaseFronts s n

/-- The first step of a run that may start: compares whose codes are unequal are passed over, and taken again once the other steps of the run have been
(R299; DEDUCED, log entry 32). -/
def firstStep (s : State) (n : Nat) : List CalStep → List CalStep → Option (CalStep × List CalStep)
  | [], _ => none
  | x :: rest, passed =>
    match x with
    | .compare l =>
      if clamped s n ∨ codesEqual s n l then (if startable s n x then some (x, rest ++ passed.reverse) else none)
      else firstStep s n rest (x :: passed)
    | _ => if startable s n x then some (x, rest ++ passed.reverse) else none

/-- The first kind and step that start in a span, in the order OFS, MON, EXT (R297). -/
def chooseStep (s : State) (n : Nat) : Option (Nat × CalStep × List CalStep) :=
  let try_ := fun (k : Nat) => match runOf (seqOf s n) k with
    | some r => if powerUp s ∨ kindEn s k then (firstStep s n r.steps []).map (fun (x : CalStep × List CalStep) => (k, x.1, x.2)) else none
    | none => none
  ((try_ 0).or (try_ 1)).or (try_ 2)

/-- Whether steps run in a span: in Hold and Service, and during power-up calibration while its clamp is closed (R294, R295). -/
def calRuns (s : State) (n : Nat) : Bool :=
  (decide (pstate s = 3 ∨ pstate s = 4) && ! swept s n && ! spanParked s n && ! clamped s n) || (powerUp s && clamped s n)

/-- CAL_STEP_START. -/
def execCalStepStart (n : Span) (s : State) : Out :=
  let q := seqOf s n
  if q.running.isNone ∧ calRuns s n then
    match chooseStep s n with
    | none => .next s
    | some (k, x, rest) =>
      let (gs, s1) := heldPiers s n x
      let deck := match x with | .compare l => getF s (PR_OUT_OWNER n l) | _ => 0
      .next (holdFronts (setSeq s1 n (withRun { q with running := some x, deck := deck } k (some ⟨rest, s.elapsed⟩))) true gs)
  else .next s

/-! ### Results (R288, R289) -/

/-- A result is accepted: it belongs to the record in progress (R306). -/
def accepted (s : State) : State :=
  if flag s CAL_STATUS_WRITING then { s with cal := { s.cal with newer := true } } else setFlag s CAL_STATUS_PENDING true

/-- An item's consecutive disagreements (R288). -/
def setRetry (s : State) (g item v : Nat) : State :=
  { s with cal := { s.cal with retry := cellPut (fun _ => 0) s.cal.retry (16 * g + item) v } }

/-- A class R disagreement on an item of a pier: after RETRY in a row the fault is raised and the count begins again (R288). -/
def disagree (s : State) (g item : Nat) : State :=
  let c := cellGet (fun _ => 0) s.cal.retry (16 * g + item) + 1
  let s1 := bump s (cCAL_CNT 4)
  if getF s CAL_CTRL_RETRY ≤ c then
    raise (event (setRetry s1 g item 0) CAL_INT_FAIL_R) (0x200 + 4 * (g / 512)) 0x30 clsCorrected false g
  else setRetry s1 g item c

/-- A class P rejection (R289). -/
def rejectP (s : State) (source address : Nat) : State :=
  raise (event (bump s (cCAL_CNT 5)) CAL_INT_FAIL_P) source 0x31 clsCorrected false address

/-- The value of two measurements that agree within a tolerance (R288). -/
def agreed (tol : Nat) (m : Int × Int) : Option Int := if (m.1 - m.2).natAbs ≤ tol then some ((m.1 + m.2 + 1) / 2) else none

/-- A deck's trim field of a channel: 0 DRVP, 1 DRVN, 2 TRM. -/
def trimFld (n l d c : Nat) : Fld := ⟨aCAL_OTRIM_w0 n l, 15 * d + 5 * c + 4, 15 * d + 5 * c⟩

/-- One channel of an OFS compare (R288, R300, R323): the trim is written, or kept on a disagreement. A needed trim outside ±15 steps excludes the
path; the result says so. -/
def trimChannel (n l d : Nat) (s : State) (e : Nat × (Int × Int)) : State × Bool :=
  let g := pierIx n l
  match agreed 1 e.2 with
  | none => (disagree s g (2 + 3 * d + e.1), false)
  | some v =>
    let s1 := setRetry s g (2 + 3 * d + e.1) 0
    if v.natAbs ≤ 15 then (accepted (setF s1 (trimFld n l d e.1) (unsigned 5 v)), false)
    else (excludePath s1 g d, true)

/-- A deck's path at a pier is compared. -/
def comparePath (s : State) (n l d : Nat) (t : PathTrims) : State × Bool :=
  [(0, t.drvp), (1, t.drvn), (2, t.trm)].foldl (fun (x : State × Bool) e => let r := trimChannel n l d x.1 e; (r.1, x.2 || r.2)) (s, false)

/-- An OFS compare ends (R299, R300): in service the non-connected deck's path; while the clamp is closed both paths. A path that has become connected keeps
its trims. A compare out of range is followed by a reference compare (R323). -/
def endCompare (s : State) (n l : Nat) (r : CalReading) : State :=
  let (s1, out) :=
    if clamped s n then
      let (sa, oa) := comparePath s n l 0 r.a
      let (sb, ob) := comparePath sa n l 1 r.b
      (sb, oa || ob)
    else if getF s (PR_OUT_OWNER n l) ≠ (seqOf s n).deck then (s, false)
    else if (seqOf s n).deck = 1 then comparePath s n l 0 r.a else comparePath s n l 1 r.b
  if out then
    let q := seqOf s1 n
    setSeq s1 n { q with ofs := q.ofs.map (fun x => { x with steps := .reference l :: x.steps }) }
  else s1

/-- One front end of a digitizer step: trim MA or MB, class R with 2 steps (R288). A trim outside its 5 bits has a free value. -/
def digitizerTrim (n i : Nat) (s : State) (e : Local × (Int × Int)) : State :=
  let l := e.1.val
  if l / 64 ≠ i / 2 then s
  else match agreed 2 e.2 with
    | none => disagree s (pierIx n l) (8 + i % 2)
    | some v =>
      let (w, s1) := fitInt (setRetry s (pierIx n l) (8 + i % 2) 0) 5 v
      accepted (setF s1 (if i % 2 = 0 then CAL_OTRIM_w1_MA n l else CAL_OTRIM_w1_MB n l) (unsigned 5 w))

/-- The EXT evaluation of a pier (R302). -/
def evaluate (n : Nat) (s : State) (l : Nat) : State :=
  let g := pierIx n l
  let e := extOf s g
  match e.u0, e.u1 with
  | some (u0, t0), some (u1, t1) =>
    if max t0 t1 - min t0 t1 ≤ 4000000 * getF s (CAL_EXT2_PAIR_MS n) ∧ e.candAt < max t0 t1 then
      let d1 := getMI s (calRec n l) cD1
      let c := d1 + u1 - u0
      match e.cand with
      | some c' =>
        if (c - c').natAbs ≤ getF s (CAL_EXT_TOL n) then
          let m := (c + c' + 1) / 2
          let s1 := setRetry (setExt s g { e with cand := none, candAt := s.elapsed }) g 0 0
          if 2048 ≤ m ∧ m ≤ 8191 then accepted (bump (putMI s1 (calRec n l) cD1 m) (cCAL_CNT 6)) else s1
        else disagree (setExt s g { e with cand := some c, candAt := s.elapsed }) g 0
      | none => setExt s g { e with cand := some c, candAt := s.elapsed }
    else s
  | _, _ => s

/-- What a step's end does (R288, R289, R299 to R302, R323). -/
def stepResult (s : State) (n : Nat) (x : CalStep) (r : CalReading) : State :=
  match x with
  | .compare l => endCompare s n l r
  | .reference l =>
    let s1 := if r.badA then excludePath s (pierIx n l) 0 else s
    if r.badB then excludePath s1 (pierIx n l) 1 else s1
  | .digitizer i => r.digitizers.foldl (digitizerTrim n i) s
  | .bandwidth f =>
    if 8 ≤ r.bandwidth.toNat ∧ r.bandwidth.toNat ≤ 247 ∧ r.within then
      accepted (setF s ⟨aCAL_BW n, 8 * f + 7, 8 * f⟩ r.bandwidth.toNat)
    else rejectP s (0x200 + 4 * n) 0x7FFF
  | .extinction i => ((List.range 64).map (fun k => 64 * i + k)).foldl (evaluate n) s

/-- The kind of a step, in the order of R307, and its code (R286). -/
def kindOf : CalStep → Nat × Nat
  | .compare _ => (0, 1)
  | .reference _ => (0, 1)
  | .digitizer _ => (0, 1)
  | .bandwidth _ => (1, 2)
  | .extinction _ => (2, 0)

/-- A run with no step left ends; an EXT run begins its next round until its time is up (R303). -/
def settleRun (s : State) (n k : Nat) : State :=
  match runOf (seqOf s n) k with
  | some r =>
    if k = 2 ∧ due s (.extRun n) then endRun s n 2
    else if r.steps ≠ [] then s
    else if k = 2 then setSeq s n (withRun (seqOf s n) 2 (some { r with steps := extSteps }))
    else endRun s n k
  | none => s

/-- CAL_STEP_END. -/
def execCalStepEnd (n : Span) (r : CalReading) (s : State) : Out :=
  let q := seqOf s n
  match q.running with
  | none => .next s
  | some x =>
    let s1 := bump (freeFronts (setSeq s n { q with running := none }) n) (cCAL_CNT (kindOf x).2)
    .next (settleRun (stepResult s1 n x r) n (kindOf x).1)

/-- EXT_RUN_END: the run ends SPAN_MS after its trigger, between two steps (R297, R303). -/
def execExtRunEnd (n : Span) (s : State) : Out :=
  let q := seqOf s n
  let busy : Bool := match q.running with | some (.extinction _) => true | _ => false
  if due s (.extRun n) ∧ q.ext.isSome ∧ busy = false then .next (endRun s n 2) else .next s

/-- CAL_STARVED: a run has waited 1 s without starting a step (R298). -/
def execCalStarved (n : Span) (s : State) : Out :=
  let q := seqOf s n
  let waits := (List.range 3).any (fun k => match runOf q k with | some r => decide (r.since + 4000000000 ≤ s.elapsed) | none => false)
  .next (if waits then event s CAL_INT_STARVED else s)

/-! ### Abandoning (R310) -/

/-- The step of a span is abandoned without a result; its run is suspended. The step is taken again. -/
def abandonStep (s : State) (n : Nat) : State :=
  let q := seqOf s n
  match q.running with
  | none => s
  | some x =>
    let k := (kindOf x).1
    releaseFronts (setSeq s n (withRun { q with running := none } k ((runOf q k).map (fun r => { r with steps := x :: r.steps })))) n

/-- A park request or a fatal fault: steps and a sweep are abandoned (R310). -/
def abandonCal (s : State) : State :=
  let s1 := (List.range 36).foldl abandonStep s
  match s1.cal.sweep with
  | some (n, _) => setFlag (releaseFronts { s1 with cal := { s1.cal with sweep := none } } n) CAL_STATUS_SWEEPING false
  | none => s1

/-- Thermal shutdown: runs end without results (R310). -/
def dropRuns (s : State) : State :=
  (List.range 36).foldl (fun s n => disarm (setSeq s n CalSeq.init) (.extRun n)) (abandonCal s)

/-! ### Power-up calibration (R292, R294) -/

/-- Power-up calibration begins in the clamped spans: every path and digitizer, and MON; observations are cleared. OFS and MON run only
where they are enabled. -/
def beginPowerUp (s : State) : State :=
  let one := fun (s : State) (n : Nat) =>
    let s1 := if flag s CAL_CTRL_OFS_EN then trigger s n 0 else s
    if flag s CAL_CTRL_MON_EN then trigger s1 n 1 else s1
  let s1 := (clampedSpans s).foldl one { s with te := { s.te with ext := [] } }
  if flag s CAL_CTRL_OFS_EN then calibrateHk s1 else s1

/-! ### Sweeps (R304, R305) -/

/-- A sweep of a span begins: front ends are held and every loop window carries CAL. -/
def beginSweep (s : State) (n : Nat) (rest : List Nat) : State :=
  holdFronts (setFlag { s with cal := { s.cal with sweep := some (n, rest), sweepAt := s.elapsed } } CAL_STATUS_SWEEPING true) true ((List.range 512).map (pierIx n))

/-- CAL_CMD.SWEEP written 1 (R304). A span beyond 35 is no span and is refused. -/
def sweepCommand (s : State) : State :=
  let spans := if flag s CAL_CMD_ALL then List.range 36 else [getF s CAL_CMD_SPAN]
  let ok := decide (pstate s = 3) && ! flag s LS_CTRL_RUN && decide (s.ad.inflight = []) && s.cal.sweep.isNone
    && spans.all (fun n => decide (n < 36))
  match spans with
  | n :: rest => if ok then beginSweep s n rest else event s CAL_CMD_REFUSED
  | [] => s

/-- One window of a sweep: I_A and I_B in pA, and I_B corrected for responsivity (R271). -/
structure SweepPoint where
  ia : Nat
  ib : Nat
  ibc : Nat
  deriving DecidableEq, Repr

/-- S of a window: I_A′ + I_B′. -/
def SweepPoint.sum (p : SweepPoint) : Nat := p.ia + p.ibc

/-- The windows of a pass, from the lowest phase up, from its counts. -/
def sweepPass (s : State) (n l : Nat) (counts : List (BitVec 16 × BitVec 16)) : List SweepPoint :=
  let m := getF s (CAL_SWEEP_WIN n)
  let rrat := getM s (monRec s n l) lRRAT
  counts.map (fun c =>
    let b := current c.2.toNat (getF s (TE_MON_GAIN_B n l)) m
    ⟨current c.1.toNat (getF s (TE_MON_GAIN_A n l)) m, b, b * rrat / 4096⟩)

/-- The first place at or after `from_` where a list is lowest. -/
def lowestFrom (from_ : Nat) (ys : List Rat) : Nat :=
  let least := fun (best : Nat) (i : Nat) => if ys.getD i 0 < ys.getD best 0 then i else best
  ((List.range ys.length).filter (fun i => decide (from_ ≤ i))).foldl least from_

/-- The vertex, in steps of 32 pu, of the parabola through a value and its two neighbours (R305); none without neighbours or where the three lie on a line. -/
def vertex (ys : List Rat) (k : Nat) : Option Rat :=
  if k = 0 ∨ ys.length ≤ k + 1 then none
  else
    let a := ys.getD (k - 1) 0
    let c := ys.getD (k + 1) 0
    let bend := a - 2 * ys.getD k 0 + c
    if bend = 0 then none else some ((k : Rat) + (a - c) / (2 * bend))

/-- What one pass gives: the places of the lowest I_B′/S and, in the half of the range at PHI_F0 + D1, of the lowest I_A′/S, with the vertices there. -/
structure PassResult where
  k0 : Nat
  k1 : Nat
  v0 : Option Rat
  v1 : Option Rat

/-- The vertices of a pass (R305). -/
def passResult (ps : List SweepPoint) : PassResult :=
  let yb := ps.map (fun p => (p.ibc : Rat) / (p.sum : Rat))
  let ya := ps.map (fun p => (p.ia : Rat) / (p.sum : Rat))
  let k0 := lowestFrom 0 yb
  let k1 := lowestFrom (ps.length / 2) ya
  ⟨k0, k1, vertex yb k0, vertex ya k1⟩

/-- A vertex as a phase; its rounding is open (log entry 2). -/
def vertexPhase (s : State) (base : Int) (v : Rat) : Int × State :=
  let q : Rat := (base : Rat) + 32 * v
  divFree s q.num q.den

/-- The phases of one result in both passes, where both passes have it. -/
def bothPhases (s : State) (base : Int) : Option Rat → Option Rat → Option (Int × Int) × State
  | some u, some d => let (a, s1) := vertexPhase s base u; let (b, s2) := vertexPhase s1 base d; (some (a, b), s2)
  | _, _ => (none, s)

/-- A class R phase of a sweep: stored where the two passes agree (R288). -/
def sweepResult (s : State) (n l item : Nat) (f : MFld) (m : Option (Int × Int)) : State :=
  match m.bind (agreed (getF s (CAL_EXT_TOL n))) with
  | some v => let (w, s1) := phase18 s v; accepted (setRetry (putMI s1 (calRec n l) f w) (pierIx n l) item 0)
  | none => disagree s (pierIx n l) item

/-- One pier of a sweep (R305): PHI_F0 and D1 by their two passes, RRAT by plausibility, to be written at the pier's next window close (R269). A ratio over no
current has a free value. S below 10 µA anywhere skips the pier. -/
def sweepPier (n : Nat) (s : State) (r : SweepReading) : State :=
  let l := r.pier.val
  let g := pierIx n l
  let up := sweepPass s n l r.up
  let down := (sweepPass s n l r.down).reverse
  let sums := (up ++ down).map SweepPoint.sum
  let low := sums.foldl min (sums.headD 0)
  let high := sums.foldl max 0
  if up = [] ∨ down = [] ∨ low < 10000000 then bump s (cCAL_CNT 7)
  else
    let pu := passResult up
    let pd := passResult down
    let base := getMI s (calRec n l) cPHI_F0 - 1024
    let u := getMI s (monRec s n l) lU
    let (m0, sA) := bothPhases s base pu.v0 pd.v0
    let (m1, sB) := bothPhases sA base pu.v1 pd.v1
    let d := m0.bind (fun x => m1.map (fun y => (y.1 - x.1, y.2 - x.2)))
    let s1 := sweepResult sB n l 1 cPHI_F0 (m0.map (fun x => (x.1 + u, x.2 + u)))
    let s2 := sweepResult s1 n l 0 cD1 d
    let ia := (up.getD pu.k0 ⟨0, 0, 0⟩).ia
    let ib := (up.getD pu.k1 ⟨0, 0, 0⟩).ib
    let (rrat, s3) := if ib = 0 then fresh s2 65536 else (4096 * ia / ib, s2)
    if 2048 ≤ rrat ∧ rrat ≤ 8192 ∧ 1000 * (high - low) ≤ high then
      accepted (setMon s3 g { monOf s3 g with rrat := some rrat })
    else rejectP s3 (0x200 + 4 * n) g

/-! ### When a record is written (R306) -/

/-- A record may start to be written: STORE_EN, a record in progress, none being written. -/
def canStore (s : State) : Bool := flag s CAL_CTRL_STORE_EN && flag s CAL_STATUS_PENDING && ! flag s CAL_STATUS_WRITING

/-- MIN_INT minutes have passed since the last write started. Where no write has started since VTH was applied, they have (log entry 33). -/
def storeDue (s : State) : Bool :=
  match s.cal.lastStart with
  | some t => decide (t + 240000000000 * getF s CAL_STORE_MIN_INT ≤ s.elapsed)
  | none => true

/-- The span entry of a record (R307). -/
def recordSpan (s : State) (n : Nat) : List Byte :=
  leBytes 4 (rd s (aCAL_BW n)).toNat
    ++ (List.range 6).flatMap (fun k => leBytes 2 (unsigned 16 (cellGet (fun _ => 0) s.cal.temps (6 * n + k)))) ++ List.replicate 48 0

/-- The pier entry of a record (R307). -/
def recordPier (s : State) (n l : Nat) : List Byte :=
  leBytes 4 (getM s (calRec n l) cPHI_F0) ++ leBytes 4 (getM s (calRec n l) cD1)
    ++ leBytes 4 (((monOf s (pierIx n l)).rrat).getD (getM s (loopRec n l (owner s n)) lRRAT) + 2 ^ 16 * getF s (CAL_OTRIM_w1_MA n l) + 2 ^ 21 * getF s (CAL_OTRIM_w1_MB n l))
    ++ leBytes 4 (rd s (aCAL_OTRIM_w0 n l)).toNat

/-- The body of a calibration record with a sequence number (R307). -/
def recordBytes (s : State) (seq : Nat) : List Byte :=
  let time := if getF s NT_STATE_SERVO = 0 then 0 else netSec s * 2 ^ 32 + netNano s
  let body := leBytes 4 0x4C414352 ++ leBytes 2 1 ++ leBytes 2 18432 ++ leBytes 4 seq ++ leBytes 4 297284
    ++ leBytes 8 time ++ leBytes 8 0 ++ (List.range 36).flatMap (recordSpan s)
    ++ (List.range 36).flatMap (fun n => (List.range 512).flatMap (recordPier s n))
    ++ (List.range 4).flatMap (fun g => leBytes 4 (rd s (aHK_CAL_w0 g)).toNat ++ leBytes 4 (rd s (aHK_CAL_w1 g)).toNat)
  body ++ leBytes 4 (crc32c body)

/-- The flash address of a calibration slot (R390). -/
def slotAddr (slot : Nat) : Nat := 0x01800000 + 0x80000 * slot

/-- The page size of the flash in bytes (R386). -/
def pageSize (s : State) : Nat := 2 ^ getF s NV_FLASH_PAGE

/-- The page programs that write a byte string at `a`: none crosses a page. -/
def programs (page : Nat) : Nat → Nat → List Byte → List FlashOp
  | 0, _, _ => []
  | fuel + 1, a, bs =>
    let k := page - a % page
    if bs = [] then [] else .program a (bs.take k) :: programs page fuel (a + k) (bs.drop k)

/-- The erases of a region: 64 KiB blocks where the flash offers them, else 4 KiB sectors (R386). -/
def erases (s : State) (a size : Nat) : List FlashOp :=
  if flag s NV_FLASH_ERASE64 then (List.range (size / 0x10000)).map (fun i => .erase (a + 0x10000 * i) 0x10000)
  else (List.range (size / 0x1000)).map (fun i => .erase (a + 0x1000 * i) 0x1000)

/-- A write starts (R306, R308): the job goes to the Tollhouse, for the slot that does not hold the newest valid record. Results accepted from now on belong
to the next record. -/
def startStore (s : State) : State :=
  if canStore s then
    let slot := if flag s CAL_STATUS_NOREC then 0 else 1 - getF s CAL_STATUS_SLOT
    let seq := (getF s CAL_SEQ_SEQ + 1) % 2 ^ 32
    let job : Job := ⟨.record, recordBytes s seq, slotAddr slot, false, []⟩
    setFlag { s with cal := { s.cal with newer := false, lastStart := some s.elapsed }, th := { s.th with jobs := s.th.jobs ++ [job] } }
      CAL_STATUS_WRITING true
  else s

/-- CAL_STORE_TIMER. -/
def execCalStoreTimer (s : State) : Out := .next (if storeDue s then startStore s else s)

/-- The end of power-up calibration (R306): at once where VTH has been applied since the last write or neither slot holds a valid record, else not before the
interval. -/
def storeAfterPowerUp (s : State) : State := if flag s CAL_STATUS_NOREC ∨ storeDue s then startStore s else s

/-- SWEEP_END of a span: results, and the piers return to their loops' codes with U kept; the next span follows, or the sweep ends and a write
starts (R305, R306). -/
def execSweepEnd (n : Span) (readings : List SweepReading) (s : State) : Out :=
  match s.cal.sweep with
  | none => .next s
  | some (m, rest) =>
    if m ≠ n.val then .next s
    else
      let s1 := recordTemps (releaseFronts (readings.foldl (sweepPier n) s) n) n 2
      match rest with
      | k :: more => .next (beginSweep s1 k more)
      | [] => .next (startStore (setFlag { s1 with cal := { s1.cal with sweep := none } } CAL_STATUS_SWEEPING false))

/-! ### Reading records back (R309) -/

/-- The bytes of a calibration slot in flash. -/
def slotBytes (s : State) (slot : Nat) : List Byte := flashBytes s (slotAddr slot) 297284

/-- A slot is valid (R309). -/
def slotValid (b : List Byte) : Bool :=
  decide (leAt b 0 4 = 0x4C414352 ∧ leAt b 4 2 = 1 ∧ leAt b 6 2 = 18432 ∧ leAt b 12 4 = 297284
    ∧ leAt b 297280 4 = crc32c (b.take 297280))

/-- Record a is newer than record b (R309). -/
def newerSeq (a b : Nat) : Bool :=
  let d := (a % 2 ^ 32 + 2 ^ 32 - b % 2 ^ 32) % 2 ^ 32
  decide (1 ≤ d ∧ d ≤ 2 ^ 31 - 1)

/-- The slot with the newest valid record. -/
def newestSlot (b0 b1 : List Byte) : Option Nat :=
  match slotValid b0, slotValid b1 with
  | true, true => some (if newerSeq (leAt b1 8 4) (leAt b0 8 4) then 1 else 0)
  | true, false => some 0
  | false, true => some 1
  | false, false => none

/-- A record's fields replace those of the image (R309). -/
def applyRecord (s : State) (b : List Byte) : State :=
  let span := fun (s : State) (n : Nat) =>
    let o := 32 + 64 * n
    let s1 := wr s (aCAL_BW n) (BitVec.ofNat 32 (leAt b o 4))
    (List.range 6).foldl (fun s k => { s with cal := { s.cal with
      temps := cellPut (fun _ => 0) s.cal.temps (6 * n + k) (signed 16 (leAt b (o + 4 + 2 * k) 2)) } }) s1
  let pier := fun (s : State) (g : Nat) =>
    let o := 2336 + 16 * g
    let n := g / 512
    let l := g % 512
    let w2 := leAt b (o + 8) 4
    let s1 := putM (putM s (calRec n l) cPHI_F0 (leAt b o 4)) (calRec n l) cD1 (leAt b (o + 4) 4)
    let s2 := putM (putM s1 (loopRec n l 0) lRRAT w2) (loopRec n l 1) lRRAT w2
    let s3 := setF (setF s2 (CAL_OTRIM_w1_MA n l) (w2 / 2 ^ 16)) (CAL_OTRIM_w1_MB n l) (w2 / 2 ^ 21)
    wr s3 (aCAL_OTRIM_w0 n l) (BitVec.ofNat 32 (leAt b (o + 12) 4 % 2 ^ 30))
  let gain := fun (s : State) (g : Nat) =>
    wr (wr s (aHK_CAL_w0 g) (BitVec.ofNat 32 (leAt b (297248 + 8 * g) 4))) (aHK_CAL_w1 g) (BitVec.ofNat 32 (leAt b (297252 + 8 * g) 4))
  (List.range 4).foldl gain ((List.range 18432).foldl pier ((List.range 36).foldl span s))

/-- The calibration slots are read at a start (R309). -/
def readSlots (s : State) : State :=
  let b0 := slotBytes s 0
  let b1 := slotBytes s 1
  let s1 := if slotValid b0 ∧ slotValid b1 then s else event s CAL_INT_SLOT_BAD
  match newestSlot b0 b1 with
  | none => setFlag s1 CAL_STATUS_NOREC true
  | some k =>
    let b := if k = 0 then b0 else b1
    applyRecord (setF (setF (setFlag s1 CAL_STATUS_NOREC false) CAL_STATUS_SLOT k) CAL_SEQ_SEQ (leAt b 8 4)) b

/-- A record write has completed (R308). -/
def recordWritten (s : State) : State :=
  let slot := if flag s CAL_STATUS_NOREC then 0 else 1 - getF s CAL_STATUS_SLOT
  let s1 := setF (setF (setFlag s CAL_STATUS_NOREC false) CAL_STATUS_SLOT slot) CAL_SEQ_SEQ (getF s CAL_SEQ_SEQ + 1)
  let s2 := event (setFlag (setFlag s1 CAL_STATUS_WRITING false) CAL_STATUS_PENDING s1.cal.newer) CAL_INT_REC_WRITTEN
  life (bump (bump { s2 with cal := { s2.cal with newer := false } } (cCAL_CNT 8)) (cTH_CNT 6)) 14

/-- A record write was abandoned: its results stay in progress. -/
def recordAbandoned (s : State) : State := setFlag s CAL_STATUS_WRITING false

end Sys2Proof.Machine
end

