-- ==== Sys2Proof/Machine/Faults.lean ====
section
/-!
DEFINITION. Machine/Faults.lean: the fault collector (R450 to R456), the end of in-flight requests at a fatal fault (R457), escalation and clearing (R453 to
R455), the quiet period (R463, R464) and ALIVE (R461).
-/
namespace Sys2Proof.Machine

/-! ### Recording (R450, R451) -/

/-- The low word of a message. -/
def msgLo (m : BitVec 64) : Nat := m.toNat % 2 ^ 32
/-- The high word of a message. -/
def msgHi (m : BitVec 64) : Nat := m.toNat / 2 ^ 32

/-- A message with another class. -/
def withClass (m : BitVec 64) (c : Nat) : BitVec 64 := BitVec.ofNat 64 (m.toNat % 2 ^ 20 + c % 4 * 2 ^ 20 + m.toNat / 2 ^ 22 * 2 ^ 22)

/-- A recorded message enters FC_LOG (R451): a repetition within 1 ms of the newest entry counts there. -/
def logFault (s : State) (m : BitVec 64) : State :=
  let next := getF s FC_LOG_PTR_NEXT
  let last := (next + 63) % 64
  let same := decide (getF s (FC_LOG_w0_MSG_LO last) = msgLo m ∧ getF s (FC_LOG_w1_MSG_HI last) = msgHi m
    ∧ (stamp s + (2 ^ 32 - (rd s (aFC_LOG_w2 last)).toNat)) % 2 ^ 32 ≤ 1000000)
  if same then setF s (FC_LOG_w3_REPEAT last) (min (getF s (FC_LOG_w3_REPEAT last) + 1) 65535)
  else
    let s1 := wr (wr (wr s (aFC_LOG_w0 next) (BitVec.ofNat 32 (msgLo m))) (aFC_LOG_w1 next) (BitVec.ofNat 32 (msgHi m)))
      (aFC_LOG_w2 next) (BitVec.ofNat 32 (stamp s))
    setF (wr s1 (aFC_LOG_w3 next) 0) FC_LOG_PTR_NEXT (next + 1)

/-- The counters of a message's class and kind (R451), and the lifetime counters of fatal and contained faults (R475). -/
def countFault (s : State) (m : BitVec 64) : State :=
  let s1 := bump (bump s (cFC_CNT (msgClass m - 1))) (cFC_CNT (16 + msgKind m))
  if msgClass m = 3 then life s1 7 else if msgClass m = 2 then life s1 8 else s1

/-- The event bit of a class. -/
def classInt (c : Nat) : Fld := if c = 1 then FC_INT_CORRECTED else if c = 2 then FC_INT_CONTAINED else FC_INT_FATAL

/-! ### Fatal faults (R456 to R460) -/

/-- Whether the condition of a fatal fault still holds (R465). -/
def conditionHolds (s : State) (m : BitVec 64) : Bool :=
  match msgKind m with
  | 0x40 => ! flag s (TH_PLL_LOCK 0)
  | 0x42 => ! flag s (TH_PLL_LOCK (3 + msgAddress m % 36))
  | 0x50 => ! railGood s 3
  | 0x51 => ! railGood s 2
  | _ => false

/-- The quiet period begins once every fatal condition has ended (R463). -/
def startQuiet (s : State) : State :=
  if s.fc.conditions = [] ∧ flag s FC_STATUS_FATAL ∧ flag s FC_STATUS_QUIET = false ∧ flag s FC_STATUS_RCV_BLOCKED = false then
    armIn (bump (setFlag s FC_STATUS_QUIET true) (cFC_CNT 4)) (.quiet) (1000000 * getF s FC_QUIET_MS)
  else s

/-- Fatal conditions are judged again. -/
def recheckConditions (s : State) : State :=
  startQuiet { s with fc := { s.fc with conditions := s.fc.conditions.filter (conditionHolds s) } }

/-- What a park request does beside the drives: resynchronisations and calibration steps are abandoned (R310, R329). -/
def parkRequest (s : State) : State := (List.range 36).foldl abandonResync (abandonCal (parkAll s))

/-- The reaction to a fatal fault (R456, R457): drives park, the schedule stops, requests due after t_f are discarded, state Fault. In Sleep and Standby, and
during a thermal shutdown, nothing but the record (R456, R466). -/
def fatalAction (s : State) (m : BitVec 64) : State :=
  if pstate s ≤ 1 ∨ flag s TH_STATUS_TSD_PEND then s
  else
    let tf := netNs s
    let s1 := discardRequests (stopSchedule (parkRequest s)) (fun r => decide (tf < r.deliver))
    let s2 := if flag s1 FC_STATUS_FATAL then s1
      else setF (setF (setFlag s1 FC_STATUS_FATAL true) FC_FATAL_LO_MSG (msgLo m)) FC_FATAL_HI_MSG (msgHi m)
    let s3 := { s2 with dr := { s2.dr with routed := [], withheld := none }, pw := { s2.pw with moving := none }, bt := { s2.bt with step := 0 },
                        fc := { s2.fc with conditions := s2.fc.conditions ++ [m] } }
    recheckConditions (enterState (disarm (setFlag s3 FC_STATUS_QUIET false) .quiet) 5)

/-- A fatal message is recorded and acted on. -/
def recordFatal (s : State) (m : BitVec 64) : State :=
  fatalAction (captureFault (event (countFault (logFault s m) m) FC_INT_FATAL)) m

/-! ### Contained faults (R453 to R455) -/

/-- An escalation is counted. -/
def countEscalation (s : State) : State := life (bump (event s FC_INT_ESCALATED) (cFC_CNT 3)) 9

/-- The first free slot of FC_OPEN. -/
def freeSlot (s : State) : Option Nat := (List.range 16).find? (fun i => ! flag s (FC_OPEN_w3_VALID i))

/-- A contained fault takes a slot for its escalation window; with all 16 occupied OPEN_FULL is recorded instead (R453). -/
def openFault (s : State) (m : BitVec 64) : State :=
  match freeSlot s with
  | some i =>
    let s1 := wr (wr (wr (wr s (aFC_OPEN_w0 i) (BitVec.ofNat 32 (msgLo m))) (aFC_OPEN_w1 i) (BitVec.ofNat 32 (msgHi m)))
      (aFC_OPEN_w2 i) (BitVec.ofNat 32 (stamp s))) (aFC_OPEN_w3 i) 0
    setF { s1 with fc := { s1.fc with windows := cellPut (fun _ => 0) s1.fc.windows i (s1.elapsed + 4000 * getF s FC_ESC_WINDOW) } }
      (FC_OPEN_w3_VALID i) 1
  | none => recordFatal (countEscalation s) (faultMsg 0x005 0x70 clsFatal false (msgKind m))

/-- A slot is freed. -/
def closeSlot (s : State) (i : Nat) : State :=
  { setF s (FC_OPEN_w3_VALID i) 0 with fc := { s.fc with windows := cellPut (fun _ => 0) s.fc.windows i 0 } }

/-- The collector records a message (R451, R453, R456). -/
def recordFault (s : State) (m : BitVec 64) : State :=
  if msgClass m = 3 then recordFatal s m
  else
    let s1 := event (countFault (logFault s m) m) (classInt (msgClass m))
    if msgClass m = 2 then openFault (captureFault s1) m else s1

/-- The collector's island runs: above Standby it needs the core PLL (R460). -/
def collectorRuns (s : State) : Bool := decide (pstate s ≤ 1) || flag s (TH_PLL_LOCK 0)

/-- The message of a queue that the collector takes: its oldest, but a fatal one without waiting for those before it (R450; DEDUCED, log entry 73). -/
def nextFault (q : List (BitVec 64)) : Option (BitVec 64) := (q.find? (fun m => decide (msgClass m = 3))).or q.head?

/-- FAULT_RECORD (R450, R451): a message of a source. -/
def execFaultRecord (src : SourceCode) (s : State) : Out :=
  match nextFault (queueOf s src) with
  | none => .next s
  | some m => if collectorRuns s then .next (recordFault (setQueue s src ((queueOf s src).erase m)) m) else .next s

/-- CORRECTED_DROP: a corrected message reaches its source's queue (R450): dropped where three wait. -/
def execCorrectedDrop (msg : BitVec 64) (s : State) : Out :=
  if msgClass msg = 1 then .next (report s msg) else .next s

/-- The deadline of an open slot has passed. -/
def windowOver (s : State) (i : Nat) : Bool := decide (cellGet (fun _ => 0) s.fc.windows i ≤ s.elapsed)

/-- The message of an open slot. -/
def slotMsg (s : State) (i : Nat) : BitVec 64 := BitVec.ofNat 64 (getF s (FC_OPEN_w0_MSG_LO i) + 2 ^ 32 * getF s (FC_OPEN_w1_MSG_HI i))

/-- ESCALATION (R455). -/
def execEscalation (slot : OpenSlot) (s : State) : Out :=
  if flag s (FC_OPEN_w3_VALID slot) ∧ windowOver s slot then
    .next (recordFatal (countEscalation (closeSlot s slot)) (withClass (slotMsg s slot) 3))
  else .next s

/-- FC_CLR (R454): the lead deck's cluster clears a slot; any other master is denied. An expiry in the same cycle comes first (R455). -/
def clearFault (s : State) (master i : Nat) : State :=
  if master ≠ lead s then bump (event s FC_INT_CLR_DENIED) (cFC_CNT 6)
  else if flag s (FC_OPEN_w3_VALID i) ∧ windowOver s i = false then closeSlot s i else s

/-! ### Recoveries and ALIVE -/

/-- The recoveries within the last 3,600 s of TH_UPTIME (R464). -/
def recentRecoveries (s : State) : List Nat :=
  s.fc.recoveries.filter (fun t => decide (getF s TH_UPTIME_SECONDS < t + 3600))

/-- Whether the device may recover at the end of a quiet period (R463, R464). -/
def mayRecover (s : State) : Bool :=
  flag s FC_CTRL_RCV_EN && decide (getF s FC_RCV_LIMIT = 0 ∨ (recentRecoveries s).length < getF s FC_RCV_LIMIT)

/-- The ALIVE pin (R461, R462): undriven, low, or a square wave of FREQ kHz. -/
inductive Alive where
  | undriven
  | low
  | toggling (khz : Nat)
  deriving DecidableEq, Repr

/-- The frequency of ALIVE's wave: FREQ, or until the next rising edge what it was before FREQ was written (R461). -/
def aliveFreq (s : State) : Nat :=
  match s.fc.alive with
  | some (f, t) => if s.elapsed < t then f else getF s FC_ALIVE_FREQ
  | none => getF s FC_ALIVE_FREQ

/-- What ALIVE shows. -/
def alive (s : State) : Alive :=
  if pstate s = 0 ∧ railGood s 1 = false then .undriven
  else if flag s NV_STATUS_FOOT_OK ∧ flag s (TH_PLL_LOCK 0) ∧ pstate s ≠ 5 ∧ 2 ≤ pstate s ∧ flag s TH_STATUS_TSD_PEND = false
      ∧ getF s NV_STATUS_STAGE ≠ 6 ∧ s.pw.rstLow = false then .toggling (aliveFreq s)
  else .low

/-- FC_ALIVE written (R461): a wave that toggles keeps its frequency up to its next rising edge, which comes within one period; its phase is open (log entry
2). -/
def aliveWritten (s0 s : State) : State :=
  match alive s0 with
  | .toggling f =>
    if s0.fc.alive.any (fun e => decide (s.elapsed < e.2)) then s
    else
      let (k, s1) := fresh s (4000000 / f)
      { s1 with fc := { s1.fc with alive := some (f, s.elapsed + 1 + k) } }
  | _ => { s with fc := { s.fc with alive := none } }

end Sys2Proof.Machine
end

