-- ==== Sys2Proof/Machine/Toll.lean ====
section
/-!
DEFINITION. Machine/Toll.lean: the Tollhouse's flash writes (R445, R446): its jobs, the log's sectors and records (R478, R479), and how
its operations share the flash with the host's (R418).
-/
namespace Sys2Proof.Machine

/-! ### The log (R478, R479, R481) -/

/-- The log region (R390). -/
def logBase : Nat := 0x01900000

/-- The sectors of the log. -/
def logSectors (s : State) : Nat := (2 ^ getF s NV_FLASH_DENSITY - logBase) / 4096

/-- The flash address of a sector. -/
def sectorAddr (i : Nat) : Nat := logBase + 4096 * i

/-- A sector header. -/
def sectorHeader (sseq : Nat) : List Byte :=
  let h := leBytes 4 0x474F4C53 ++ leBytes 4 sseq ++ leBytes 4 0
  h ++ leBytes 4 (crc32c h)

/-- The SSEQ of a sector whose header is valid. -/
def sectorSeq (s : State) (i : Nat) : Option Nat :=
  let h := flashBytes s (sectorAddr i) 16
  if leAt h 0 4 = 0x474F4C53 ∧ leAt h 12 4 = crc32c (h.take 12) then some (leAt h 4 4) else none

/-- The newest sector among those with a valid header, with its SSEQ (R481). -/
def newestSector (s : State) : Option (Nat × Nat) :=
  (List.range (logSectors s)).foldl (fun (best : Option (Nat × Nat)) i =>
    match sectorSeq s i, best with
    | some q, some (_, b) => if newerSeq q b then some (i, q) else best
    | some q, none => some (i, q)
    | none, _ => best) none

/-- A record of the log: its offset, TYPE, LEN, LSEQ and bytes. -/
structure LogRec where
  off : Nat
  typ : Nat
  len : Nat
  lseq : Nat
  bytes : List Byte
  deriving DecidableEq, Repr

/-- The bytes a record's CRC covers: the record with the CRC field taken as 0. -/
def crcBody (b : List Byte) : List Byte := b.take 12 ++ leBytes 4 0 ++ b.drop 16

/-- The place of the next record: 16-byte alignment. -/
def align16 (n : Nat) : Nat := (n + 15) / 16 * 16

/-- The valid records of a sector from an offset on. -/
def recordsFrom (sec : List Byte) : Nat → Nat → List LogRec
  | 0, _ => []
  | fuel + 1, off =>
    let len := leAt sec (off + 2) 2
    let b := slice sec off len
    if len < 16 ∨ 4096 < off + len ∨ leAt sec off 2 = 0xFFFF then []
    else if leAt b 12 4 = crc32c (crcBody b) then ⟨off, leAt b 0 2, len, leAt b 4 4, b⟩ :: recordsFrom sec fuel (align16 (off + len))
    else recordsFrom sec fuel (align16 (off + len))

/-- The valid records of sector `i`. -/
def recordsOf (s : State) (i : Nat) : List LogRec := recordsFrom (flashBytes s (sectorAddr i) 4096) 256 16

/-- The sectors from the newest back, `n` of them. -/
def sectorsBack (s : State) (i n : Nat) : List Nat :=
  (List.range (min n (logSectors s))).map (fun k => (i + logSectors s - k) % logSectors s)

/-- The newest record of a type in a list of sectors, newest sector first: the highest LSEQ. -/
def newestRecord (s : State) (typ : Nat) (secs : List Nat) : Option LogRec :=
  (secs.flatMap (recordsOf s)).foldl (fun (best : Option LogRec) r =>
    if r.typ ≠ typ then best else match best with
      | some b => if newerSeq r.lseq b.lseq then some r else best
      | none => some r) none

/-- A log record with its header. -/
def logRecord (s : State) (typ : Nat) (body : List Byte) : List Byte :=
  let h := leBytes 2 typ ++ leBytes 2 (16 + body.length) ++ leBytes 4 s.th.lseq ++ leBytes 4 (getF s TH_UPTIME_SECONDS)
  h ++ leBytes 4 (crc32c (h ++ leBytes 4 0 ++ body)) ++ body

/-- The flash operations that append a record, and where the log goes on: a record that does not fit begins the next sector, which is
erased and given its header first (R478, R479). -/
def appendLog (s : State) (typ : Nat) (body : List Byte) : List FlashOp × State :=
  let rec_ := logRecord s typ body
  let page := pageSize s
  if s.th.offset + rec_.length ≤ 4096 then
    (programs page 4096 (sectorAddr s.th.sector + s.th.offset) rec_,
      { s with th := { s.th with offset := align16 (s.th.offset + rec_.length), lseq := (s.th.lseq + 1) % 2 ^ 32 } })
  else
    let i := s.th.sector
    (.erase (sectorAddr i) 4096 :: programs page 4096 (sectorAddr i) (sectorHeader s.th.sseq) ++ programs page 4096 (sectorAddr i + 16) rec_,
      { s with th := { s.th with offset := align16 (16 + rec_.length), lseq := (s.th.lseq + 1) % 2 ^ 32, sseq := (s.th.sseq + 1) % 2 ^ 32 } })

/-- Before a record that does not fit, the log moves to the next sector of the ring. -/
def nextSector (s : State) (len : Nat) : State :=
  if s.th.offset + 16 + len ≤ 4096 then s
  else if logSectors s = 0 then s
  else { s with th := { s.th with sector := (s.th.sector + 1) % logSectors s, offset := 4096 } }

/-! ### Jobs (R445) -/

/-- A job joins the queue. -/
def queueJob (s : State) (kind : JobKind) (body : List Byte) : State :=
  { s with th := { s.th with jobs := s.th.jobs ++ [⟨kind, body, 0, false, []⟩] } }

/-- The flash pins are driven (R389). -/
def flashDriven (s : State) : Bool :=
  railGood s 1 && decide (2 ≤ pstate s) && ! s.pw.rstLow && ! flag s NV_STATUS_SFDP_ERR

/-- A host operation runs on the flash. -/
def hostRuns (s : State) : Bool := s.bt.host.any (fun h => ! h.waits)

/-- The flash is free. -/
def flashFree (s : State) : Bool := s.th.op.isNone && ! hostRuns s

/-- The TYPE of a log job (R479). -/
def jobType : JobKind → Nat
  | .epoch => 1
  | .checkpoint => 2
  | .shutdown => 3
  | .record => 0

/-- A job begins: its flash operations are fixed. -/
def beginJob (s : State) (j : Job) : State :=
  if j.begun then { s with th := { s.th with job := some j } }
  else if j.kind = JobKind.record then
    let ops := erases s j.at_ 0x80000 ++ programs (pageSize s) 297285 j.at_ j.body
    { s with th := { s.th with job := some { j with begun := true, ops := ops } } }
  else
    let s1 := nextSector s j.body.length
    let (ops, s2) := appendLog s1 (jobType j.kind) j.body
    { s2 with th := { s2.th with job := some { j with begun := true, ops := ops } } }

/-- The next operation of the running job goes to the flash; a host operation that waits goes first (R418). A pending log job runs between two pages of a
calibration record (R445). -/
def nextFlash (s : State) : State :=
  if flashFree s = false ∨ flashDriven s = false then s
  else match s.bt.host with
    | some h => { s with bt := { s.bt with host := some { h with waits := false } } }
    | none =>
      match s.th.job with
      | none => s
      | some j =>
        let logs := s.th.jobs.filter (fun x => decide (x.kind ≠ JobKind.record))
        let s1 := match j.kind, logs with
          | .record, x :: _ =>
            if j.ops ≠ [] then
              beginJob { s with th := { s.th with jobs := j :: s.th.jobs.filter (fun y => decide (y ≠ x)) } } x
            else s
          | _, _ => s
        match s1.th.job with
        | some ⟨k, b, a, g, op :: rest⟩ => { s1 with th := { s1.th with op := some op, job := some ⟨k, b, a, g, rest⟩ } }
        | _ => s1

/-- TOLLHOUSE_JOB: with no job running the next starts, the epoch write first, else in the order queued (R445). -/
def execTollhouseJob (s : State) : Out :=
  if s.th.job.isSome ∨ flashDriven s = false ∨ flag s TH_STATUS_TSD_PEND then .next s
  else
    let pick := (s.th.jobs.find? (fun j => decide (j.kind = JobKind.epoch))).or s.th.jobs.head?
    match pick with
    | none => .next s
    | some j =>
      let s1 := { s with th := { s.th with jobs := s.th.jobs.erase j } }
      .next (nextFlash (setFlag (beginJob s1 j) TH_STATUS_WRITING true))

/-- TH_STATUS.WRITING follows the running job. -/
def showWriting (s : State) : State := setFlag s TH_STATUS_WRITING s.th.job.isSome

/-- What an unfinished job of a kind leaves (R413, R444, R465): counted as abandoned. -/
def abandonJob (s : State) (j : Job) : State :=
  let s1 := bump s (cTH_CNT 7)
  match j.kind with
  | .epoch => event s1 NV_INT_ERR
  | .checkpoint => setFlag (event s1 TY_INT_CKPT_FAIL) TY_STATUS_CKPT_PEND false
  | .record => recordAbandoned s1
  | .shutdown => s1

/-- All jobs are abandoned (R446). -/
def abandonJobs (s : State) : State :=
  let all := (match s.th.job with | some j => [j] | none => []) ++ s.th.jobs
  let s1 := all.foldl abandonJob s
  showWriting { s1 with th := { s1.th with jobs := [], job := none, op := none } }

/-! ### Flash contents after an operation (R416, R419) -/

/-- The flash address of a firmware slot (R390). -/
def fwAddr (slot : Nat) : Nat := 0x400000 * slot
/-- The flash address of the footing image. -/
def footAddr : Nat := 0x00800000

/-- Whether two flash ranges meet. -/
def meets (a n b m : Nat) : Bool := decide (a < b + m ∧ b < a + n)

/-- Bytes of flash whose content is undefined: free values (R419). -/
def flashUndefined (s : State) (a n : Nat) : State :=
  (List.range n).foldl (fun s i =>
    let (v, s1) := fresh s 256
    { s1 with flash := cellPut flashDefault s1.flash (a + i) (BitVec.ofNat 8 v) }) s

/-- The page of a program that is broken off is undefined as a whole (R419). -/
def pageUndefined (s : State) (a : Nat) : State := flashUndefined s (a / pageSize s * pageSize s) (pageSize s)

/-- The footing image region has been changed (R419). -/
def footDirty (s : State) (a n : Nat) : State :=
  if meets a n footAddr 0x1000000 then setFlag s NV_STATUS_FOOT_DIRTY true else s

/-- What a host operation leaves that is broken off while it runs: its page, or the region it erases, is undefined; a read leaves NV_BUF. -/
def breakHost (s : State) (h : HostOp) : State :=
  if h.waits ∨ h.op < 2 then s
  else footDirty (if h.op = 2 then pageUndefined s h.addr else flashUndefined s h.addr h.len) h.addr h.len

/-- A host operation is abandoned at once (R419, R441): NV_INT.ERR. -/
def abandonHost (s : State) : State :=
  match s.bt.host with
  | some h => setFlag (bump (event (breakHost { s with bt := { s.bt with host := none } } h) NV_INT_ERR) (cNV_CNT 5)) NV_STATUS_BUSY false
  | none => s

/-- The operation on the flash is broken off: its page, or the region it erases, is undefined (R419). -/
def breakFlash (s : State) : State :=
  let s1 := match s.th.op with
    | some (.program a _) => pageUndefined s a
    | some (.erase a n) => flashUndefined s a n
    | none => s
  abandonHost { s1 with th := { s1.th with op := none } }

end Sys2Proof.Machine
end

