-- ==== Sys2Proof/Machine/Power.lean ====
section
/-!
DEFINITION. Machine/Power.lean: resets of the islands and the start of an epoch (R83, R380 to R382), rails (R437, R438), PLLs and joints (R370 to R372, R460, R503
to R505), the transitions between power states (R373 to R379), the heater rail request (R365), and VTH.
-/
namespace Sys2Proof.Machine

/-! ### Resets -/

/-- Registers that no reset of the islands touches: the Tollhouse's, the fuse shadows, the lifetime evidence it holds, and FC_RCV_CNT (R422, R475). -/
def tollRegister (a : Nat) : Bool :=
  decide (thBase ≤ a ∧ a < thBase + 0x10000) || decide (fuBase ≤ a ∧ a < fuBase + 0x10000)
    || decide (aTY_LT 0 ≤ a ∧ a < aTY_LT 128) || decide (aTY_HIST 0 ≤ a ∧ a < aTY_HIST 768) || decide (a = aFC_RCV_CNT)

/-- Registers of the drives, which hold at park through a recovery (R463): LZ_STATUS, LZ_PARK and the PR_ registers of every span. -/
def driveRegister (a : Nat) : Bool :=
  decide (spBase 0 ≤ a ∧ a < spBase 36)
    && (decide (a % 0x1000000 = aLZ_STATUS 0 % 0x1000000) || decide (a % 0x1000000 = aLZ_PARK 0 % 0x1000000)
      || decide (0x10000 ≤ a % 0x1000000 ∧ a % 0x1000000 < 0x18000))

/-- Timers that a reset of the islands leaves: the Tollhouse's and, where the drives are kept, the ramps. -/
def keptTimer (drives : Bool) : Timer → Bool
  | .wake => true
  | .tsd => true
  | .ramp _ => drives
  | _ => false

/-- Registers of the capture unit that a recovery keeps (R494): TC_STATUS and TC_SEG. -/
def captureRegister (a : Nat) : Bool := decide (a = aTC_STATUS) || decide (aTC_SEG_w0 0 ≤ a ∧ a < aTC_SEG_w0 64)

/-- Every island but the Tollhouse is reset (R382, R463). With `drives`, in a recovery, the piers stay as they are and the capture keeps what it holds; else
every clamp is closed. -/
def resetIslands (s : State) (drives : Bool) : State :=
  { s with
    clock := 0
    regs := cellDrop (fun a => ! (tollRegister a || (drives && (driveRegister a || captureRegister a)))) s.regs
    timers := s.timers.filter (fun e => keptTimer drives e.1)
    ports := []
    tg := State.reset.tg
    ad := State.reset.ad
    nt := NetTime.init
    ks := Keystone.init
    dr := if drives then { Drive.init with piers := s.dr.piers, parked := s.dr.parked } else Drive.init
    dk := { Decks.init with logPtr := s.dk.logPtr }
    te := Truss.init
    fc := ⟨[], [], if drives then s.fc.conditions else [], s.fc.recoveries, none⟩
    ty := { s.ty with bank := [], instant := 0 }
    tc := if drives then { s.tc with queue := [], streams := [], counts := [] } else Capture.init
    bm := { State.reset.bm with readData := s.bm.readData }
    cal := { Cal.init with lastStart := s.cal.lastStart }
    bt := { Boot.init with retained := s.bt.retained } }

/-- A recovery's islands (R463): reset with the drives kept, every abutment connected to Deck A as at the start of each epoch (R313). -/
def resetForRecovery (s : State) : State := connectDeckA (resetIslands s true)

/-- The word a register keeps through a warm start (R412): everything of the boot, the Tollgate, the spans and the capture; of the other blocks what software
configured. Counters, the collector and event bits begin again (R469). -/
def warmWord (a : Nat) (w : Word) : Word :=
  if tollRegister a then w
  else match rowAt a with
    | none => w
    | some r =>
      if decide (fcBase ≤ a ∧ a < fcBase + 0x10000) || r.name.endsWith "_CNT" || r.name.endsWith "_SLOT" then resetWord a
      else if decide (nvBase ≤ a ∧ a < nvBase + 0x10000) || decide (spBase 0 ≤ a ∧ a < spBase 36)
          || decide (tgBase ≤ a ∧ a < tgBase + 0x10000) || decide (aCAL_CTRL ≤ a ∧ a < aCAL_CTRL + 0x1000) then
        r.fields.foldl (fun v f => if f.acc = Acc.w1c then withBits v f.hi f.lo f.reset else v) w
      else r.fields.foldl (fun v f => if f.acc = Acc.rw then v else withBits v f.hi f.lo f.reset) w

/-- A new epoch with the retained contents (R83, R380): no circuits, no lanes in use, the servo UNSET. -/
def resetWarm (s : State) : State :=
  { s with
    clock := 0
    regs := s.regs.foldl (fun t e => cellPut resetWord t e.1 (warmWord e.1 e.2)) []
    timers := s.timers.filter (fun e => keptTimer false e.1)
    ports := []
    tg := { State.reset.tg with rules := s.tg.rules }
    ad := { State.reset.ad with lanes := s.ad.lanes.foldl (fun t e => cellPut (fun _ => Lane.init) t e.1 { Lane.init with cfg := e.2.cfg }) [] }
    nt := NetTime.init
    ks := { Keystone.init with map := s.ks.map }
    dr := Drive.init
    dk := { Decks.init with logPtr := s.dk.logPtr }
    te := { Truss.init with falling := s.te.falling }
    fc := ⟨[], [], [], s.fc.recoveries, none⟩
    ty := { s.ty with bank := [], instant := 0 }
    tc := Capture.init
    bm := { State.reset.bm with readData := s.bm.readData }
    cal := { Cal.init with lastStart := s.cal.lastStart, temps := s.cal.temps }
    bt := { Boot.init with retained := s.bt.retained, parse := s.bt.parse } }

/-! ### PLLs (R370, R372, R460) -/

/-- A PLL's attempts: which attempt (1 or 2; 3 when both have failed) and when it began. -/
def triesOf (s : State) (i : Nat) : Option (Nat × Nat) := cellGet (fun _ => none) s.pw.tries i

/-- The state with a PLL's attempts replaced. -/
def setTries (s : State) (i : Nat) (x : Option (Nat × Nat)) : State :=
  { s with pw := { s.pw with tries := cellPut (fun _ => none) s.pw.tries i x } }

/-- A PLL begins to lock, with its band calibration. -/
def startPll (s : State) (i : Nat) : State := setTries (setF s (TH_PLL_LOCK i) 0) i (some (1, s.elapsed))

/-- Every PLL stops. -/
def stopPlls (s : State) : State := (List.range 45).foldl (fun s i => setTries (setF s (TH_PLL_LOCK i) 0) i none) s

/-- Every PLL is locked. -/
def allLocked (s : State) : Bool := (List.range 45).all (fun i => flag s (TH_PLL_LOCK i))

/-- A locked span PLL fixes P0 and takes its registers' period (R262, R370); the trim strobes of its piers count from it (R235). -/
def fixP0 (s : State) (n : Nat) : State :=
  let recount := fun (t : List (Nat × Pier)) (e : Nat × Pier) =>
    cellPut (fun _ => Pier.init) t e.1 (if e.1 / 512 = n then { e.2 with trimN := 0 } else e.2)
  { s with te := { s.te with p0 := cellPut (fun _ => 0) s.te.p0 n s.elapsed, period := cellPut (fun _ => 0) s.te.period n 0 },
           dr := { s.dr with piers := s.dr.piers.foldl recount [] } }

/-- The class P limit of a PLL is missed: no lock with a band of 1 to 62 (R289); the Tollhouse reports it (R465). -/
def pllRejected (s : State) : State := rejectP s 0x400 0x7FFF

/-- An attempt of a PLL ends without a lock (R289): it is locked once more; failing again it sets PLL_FAIL, and the device stays in Standby, or in Fault (R372,
R460). -/
def attemptFailed (s : State) (i k : Nat) : State :=
  let s0 := pllRejected s
  if k = 1 then setTries s0 i (some (2, s.elapsed))
  else
    let s1 := setTries (event s0 TH_PINT_PLL_FAIL) i (some (3, s.elapsed))
    match s1.pw.moving with
    | some m =>
      if m.move = Move.standbyReady then
        let s2 := { stopPlls s1 with pw := { (stopPlls s1).pw with moving := none } }
        setTries s2 i (some (3, s.elapsed))
      else s1
    | none => s1

/-- PLL_LOCK: the band calibration ends with a band, and the PLL locks. A band outside 1 to 62 is refused (R289), and the attempt fails with it. -/
def execPllLock (i : PllIx) (band : Fin 64) (s : State) : Out :=
  match triesOf s i with
  | some (k, t) =>
    if 3 ≤ k then .next s
    else if band.val < 1 ∨ 62 < band.val then .next (attemptFailed s i k)
    else
      let us := min ((s.elapsed - t) / 4000) 65535
      let s1 := setTries (setF (setF (setF s (TH_PLL_LOCK i) 1) (TH_PLL_BAND i) band) (TH_PLL_LOCK_US i) us) i none
      let s2 := if i.val = 0 then
          ((List.range 42).map (fun k => k + 3)).foldl (fun s j => if flag s (TH_PLL_LOCK j) ∨ (triesOf s j).isSome then s else startPll s j) s1
        else s1
      let s3 := if 3 ≤ i.val ∧ i.val ≤ 38 then fixP0 s2 (i.val - 3) else s2
      .next (recheckConditions s3)
  | none => .next s

/-- PLL_LOCK_TIMEOUT: a PLL has not locked within 100 µs (R370, R372). -/
def execPllLockTimeout (i : PllIx) (s : State) : Out :=
  match triesOf s i with
  | some (k, t) => .next (if s.elapsed < t + 400000 ∨ 3 ≤ k then s else attemptFailed s i k)
  | none => .next s

/-- PLL_LOSS of a locked PLL (R372, R460, R465). The lock is restarted at once. -/
def execPllLoss (i : PllIx) (burst : Option Burst) (s : State) : Out :=
  if flag s (TH_PLL_LOCK i) = false then .next s
  else
    let s1 := life (bump (event (event s (TH_PLL_LOSS i)) TH_PINT_PLL_LOSS) (cTHP_CNT 7)) 16
    let s2 := startPll s1 i
    if i.val = 0 then
      let s3 := raise (closeClamps s2) 0x500 0x40 clsFatal false 0
      .next (if pstate s ≤ 1 then s3 else enterState { s3 with pw := { s3.pw with moving := none } } 5)
    else if i.val ≤ 2 then
      .next (lowerAll (masterReset (raise s2 (0x500 + i) 0x41 clsCorrected (decide (i.val = 2)) 0) (i.val - 1) burst) (i.val - 1) 1)
    else if i.val ≤ 38 then .next (raise (closeClamp s2 (i.val - 3)) (0x500 + i) 0x42 clsFatal false (i.val - 3))
    else .next (raise (portLockLost s2 (i.val - 39)) (0x500 + i) 0x43 clsCorrected false (i.val - 39))

/-! ### Joints (R501 to R505) -/

/-- The term (n + 1) × T of an island's side, in units of 0.25 ns / 10,725: ports by line rate, Tollgate and Keystone, central and spans and capture, deck
clusters, NVM, Tollhouse by clock (R503). -/
def sideTerm (s : State) : Nat → Nat
  | 0 => 143000
  | 1 => 160875
  | 2 => 171600
  | 3 => 618750
  | 4 => if flag s TH_STATUS_CLK then 5148000 else 4062500
  | p => if flag s (if flag s (CP_CTRL_ENABLE (p - 5)) then CP_STATUS_RATE (p - 5) else CP_CTRL_SPEED (p - 5)) then 823680 else 329472

/-- The islands of a joint (R501): 0 Tollgate or Keystone, 1 central, capture or span, 2 deck cluster, 3 NVM, 4 Tollhouse, 5 + p port p. -/
def jointSides (j : Nat) : Nat × Nat :=
  if j ≤ 5 then (5 + j, 0)
  else if j ≤ 11 then (j - 1, 1)
  else if j ≤ 13 then (0, 1)
  else if j ≤ 15 then (2, 1)
  else if j = 16 then (1, 1)
  else if j = 17 then (3, 1)
  else if j = 18 then (4, 1)
  else if j ≤ 54 then (1, 1)
  else (0, 1)

/-- Whether a side's synchronizer has three flip-flops: its island runs at 1 GHz or above (R502). -/
def deepSide (x : Nat) : Nat := if x = 0 ∨ x = 2 then 1 else 0

/-- The latency of a joint at the present clocks, in units of 0.25 ns / 10,725 (R503). -/
def jointTerm (s : State) (j : Nat) : Nat := sideTerm s (jointSides j).1 + sideTerm s (jointSides j).2

/-- A joint comes up: its resynchronisation is counted, with what it lost (R506), and BM_JSTAT shows its depths (R505). -/
def jointUp (s : State) (j : Nat) (lost : Nat := 0) : State :=
  if flag s (BM_JSTAT_UP j) then s
  else
    let s1 := setF (setF (setF s (BM_JSTAT_UP j) 1) (BM_JSTAT_DEPTH_A j) (deepSide (jointSides j).1)) (BM_JSTAT_DEPTH_B j) (deepSide (jointSides j).2)
    bumpBy (bump s1 (cBM_CNT 10)) (cBM_CNT 11) lost

/-- The place of a joint in the order in which the islands are joined (R371): the central island with the Tollhouse; Tollgate, Keystone, capture and NVM; ports;
deck clusters; spans. -/
def joinRank (j : Nat) : Nat := if j = 18 then 0 else if j = 12 ∨ j = 13 ∨ j = 16 ∨ j = 17 then 1 else if j ≤ 11 then 2 else if j ≤ 15 then 3 else 4

/-- The joints in that order. -/
def joinOrder : List Nat := (List.range 5).flatMap (fun r => (List.range 91).filter (fun j => decide (joinRank j = r)))

/-- Every island is joined (R371). -/
def joinAll (s : State) : State := joinOrder.foldl (fun s j => jointUp s j) s

/-- Every joint is up. -/
def allJoined (s : State) : Bool := (List.range 91).all (fun j => flag s (BM_JSTAT_UP j))

/-- The islands run: above Standby, or at the joining of a start, once every PLL is locked (R371). -/
def islandsRun (s : State) : Bool :=
  decide (2 ≤ pstate s) || (match s.pw.moving with | some m => decide (m.move = Move.standbyReady ∧ m.step = 2) | none => false)

/-- JOINT_UP (R505, R506): both sides of the joint are out of reset, and the joints before it in the order of R371 are up. -/
def execJointUp (j : Joint) (lost : Lost) (s : State) : Out :=
  .next (if islandsRun s ∧ (List.range 91).all (fun k => decide (joinRank j ≤ joinRank k) || flag s (BM_JSTAT_UP k)) then jointUp s j lost else s)

/-- JOINT_SAT: an event count on a joint reached 15 and further events were lost (R504). -/
def execJointSat (j : Joint) (lost : Lost) (s : State) : Out :=
  if lost = 0 then .next s
  else .next (raise (bumpBy (bump (event (event s (BM_JSTAT_SAT j)) BM_INT_JOINT_SAT) (cBM_CNT 8)) (cBM_CNT 9) lost) 0x008 0x61 clsCorrected false j)

/-! ### Transitions (R374 to R378) -/

/-- A transition begins. -/
def beginMove (s : State) (m : Move) (k : Nat) : State :=
  refreshReady { s with pw := { s.pw with moving := some ⟨m, k, s.elapsed, s.elapsed⟩ } }

/-- The next step of the transition begins; t_ready is recomputed (R383). -/
def nextStep (s : State) (k : Nat) : State :=
  match s.pw.moving with
  | some m => stepReady { s with pw := { s.pw with moving := some { m with step := k, stepAt := s.elapsed } } }
  | none => s

/-- The wake timer runs from the entry to Sleep or Standby, if TIMER is not 0 (R439). -/
def armWake (s : State) : State :=
  if getF s TH_WAKE_TIMER = 0 then disarm s .wake else armAt s .wake (s.pw.restAt + 4000000000 * getF s TH_WAKE_TIMER)

/-- Sleep or Standby is entered: TH_WAKE.TIMER counts from here (R439). -/
def enterRest (s : State) : State := armWake { s with pw := { s.pw with restAt := s.elapsed } }

/-- A transition ends in a state: TH_PLAST, STATE_CHG and the counter of that state. -/
def endMove (s : State) (st : Nat) : State :=
  let began := match s.pw.moving with | some m => m.began | none => s.elapsed
  let dur := min ((s.elapsed - began) / 4000) 0xFFFFFF
  let s1 := setF (setF (setF s TH_PLAST_DUR dur) TH_PLAST_FROM (pstate s)) TH_PLAST_TO st
  let s2 := bump (event { s1 with pw := { s1.pw with moving := none } } TH_PINT_STATE_CHG) (cTHP_CNT st)
  let s3 := setF s2 TH_PSTATE_STATE st
  let s4 := stepReady s3
  if st ≤ 1 then enterRest s4 else disarm s4 .wake

/-- The state becomes Sleep, and the Tollhouse runs from the RC oscillator (R369, R420). -/
def sleepNow (s : State) : State := sleepClock (endMove s 0)

/-- No transition is in progress that another could not follow, and RST_N is high. -/
def mayMove (s : State) (st : Nat) : Bool :=
  decide (pstate s = st) && s.pw.moving.all (fun m => decide (m.move = Move.holdService ∨ m.move = Move.serviceHold)) && ! s.pw.rstLow

/-- Every valid junction sensor reads below LIMIT - HYST, one at least is valid, and every entry with a TSD action has y below its HI - HYST
(R442). -/
def cooled (s : State) : Bool :=
  let valid := (List.range 12).filter (fun i => flag s (TH_JS_VALID i))
  decide (valid ≠ []) && valid.all (fun i => decide (tempOf (getF s (TH_JS_TEMP i)) < (getF s TH_TSD_LIMIT : Int) - (getF s TH_TSD_HYST : Int)))
    && (List.range (getF s HK_CTRL_COUNT)).all (fun i =>
      decide (getF s (HK_ENTRY_w4_ACT_HI i) / 8 % 2 = 0 ∧ getF s (HK_ENTRY_w4_ACT_LO i) / 8 % 2 = 0
        ∧ getF s (HK_ENTRY_w4_ACT_RATE i) / 8 % 2 = 0)
      || decide (getI s (HK_ENTRY_w6_FILTERED i) < getI s (HK_ENTRY_w1_HI i) - (getF s (HK_ENTRY_w4_HYST i) : Int)))

/-- SLEEP_TO_STANDBY: retention is left and the crystal starts (R375); with the shutdown latch set, only once the device has cooled (R442). -/
def execSleepToStandby (s : State) : Out :=
  if mayMove s 0 ∧ 1 ≤ getF s TH_PCTRL_TARGET ∧ flag s TH_STATUS_TSD_PEND = false ∧ (flag s TH_STATUS_TSD_LATCH = false ∨ cooled s) then
    .next (if railsGood s 2 then beginMove s .sleepStandby 1 else railWait s)
  else .next s

/-- The ports that ran stay disabled until the retained contents have been checked (R408, R412): their CP_CTRL words are held. -/
def holdPorts (s : State) : State :=
  (List.range 6).foldl (fun s p =>
    if flag s (CP_CTRL_ENABLE p) then
      setF { s with bt := { s.bt with held := s.bt.held ++ [(aCP_CTRL p, rd s (aCP_CTRL p))] } } (CP_CTRL_ENABLE p) 0
    else s) s

/-- The oscillator trim of a start (R292, R375): class P, kept where the frequency after it lies beyond 1 % of 32 MHz (R289). -/
def trimOscillator (s : State) (osc : OscReading) : State :=
  if osc.within then { s with pw := { s.pw with oscTrim := osc.trim } } else rejectP s 0x400 0x7FFF

/-- STANDBY_TO_READY: a start (R381). The islands leave reset, the oscillator is trimmed, and the core and deck PLLs lock (R370, R375). -/
def execStandbyToReady (osc : OscReading) (s : State) : Out :=
  let failed := (List.range 45).any (fun i => match triesOf s i with | some (k, _) => decide (3 ≤ k) | none => false)
  if mayMove s 1 ∧ 2 ≤ getF s TH_PCTRL_TARGET ∧ failed = false ∧ flag s TH_STATUS_TSD_PEND = false then
    if railsGood s 3 then
      let s1 := if s.bt.retained.isSome then setF (holdPorts (connectDeckA (resetWarm s))) NV_STATUS_FOOT_OK 0 else resetIslands s false
      .next (startPll (startPll (startPll (beginMove (trimOscillator s1 osc) .standbyReady 1) 0) 1) 2)
    else .next (railWait s)
  else .next s

/-- The first step of R376 that has work at or after `k`. -/
def firstWork (s : State) (k : Nat) : Nat :=
  let closed := decide (clampedSpans s ≠ [])
  if k ≤ 1 ∧ closed ∧ flag s CAL_CTRL_PWRUP_EN then 1 else if k ≤ 2 then 2 else k

/-- The clamps open only once at least one deck is healthy in every span (R313). -/
def everySpanHealthy (s : State) : Bool := (List.range 36).all (fun n => healthy s n 0 || healthy s n 1)

/-- What a step of R376 does as it begins: power-up calibration; the clamps open and the piers ramp to park. -/
def startWork (s : State) (k : Nat) : State :=
  if k = 1 then beginPowerUp s
  else if k = 2 ∧ everySpanHealthy s then (clampedSpans s).foldl openAndRamp s
  else s

/-- READY_TO_HOLD (R376). -/
def execReadyToHold (s : State) : Out :=
  if mayMove s 2 ∧ 3 ≤ getF s TH_PCTRL_TARGET ∧ flag s NV_STATUS_FOOT_OK ∧ getF s NV_STATUS_STAGE ≠ 6 ∧ flag s TH_STATUS_TSD_PEND = false
      ∧ (everySpanHealthy s ∨ clampedSpans s = []) then
    if railsGood s 6 then
      let k := firstWork s 1
      .next (startWork (beginMove s .readyHold k) k)
    else .next (railWait s)
  else .next s

/-- One deck's start pass at one pier (R376): class, level and state phase of the start target, and the codes its loop asks for. -/
def startCode (n l t : Nat) (s : State) (d : Nat) : State :=
  let a := loopRec n l d
  let g := pierIx n l
  let delta := deltaOf (getMI s (calRec n l) cD1) t
  let s1 := putM (putM (putMI s a lDLIVE delta) a lMLIVE (classOf t)) a lLLIVE (tgtLvl t)
  let (f, s2) := fastCode s1 n l delta (getMI s1 a lV)
  let arg := getMI s2 a lPHI_TFF + getMI s2 a lU
  let (c, s3) := trimCode s2 n l arg (getF s2 (LZ_VHTR_MV n))
  setPath s3 g d { pathOf s3 g d with reqF := f, reqT := c.code, arg := arg, vh := getF s2 (LZ_VHTR_MV n), boost := none }

/-- A pier whose record is not usable keeps its codes as it leaves park (R238: its target acts as HOLD). -/
def keepCode (n l : Nat) (s : State) (d : Nat) : State :=
  setPath s (pierIx n l) d { pathOf s (pierIx n l) d with reqF := getF s (liveF n l d), reqT := getF s (liveT n l d), boost := none }

/-- The start pass at one pier on both decks. A pier under FORCE_PARK stays at park (R378); a record without VALID acts as HOLD (R238), as does a pier marked
failed (R246). -/
def startPier (s : State) (g : Nat) : State :=
  let n := g / 512
  let l := g % 512
  let t := projected s g
  let s0 := setF s (PR_TARGET_TARGET n l) t
  let s1 := if isFailed s g then keepCode n l (keepCode n l s 0) 1
    else if getM s0 (calRec n l) cVALID = 0 then keepCode n l (keepCode n l (bump (event s0 (LZ_INT_CAL_UE n)) (cLZ_CNT n 9)) 0) 1
    else startCode n l t (startCode n l t s0 0) 1
  if flag s (PR_CTRL_FORCE_PARK n l) then s1 else leavePark s1 n l

/-- The start pass (R376): MODE 3 at every attenuator, MODE 0 at every element; the piers leave park (R378). -/
def startPass (s : State) : State :=
  let s0 := clearKeystone { s with dr := { s.dr with parked := [] } }
  match s0.ks.map with
  | some m => (mapPiers m).foldl startPier s0
  | none => s0

/-- Power-up calibration ends: the runs end in every span (R293). Items whose steps were not shown keep their values (log entry 34). -/
def endPowerUp (s : State) : State :=
  let one := fun (s : State) (n : Nat) =>
    let s1 := if (seqOf s n).ofs.isSome then endRun s n 0 else s
    if (seqOf s1 n).mon.isSome then endRun s1 n 1 else s1
  storeAfterPowerUp ((List.range 36).foldl one ((List.range 36).foldl abandonStep s))

/-- Hold → Ready (R377): a park request, and Keystone's projected state is cleared. -/
def descend (s : State) : State := clearKeystone (parkRequest (beginMove s .holdReady 1))

/-- Ready → Hold is broken off at the end of a step where TARGET has been lowered and nothing is booked (R385). -/
def breaksOff (s : State) : Bool := decide (getF s TH_PCTRL_TARGET < 3) && decide (s.ad.inflight = [])

/-- The step that follows needs what is not there: a rail (R385), or, where the clamps are to open, a healthy deck in every span (R313). -/
def stepWaits (s : State) (k : Nat) : Bool := ! railsGood s 6 || (decide (k = 2) && ! everySpanHealthy s)

/-- A step of Ready → Hold ends (R376). -/
def holdStepEnd (s : State) (m : Moving) : State :=
  let go := fun (s : State) (k : Nat) =>
    if breaksOff s then descend { s with pw := { s.pw with moving := none } }
    else if stepWaits s k then (if railsGood s 6 then s else railWait s)
    else startWork (nextStep s k) k
  match m.step with
  | 1 => if stepWaits s 2 ∧ breaksOff s = false then go s 2 else go (endPowerUp s) 2
  | 2 => if (List.range 36).any (fun n => flag s (LZ_STATUS_RAMPING n)) then s
         else if breaksOff s ∨ railsGood s 6 = false then go s 3 else startPass (go s 3)
  | 3 => go s 4
  | _ => if s.elapsed < m.stepAt + 8 * longestT s then s else if breaksOff s then go s 4 else endMove s 3

/-- Every loop has held since a moment (R377): each pier of a span that is not clamped has had its loop window close since, which takes no longer than T and 1 µs. -/
def allHeld (s : State) (since : Nat) : Bool :=
  decide (since + 4 * longestT s + 4000 ≤ s.elapsed)
    || (List.range 36).all (fun n => clamped s n || (List.range 512).all (fun l => decide (since < (monOf s (pierIx n l)).closedAt)))

/-- TRANSITION_STEP_END. -/
def execTransitionStepEnd (s : State) : Out :=
  match s.pw.moving with
  | none => .next s
  | some m =>
    match m.move with
    | .sleepStandby => .next (if flag s TH_STATUS_XTAL_VALID then endMove s 1 else s)
    | .standbyReady =>
      if m.step = 1 then .next (if allLocked s then nextStep s 2 else s)
      else
        let s1 := endMove (joinAll s) 2
        let warm := s1.bt.retained.isSome
        .next { s1 with bt := { s1.bt with step := if warm then 8 else 1, reason := if warm then 1 else 0 } }
    | .readyHold => .next (holdStepEnd s m)
    | .holdReady => .next (if allHeld s m.began then endMove s 2 else s)
    | .readyStandby => .next (endMove s 1)
    | .standbySleep => .next (sleepNow s)
    | .holdService => .next s
    | .serviceHold => .next s

/-- HOLD_TO_SERVICE: the schedule runs and its first cycle boundary is reached (R375), with the rails that Service requires (R363). -/
def execHoldToService (s : State) : Out :=
  if mayMove s 3 ∧ flag s LS_CTRL_RUN ∧ s.nt.winFrom ≤ netNs s ∧ flag s TH_STATUS_TSD_PEND = false then
    .next (if railsGood s 6 then endMove s 4 else railWait s)
  else .next s

/-- SERVICE_TO_HOLD: RUN has fallen and the window in which it fell has ended (R375). -/
def execServiceToHold (s : State) : Out :=
  let ended : Bool := match s.nt.lastWin with | some (_, b, _, _) => decide (b ≤ netNs s) | none => true
  if mayMove s 4 ∧ flag s LS_CTRL_RUN = false ∧ ended then .next (endMove s 3) else .next s

/-- HOLD_TO_READY (R377): TARGET is below Hold and nothing is booked (R385). -/
def execHoldToReady (s : State) : Out :=
  if mayMove s 3 ∧ getF s TH_PCTRL_TARGET < 3 ∧ flag s LS_CTRL_RUN = false ∧ s.ad.inflight = [] then .next (descend s) else .next s

/-- The epoch ends as the device leaves Ready for Standby (R381, R446): ports and PLLs stop, islands are isolated, clamps close. The flash pins are driven no
longer (R389), and contents retained for a warm start are spent (R380). -/
def leaveReady (s : State) : State :=
  let s1 := (List.range 91).foldl (fun s j => setF s (BM_JSTAT_UP j) 0) (stopPlls (abandonJobs (abandonHost s)))
  let s2 := (List.range 6).foldl (fun s p => setLink s p ⟨false, false, false, false⟩) (closeClamps (dropRuns s1))
  { s2 with bt := { s2.bt with retained := none } }

/-- READY_TO_STANDBY (R375, R377, R446): waits for ramps and for a Tollhouse operation in progress. In recovery mode TARGET starts no transition (R414). -/
def execReadyToStandby (s : State) : Out :=
  if mayMove s 2 ∧ getF s TH_PCTRL_TARGET < 2 ∧ getF s NV_STATUS_STAGE ≠ 6 ∧ s.th.op = none ∧ (List.range 36).all (fun n => ! flag s (LZ_STATUS_RAMPING n)) then
    .next (leaveReady (beginMove s .readyStandby 1))
  else .next s

/-- The SIG field of an image in flash: its last 96 bytes (R397), for an image of the length its header gives. -/
def imageSig (s : State) (a : Nat) : List Byte :=
  let len := leAt (flashBytes s a 16) 8 4
  if len < 296 ∨ 0x1000000 < len then [] else flashBytes s (a + len - 96) 96

/-- Sleep is entered (R380, R412, R420): retained when SLEEP_RET is 1 and nothing forbids it; the crystal stops. -/
def enterSleep (s : State) (retain : Bool) : State :=
  let keep := if retain ∧ flag s NV_STATUS_FOOT_OK then
      some (getF s NV_STATUS_FW_SLOT, imageSig s (fwAddr (getF s NV_STATUS_FW_SLOT)), imageSig s footAddr) else none
  let s1 := setFlag s TH_PSTATE_RETAINED retain
  { s1 with bt := { s1.bt with retained := keep }, mem := if retain then s1.mem else [] }

/-- STANDBY_TO_SLEEP (R375). -/
def execStandbyToSleep (s : State) : Out :=
  if mayMove s 1 ∧ getF s TH_PCTRL_TARGET = 0 then .next (beginMove (enterSleep s (flag s TH_PCTRL_SLEEP_RET)) .standbySleep 1) else .next s

/-! ### Wakes and RST_N (R379, R382, R442) -/

/-- A wake raises TARGET to WAKE_TARGET (R379); ignored while the shutdown latch is set and the device has not cooled (R439, R442). -/
def wake (s : State) : State :=
  if 2 ≤ pstate s ∨ (flag s TH_STATUS_TSD_LATCH ∧ cooled s = false) ∨ flag s TH_STATUS_TSD_PEND then s
  else
    let s1 := event { s with pw := { s.pw with tries := [] } } TH_PINT_WAKE
    if getF s TH_PCTRL_TARGET < getF s TH_PCTRL_WAKE_TARGET then setF s1 TH_PCTRL_TARGET (getF s TH_PCTRL_WAKE_TARGET) else s1

/-- Everything that falls with the islands: flash operations broken off, jobs abandoned, PLLs stopped, islands reset with the clamps closed. -/
def collapse (s : State) : State :=
  let s1 := resetIslands (stopPlls (abandonJobs (breakFlash s))) false
  { s1 with bt := Boot.init, pw := { s1.pw with moving := none, tries := [] } }

/-- The state after a collapse: Standby if VDD is good, else Sleep (R382, R438). -/
def restState (s : State) : Nat := if railGood s 0 then 1 else 0

/-- The device rests in Standby, or in Sleep, where the crystal stops (R369, R420); the wake timer counts from its entry (R439). -/
def restIn (s : State) (st : Nat) : State :=
  let s1 := if st = 0 then sleepClock (enterState s 0) else enterState s st
  if pstate s = st then s1 else enterRest s1

/-- RST_N_ASSERT: a low level has passed the filter (R382). -/
def execRstNAssert (s : State) : Out :=
  let s1 := collapse s
  .next (restIn { s1 with pw := { s1.pw with rstLow := true } } (restState s))

/-- RST_N_RISE: the reset ends; in Sleep or Standby the edge is a wake (R379). -/
def execRstNRise (s : State) : Out := .next (wake { s with pw := { s.pw with rstLow := false } })

/-- WAKE_TIMER (R439). -/
def execWakeTimer (s : State) : Out :=
  if due s .wake ∧ pstate s ≤ 1 then .next (wake (bump (event (disarm s .wake) TH_INT_WAKE_TMR) (cTH_CNT 2))) else .next s

/-! ### Rails (R364, R437, R438) -/

/-- A rail's number in TH_PSTATE.RAILS. -/
def railNum : Rail → Nat
  | .vdd => 0
  | .vio => 1
  | .vdda => 2
  | .vdrv => 3
  | .vpd => 4
  | .vhtr => 5

/-- A rail's flag. -/
def setRail (s : State) (i : Nat) (b : Bool) : State := setFlag s ⟨aTH_PSTATE, 8 + i, 8 + i⟩ b

/-- The fuses are copied into their shadows as VDD rises (R396). -/
def loadFuses (s : State) : State :=
  let one := fun (s : State) (i : Nat) =>
    match rowAt (fuBase + 4 * i) with
    | some r => wr s (fuBase + 4 * i) (r.fields.foldl (fun w f => withBits w f.hi f.lo (bitsOf (Config.fuseWord i) f.hi f.lo)) 0)
    | none => s
  let s1 := (List.range 24).foldl one s
  setFlag (setF s1 FU_STATUS_VALID 1) FU_STATUS_CRC_ERR (! Config.fusesGood)

/-- RAIL_GOOD (R437). -/
def execRailGood (r : Rail) (s : State) : Out :=
  let i := railNum r
  let s1 := setRail s i true
  let s2 := if i = 0 ∧ railGood s 0 = false then loadFuses s1 else s1
  let s3 := recheckConditions s2
  .next (if i = 0 ∧ s.pw.rstLow then restIn s3 1 else refreshReady s3)

/-- The state that a loss of VDD leaves: while RST_N is low, Sleep (R382); Standby where VDD was required, retained Sleep among these (R438); else Sleep goes
on. -/
def stateWithoutVdd (s : State) : Nat := if s.pw.rstLow then 0 else if railRequired s 0 then 1 else 0

/-- VDD is lost (R364, R380, R438): clamps close, islands are reset, memories and fuse shadows lose their contents. -/
def loseVdd (s : State) : State :=
  let s1 := collapse s
  let s2 := { s1 with mem := [], regs := cellDrop (fun a => decide (fuBase ≤ a ∧ a < fuBase + 0x10000)) s1.regs }
  restIn (setF s2 TH_PSTATE_RETAINED 0) (stateWithoutVdd s)

/-- A park request of the Tollhouse: it reaches the central island (R244, R378). -/
def tollPark (s : State) : State := bump (parkRequest s) (cTH_CNT 3)

/-- RAIL_BAD (R438). -/
def execRailBad (r : Rail) (s : State) : Out :=
  let i := railNum r
  if railGood s i = false then .next s
  else
    let needed := railRequired s i
    let s1 := setRail s i false
    let s2 := if needed then bump (event s1 TH_INT_SUP_BAD) (cTH_CNT 4) else s1
    let s3 := match r with
      | .vdd => loseVdd s2
      | .vdrv => if needed then raise (tollPark (closeClamps s2)) 0x400 0x50 clsFatal false 0 else closeClamps s2
      | .vdda => if needed then raise (tollPark s2) 0x400 0x51 clsFatal false 0 else s2
      | .vio => if needed then abandonJobs (breakFlash s2) else s2
      | _ => s2
    .next (refreshReady s3)

/-! ### The heater rail (R365) -/

/-- The heater voltage a pier needs beyond VHR, in mV: ⌈RH × TC / 25,600⌉ of the connected deck's live trim code. -/
def heaterMv (s : State) (n l : Nat) : Nat :=
  (getM s (calRec n l) cRH * getF s (liveT n l (getF s (PR_OUT_OWNER n l))) + 25599) / 25600

/-- V_REQ before its clamp and its slope, in mV. -/
def wantedMv (s : State) : Nat :=
  match getF s TH_HTRK_MODE with
  | 1 =>
    let span := fun (n : Nat) => getF s (LZ_VHCFG_VHR n) + getF s TH_HTRK_MARGIN + (List.range 512).foldl (fun m l => max m (heaterMv s n l)) 0
    (List.range 36).foldl (fun m n => max m (span n)) 0
  | 2 => getF s TH_HTRK_FIXED
  | _ => 1200

/-- HTR_TRK_UPDATE: the request rises at once and falls by 0.5 mV each 10 µs; n is 0 while any clamp is closed. REQ shows whole millivolts, whose rounding is
open (log entry 2). -/
def execHtrTrkUpdate (s : State) : Out :=
  let want := 2 * min 5500 (max 1200 (wantedMv s))
  let now := if s.pw.request ≤ want then want else max want (s.pw.request - 1)
  let (mv, s1) := divFree { s with pw := { s.pw with request := now } } (now : Int) 2
  let n := if clampedSpans s ≠ [] then 0 else ((now - 2400) * 512 + 4299) / 4300
  .next (setF (setF s1 TH_HTRK_STAT_REQ mv.toNat) TH_HTRK_STAT_DUTY n)

/-! ### VTH -/

/-- VTH_POWER_LOSS: every supply fails (R483). What stays is the flash, and a page being programmed is undefined (R419). -/
def execVthPowerLoss (s : State) : Out :=
  let s1 := breakFlash s
  .next { State.reset with pending := s1.pending, elapsed := s1.elapsed, free := s1.free, flash := s1.flash }

/-- VTH_POWER_ON: the power-on reset releases; every Tollhouse register is reset (R422, R437). The time since VTH begins anew. -/
def execVthPowerOn (s : State) : Out :=
  .next { State.reset with pending := s.pending, free := s.free, flash := s.flash }

/-- XTAL_VALID: the Tollhouse moves to the crystal; the running conversion restarts (R420). -/
def execXtalValid (s : State) : Out :=
  if flag s TH_STATUS_XTAL_VALID ∨ (pstate s = 0 ∧ s.pw.moving.isNone) then .next s
  else
    .next (switchClock s true)

end Sys2Proof.Machine
end

