-- ==== Sys2Proof/Machine/Flash.lean ====
section
/-!
DEFINITION. Machine/Flash.lean: the host's flash operations (R416 to R419).
-/
namespace Sys2Proof.Machine

/-- Whether any 64 KiB block of a flash range lies inside an enabled write-protect range (R395); after a failed fuse check every block does (R396). -/
def writeProtected (s : State) (a n : Nat) : Bool :=
  flag s FU_STATUS_CRC_ERR || (List.range 4).any (fun i =>
    flag s (FU_WP_EN i) && decide (getF s (FU_WP_START i) ≤ (a + n - 1) / 0x10000 ∧ a / 0x10000 ≤ getF s (FU_WP_END i)))

/-- A firmware slot has passed its check and is the running slot (R400), which a cluster may have to restart from (R401): from step 3 of R409 on, and in a recovery
mode that a failed footing check has led to. -/
def firmwareStands (s : State) : Bool :=
  decide ((3 ≤ getF s NV_STATUS_STAGE ∧ getF s NV_STATUS_STAGE ≤ 5) ∨ (getF s NV_STATUS_STAGE = 6 ∧ getF s NV_STATUS_FOOT_ERR ≠ 0))

/-- The flash range an operation acts on: an erase takes the sector or block that holds NV_ADDR. -/
def opRange (s : State) (op : Nat) : Nat × Nat :=
  let a := getF s NV_ADDR_ADDR
  if op = 3 then (a / 0x1000 * 0x1000, 0x1000) else if op = 4 then (a / 0x10000 * 0x10000, 0x10000) else (a, getF s NV_LEN_LEN)

/-- The first `n` bytes of NV_BUF, lowest address in bits [7:0] of word 0. -/
def bufBytes (s : State) (n : Nat) : List Byte :=
  (List.range n).map (fun i => BitVec.ofNat 8 ((rd s (aNV_BUF (i / 4))).toNat / 256 ^ (i % 4)))

/-- A refused operation (R417). -/
def refuseFlash (s : State) : State := bump (event s NV_INT_REFUSED) (cNV_CNT 3)

/-- NV_CMD written (R416, R417). `allowed` says whether the writer may erase and program (the FLASH role of the port for a write over ALP). The answer says
whether write protection refused it (R75); a protected range is tested first, in the order of R417. -/
def nvCommand (s : State) (op : Nat) (allowed : Bool) : State × Bool :=
  if op = 0 ∨ 4 < op then (s, false)
  else
    let (a, n) := opRange s op
    let change := decide (2 ≤ op)
    if change ∧ (allowed = false ∨ writeProtected s a n) then (refuseFlash s, true)
    else if s.bt.host.isSome then (refuseFlash s, false)
    else if change ∧ (meets a n 0x01800000 0xFE800000
        ∨ (firmwareStands s ∧ meets a n (fwAddr (getF s NV_STATUS_FW_SLOT)) 0x400000)
        ∨ (op = 2 ∧ a / pageSize s ≠ (a + n - 1) / pageSize s)
        ∨ 2 ^ getF s NV_FLASH_DENSITY < a + n) then (refuseFlash s, false)
    else
      let h : HostOp := ⟨op, a, if op = 2 then bufBytes s n else [], n, s.th.op.isSome⟩
      (setFlag { s with bt := { s.bt with host := some h } } NV_STATUS_BUSY true, false)

/-- A read's bytes go to NV_BUF; bytes beyond the flash have free values. -/
def readToBuf (s : State) (a n : Nat) : State :=
  (List.range n).foldl (fun s i =>
    let (v, s1) := if a + i < 2 ^ getF s NV_FLASH_DENSITY then ((cellGet flashDefault s.flash (a + i)).toNat, s) else fresh s 256
    setF s1 ⟨aNV_BUF (i / 4), 8 * (i % 4) + 7, 8 * (i % 4)⟩ v) s

/-- What a finished host operation has done. Where the flash reports a failure, what it leaves is undefined: free values. -/
def applyHost (s : State) (h : HostOp) (ok : Bool) : State :=
  match h.op with
  | 1 => bump (if ok then readToBuf s h.addr h.len else s) (cNV_CNT 0)
  | 2 => footDirty (bump (if ok then flashProgram s h.addr h.data else flashUndefined s h.addr h.data.length) (cNV_CNT 1)) h.addr h.len
  | _ => footDirty (bump (if ok then flashErase s h.addr h.len else flashUndefined s h.addr h.len) (cNV_CNT 2)) h.addr h.len

/-- FLASH_OP_DONE: the host operation that runs on the flash ends (R416); the Tollhouse's may follow (R418). While the pins are not driven (R389) nothing
reaches the flash, and the operation ends with ERR. -/
def execFlashOpDone (ok : Bool) (s : State) : Out :=
  match s.bt.host with
  | some h =>
    if h.waits then .next s
    else if flashDriven s = false then .next (setFlag (bump (event { s with bt := { s.bt with host := none } } NV_INT_ERR) (cNV_CNT 5)) NV_STATUS_BUSY false)
    else
      let s1 := applyHost { s with bt := { s.bt with host := none } } h ok
      let s2 := setFlag (event s1 NV_INT_DONE) NV_STATUS_BUSY false
      .next (nextFlash (if ok then s2 else bump (event s2 NV_INT_ERR) (cNV_CNT 5)))
  | none => .next s

end Sys2Proof.Machine
end

