-- ==== Sys2Proof/Machine/Route.lean ====
section
/-!
DEFINITION. Machine/Route.lean: ROUTE_DONE (R185, R206, R207, R322, R67, R68), and the marking of failed piers by registers (R201).
-/
namespace Sys2Proof.Machine

/-- What a half gives, with the computed result beside it. -/
def halfResult (r : RouteResult) (conns : List Conn) (gs : List Group) : RouteHalf → RouteResult
  | .asComputed => r
  | .upset ts dl =>
    match r with
    | .staged cs gs' _ _ => .staged cs gs' ts dl
    | .cancel _ _ _ => .staged (conns.map (fun c => ⟨c.1, c.2.1, c.2.2, []⟩)) gs ts dl
  | .cancel code =>
    match r with
    | .cancel c i d => if c = code then .cancel c i d else .cancel code wholeIndex 0
    | .staged _ _ _ _ => .cancel code wholeIndex 0

/-- The cancellation code of a result. -/
def cancelCode : RouteResult → Option Nat
  | .cancel c _ _ => some c
  | .staged _ _ _ _ => none

/-- What the checkers compare of two results (R206): every target, the disturbance list, the code. -/
def sameHalves (a b : RouteResult) : Bool :=
  match a, b with
  | .staged _ _ t1 d1, .staged _ _ t2 d2 => decide (t1 = t2 ∧ d1 = d2)
  | .cancel c1 _ _, .cancel c2 _ _ => decide (c1 = c2)
  | _, _ => false

/-- A checker's verdict on one half (R206). -/
def verdict (s : State) (m : EMap) (conns : List Conn) (gs : List Group) (named : List Nat) (refuses : Bool) (mine other : RouteResult) : Bool :=
  match mine with
  | .cancel c _ _ => decide (cancelCode other = some c)
  | .staged _ _ ts dl =>
    checkRoute s m (conns.map (fun c => ⟨c.1, c.2.1, c.2.2, []⟩)) gs named ts (liveFor s conns) dl refuses

/-- The half a deck stages from its verdicts (R207): 0 or 1, or nothing. -/
def stagesHalf (v0 v1 : Bool) : Option Nat := if v0 then some 0 else if v1 then some 1 else none

/-- The targets a result gives the spans. -/
def resultTargets : RouteResult → List (Nat × Nat)
  | .staged _ _ ts _ => ts
  | .cancel _ _ _ => []

/-- Targets other than HOLD enter the projected state (R185). -/
def projectTargets (s : State) (ts : List (Nat × Nat)) : State :=
  let d := fun k => match s.ks.map with
    | some m => if isAttenuator m k then tgtBlock else tgtState 0
    | none => tgtState 0
  { s with ks := { s.ks with targets := ts.foldl (fun t e => if e.2 = tgtHold then t else cellPut d t e.1 e.2) s.ks.targets } }

/-- KS_TIME and the counters of the method (R187, R477). -/
def countRoute (s : State) (m : EMap) (q : Request) (ns : Nat) : State :=
  let x := opsOf q.words
  let k := methodOf s m q.typ q.dposs x
  let t := min ns (routeBound s m x k)
  let s1 := setF (bump s (cKS_CNT 0)) KS_TIME_LAST (min t 65535)
  let s2 := setF s1 KS_TIME_MAX (max (getF s KS_TIME_MAX) (min t 65535))
  match k with
  | .incremental => bump s2 (cKS_CNT 1)
  | .seeded => histogram (bump s2 (cKS_CNT 2)) 10 (t / 16)
  | .ratio => bump s2 (cKS_CNT 3)

/-- A routed request cannot be realised (R68): it is cancelled and counted by its code. -/
def routeCancelled (s : State) (q : Request) (code index detail : Nat) : State :=
  let s1 := match code with
    | 0x40 => bump (event s KS_INT_WOULD_DISTURB) (cKS_CNT 4)
    | 0x41 => bump (event s KS_INT_UNROUTABLE) (cKS_CNT 5)
    | _ => bump s (cKS_CNT 6)
  cancelRequest s1 q code index detail

/-- The body of a ROUTE_REPORT (R67). -/
def reportBody (dl : List (Nat × Nat)) : List Byte :=
  beBytes 2 dl.length ++ [0, 0] ++ dl.flatMap (fun c => beBytes 4 (c.1 % 1024 * 2 ^ 10 + c.2 % 1024))

/-- A result is staged: the projected state becomes it (R185), the spans are told the targets, and on a lane that admits disturbance the ROUTE_REPORT
is queued (R67, R70). -/
def routeStaged (s : State) (q : Request) (conns : List Conn) (cs : List Circuit) (gs : List Group) (ts dl : List (Nat × Nat))
    (a b : Option (List (Nat × Nat))) : State :=
  let s1 := projectTargets s ts
  let outs := ((opsOf q.words).entries.map enOut).eraseDups
  let named := outs.map (fun o => (o, setAs conns o)) ++ s1.ks.named.filter (fun e => e.1 ∉ outs)
  let s2 := { s1 with ks := { s1.ks with circuits := cs, groups := gs, named := named, queue := s1.ks.queue.filter (fun i => decide (i ≠ q.id)) } }
  let s3 := { s2 with dr := { s2.dr with routed := s2.dr.routed ++ [⟨q.id, q.tW, a, b, []⟩] } }
  let s4 := updateRequest s3 q.id (fun r => { r with phase := .staged, disturbed := dl.length })
  let s5 := if q.dposs then bumpBy (queueReport s4 q 0x85 q.deliver (reportBody dl)) (cKS_CNT 7) dl.length else s4
  showKeystone s5

/-- The halves of a request as both decks judge them (R207): the results, each deck's verdicts, and what each stages. -/
structure Judged where
  h0 : RouteResult
  h1 : RouteResult
  a0 : Bool
  a1 : Bool
  b0 : Bool
  b1 : Bool
  deriving DecidableEq, Repr

/-- The result of half `k`. -/
def Judged.half (j : Judged) (k : Nat) : RouteResult := if k = 0 then j.h0 else j.h1

/-- The deck that takes cause 7 where the decks stage different halves (R322). -/
def divergent (s : State) (j : Judged) : Option Nat :=
  match stagesHalf j.a0 j.a1, stagesHalf j.b0 j.b1 with
  | some x, some y =>
    if x = y ∨ sameHalves j.h0 j.h1 then none
    else
      let aFails := ! (if x = 0 then j.b0 else j.b1)
      let bFails := ! (if y = 0 then j.a0 else j.a1)
      if aFails && bFails then some (1 - lead s) else if aFails then some 0 else if bFails then some 1 else none
  | _, _ => none

/-- Faults of the halves and the checkers (R206, R207, R322): a deck whose checker rejects both halves counts as a checker rejection. With both
halves rejected on both decks the fault is fatal. -/
def routeFaults (s : State) (q : Request) (j : Judged) : State :=
  let s1 := if sameHalves j.h0 j.h1 then s
    else raise (bump (event s KS_INT_CHECK_MISMATCH) (cKS_CNT 8)) 0x003 0x13 clsCorrected false q.lane
  let noA := decide (stagesHalf j.a0 j.a1 = none)
  let noB := decide (stagesHalf j.b0 j.b1 = none)
  let s2 := if noA ∨ noB then bumpBy (event s1 KS_INT_CHECK_REJECT) (cKS_CNT 9) ((if noA then 1 else 0) + (if noB then 1 else 0)) else s1
  let s3 := if noA ∧ noB then raise (lowerAll (lowerAll s2 0 8) 1 8) 0x003 0x14 clsFatal false q.lane
    else if noA then lowerAll s2 0 8 else if noB then lowerAll s2 1 8 else s2
  match divergent s j with
  | some d => lowerAll s3 d 7
  | none => s3

/-- The half that the claim-owning deck stages (R207, R322). -/
def stagedHalf (s : State) (j : Judged) : Option Nat :=
  match stagesHalf j.a0 j.a1, stagesHalf j.b0 j.b1 with
  | some x, some y => match divergent s j with
    | some 0 => some y
    | _ => some x
  | some x, none => some x
  | none, y => y

/-- The oldest dispatched request that waits for its route, in flight. -/
def routing (s : State) : Option Request := s.ks.queue.head?.bind (fun i => s.ad.inflight.find? (fun r => decide (r.id = i)))

/-- ROUTE_DONE: Keystone completes the oldest dispatched request. Its result waits until the linearizers have done with the one before (R28). -/
def execRouteDone (ns : Nat) (half0 half1 : RouteHalf) (checkA checkB : CheckerUpset) (ecc : List MemUpset) (s : State) : Out :=
  match routing s, s.ks.map with
  | some q, some m =>
    if s.dr.routed.any (passesLeft s) then .next s else
    let s := meetEcc s ecc
    let s0 := if s.ks.win = q.tW then s else { s with ks := { s.ks with win := q.tW, base := s.ks.circuits, named := [] } }
    let (k, s1) := fresh s0 (2 ^ 20)
    let r := routeRequest s1 m q q.dposs k
    let (conns, gs) := resulting s1 q.typ (opsOf q.words)
    let h0 := halfResult r conns gs half0
    let h1 := halfResult r conns gs half1
    let refuses := decide (q.typ = 2) && ! q.dposs
    let named := (opsOf q.words).groups.map (fun r => grGroup r.1)
    let v0 := verdict s1 m conns gs named refuses h0 h1
    let v1 := verdict s1 m conns gs named refuses h1 h0
    let j : Judged := ⟨h0, h1, checkA.getD v0, checkA.getD v1, checkB.getD v0, checkB.getD v1⟩
    let s2 := routeFaults (countRoute s1 m q ns) q j
    let of := fun (x : Option Nat) => x.map (fun h => resultTargets (j.half h))
    match stagedHalf s1 j with
    | none => .next (showKeystone { s2 with ks := { s2.ks with queue := s2.ks.queue.filter (fun i => decide (i ≠ q.id)) } })
    | some h =>
      match j.half h with
      | .cancel c i d => .next (showKeystone (routeCancelled s2 q c i d))
      | .staged cs gs' ts dl =>
        .next (routeStaged s2 q conns cs gs' ts dl (of (stagesHalf j.a0 j.a1)) (of (stagesHalf j.b0 j.b1)))
  | _, _ => .next s

/-! ### Failed piers by register (R201) -/

/-- The bits of word `i` of KS_FAILMAP written 1 mark their piers (R10 W1S, R201). -/
def failWord (s : State) (i v : Nat) : State :=
  (setBitsOf 32 v).foldl (fun s b => markFailed s (32 * i + b)) s

end Sys2Proof.Machine
end

