-- ==== Sys2Proof/Machine/RegWrite.lean ====
section
/-!
DEFINITION. Machine/RegWrite.lean: what a write of one word does to a register (R10): each field by its access code, then what the
register's own chapter says the write starts.
-/
namespace Sys2Proof.Machine

/-! ### The access codes (R10) -/

/-- One field of a word after a write of `v` to a register that holds `w` (R10). -/
def fieldWrite (v w : Word) (f : FieldRow) : Word :=
  match f.acc with
  | .rw => match f.norm.apply (bitsOf v f.hi f.lo) with
    | some x => withBits w f.hi f.lo x
    | none => w
  | .w1c => withBits w f.hi f.lo (bitsOf (w &&& ~~~ v) f.hi f.lo)
  | .w1s => withBits w f.hi f.lo (bitsOf (w ||| v) f.hi f.lo)
  | .ro => w
  | .rc => w
  | .wo => w

/-- A register's word after a write of `v` over `old`; bits that no field names are RSVD and keep their value. -/
def storedWord (fs : List FieldRow) (old v : Word) : Word := fs.foldl (fieldWrite v) old

/-- The access codes applied to the register at an address; where none is defined the write is ignored (R508). -/
def storeWrite (s : State) (a : Nat) (v : Word) : State :=
  match rowAt a with
  | some r => wr s a (storedWord r.fields (rd s a) v)
  | none => s

/-! ### What a write starts -/

/-- AD_PART word 0 (R133): a SIZE that would make the partitions total more than 163,840 cells changes nothing. -/
def partitionWritten (s : State) (a : Nat) (v : Word) : State :=
  let s1 := storeWrite s a v
  if 163840 < partitionTotal s1 then event s AD_INT_PART_ERR else s1

/-- LS_CTRL (R167, R172, R173). -/
def lsCtrlWritten (s : State) (v : Word) : State :=
  let s1 := if v.getLsbD 2 then swapWritten s else s
  refreshReady (if flag s1 LS_CTRL_EN then s1 else enCleared s1)

/-- LS_BANK and LS_ENTRY (R166, R172): a write to the active bank, or to the other one while a swap is pending, sets WR_ERR and changes nothing. -/
def bankWritten (s : State) (b a : Nat) (v : Word) : State :=
  if bankHeld s b then event s LS_CTRL_WR_ERR else storeWrite s a v

/-- AD_PIPE written: an active bank that is valid no longer under R166 stops the schedule (R167). -/
def pipeWritten (s : State) : State := refreshReady (if bankValid s (lsBank s) then s else stopSchedule s)

/-- DK_PEXCL written (W1S, R324): a pier whose paths are then both excluded is marked failed, with the contained fault. -/
def exclWritten (s0 s : State) (d i : Nat) (v : Word) : State :=
  (setBitsOf 32 v.toNat).foldl (fun s b =>
    let g := 32 * i + b
    if g < 18432 ∧ excluded s0 g d = false ∧ excluded s g (1 - d) then
      markFailed (raise s (0x203 + 4 * (g / 512)) 0x23 clsContained false g) g
    else s) s

/-- FREEZE written 0 ends every hold (R321). -/
def unfreezeAll (s : State) : State :=
  s.dr.piers.foldl (fun s e => if e.2.held.isSome then unfreeze s (e.1 / 512) (e.1 % 512) else s) s

/-- DK_CTRL written: a new NOM waits while a handover is in progress (R311); a FREEZE that falls ends the holds (R321). -/
def dkCtrlWritten (s0 s : State) : State :=
  let old := getF s0 DK_CTRL_NOM
  let new := getF s DK_CTRL_NOM
  let s1 := if flag s0 DK_CTRL_FREEZE ∧ flag s DK_CTRL_FREEZE = false then unfreezeAll s else s
  if s1.dk.handing = [] then applyNom s1 old new
  else setF { s1 with dk := { s1.dk with nomPend := some new } } DK_CTRL_NOM old

/-- TH_PCTRL written (R374): in Sleep and Standby TARGET is raised only by a wake. A TARGET other than Service acts on the schedule as EN = 0. -/
def targetWritten (s0 s : State) : State :=
  let s1 := if pstate s ≤ 1 ∧ getF s0 TH_PCTRL_TARGET < getF s TH_PCTRL_TARGET
    then setF s TH_PCTRL_TARGET (getF s0 TH_PCTRL_TARGET) else s
  refreshReady (runFalls s1 (netNs s1))

/-- HK_ENTRY written: the entry starts afresh (R434). An entry whose INPUT has changed has no result yet (DEDUCED, log entry 42). -/
def hkEntryWritten (s0 s : State) (i : Nat) : State :=
  showZones (hkFresh (if getF s0 (HK_ENTRY_w0_INPUT i) = getF s (HK_ENTRY_w0_INPUT i) then s else setF s (HK_ENTRY_w7_VALID i) 0) i)

/-- HK_CTRL written: when the sequence starts, every entry starts afresh (R434) and a cycle begins at once; when it stops, no further
entry starts. -/
def hkCtrlWritten (s0 s : State) : State :=
  showZones (if flag s HK_CTRL_EN ∧ flag s0 HK_CTRL_EN = false then
    (List.range 16).foldl hkFresh { s with th := { s.th with cycle := none } }
  else s)

/-- TC_CTRL written (R486, R487, R493). -/
def tcCtrlWritten (s : State) (v : Word) : State :=
  let s1 := if v.getLsbD 0 then captureArm s else s
  let s2 := if v.getLsbD 1 then captureStop s1 else s1
  let s3 := if v.getLsbD 2 then captureForce s2 else s2
  if flag s3 TC_CTRL_CSYNC_EN then s3 else setF s3 TC_STATUS_CSYNC_LOST 0

/-- TC_STREAM written (R494): held while the unit is not idle or done, applied at the next ARM. -/
def streamWritten (s : State) (k : Nat) : State :=
  if tcState s = 0 ∨ tcState s = 4 then
    let s1 := { s with tc := { s.tc with streams := cellPut (fun _ => 0) s.tc.streams k (rd s (aTC_STREAM k)) } }
    if samePier (streamOf s k) (rd s (aTC_STREAM k)) then s1 else setCont s1 k false
  else s

/-! ### Windows -/

/-- A write to a control port's window (R87, R91). -/
def cpWrite (s : State) (p a : Nat) (v : Word) : State :=
  let s1 := storeWrite s a v
  if a = aCP_CTRL p then cpCtrlEffect s1 p else s1

/-- A write to the Tollgate's window. -/
def tgWrite (s : State) (a : Nat) (v : Word) : State :=
  let s1 := storeWrite s a v
  if a = aTG_GEN_CTRL then (if v.getLsbD 0 then commit s1 else s1)
  else if a = aTG_FWQ then (if v.getLsbD 10 then fwqPop s1 else s1)
  else if a = aTG_RULE_OP then ruleOp s1 (bitsOf v 12 11)
  else if aTG_POL_w0 0 ≤ a ∧ a < aTG_POL_w0 64 then policerWritten s1 ((a - aTG_POL_w0 0) / 8)
  else s1

/-- A write to the window of admission and lanes. -/
def adWrite (s : State) (a : Nat) (v : Word) : State :=
  if aAD_PART_w0 0 ≤ a ∧ a < aAD_PART_w0 64 ∧ (a - aAD_PART_w0 0) % 8 = 0 then partitionWritten s a v
  else
    let s1 := storeWrite s a v
    if a = aAD_PIPE then pipeWritten s1
    else if a = aLN_SEL then (if bitsOf v 17 16 = 1 then laneLoad s1 else if bitsOf v 17 16 = 2 then laneWrite s1 else s1)
    else if aLN_SHP_w0 0 ≤ a ∧ a < aLN_SHP_w0 64 ∧ (a - aLN_SHP_w0 0) % 16 < 8 then shaperWritten s1 ((a - aLN_SHP_w0 0) / 16)
    else s1

/-- A write to the window of network time and the lift schedule. -/
def ntWrite (s : State) (a : Nat) (v : Word) : State :=
  if aLS_BANK_w0 0 ≤ a ∧ a < aLS_BANK_w0 2 then bankWritten s ((a - aLS_BANK_w0 0) / 16) a v
  else if aLS_ENTRY 0 ≤ a ∧ a < aLS_ENTRY 512 then bankWritten s ((a - aLS_ENTRY 0) / 0x400) a v
  else
    let s1 := storeWrite s a v
    if a = aLS_CTRL then lsCtrlWritten s1 v else s1

/-- A write to Keystone's window (R201). -/
def ksWrite (s : State) (a : Nat) (v : Word) : State :=
  if aKS_FAILMAP 0 ≤ a ∧ a < aKS_FAILMAP 576 ∧ a % 4 = 0 then failWord s ((a - aKS_FAILMAP 0) / 4) v.toNat
  else if a = aKS_FAIL_CLR then clearFailed s (bitsOf v 14 0)
  else storeWrite s a v

/-- A write to the decks' window, which calibration's central registers share. -/
def dkWrite (s : State) (a : Nat) (v : Word) : State :=
  let s1 := storeWrite s a v
  if a = aDK_CTRL then dkCtrlWritten s s1
  else if a = aDK_WDOG_A then (if v.getLsbD 16 then kick s1 0 else s1)
  else if a = aDK_WDOG_B then (if v.getLsbD 16 then kick s1 1 else s1)
  else if a = aDK_CMD then
    let s2 := if v.getLsbD 8 then handover s1 else s1
    if v.getLsbD 9 then resync s2 else s2
  else if a = aDK_PEXCL_CLR then returnPath s1 (bitsOf v 14 0) (bitsOf v 15 15)
  else if aDK_PEXCL_A 0 ≤ a ∧ a < aDK_PEXCL_A 576 then exclWritten s s1 0 ((a - aDK_PEXCL_A 0) / 4) v
  else if aDK_PEXCL_B 0 ≤ a ∧ a < aDK_PEXCL_B 576 then exclWritten s s1 1 ((a - aDK_PEXCL_B 0) / 4) v
  else if a = aCAL_CMD then
    let s2 := if v.getLsbD 7 then sweepCommand s1 else s1
    if v.getLsbD 8 then startStore s2 else s2
  else s1

/-- A write to the collector's window (R454). -/
def fcWrite (s : State) (master a : Nat) (v : Word) : State :=
  if a = aFC_CLR then clearFault s master (bitsOf v 3 0) else if a = aFC_ALIVE then aliveWritten s (storeWrite s a v) else storeWrite s a v

/-- A write to the capture unit's window. -/
def tcWrite (s : State) (a : Nat) (v : Word) : State :=
  let s1 := storeWrite s a v
  if a = aTC_CTRL then tcCtrlWritten s1 v
  else if aTC_STREAM 0 ≤ a ∧ a < aTC_STREAM 64 then streamWritten s1 ((a - aTC_STREAM 0) / 4)
  else s1

/-- A write to the NVM window (R410, R416); the answer says whether NOT_PERMITTED is due. -/
def nvWrite (s : State) (mayFlash : Bool) (a : Nat) (v : Word) : State × Bool :=
  if a = aNV_CMD then nvCommand s (bitsOf v 2 0) mayFlash else (storeWrite s a v, false)

/-- A write to the Tollhouse's window. -/
def thWrite (s : State) (a : Nat) (v : Word) : State :=
  let s1 := storeWrite s a v
  if a = aTH_PCTRL then targetWritten s s1
  else if a = aHK_CTRL then hkCtrlWritten s s1
  else if a = aTH_WAKE then (if pstate s1 ≤ 1 then armWake s1 else s1)
  else if a = aHK_URG then (if v.getLsbD 12 then urgentWritten s1 else s1)
  else if aHK_ENTRY_w0 0 ≤ a ∧ a < aHK_ENTRY_w0 16 ∧ (a - aHK_ENTRY_w0 0) % 32 < 20 then hkEntryWritten s s1 ((a - aHK_ENTRY_w0 0) / 32)
  else s1

/-- A write to the registers of a span's window. -/
def spanWrite (s : State) (n a : Nat) (v : Word) : State :=
  let s1 := storeWrite s a v
  if a = aTE_PSEL n then pselOp s1 n (bitsOf v 11 10)
  else if a = aTE_LOOP n then periodWritten s1 n (getF s (TE_LOOP_PERIOD n))
  else if aPR_CTRL n 0 ≤ a ∧ a < aPR_CTRL n 512 ∧ (a - aPR_CTRL n 0) % 32 = 0 then
    let l := (a - aPR_CTRL n 0) / 32
    let was := flag s (PR_CTRL_FORCE_PARK n l)
    if flag s1 (PR_CTRL_FORCE_PARK n l) then (if was then s1 else forcePark s1 n l)
    else if was then releasePark s1 n l else s1
  else s1

/-- The word at a register address written by a bus master; the answer says whether flash protection refused it (R75). -/
def regWritten (s : State) (master : Nat) (mayFlash : Bool) (a : Nat) (v : Word) : State × Bool :=
  if a < 0x40000000 then (s, false)
  else if a < 0x64000000 then (spanWrite s ((a - 0x40000000) / 0x1000000) a v, false)
  else if a < adBase then (tgWrite s a v, false)
  else if a < ntBase then (adWrite s a v, false)
  else if a < ksBase then (ntWrite s a v, false)
  else if a < dkBase then (ksWrite s a v, false)
  else if a < fcBase then (dkWrite s a v, false)
  else if a < tyBase then (fcWrite s master a v, false)
  else if a < tcBase then (storeWrite s a v, false)
  else if a < bmBase then (tcWrite s a v, false)
  else if a < nvBase then (storeWrite s a v, false)
  else if a < fuBase then nvWrite s mayFlash a v
  else if a < 0xE0100000 then (storeWrite s a v, false)
  else if a < 0xE0160000 then (cpWrite s ((a - 0xE0100000) / 0x10000) a v, false)
  else (thWrite s a v, false)

end Sys2Proof.Machine
end

