-- ==== Sys2Proof/Machine/Bus.lean ====
section
/-!
DEFINITION. Machine/Bus.lean: the deck view as the bus matrix serves it: regions and memories (R507 to R511), the words that a read shows,
refused accesses (R497), waits (R498), locked sequences (R499), and reads that act: counter latches (R468), NT_TIME (R146) and RC fields (R10).
-/
namespace Sys2Proof.Machine

/-! ### Places of the deck view (R410, R507 to R511) -/

/-- What an address of the deck view names: a register window, a byte of a memory (by its key; the internal tables of R510 are memories), a byte of the boot
ROM, unused space of a region (R508), or no region. -/
inductive Place where
  | register
  | memory (key : Nat)
  | rom (off : Nat)
  | unused
  | outside
  deriving DecidableEq, Repr

/-- The deck whose remappable window and RAM a master sees: its own, or the lead deck's (R496). -/
def deckOf (s : State) (master : Nat) : Nat := if master ≤ 1 then master else lead s

/-- The remap bit of a deck's cluster (R410). -/
def remapped (s : State) (d : Nat) : Bool := flag s (if d = 0 then NV_REMAP_REMAP_A else NV_REMAP_REMAP_B)

/-- The key of a byte of a deck's RAM: Deck A's stands at its deck-view address, Deck B's 4 GiB above. -/
def ramKey (d o : Nat) : Nat := 0x10000000 + o + 0x100000000 * d

/-- A span window's memories (R511). -/
def spanMemory (n o : Nat) : Bool :=
  decide (0x100000 ≤ o ∧ o < 0x154000) || decide (0x200000 ≤ o ∧ o < 0x20A000) || decide (0x210000 ≤ o ∧ o < 0x21A000)
    || (decide (n = 0) && (decide (0x160000 ≤ o ∧ o < 0x190000) || decide (0x220000 ≤ o ∧ o < 0x238000) || decide (0x240000 ≤ o ∧ o < 0x258000)))

/-- Where an address lies in the view of a deck. -/
def placeOf (s : State) (d a : Nat) : Place :=
  if a < 0x100000 then (if remapped s d then .memory (ramKey d a) else .rom a)
  else if 0x10000000 ≤ a ∧ a < 0x10400000 then
    (if remapped s d ∧ a < 0x10100000 then .rom (a - 0x10000000) else .memory (ramKey d (a - 0x10000000)))
  else if inTables a then .memory a
  else if 0x38000000 ≤ a ∧ a < 0x38800000 then .memory a
  else if 0x40000000 ≤ a ∧ a < 0x64000000 then
    (if spanMemory ((a - 0x40000000) / 0x1000000) (a % 0x1000000) then .memory a
     else if a % 0x1000000 < 0x100000 then .register else .unused)
  else if 0xE0000000 ≤ a ∧ a < 0xE00B0000 then .register
  else if 0xE0100000 ≤ a ∧ a < 0xE0160000 then .register
  else if 0xE0200000 ≤ a ∧ a < 0xE0210000 then .register
  else .outside

/-- The target of an address: its region, with an arbiter of its own (R496). -/
def targetOf (a : Nat) : Nat :=
  if a < 0x100000 then 0
  else if a < 0x20000000 then 1
  else if a < 0x30000000 then 2
  else if a < 0x38000000 then 3
  else if a < 0x40000000 then 4
  else if a < 0xE0000000 then 10 + (a - 0x40000000) / 0x1000000
  else 100 + (a - 0xE0000000) / 0x10000

/-! ### What a read shows -/

/-- LZ_STATUS as read (R224, R230): stage-ready and passes of the next request window, and the age of the older deck's last complete refresh pass. -/
def lzStatusWord (s : State) (n : Nat) : Word :=
  let t := stagingWindow s
  let ready := fun (d : Nat) => match t with | some t => stageReady s n d t | none => true
  let last := min (cellGet (fun _ => 0) s.dr.refreshed (2 * n)) (cellGet (fun _ => 0) s.dr.refreshed (2 * n + 1))
  let w := withBits (withBits (rd s (aLZ_STATUS n)) 0 0 (if ready 0 then 1 else 0)) 1 1 (if ready 1 then 1 else 0)
  let w := withBits (withBits w 2 2 (if ready 0 then 0 else 1)) 3 3 (if ready 1 then 0 else 1)
  withBits w 23 8 (min ((s.elapsed - last) / 4000) 65535)

/-- KS_TOPO as read. -/
def topoWord (s : State) : Word :=
  match s.ks.map with
  | none => 0
  | some m =>
    let plain := m.cells.any (fun st => st.any (fun c => decide (c.kind = 1)))
    BitVec.ofNat 32 (m.n + 2 ^ 11 * m.stages + 2 ^ 16 * m.cls + (if flag s NV_STATUS_FOOT_OK then 2 ^ 18 else 0)
      + 2 ^ 19 * (m.extIn + m.extOut) + (if plain then 2 ^ 21 else 0))

/-- KS_BOUND as read. -/
def boundWord (s : State) : Word :=
  match s.ks.map with
  | none => 0
  | some m => BitVec.ofNat 32 (m.rb % 2 ^ 16 + 2 ^ 16 * (m.incMax % 256))

/-- PR_LIVE as read: the code requested of the deck's strings now, with its pre-emphasis (R232). -/
def liveWordNow (s : State) (n l d : Nat) : Word := withBits (rd s (liveWord n l d)) 13 0 (requestedFast s n l d)

/-- The word of HK_ENTRY that holds the state of an entry, with AGE (R434). -/
def hkStatusWord (s : State) (i : Nat) : Word :=
  let age := match (hkEntryOf s i).last with
    | some t => min ((s.elapsed - t) / 4000000) 65535
    | none => 0
  withBits (rd s (aHK_ENTRY_w7 i)) 31 16 age

/-- FC_OPEN word 3 as read: the microseconds left of an open slot's window. -/
def openWord (s : State) (i : Nat) : Word :=
  let left := (cellGet (fun _ => 0) s.fc.windows i - s.elapsed) / 4000
  if flag s (FC_OPEN_w3_VALID i) then withBits (rd s (aFC_OPEN_w3 i)) 15 0 (min left 65535) else rd s (aFC_OPEN_w3 i)

/-- Open contained faults. -/
def openCount (s : State) : Nat := ((List.range 16).filter (fun i => flag s (FC_OPEN_w3_VALID i))).length

/-- Word `k` of the pier's block of PR_ registers as read. -/
def pierWord (s : State) (n l a : Nat) : Word :=
  if a = aPR_LIVE_A n l then liveWordNow s n l 0 else if a = aPR_LIVE_B n l then liveWordNow s n l 1
  else if a = aPR_OUT n l then withBits (rd s a) 13 0 (drivenFast s n l)
  else rd s a

/-- A register of a span's window as read. -/
def spanWord (s : State) (n a : Nat) : Word :=
  if a = aLZ_STATUS n then lzStatusWord s n
  else if a = aTE_STATUS_A n then engineWord s n 0
  else if a = aTE_STATUS_B n then engineWord s n 1
  else if aPR_CTRL n 0 ≤ a ∧ a < aPR_CTRL n 512 then pierWord s n ((a - aPR_CTRL n 0) / 32) a
  else rd s a

/-- A register of the Tollgate's window as read. -/
def tgWord (s : State) (a : Nat) : Word :=
  if a = aTG_GEN_STATUS then withBits (rd s a) 31 16 (if flag s TG_GEN_CTRL_RETIRING then pinned s else 0)
  else if a = aTG_FRAG then
    let used := s.tg.frags.filterMap (fun e => e.2)
    BitVec.ofNat 32 (used.length + 2 ^ 9 * (used.filter (fun x => x.poisoned)).length)
  else if a = aTG_FWQ then withBits (rd s a) 6 0 (portOf s (getF s TG_FWQ_PSEL)).fwq.length
  else rd s a

/-- A register of the window of admission and lanes as read. -/
def adWord (s : State) (a : Nat) : Word :=
  if a = aAD_STATUS then withBits (rd s a) 13 0 s.ad.inflight.length
  else if aAD_PART_w0 0 ≤ a ∧ a < aAD_PART_w0 64 ∧ (a - aAD_PART_w0 0) % 8 = 4 then BitVec.ofNat 32 (usedCells s ((a - aAD_PART_w0 0) / 8))
  else if a = aLN_SEL then withBits (rd s a) 18 18 (if (laneOf s (getF s LN_SEL_LANE)).held.isSome then 1 else 0)
  else if aLN_SHP_w0 0 ≤ a ∧ a < aLN_SHP_w0 64 ∧ (a - aLN_SHP_w0 0) % 16 = 8 then
    BitVec.ofNat 32 (unsigned 32 (shaperBytes s ((a - aLN_SHP_w0 0) / 16)))
  else rd s a

/-- A register of the window of network time as read: NT_TIME_NS is the time now, the other words are as latched (R146). -/
def ntWord (s : State) (a : Nat) : Word :=
  if a = aNT_TIME_NS then BitVec.ofNat 32 (netNano s)
  else if a = aNT_TIME_SL then s.nt.latchSL
  else if a = aNT_TIME_SH then s.nt.latchSH
  else if a = aNT_TIME_L32 then s.nt.latchL32
  else rd s a

/-- BM_JSTAT as read: L follows the present clocks (R503). Its rounding to 0.25 ns is open. -/
def jointWord (s : State) (j : Nat) : Word :=
  let t := jointTerm s j
  let l := t / 10725 + (if t % 10725 ≠ 0 ∧ Config.roundsUp t then 1 else 0)
  if 2 ≤ pstate s ∨ flag s (BM_JSTAT_UP j) then withBits (rd s (aBM_JSTAT j)) 31 16 l else rd s (aBM_JSTAT j)

/-- The word a read of a register address shows: fields that are not stored are computed from the state; WO and RSVD read 0 (R10). -/
def viewWord (s : State) (a : Nat) : Word :=
  if 0x40000000 ≤ a ∧ a < 0x64000000 then spanWord s ((a - 0x40000000) / 0x1000000) a
  else if tgBase ≤ a ∧ a < adBase then tgWord s a
  else if adBase ≤ a ∧ a < ntBase then adWord s a
  else if ntBase ≤ a ∧ a < ksBase then ntWord s a
  else if a = aKS_TOPO then topoWord s
  else if a = aKS_BOUND then boundWord s
  else if a = aKS_QRES then queryWord s
  else if aBM_JSTAT 0 ≤ a ∧ a < aBM_JSTAT 91 then jointWord s ((a - aBM_JSTAT 0) / 4)
  else if a = aFC_STATUS then withBits (rd s a) 7 3 (openCount s)
  else if a = aFC_RCV then withBits (rd s a) 15 8 (min (recentRecoveries s).length 255)
  else if aFC_OPEN_w0 0 ≤ a ∧ a < aFC_OPEN_w0 16 ∧ (a - aFC_OPEN_w0 0) % 16 = 12 then openWord s ((a - aFC_OPEN_w0 0) / 16)
  else if aHK_ENTRY_w0 0 ≤ a ∧ a < aHK_ENTRY_w0 16 ∧ (a - aHK_ENTRY_w0 0) % 32 = 28 then hkStatusWord s ((a - aHK_ENTRY_w0 0) / 32)
  else rd s a

/-- One byte as a read shows it. -/
def viewByte (s : State) (d a : Nat) : Byte :=
  match placeOf s d a with
  | .memory k => rdByte s k
  | .rom o => Config.bootRom o
  | .register => BitVec.ofNat 8 ((viewWord s (a / 4 * 4)).toNat / 256 ^ (a % 4))
  | .unused => 0
  | .outside => 0

/-- The word a read returns in the view of a deck. -/
def viewAt (s : State) (d a : Nat) : Word :=
  match placeOf s d a with
  | .register => viewWord s a
  | _ => BitVec.ofNat 32 (leVal ((List.range 4).map (fun i => viewByte s d (a + i))))

/-! ### Reads that act -/

/-- The fields of word 1 of a block counter (R467). -/
def counterHigh : List FieldRow := [⟨15, 0, .ro, 0, .asIs⟩, ⟨31, 31, .w1c, 0, .asIs⟩]

/-- Whether the register at an address is word 1 of a block counter. -/
def isCounterHigh (a : Nat) : Bool := (rowAt a).any (fun r => decide (r.fields = counterHigh))

/-- A master's counter latch (R468). -/
def latchOf (s : State) (master : Nat) : Option (Nat × Nat) := cellGet (fun _ => none) s.bm.latches master

/-- The latch set or cleared. -/
def setLatch (s : State) (master : Nat) (x : Option (Nat × Nat)) : State :=
  { s with bm := { s.bm with latches := cellPut (fun _ => none) s.bm.latches master x } }

/-- A counter read (R468): word 0 latches bits [47:32] for the master; its next read of that counter's word 1 returns them. -/
def counterRead (s : State) (master a : Nat) : Word × State :=
  if isCounterHigh a then
    match latchOf s master with
    | some (k, v) => if k + 4 = a then (withBits (viewWord s a) 15 0 v, setLatch s master none) else (viewWord s a, s)
    | none => (viewWord s a, s)
  else if isCounterHigh (a + 4) then (viewWord s a, setLatch s master (some (a, bitsOf (rd s (a + 4)) 15 0)))
  else (viewWord s a, s)

/-- The RC fields of a register clear after a read (R10). -/
def clearOnRead (s : State) (a : Nat) : State :=
  match rowAt a with
  | some r =>
    if r.fields.any (fun f => decide (f.acc = Acc.rc)) then
      wr s a (r.fields.foldl (fun w f => if f.acc = Acc.rc then withBits w f.hi f.lo 0 else w) (rd s a))
    else s
  | none => s

/-- A read of a register by a master: its word, and what the read does. -/
def registerRead (s : State) (master a : Nat) : Word × State :=
  let (w, s1) := counterRead s master a
  if a = aNT_TIME_NS then
    (w, { s1 with nt := { s1.nt with latchSL := BitVec.ofNat 32 (netSec s), latchSH := BitVec.ofNat 32 (netSec s / 2 ^ 32), latchL32 := BitVec.ofNat 32 (stamp s) } })
  else (w, clearOnRead s1 a)

/-! ### Writes to memories -/

/-- The word with LMODE of a loop record: where LMODE becomes AUTO by it, PRESET is set (R279). -/
def loopWord (s : State) (a : Nat) (w : Word) : Word :=
  if inLoops a ∧ a % 64 = lLMODE.off ∧ bitsOf w 1 0 = 2 ∧ bitsOf (memWord s a) 1 0 ≠ 2 then withBits w 7 7 1 else w

/-- A word written into a memory of the deck view. A change in the trim table of a per-pier record is judged (R277). -/
def memoryWrite (s : State) (a key : Nat) (w : Word) : State :=
  let s1 := wrMem s key 4 (loopWord s a w).toNat
  let o := a % 0x1000000
  if 0x40000000 ≤ a ∧ a < 0x64000000 ∧ 0x100000 ≤ o ∧ o < 0x150000 then
    ttWritten s1 ((a - 0x40000000) / 0x1000000) ((o - 0x100000) / 0x280)
  else s1

/-! ### Refused accesses (R497) -/

/-- An access is refused: counted, and latched if it is the first since BM_INT.ERR was cleared. -/
def busError (s : State) (master a kind : Nat) (write : Bool) : State :=
  let s1 := if flag s BM_INT_ERR then s
    else setF (setF (setFlag (wr s aBM_ERR_ADDR (BitVec.ofNat 32 a)) BM_ERR_INFO_WRITE write) BM_ERR_INFO_MASTER master) BM_ERR_INFO_KIND kind
  bump (event s1 BM_INT_ERR) (cBM_CNT (kind - 1))

/-- Whether a write to a deck's loop state or deck-level state is by another than that deck's cluster or a truss sequencer (R497, R332). -/
def loopProtected (master a : Nat) : Bool :=
  let o := a % 0x1000000
  let at_ := fun (d : Nat) => decide (0x200000 + 0x10000 * d ≤ o ∧ o < 0x20A000 + 0x10000 * d)
    || decide (a < 0x41000000 ∧ 0x220000 + 0x20000 * d ≤ o ∧ o < 0x238000 + 0x20000 * d)
  decide (0x40000000 ≤ a ∧ a < 0x64000000 ∧ master < 12) && ((at_ 0 && decide (master ≠ 0)) || (at_ 1 && decide (master ≠ 1)))

/-- The refusal that an access meets, if any, by KIND (R497): in a register window, its unused space too (R508), it is of a whole aligned word. -/
def accessError (s : State) (master a : Nat) (write : Bool) (enables : BitVec 4 := 15) : Option Nat :=
  let partial_ := decide (a % 4 ≠ 0 ∨ enables ≠ 15)
  match placeOf s (deckOf s master) a with
  | .outside => some 1
  | .unused => if partial_ then some 2 else none
  | .register =>
    if partial_ then some 2
    else if write ∧ fuBase ≤ a ∧ a < fuBase + 0x10000 then some 3
    else none
  | .rom _ => if write then some 3 else none
  | _ => if write ∧ loopProtected master a then some 3 else none

/-! ### Locked sequences (R498, R499) -/

/-- The largest wait of a master is recorded (R498). -/
def noteWait (s : State) (master ns : Nat) : State :=
  setF s (BM_WAIT_MAX master) (max (getF s (BM_WAIT_MAX master)) (min ns 65535))

/-- Only the deck clusters and debug issue locked sequences. -/
def mayLock (master : Nat) : Bool := decide (master ≤ 1 ∨ master = 11)

/-- A lock begins: BM_STATUS shows it, and it must end within LOCK_MAX central cycles. -/
def beginLock (s : State) (master target : Nat) : State :=
  let s1 := setF (setFlag { s with bm := { s.bm with lock := some (master, target, 1) } } BM_STATUS_LOCKED true) BM_STATUS_LOCK_MASTER master
  armAt s1 .lock (s1.elapsed + 5 * getF s1 BM_CTRL_LOCK_MAX)

/-- What the lock of an access comes to (R499): granted, refused with LOCK, or waiting while another master holds the target. -/
inductive Grant where
  | granted (s : State)
  | refused (s : State)
  | waits

/-- A further access of a broken sequence (R499); with its last access the sequence is over. -/
def brokenAccess (s : State) (master : Nat) (u : LockUse) : State :=
  if u = LockUse.last then { s with bm := { s.bm with broken := s.bm.broken.filter (fun m => decide (m ≠ master)) } } else s

/-- The lock rules for one access. A sequence ends with its last access, and after eight. -/
def arbitrate (s : State) (master target : Nat) (u : LockUse) : Grant :=
  match s.bm.lock with
  | some (m, t, k) =>
    if m ≠ master then
      (if u ≠ LockUse.none ∧ master ∈ s.bm.broken then .refused (brokenAccess s master u)
       else if t = target ∨ (u ≠ LockUse.none ∧ mayLock master) then .waits
       else .granted s)
    else if u = LockUse.none then .granted s
    else if t ≠ target then .refused (if u = LockUse.last then releaseLock s master else s)
    else if u = LockUse.last ∨ 8 ≤ k + 1 then .granted (releaseLock s master)
    else .granted { s with bm := { s.bm with lock := some (m, t, k + 1) } }
  | none =>
    if u = LockUse.none ∨ mayLock master = false then .granted s
    else if master ∈ s.bm.broken then
      .refused (brokenAccess s master u)
    else if u = LockUse.last then .granted s
    else .granted (beginLock s master target)

/-- LOCK_BREAK: a locked sequence has not ended within LOCK_MAX central cycles (R499). -/
def execLockBreak (s : State) : Out :=
  match s.bm.lock with
  | some (m, _, _) =>
    if due s .lock then
      let s1 := bump (event (releaseLock s m) BM_INT_LOCK_BREAK) (cBM_CNT 4)
      .next { s1 with bm := { s1.bm with broken := m :: s1.bm.broken.filter (fun k => decide (k ≠ m)) } }
    else .next s
  | none => .next s

/-! ### Accesses -/

/-- The debug lock is in force (R393, R396). -/
def debugLocked (s : State) : Bool := flag s FU_PROT_DBG_LOCK || flag s FU_STATUS_CRC_ERR

/-- The status an access answers with (R75): 0 carried out, 0x20 bus error, 0x23 not permitted. -/
abbrev Status := Nat

/-- The bytes of a word whose enables are set take the new word's, the others stay (R497: memories accept any byte enables). -/
def mergeBytes (old w : Word) (enables : BitVec 4) : Word :=
  (List.range 4).foldl (fun x i => if enables.getLsbD i then withBits x (8 * i + 7) (8 * i) (bitsOf w (8 * i + 7) (8 * i)) else x) old

/-- A word written at a place of the deck view that accepts it. -/
def placeWrite (s : State) (master : Nat) (mayFlash : Bool) (a : Nat) (w : Word) (enables : BitVec 4 := 15) : State × Status :=
  match placeOf s (deckOf s master) a with
  | .register =>
    let (s1, refused) := regWritten s master mayFlash a w
    (s1, if refused then 0x23 else 0)
  | .memory k => (memoryWrite s a k (mergeBytes (memWord s k) w enables), 0)
  | _ => (s, 0)

/-- A write of one word over the matrix. While the debug lock is in force the debug master issues nothing (R393). -/
def busWrite (s : State) (master : Nat) (mayFlash : Bool) (a : Nat) (w : Word) (wait : Nat) (u : LockUse)
    (enables : BitVec 4 := 15) : State × Status :=
  if master = 11 ∧ debugLocked s then (s, 0)
  else match arbitrate s master (targetOf a) u with
    | .waits => (s, 0)
    | .refused s1 => (busError (noteWait s1 master wait) master a 4 true, 0x20)
    | .granted s1 =>
      let s2 := noteWait s1 master wait
      match accessError s2 master a true enables with
      | some k => (busError s2 master a k true, 0x20)
      | none => placeWrite s2 master mayFlash a w enables

/-- A word read at a place of the deck view, with what the read does. -/
def placeRead (s : State) (master a : Nat) : Word × State :=
  match placeOf s (deckOf s master) a with
  | .register => registerRead s master a
  | _ => (viewAt s (deckOf s master) a, s)

/-- A read of one word over the matrix; the word stands in `readData`. A refused read returns 0. The access's own wait is recorded after the word is taken: a
read that clears BM_WAIT leaves it (R11). -/
def busRead (s : State) (master a wait : Nat) (u : LockUse) (enables : BitVec 4 := 15) : State × Status :=
  let give := fun (s : State) (w : Word) => { s with bm := { s.bm with readData := w } }
  if master = 11 ∧ debugLocked s then (s, 0)
  else match arbitrate s master (targetOf a) u with
    | .waits => (s, 0)
    | .refused s1 => (give (busError (noteWait s1 master wait) master a 4 false) 0, 0x20)
    | .granted s1 =>
      match accessError s1 master a false enables with
      | some k => (give (busError (noteWait s1 master wait) master a k false) 0, 0x20)
      | none =>
        let (w, s2) := placeRead s1 master a
        (give (noteWait s2 master wait) w, 0)

/-- A port DMA writes flash commands only where its port's role has FLASH (R392, R417). -/
def mayFlash (s : State) (master : Nat) : Bool :=
  if 2 ≤ master ∧ master ≤ 7 then portHasFlash s (master - 2) else true

/-- The write a row names, at an address. -/
def rowWrite (s : State) (a : Nat) (w : RegWrite) : State :=
  (busWrite s w.master.val (mayFlash s w.master.val) a w.value w.wait w.lock w.enables).1

end Sys2Proof.Machine
end

