-- ==== Sys2Proof/Machine/Boot.lean ====
section
/-!
DEFINITION. Machine/Boot.lean: signatures (R397, R398), firmware (R399 to R401), the footing image (R402 to R408), the boot's steps (R409), warm starts
(R412), recovery mode (R413 to R415), the end of a quiet period (R463), and the end of the Tollhouse's flash operations (R445).
-/
namespace Sys2Proof.Machine

/-! ### Signatures (R397, R398) -/

/-- KEYDIG as bytes. -/
def keyDigest (s : State) : List Byte := (List.range 12).flatMap (fun w => leBytes 4 (rd s (aFU_KEYDIG w)).toNat)

/-- Whether an image's signature is valid with the key of the given index (R398). After a failed fuse check no key matches (R396). -/
def imageSigned (s : State) (b : List Byte) (idx : Nat) : Bool :=
  let blk := b.drop (b.length - 296)
  ! flag s FU_STATUS_CRC_ERR && decide (296 ≤ b.length) && decide (beAt blk 0 4 = 0x53494731 ∧ beAt blk 4 1 = idx)
    && decide (Config.sha384 (slice blk 8 192) = keyDigest s)
    && Config.ecdsaP384 (slice blk (8 + 96 * idx) 96) (Config.sha384 (b.take (b.length - 96))) (slice blk 200 96)

/-! ### Firmware (R399 to R401) -/

/-- The header of a firmware slot. -/
def fwHeader (s : State) (slot : Nat) : List Byte := flashBytes s (fwAddr slot) 64

/-- Whether a slot is a candidate (R400). A LOAD above 3 MiB is none (R399). -/
def fwCandidate (s : State) (slot : Nat) : Bool :=
  let h := fwHeader s slot
  decide (leAt h 0 4 = 0x4D495746 ∧ leAt h 4 2 = 1 ∧ leAt h 8 4 = 64 + leAt h 16 4 + 296 ∧ leAt h 16 4 ≤ 0x300000)

/-- The VERSION of a slot. -/
def fwVersion (s : State) (slot : Nat) : Nat := leAt (fwHeader s slot) 12 4

/-- The candidates in the order they are tried: descending VERSION, slot A first when equal (R400). -/
def fwCandidates (s : State) : List Nat :=
  (if fwVersion s 0 < fwVersion s 1 then [1, 0] else [0, 1]).filter (fwCandidate s)

/-- A slot's image. -/
def fwImage (s : State) (slot : Nat) : List Byte := flashBytes s (fwAddr slot) (leAt (fwHeader s slot) 8 4)

/-- A slot's payload is written into a deck's RAM as it is read. -/
def loadPayload (s : State) (slot d : Nat) : State :=
  wrBytes s (ramKey d 0) (slice (fwImage s slot) 64 (leAt (fwHeader s slot) 16 4))

/-- A deck's cluster runs its firmware: the boot ROM has set its remap bit (R410). -/
def startCluster (s : State) (d : Nat) : State :=
  kick (setFlag (setF s (if d = 0 then NV_REMAP_REMAP_A else NV_REMAP_REMAP_B) 1) (runFld d) true) d

/-! ### Recovery mode (R413 to R415) -/

/-- One port whose role has FLASH runs with its reset settings and the fused address (R414). -/
def recoveryPort (s : State) (p : Nat) : State :=
  if portHasFlash s p then
    let mac := getF s FU_MAC_HI_MAC * 2 ^ 32 + getF s FU_MAC_LO_MAC + p
    let s1 := wr s (aCP_CTRL p) (withBits (resetWord (aCP_CTRL p)) 0 0 1)
    let s2 := setF (setF s1 (CP_MAC_LO_MAC p) mac) (CP_MAC_HI_MAC p) (mac / 2 ^ 32)
    cpCtrlEffect s2 p
  else s

/-- Recovery mode is entered: no transition starts, the recovery ports run, and the clamps close once no span ramps to park. -/
def enterRecovery (s : State) : State :=
  let s1 := { setF s NV_STATUS_STAGE 6 with bt := { s.bt with step := 0, held := [], candidates := [] } }
  refreshReady (recoveryClamps ((List.range 6).foldl recoveryPort s1))

/-! ### The footing image (R402 to R407) -/

/-- A record of the footing image: its index, TYPE, DEST, CRC, payload, and whether the image ends within it. -/
structure FootRec where
  index : Nat
  typ : Nat
  dest : Nat
  crc : Nat
  payload : List Byte
  short : Bool
  deriving DecidableEq, Repr

/-- The records of an image body, `n` of them from index `i` on. -/
def footRecs : Nat → Nat → List Byte → List FootRec
  | 0, _, _ => []
  | n + 1, i, b =>
    let len := leAt b 4 4
    let p := slice b 16 len
    let r : FootRec := ⟨i, leAt b 0 2, leAt b 8 4, leAt b 12 4, p, decide (b.length < 16 + len)⟩
    if r.short then [r] else r :: footRecs n (i + 1) (b.drop (16 + len))

/-- The footing image in flash. -/
def footImage (s : State) : List Byte := flashBytes s footAddr (leAt (flashBytes s footAddr 16) 8 4)

/-- The records of an image. -/
def footRecords (b : List Byte) : List FootRec := footRecs (leAt b 6 2) 0 (slice b 64 (b.length - 360))

/-- The payloads of a type. -/
def ofType (rs : List FootRec) (t : Nat) : List FootRec := rs.filter (fun r => decide (r.typ = t))

/-- The (address, value) pairs of a REGS payload. -/
def regPairs (p : List Byte) : List (Nat × Word) :=
  (List.range (p.length / 8)).map (fun i => (leAt p (8 * i) 4, BitVec.ofNat 32 (leAt p (8 * i + 4) 4)))

/-- All pairs of an image, in its order. -/
def allPairs (rs : List FootRec) : List (Nat × Word) := (ofType rs 1).flatMap (fun r => regPairs r.payload)

/-- R406: the window a pair names, and 0 in every WO and W1C field. -/
def pairOk406 (e : Nat × Word) : Bool :=
  let a := e.1
  let window := decide (0x40000000 ≤ a ∧ a < 0x64000000) || decide (0xE0000000 ≤ a ∧ a < nvBase)
    || decide (0xE0100000 ≤ a ∧ a < 0xE0160000) || decide (0xE0200000 ≤ a ∧ a < 0xE0210000)
  window && match rowAt a with
    | some r => r.fields.all (fun f => decide (f.acc ≠ Acc.wo ∧ f.acc ≠ Acc.w1c) || decide (bitsOf e.2 f.hi f.lo = 0))
    | none => true

/-- R405: a COPY lies wholly within the records of a span, the device thermal record, or a span's Deck A loop records. -/
def copyOk (r : FootRec) : Bool :=
  let o := r.dest % 0x1000000
  let n := (r.dest - 0x40000000) / 0x1000000
  let within := fun (lo hi : Nat) => decide (lo ≤ o ∧ o + r.payload.length ≤ hi)
  decide (0x40000000 ≤ r.dest ∧ r.dest < 0x64000000)
    && (within 0x100000 0x154000 || (decide (n = 0) && within 0x160000 0x190000) || within 0x200000 0x208000)

/-! ### The map's structure (R176 to R178, R181) -/

/-- One cell record. -/
def mapCell (p : List Byte) (o : Nat) : Cell :=
  let w0 := leAt p o 4
  let w1 := leAt p (o + 4) 4
  let w2 := leAt p (o + 8) 4
  ⟨w0 % 1024, w0 / 1024 % 1024, w0 / 2 ^ 20 % 4, w1 % 2 ^ 15, w1 / 2 ^ 15 % 2 ^ 15, w2 % 2 ^ 15, w2 / 2 ^ 15 % 2 ^ 15⟩

/-- The element map that a MAP payload spells (R178). -/
def mapOf (p : List Byte) : EMap :=
  let n := leAt p 2 2
  let st := leAt p 4 1
  let np := leAt p 8 2
  let half := np / 2
  let stage := fun (k : Nat) => (List.range half).map (fun j => mapCell p (32 + 12 * (k * half + j)))
  let port := fun (q : Nat) =>
    let w := leAt p (32 + 12 * (st * half) + 4 * q) 4
    (w % 2 ^ 15, w / 2 ^ 15 % 2 ^ 15)
  ⟨leAt p 1 1, n, np, st, leAt p 5 1, leAt p 6 1, leAt p 12 2, leAt p 14 1, (List.range st).map stage, (List.range n).map port⟩

/-- The smallest power of two at or above `n`, up to 1,024. -/
def slotsFor (n : Nat) : Nat := (((List.range 11).map (fun k => 2 ^ k)).find? (fun x => decide (n ≤ x))).getD 0

/-- The piers that a map names, with repeats. -/
def namedPiers (m : EMap) : List Nat :=
  let cell := fun (c : Cell) => if c.kind = 1 then [c.ia] else if c.kind = 2 then [c.ia, c.ib, c.ou, c.ol] else []
  m.cells.flatMap (fun st => st.flatMap cell) ++ m.ports.flatMap (fun e => [e.1, e.2].filter (fun g => decide (g ≠ noPier)))

/-- Whether no number occurs twice. -/
def noRepeat (l : List Nat) : Bool := decide l.Nodup

/-- A stage takes every slot once, and its cells are of a stated kind with the fields the kind asks for. -/
def stageOk (np : Nat) (st : List Cell) : Bool :=
  let slots := st.flatMap (fun c => [c.up, c.lo])
  decide (slots.length = np) && noRepeat slots && slots.all (fun x => decide (x < np))
    && st.all (fun c => decide (c.kind = 0 ∨ c.kind = 2 ∨ (c.kind = 1 ∧ c.ib = noPier ∧ c.ou = noPier ∧ c.ol = noPier)))

/-- Slots that the cells of some stages join, whatever the kind of the cells. -/
def joined (stages : List (List Cell)) (x : Nat) : List Nat :=
  subnet (stages.map (fun st => st.map (fun c => { c with kind := 1 }))) stages.length [x]

/-- A core that decomposes recursively over a set of slots (R177): its first and last stages pair the slots so that the stages between split
into two disjoint networks of half the slots, each of the same kind, down to single cells. -/
def decomposes : Nat → List (List Cell) → List Nat → Bool
  | 0, _, _ => false
  | fuel + 1, stages, xs =>
    let mine := fun (st : List Cell) => st.filter (fun c => decide (c.up ∈ xs))
    match stages with
    | [] => false
    | [one] => decide (xs.length = 2) && decide ((mine one).length = 1)
    | first :: rest =>
      let mid := rest.dropLast
      let last := rest.getLastD []
      let a := joined (mid.map mine) (xs.headD 0)
      let b := xs.filter (fun x => decide (x ∉ a))
      let straddles := fun (st : List Cell) => (mine st).all (fun c => decide (c.up ∈ a) != decide (c.lo ∈ a))
      decide (2 * a.length = xs.length) && straddles first && straddles last && decomposes fuel mid a && decomposes fuel mid b

/-- RB of R181, rounded up. -/
def boundFor (m : EMap) : Nat :=
  let plain := m.cells.any (fun st => st.any (fun c => decide (c.kind = 1)))
  60 + (5 * m.np + 3) / 4 + (if plain then 60 else 0) + 50 * (m.extIn + m.extOut)

/-- Header and structure of the map (R177, R178). -/
def mapOk (p : List Byte) : Bool :=
  let m := mapOf p
  let core := (m.cells.drop m.extIn).take (m.stages - m.extIn - m.extOut)
  let named := namedPiers m
  decide (leAt p 0 1 = 1 ∧ m.cls ≤ 2 ∧ 2 ≤ m.n ∧ m.n ≤ 1024 ∧ 1 ≤ m.stages ∧ m.stages ≤ 21 ∧ m.extIn + m.extOut ≤ 2 ∧ m.np = slotsFor m.n)
    && decide (p.length = 32 + 12 * (m.stages * (m.np / 2)) + 4 * m.n)
    && m.cells.all (stageOk m.np)
    && decide (core.length + 1 = 2 * Nat.log2 m.np) && decomposes 11 core (List.range m.np)
    && named.all (fun g => decide (g < 18432)) && noRepeat named && decide (leAt p 10 2 = named.length)
    && (decide (m.cls = 2) || (decide (m.extIn + m.extOut = 0 ∧ m.n = m.np)
      && m.cells.all (fun st => st.all (fun c => decide (c.kind = if m.cls = 0 then 2 else 1)))))

/-! ### The checks in order (R407) -/

/-- The value that REGS leaves in a register: the last pair that names it, over the reset value. -/
def pairValue (ps : List (Nat × Word)) (a : Nat) : Word :=
  ps.foldl (fun w e => if e.1 = a then (match rowAt a with | some r => storedWord r.fields w e.2 | none => w) else w) (resetWord a)

/-- A SCHED payload against R166, with the slot spacing that AD_PIPE will hold. -/
def schedOk (p : List Byte) (c : Nat) : Bool :=
  let cycle := leAt p 0 4 % 2 ^ 30
  let phase := leAt p 4 4 % 2 ^ 30
  let cnt := leAt p 8 4
  let es := (List.range cnt).map (fun i => leAt p (16 + 4 * i) 4)
  decide (1 ≤ cnt ∧ cnt ≤ 256 ∧ 0 < cycle ∧ 1000000000 % cycle = 0 ∧ phase < cycle ∧ (es.map (fun w => w / 4)).sum = cycle)
    && es.all (fun w => if w % 4 ≤ 1 then decide (2000 ≤ w / 4 ∧ c ≤ w / 4) else decide (100 ≤ w / 4))

/-- AD_PART sizes against R115 and R529. -/
def partsOk (ps : List (Nat × Word)) (lanes : List Byte) : Bool :=
  let size := fun (p : Nat) => bitsOf (pairValue ps (aAD_PART_w0 p)) 17 0
  let owner := fun (i : Nat) =>
    let w := leAt lanes (16 * i) 4
    if w / 2 ^ 11 % 2 = 1 ∧ w / 2 ^ 6 % 8 ≠ 0 then some (w % 64) else none
  let owners := ((List.range 16384).filterMap owner).dedup
  decide (((List.range 64).map size).sum ≤ 163840) && owners.all (fun p => decide (4096 ≤ size p))

/-- The first record that fails a test, as an error with its index. -/
def failing (err : Nat) (rs : List FootRec) (ok : FootRec → Bool) : Option (Nat × Nat) := (rs.find? (fun r => ! ok r)).map (fun r => (err, r.index))

/-- A condition on the image as a whole, or on one record. -/
def failIf (err index : Nat) (bad : Bool) : Option (Nat × Nat) := if bad then some (err, index) else none

/-- The record at which a count of R404 is left: the second of a type that stands once, or the REGS record with pair 8,193; for a type that is missing, the
last record. -/
def recordsMiscounted (rs : List FootRec) : Option Nat :=
  let again := rs.find? (fun r => decide (r.typ ∈ [3, 4, 5, 6, 7, 8, 0xFF]) && rs.any (fun q => decide (q.typ = r.typ ∧ q.index < r.index)))
  let full := rs.find? (fun r => decide (r.typ = 1) && decide (8192 < (allPairs (rs.filter (fun q => decide (q.index ≤ r.index)))).length))
  let missing := [3, 4, 6, 7, 8, 0xFF].any (fun t => decide (ofType rs t = []))
  again.map (fun r => r.index) <|> full.map (fun r => r.index) <|> (if missing then some (rs.length - 1) else none)

/-- The record that gives a partition its size: the last REGS record that names one, or the LANES record (R115). -/
def partRecord (rs : List FootRec) (lanes : Nat) : Nat :=
  let names := fun (r : FootRec) => (regPairs r.payload).any (fun e => decide (aAD_PART_w0 0 ≤ e.1 ∧ e.1 < aAD_PART_w0 64 ∧ (e.1 - aAD_PART_w0 0) % 8 = 0))
  (((ofType rs 1).filter names).getLast?.map (fun r => r.index)).getD lanes

/-- FOOT_ERR and FOOT_REC of an image (R407): none if every check passes. -/
def footError (s : State) (b : List Byte) (fwVer : Nat) : Option (Nat × Nat) :=
  let rs := footRecords b
  let ps := allPairs rs
  let one := fun (t : Nat) => ((ofType rs t).head?).getD ⟨0, t, 0, 0, [], true⟩
  let m := mapOf (one 4).payload
  let rb := boundFor m
  let pipe := fun (e : Nat × Word) => decide (e.1 ≠ aAD_PIPE) || decide (bitsOf e.2 15 0 = 1900 + rb ∧ bitsOf e.2 31 16 = max 880 (160 + rb))
  let known := fun (r : FootRec) => decide (r.typ = 0xFF ∨ (1 ≤ r.typ ∧ r.typ ≤ 8))
  failIf 1 0 (decide (leAt b 0 4 ≠ 0x544F4F46 ∨ leAt b 4 2 ≠ 1 ∨ 0x1000000 < leAt b 8 4))
    <|> failIf 2 0 (! imageSigned s b 1)
    <|> failing 3 rs (fun r => ! r.short && decide (r.crc = crc32c r.payload))
    <|> failing 4 rs known
    <|> failIf 4 (rs.length - 1) (decide ((rs.getLast?.map (fun r => r.typ)) ≠ some 0xFF))
    <|> (recordsMiscounted rs).map (fun i => (4, i))
    <|> failIf 5 0 (decide (fwVer < leAt b 16 4))
    <|> failing 6 (ofType rs 1) (fun r => (regPairs r.payload).all pairOk406)
    <|> failing 7 (ofType rs 2) copyOk
    <|> failIf 8 (one 4).index (! mapOk (one 4).payload)
    <|> failIf 9 (one 4).index (decide (m.rb ≠ rb ∨ m.incMax ≠ rb / 90))
    <|> failing 9 (ofType rs 1) (fun r => (regPairs r.payload).all pipe)
    <|> failIf 10 (one 7).index (! schedOk (one 7).payload (bitsOf (pairValue ps aAD_PIPE) 31 16))
    <|> failIf 11 (partRecord rs (one 6).index) (! partsOk ps (one 6).payload)
    <|> failIf 12 (one 3).index (decide (256 < Config.parseNodes (one 3).payload))

/-! ### Contents (R404, R405, R408) -/

/-- A COPY payload at its destination; loop records go to Deck B's offsets too (R405). -/
def copyRecord (s : State) (r : FootRec) : State :=
  let o := r.dest % 0x1000000
  let s1 := wrBytes s r.dest r.payload
  if 0x200000 ≤ o then wrBytes s1 (r.dest + 0x10000) r.payload else s1

/-- The trim tables of a span are judged (R277). -/
def judgeTables (s : State) (n : Nat) : State := (List.range 512).foldl (fun s l => ttWritten s n l) s

/-- Rule entries for indices 0 upward in bank 0. -/
def loadRules (s : State) (p : List Byte) : State :=
  (List.range (min (p.length / 64) 1024)).foldl (fun s i =>
    (List.range 16).foldl (fun s k => setRuleWord s 0 i k (BitVec.ofNat 32 (leAt p (64 * i + 4 * k) 4))) s) s

/-- Lane configurations; a WEIGHT of 0 is taken as 1, as LN_CFG takes it (R134; DEDUCED, log entry 22). -/
def loadLanes (s : State) (p : List Byte) : State :=
  let w := fun (o : Nat) => BitVec.ofNat 32 (leAt p o 4)
  let weighted := fun (x : Word) => if bitsOf x LN_CFG_WEIGHT.hi LN_CFG_WEIGHT.lo = 0 then withBits x LN_CFG_WEIGHT.hi LN_CFG_WEIGHT.lo 1 else x
  (List.range 16384).foldl (fun s i => setLane s i { Lane.init with cfg := ⟨weighted (w (16 * i)), w (16 * i + 4), w (16 * i + 8)⟩ }) s

/-- The schedule goes to bank 0. -/
def loadSched (s : State) (p : List Byte) : State :=
  let w := fun (o : Nat) => leAt p o 4
  let s1 := setF (setF (setF s (LS_BANK_w0_CYCLE 0) (w 0)) (LS_BANK_w1_PHASE 0) (w 4)) (LS_BANK_w2_COUNT 0) (w 8)
  (List.range (min (w 8) 256)).foldl (fun s i => wr s (aLS_ENTRY i) (BitVec.ofNat 32 (w (16 + 4 * i)))) s1

/-- Park codes by global index. -/
def loadPark (s : State) (p : List Byte) : State :=
  (List.range 18432).foldl (fun s g =>
    let w := leAt p (4 * g) 4
    setF (setF s (PR_PARK_FAST (g / 512) (g % 512)) w) (PR_PARK_TRIM (g / 512) (g % 512)) (w / 2 ^ 16)) s

/-- The loop records of both decks before the image's COPY records (R268): what `memDefault` gives. -/
def freshLoops (s : State) : State := { s with mem := cellDrop inLoops s.mem }

/-- One record's content is written to its destination. -/
def loadRecord (s : State) (r : FootRec) : State :=
  match r.typ with
  | 2 => copyRecord s r
  | 3 => { s with bt := { s.bt with parse := r.payload } }
  | 4 => { s with ks := { Keystone.init with map := some (mapOf r.payload) } }
  | 5 => loadRules s r.payload
  | 6 => loadLanes s r.payload
  | 7 => loadSched s r.payload
  | 8 => loadPark s r.payload
  | _ => s

/-- The held REGS pairs are written in image order (R406, R408). A control port is not enabled yet: its word waits for the end of the start. -/
def applyPairs (s : State) (ps : List (Nat × Word)) : State :=
  ps.foldl (fun s e =>
    match placeOf s (lead s) e.1 with
    | .register =>
      if 0xE0100000 ≤ e.1 ∧ e.1 < 0xE0160000 ∧ e.1 % 0x10000 = 0 then
        let s1 := storeWrite s e.1 (withBits e.2 0 0 0)
        { s1 with bt := { s1.bt with held := s1.bt.held ++ [e] } }
      else (regWritten s (lead s) true e.1 e.2).1
    | .memory k => memoryWrite s e.1 k e.2
    | _ => s) s

/-- Whether an address is the PR_PARK of a pier. -/
def isPierPark (a : Nat) : Bool :=
  decide (0x40000000 ≤ a ∧ a < 0x64000000 ∧ aPR_PARK 0 0 - 0x40000000 ≤ a % 0x1000000 ∧ a % 0x1000000 < 0x14000 ∧ a % 32 = aPR_PARK 0 0 % 32)

/-- The destinations written are cleared to their reset values (R408): the contents of COPY records, and the park codes of a PARK record. -/
def clearDestinations (s : State) (rs : List FootRec) : State :=
  let copies := (ofType rs 2).filter copyOk
  let hit := fun (a : Nat) => copies.any (fun r => decide (r.dest ≤ a ∧ a < r.dest + r.payload.length)
    || (decide (0x200000 ≤ r.dest % 0x1000000) && decide (r.dest + 0x10000 ≤ a ∧ a < r.dest + 0x10000 + r.payload.length)))
  { s with mem := cellDrop hit s.mem, regs := if ofType rs 8 = [] then s.regs else cellDrop isPierPark s.regs }

/-! ### The log is read at the first start since VTH (R481) -/

/-- The bytes of a sector that are in use: everything up to its last byte that is not erased. -/
def usedBytes (s : State) (i : Nat) : Nat :=
  let b := flashBytes s (sectorAddr i) 4096
  4096 - (b.reverse.takeWhile (fun x => decide (x = 0xFF#8))).length

/-- What has been counted since VTH joins the checkpoint's value of a lifetime counter, which may reach its end by it (R476). -/
def joinLife (s : State) (i v : Nat) : State := lifeBy (wr s (aTY_LT i) (BitVec.ofNat 32 v)) i (rd s (aTY_LT i)).toNat

/-- What has been counted since VTH joins the checkpoint's value of a histogram bin. -/
def joinHist (s : State) (i v : Nat) : State := wr s (aTY_HIST i) (BitVec.ofNat 32 (min ((rd s (aTY_HIST i)).toNat + v) 0xFFFFFFFF))

/-- The lifetime values and the mask of a checkpoint are loaded. -/
def loadLife (s : State) (r : LogRec) : State :=
  let b := r.bytes.drop 16
  let s0 := { s with ty := { s.ty with mask := s.ty.mask ||| leAt b 0 16 } }
  let s1 := (List.range 128).foldl (fun s i => joinLife s i (leAt b (16 + 4 * i) 4)) s0
  let s2 := (List.range 768).foldl (fun s i => joinHist s i (leAt b (528 + 4 * i) 4)) s1
  setFlag (setF s2 TY_LSEQ_LSEQ r.lseq) TY_STATUS_LT_SAT (decide (s2.ty.mask ≠ 0))

/-- The Tollhouse finds its place in the log and the newest checkpoint, once since VTH. The epoch goes on from the newest EPOCH record. -/
def readLog (s : State) : State :=
  if s.th.logRead then s
  else
    let s0 := { s with th := { s.th with logRead := true } }
    match newestSector s with
    | none =>
      let k := logSectors s - 1
      setFlag { s0 with th := { s0.th with sector := k, offset := 4096, sseq := 0, lseq := 0 } } TY_STATUS_LT_LOST true
    | some (i, q) =>
      let recent := (sectorsBack s i 4).flatMap (recordsOf s)
      let top := recent.foldl (fun (m : Option Nat) r => match m with
        | some x => if newerSeq r.lseq x then some r.lseq else some x
        | none => some r.lseq) none
      let next := match top with | some x => (x + 1) % 2 ^ 32 | none => 0
      let s1 := { s0 with th := { s0.th with sector := i, offset := align16 (usedBytes s i), sseq := (q + 1) % 2 ^ 32, lseq := next } }
      let s2 := match newestRecord s 1 (sectorsBack s i (logSectors s)) with
        | some r => { s1 with epoch := leAt r.bytes 16 2 }
        | none => s1
      match newestRecord s 2 (sectorsBack s i 4) with
      | some r => loadLife s2 r
      | none => setFlag s2 TY_STATUS_LT_LOST true

/-! ### Steps of a start -/

/-- Step 7: the epoch write is queued (R82, R479). -/
def epochStep (s : State) : State :=
  let s1 := readLog s
  let body := leBytes 2 ((s1.epoch + 1) % 65536) ++ leBytes 1 s1.bt.reason ++ [0] ++ leBytes 4 (getF s1 NV_FW_VERSION) ++ leBytes 4 (getF s1 NV_FOOT_SEQ)
    ++ leBytes 4 0
  queueJob { s1 with bt := { s1.bt with step := 7 } } .epoch body

/-- The flash offers what the device requires (R386). -/
def sfdpOk (x : Sfdp) : Bool := x.complete && decide (25 ≤ x.density ∧ x.density ≤ 28)

/-- The flash found in step 1 (R387): NV_FLASH. -/
def sfdpRead (s : State) (x : Sfdp) : State :=
  setFlag (setF (setF s NV_FLASH_DENSITY x.density) NV_FLASH_PAGE x.page) NV_FLASH_ERASE64 x.erase64

/-- A boot ends with SFDP_ERR (R413): no firmware, the ports disabled, and the state Ready, in which a recovery's Fault ends too. -/
def sfdpFailed (s : State) : State :=
  let s1 := { setFlag (setF s NV_STATUS_STAGE 7) NV_STATUS_SFDP_ERR true with bt := { s.bt with step := 0 } }
  if pstate s1 = 5 then enterState (setFlag s1 FC_STATUS_FATAL false) 2 else s1

/-- A recovery's lost PLLs have locked again and its islands are joined (R463); a start's have before it ends. -/
def readyToBoot (s : State) : Bool := decide (s.bt.reason ≠ 2) || allLocked s

/-- COLD_START: steps 1 and the choice of candidates (R386, R387, R400, R413). A cold start that is no recovery clears the capture (R494). -/
def execColdStart (sfdp : Sfdp) (s : State) : Out :=
  if s.bt.step ≠ 1 ∨ readyToBoot s = false then .next s
  else
    let s0 := if s.bt.reason = 2 then joinAll s
      else life (bump { s with mem := cellDrop (fun a => decide (capBase ≤ a ∧ a < capBase + 0x800000)) s.mem } (cTHP_CNT 5)) 2
    let s1 := setF s0 TH_PSTATE_WARM 0
    if sfdpOk sfdp = false then .next (sfdpFailed s1)
    else
      let s2 := sfdpRead s1 sfdp
      let cs := fwCandidates s2
      if cs = [] then .next (enterRecovery s2)
      else .next { setF s2 NV_STATUS_STAGE 2 with bt := { s2.bt with step := 2, candidates := cs } }

/-- FIRMWARE_VERIFY_DONE (R400, R413): the payload stands in both deck RAMs; its signature decides. -/
def execFirmwareVerifyDone (s : State) : Out :=
  if s.bt.step ≠ 2 then .next s
  else match s.bt.candidates with
    | [] => .next (enterRecovery s)
    | c :: rest =>
      let s1 := loadPayload (loadPayload s c 0) c 1
      if imageSigned s (fwImage s c) 0 then
        let second := decide ((fwCandidates s).head? ≠ some c)
        let s2 := setFlag (setF (setF s1 NV_STATUS_FW_SLOT c) NV_FW_VERSION (fwVersion s c)) NV_STATUS_FW_FALLBACK second
        let s3 := startCluster (startCluster s2 0) 1
        .next { setF s3 NV_STATUS_STAGE 3 with bt := { s3.bt with step := 5, candidates := [] } }
      else if rest = [] then .next (enterRecovery s1)
      else .next { s1 with bt := { s1.bt with candidates := rest } }

/-- FOOTING_CHECK_DONE (R407, R408): on a failure the destinations are cleared and recovery mode follows; otherwise the contents stand, the held pairs are
applied, then the newest calibration record, and the epoch write is queued. -/
def execFootingCheckDone (s : State) : Out :=
  if s.bt.step ≠ 5 then .next s
  else
    let b := footImage s
    match footError s b (getF s NV_FW_VERSION) with
    | some (err, rec_) =>
      .next (enterRecovery (setF (setF (clearDestinations s (footRecords b)) NV_STATUS_FOOT_ERR err) NV_STATUS_FOOT_REC rec_))
    | none =>
      let rs := footRecords b
      let s1 := rs.foldl loadRecord (freshLoops s)
      let spans := (List.range 36).filter (fun n => (ofType rs 2).any (fun r => decide ((r.dest - 0x40000000) / 0x1000000 = n)))
      let s2 := setF (setF (spans.foldl judgeTables s1) NV_FOOT_SEQ (leAt b 12 4)) NV_STATUS_STAGE 4
      let s3 := { applyPairs s2 (allPairs rs) with ks := { (applyPairs s2 (allPairs rs)).ks with map := s2.ks.map } }
      .next (epochStep (readSlots s3))

/-- The retention check (R412). -/
def retentionOk (s : State) (scrubOk : Bool) : Bool :=
  match s.bt.retained with
  | some (slot, fw, foot) =>
    scrubOk && ! flag s FU_STATUS_CRC_ERR && decide (imageSig s (fwAddr slot) = fw) && decide (imageSig s footAddr = foot)
  | none => false

/-- WARM_START (R412): step 1 of R409 is taken, and the retention check follows. The retained contents stand, or a cold start follows. -/
def execWarmStart (sfdp : Sfdp) (scrubOk : Bool) (s : State) : Out :=
  if s.bt.step ≠ 8 then .next s
  else if sfdpOk sfdp = false then .next (sfdpFailed s)
  else
    let s0 := sfdpRead s sfdp
    if retentionOk s0 scrubOk then
      let s1 := life (bump (setF s0 TH_PSTATE_WARM 1) (cTHP_CNT 6)) 3
      .next (epochStep (startCluster (startCluster { s1 with bt := { s1.bt with reason := 1 } } 0) 1))
    else
      let s1 := resetIslands { s0 with bt := { s0.bt with retained := none } } false
      let s2 := setFlag (joinAll s1) NV_STATUS_WARM_FAIL true
      .next { s2 with bt := { s2.bt with step := 1, reason := 0 } }

/-- CLUSTER_RESTART (R401): the cluster of a deck that took cause 1 or 2 leaves reset, its joint resynchronises (R505), and it reads the running slot again and
verifies it. It stays stopped where that fails. -/
def execClusterRestart (d : Deck) (s : State) : Out :=
  let k := deckNum d
  let slot := getF s NV_STATUS_FW_SLOT
  if flag s (runFld k) ∨ pstate s < 2 ∨ firmwareStands s = false ∨ flag s (TH_PLL_LOCK (1 + k)) = false then .next s
  else
    let s1 := loadPayload (jointUp s (14 + k)) slot k
    .next (if imageSigned s (fwImage s slot) 0 then startCluster s1 k else s1)

/-! ### The end of the epoch write, and of the other jobs (R408, R443, R445, R463) -/

/-- What a recovery's epoch write ends (R463): the fault state, with the recovery counted. -/
def endRecovery (s : State) : State :=
  let n := getF s FC_RCV_CNT_COUNT
  let s1 := setF (setFlag s FC_STATUS_FATAL false) FC_RCV_CNT_COUNT (if n = 0xFFFFFFFF then n else n + 1)
  let s2 := life (event { s1 with fc := { s1.fc with conditions := [], recoveries := getF s TH_UPTIME_SECONDS :: recentRecoveries s } } FC_INT_RECOVERED) 5
  setF s2 TH_PSTATE_STATE 2

/-- The epoch is written: the new epoch begins, the owners are settled, the ports are enabled, and the footing image counts as checked (R408, R313).
A shutdown record that waits is queued (R443). -/
def epochWritten (s : State) : State :=
  if s.bt.step ≠ 7 then s
  else
    let s1 := settleOwners (setFlag (life { s with epoch := (s.epoch + 1) % 65536 } 4) NV_STATUS_FOOT_OK true)
    let s2 := s1.bt.held.foldl (fun s e => cpWrite s ((e.1 - 0xE0100000) / 0x10000) e.1 e.2) s1
    let s3 := setF s2 NV_STATUS_STAGE 5
    let s4 := if s.bt.reason = 2 then endRecovery s3 else s3
    let s5 := { s4 with bt := { s4.bt with step := 0, held := [], retained := none } }
    let s6 := if flag s5 TH_TSD_REC_w0_VALID then
        queueJob s5 .shutdown (leBytes 4 (rd s5 (aTH_TSD_REC_w0)).toNat ++ leBytes 4 (rd s5 (aTH_TSD_REC_w1)).toNat ++ leBytes 8 0)
      else s5
    refreshReady s6

/-- The epoch write has failed (R413): no port is enabled in this epoch, and what was retained is spent (R380). -/
def epochFailed (s : State) : State := { s with bt := { s.bt with step := 0, retained := none } }

/-- A log job has completed. -/
def jobDone (s : State) (j : Job) : State :=
  let s1 := bump s (cTH_CNT 5)
  match j.kind with
  | .epoch => epochWritten s1
  | .shutdown => setF (setF s1 TH_STATUS_TSD_LATCH 0) TH_TSD_REC_w0_VALID 0
  | .checkpoint => event (setF (setFlag s1 TY_STATUS_CKPT_PEND false) TY_LSEQ_LSEQ (s1.th.lseq + 2 ^ 32 - 1)) TY_INT_CKPT_DONE
  | .record => s1

/-- Whether a Tollhouse operation falls into an enabled write-protect range (R395). -/
def opProtected (s : State) : FlashOp → Bool
  | .program a bs => writeProtected s a bs.length
  | .erase a n => writeProtected s a n

/-- What a Tollhouse operation has done to the flash. A failed one leaves free values; one in a protected range is not carried out (R395). -/
def applyFlashOp (s : State) (ok : Bool) (op : FlashOp) : State :=
  if opProtected s op then s
  else match op with
    | .program a bs => bump (if ok then flashProgram s a bs else flashUndefined s a bs.length) (cNV_CNT 4)
    | .erase a n =>
      let s1 := if ok then flashErase s a n else flashUndefined s a n
      if ok ∧ logBase ≤ a then life s1 15 else s1

/-- The running job is abandoned. -/
def dropJob (s : State) (j : Job) : State :=
  let s1 := abandonJob { s with th := { s.th with job := none } } j
  if j.kind = JobKind.epoch then epochFailed s1 else s1

/-- An uncorrectable error in the Tollhouse's memory (R465: MEM_UE_TOLL, contained). -/
def meetTollUe (s : State) (ue : Option (BitVec 18)) : State :=
  match ue with
  | some a => raise s 0x400 0x06 clsContained false a.toNat
  | none => s

/-- TOLLHOUSE_PAGE_DONE: a page program or erase of the Tollhouse ends (R418, R445). During a thermal shutdown the job stops after it (R441); a job that meets a
protected block ends without its write (R395; DEDUCED, log entry 72), and one that meets an uncorrectable error of the Tollhouse's memory is abandoned (R465). -/
def execTollhousePageDone (ok : Bool) (ue : Option (BitVec 18)) (s : State) : Out :=
  match s.th.op, s.th.job with
  | some op, some j =>
    let s1 := meetTollUe (applyFlashOp { s with th := { s.th with op := none } } ok op) ue
    let s2 := if ok = false ∨ ue.isSome ∨ opProtected s op ∨ flag s TH_STATUS_TSD_PEND then dropJob s1 j
      else if j.ops = [] ∧ j.kind ≠ JobKind.record then jobDone { s1 with th := { s1.th with job := none } } j
      else s1
    .next (nextFlash (showWriting s2))
  | some op, none => .next (nextFlash (meetTollUe (applyFlashOp { s with th := { s.th with op := none } } ok op) ue))
  | none, _ => .next s

/-- CAL_RECORD_WRITE_DONE (R308): the last page of a calibration record has been programmed. -/
def execCalRecordWriteDone (s : State) : Out :=
  match s.th.job with
  | some j =>
    if j.kind = JobKind.record ∧ j.ops = [] ∧ s.th.op = none ∧ j.begun then
      .next (nextFlash (showWriting (recordWritten { s with th := { s.th with job := none } })))
    else .next s
  | none => .next s

/-! ### The end of a quiet period (R463, R464) -/

/-- QUIET_PERIOD_END: the device recovers, or stays blocked. -/
def execQuietPeriodEnd (s : State) : Out :=
  if due s .quiet = false then .next s
  else
    let s0 := setFlag (disarm s .quiet) FC_STATUS_QUIET false
    if mayRecover s = false then .next (setFlag s0 FC_STATUS_RCV_BLOCKED true)
    else
      let lost := (List.range 45).filter (fun i => ! flag s (TH_PLL_LOCK i))
      let s1 := setFlag (lost.foldl startPll (resetForRecovery (abandonHost s0))) FC_STATUS_FATAL true
      .next { s1 with bt := { s1.bt with step := 1, reason := 2, retained := none } }

end Sys2Proof.Machine
end

