-- ==== Sys2Proof/Machine/Hk.lean ====
section
/-!
DEFINITION. Machine/Hk.lean: the Tollhouse's housekeeping: conversions and their results (R423 to R428), the sequence (R429 to R431), zones and junction
sensors (R432, R433), filters and thresholds (R434 to R436), and thermal shutdown (R440 to R444).
-/
namespace Sys2Proof.Machine

/-! ### Thermal shutdown (R440, R441, R444) -/

/-- The record of a decision: its source, the entry when that is 12, the reading in 1/16 °C, and whether a Tollhouse page program was in progress. -/
def fillRecord (s : State) (source entry temp : Nat) : State :=
  let paging : Bool := match s.th.op with | some (.program _ _) => true | _ => false
  let s1 := setF (setF (setF s TH_TSD_REC_w0_TEMP temp) TH_TSD_REC_w0_SOURCE source) TH_TSD_REC_w0_ENTRY entry
  setF (setF (setFlag s1 TH_TSD_REC_w0_FLASH paging) TH_TSD_REC_w0_VALID 1) TH_TSD_REC_w1_UPTIME (getF s TH_UPTIME_SECONDS)

/-- The Tollhouse's flash work stops at the decision (R441): a page program goes on to its end, an erase is broken off and leaves its region undefined, and
the running job stops. -/
def stopFlash (s : State) : State :=
  match s.th.op with
  | some (.program _ _) => s
  | some (.erase a n) =>
    let s1 := flashUndefined { s with th := { s.th with op := none } } a n
    showWriting (match s1.th.job with | some j => dropJob s1 j | none => s1)
  | none => showWriting (match s.th.job with | some j => dropJob s j | none => s)

/-- The thermal shutdown is decided (R440, R441, R444). In Sleep only the latch is set and the record filled; a record that already waits there, and a decision
while one is pending, change nothing. -/
def decideTsd (s : State) (source entry temp : Nat) : State :=
  if flag s TH_STATUS_TSD_PEND then s
  else if pstate s = 0 then
    if flag s TH_STATUS_TSD_LATCH ∧ flag s TH_TSD_REC_w0_VALID then s
    else setFlag (fillRecord s source entry temp) TH_STATUS_TSD_LATCH true
  else
    let s1 := life (bump (event (setFlag (fillRecord s source entry temp) TH_STATUS_TSD_PEND true) TH_INT_TSD) (cTH_CNT 0)) 6
    let s2 := discardRequests (tollPark s1) (fun r => decide (netNs s < r.deliver))
    let s3 := stopFlash (abandonHost { s2 with dr := { s2.dr with routed := [], withheld := none }, pw := { s2.pw with moving := none } })
    refreshReady (armIn s3 .tsd 3000000)

/-- TSD_NO_SENSOR_TIMEOUT (R440): no junction sensor has been valid for 10 ms. The record's reading is then a free value (log entry 2). -/
def execTsdNoSensorTimeout (s : State) : Out :=
  if (List.range 12).all (fun i => ! flag s (TH_JS_VALID i)) ∧ s.th.jsSeen + 40000000 ≤ s.elapsed then
    let (v, s1) := fresh s 4096
    .next (decideTsd s1 13 0 v)
  else .next s

/-- The epoch ends where the device is above Standby; otherwise the clamps close (R441). A Fault ends with the shutdown. -/
def shutIslands (s : State) : State :=
  let s1 := if 2 ≤ pstate s then leaveReady s else closeClamps s
  disarm (setFlag (setFlag s1 FC_STATUS_FATAL false) FC_STATUS_QUIET false) .quiet

/-- TSD_CLAMP (R441): at the later of 3 ms after the decision and the end of a page program, the clamps close, and the device passes to Standby and to
Sleep without retention. -/
def execTsdClamp (s : State) : Out :=
  if flag s TH_STATUS_TSD_PEND ∧ due s .tsd ∧ s.th.op = none then
    let s1 := shutIslands (disarm s .tsd)
    let s2 := { s1 with pw := { s1.pw with moving := none, tries := [] } }
    let s3 := setF (if 2 ≤ pstate s2 then endMove s2 1 else s2) TH_PCTRL_TARGET 0
    let s4 := if pstate s3 = 1 then sleepNow (enterSleep s3 false) else s3
    .next (refreshReady (setFlag (setFlag s4 TH_STATUS_TSD_LATCH true) TH_STATUS_TSD_PEND false))
  else .next s

/-- With TH_TSD.AUTO 1, the wake after a shutdown arises as soon as the device has cooled (R442). -/
def autoWake (s : State) : State :=
  if pstate s = 0 ∧ flag s TH_STATUS_TSD_LATCH ∧ flag s TH_TSD_AUTO ∧ cooled s ∧ getF s TH_PCTRL_TARGET < getF s TH_PCTRL_WAKE_TARGET then wake s
  else s

/-! ### Results of conversions (R424 to R428) -/

/-- What a conversion gives: its value where one was made, how it is marked, and the conversions it took. -/
structure HkResult where
  value : Option Int
  valid : Bool
  opened : Bool
  short : Bool
  tooBig : Bool
  conversions : Nat
  deriving DecidableEq, Repr

/-- A result without a conversion. -/
def HkResult.none_ (opened : Bool) : HkResult := ⟨none, false, opened, false, false, 0⟩

/-- Gain code used for an input (R426). -/
def gainUsed (input gain : Nat) : Nat := if input ≤ 7 then 2 else if input = 24 ∨ input = 25 then gain else 0

/-- x_c of R424. -/
def corrected (s : State) (g : Nat) (x : Int) : Int := (x - getI s (HK_CAL_w0_OFS g)) * (getF s (HK_CAL_w1_GAIN g) : Int) / 16777216

/-- |x| at or above 0.98 × 2^23 is over-range (R424). -/
def beyondScale (x : Int) : Bool := decide (8220836 ≤ x.natAbs)

/-- T16 of a remote diode (R427) from the corrected fractions, with D = 4 x1 - x2; rounding halves upward. -/
def diodeT16 (ideal : Nat) (d : Int) : Int :=
  let den : Int := 10 * (ideal : Int) * 119461
  (31250000 * d - 43704 * (ideal : Int) * 119461 + 5 * (ideal : Int) * 119461) / den

/-- 2^64 × ln 2, to the nearest integer. -/
def ln2Fixed : Nat := 12786308645202655660

/-- The odd powers of the series of atanh, in units of 2^-64: `n` terms from `y^k / k` on. -/
def atanhSeries (yy : Int) : Nat → Nat → Int → Int
  | 0, _, _ => 0
  | n + 1, k, p => p / (k : Int) + atanhSeries yy n (k + 2) (p * yy / 2 ^ 64)

/-- ln (a / b) in units of 2^-64, for positive a and b. The error is far below what moves a count of R428. -/
def lnFixed (a b : Nat) : Int :=
  let e : Int := (Nat.log2 a : Int) - (Nat.log2 b : Int)
  let (n, d) := if 0 ≤ e then (a, b * 2 ^ e.toNat) else (a * 2 ^ (-e).toNat, b)
  let y : Int := ((n : Int) - (d : Int)) * 2 ^ 64 / ((n : Int) + (d : Int))
  e * (ln2Fixed : Int) + 2 * atanhSeries (y * y / 2 ^ 64) 24 1 y

/-- Numerator and denominator of T16 of a thermistor before it is rounded (R428), where the formula has a value: 0 < ρ < 1 and a positive
denominator. -/
def thermistorT16 (r26 beta : Nat) (x : Int) : Option (Int × Int) :=
  if x ≤ 0 ∨ 8388608 ≤ x ∨ r26 = 0 ∨ beta = 0 then none
  else
    let l := lnFixed (10000 * x.toNat) ((8388608 - x.toNat) * r26)
    let den := 20 * 2 ^ 64 * (beta : Int) + 5963 * l
    if den ≤ 0 then none else some (16 * 5963 * 2 ^ 64 * (beta : Int) * 10 - 43704 * den, 10 * den)

/-- A thermistor's result: an integer within 1 of the formula, a free choice among those (R428); a free value where the formula has none (log
entry 43). -/
def thermistorValue (s : State) (n : Nat) (x : Int) : Int × State :=
  match thermistorT16 (getF s (HK_THERM_w0_R26 n)) (getF s (HK_THERM_w1_BETA n)) x with
  | some (a, b) =>
    let low := -((b - a) / b)
    let high := (a + b) / b
    let (k, s1) := fresh s (high - low + 1).toNat
    (low + (k : Int), s1)
  | none =>
    let (v, s1) := fresh s (2 ^ 32)
    (signed 32 v, s1)

/-- The result of an input from what the converter gives (R424 to R428). -/
def hkMeasure (s : State) (input gain : Nat) (owd : Bool) (r : HkReading) : HkResult × State :=
  let g := gainUsed input gain
  let x1 := r.x1.toInt
  let x2 := r.x2.toInt
  if inputExists input = false then (HkResult.none_ false, s)
  else if owd ∧ inputExternal input ∧ r.opened then (HkResult.none_ true, s)
  else if input ≤ 7 then
    let big := beyondScale x1 || beyondScale x2
    let d := 4 * corrected s g x1 - corrected s g x2
    let t := diodeT16 (getF s (HK_DIODE_IDEAL input)) d
    let short := decide (d * 25000 < 10000 * 8388608)
    (⟨some t, ! big && ! short && decide (-880 ≤ t ∧ t ≤ 2800), false, short, big, 2⟩, s)
  else if input ≤ 11 then
    let x := corrected s g x1
    let (t, s1) := thermistorValue s (input - 8) x
    let opened := decide (995 * 8388608 < 1000 * x)
    let short := decide (10000 * x < 5 * 8388608)
    (⟨some t, ! beyondScale x1 && ! opened && ! short && decide (-880 ≤ t ∧ t ≤ 2400), opened, short, beyondScale x1, 1⟩, s1)
  else if input ≤ 22 then
    let (v, s1) := divFree s (corrected s g x1 * 9600) 8388608
    (⟨some v, ! beyondScale x1, false, false, beyondScale x1, 1⟩, s1)
  else
    let (v, s1) := divFree s (corrected s g x1 * 1200000) (4 ^ g * 8388608)
    (⟨some v, ! beyondScale x1, false, false, beyondScale x1, 1⟩, s1)

/-- What every result counts: conversions, open inputs, over-range results; TH_INT.OPEN for an open wire (R431). -/
def countResult (s : State) (r : HkResult) : State :=
  let s1 := bumpBy s (cHK_CNT 0) r.conversions
  let s2 := if r.opened ∧ r.conversions = 0 then bump (event s1 TH_INT_OPEN) (cHK_CNT 3) else s1
  if r.tooBig then bump s2 (cHK_CNT 4) else s2

/-! ### Filters and thresholds (R434 to R436) -/

/-- A test's number: 0 HI, 1 LO, 2 RATE. Its flag in HK_ENTRY word 7. -/
def testFlag (i test : Nat) : Fld := ⟨aHK_ENTRY_w7 i, 4 + test, 4 + test⟩

/-- A test's action bits. -/
def testActions (s : State) (i test : Nat) : Nat := getF s ⟨aHK_ENTRY_w4 i, 19 + 4 * test, 16 + 4 * test⟩

/-- A test fires (R435, R436). -/
def fireTest (s : State) (i test : Nat) : State :=
  let acts := testActions s i test
  let s1 := bump (setF s (testFlag i test) 1) (cHK_CNT 5)
  let s2 := if acts.testBit 0 then raise (event s1 TH_INT_THR) 0x401 0x52 clsCorrected false (i + 16 * test) else s1
  let s3 := if acts.testBit 1 ∧ pstate s2 ≤ 1 then wake (bump s2 (cTH_CNT 1)) else s2
  let s4 := if acts.testBit 2 ∧ (pstate s3 = 3 ∨ pstate s3 = 4) then tollPark s3 else s3
  if acts.testBit 3 ∧ 1 ≤ pstate s4 then decideTsd s4 12 i (getF s4 (HK_ENTRY_w6_FILTERED i) % 4096) else s4

/-- One test of an entry: its count with this result, the re-arming, and the firing at PERSIST results in a row. -/
def runTest (s : State) (i test n : Nat) (holds rearm : Bool) : State :=
  let s1 := if rearm then setF s (testFlag i test) 0 else s
  if holds ∧ getF s (HK_ENTRY_w0_PERSIST i) ≤ n ∧ flag s1 (testFlag i test) = false then fireTest s1 i test else s1

/-- A valid result of an entry is filtered and tested (R434, R435). -/
def filterResult (s : State) (i : Nat) (x : Int) : State :=
  let e := hkEntryOf s i
  let old := getI s (HK_ENTRY_w6_FILTERED i)
  let y := if e.fresh then x else old + (x - old) / 2 ^ getF s (HK_ENTRY_w0_FILT i)
  let hyst : Int := (getF s (HK_ENTRY_w4_HYST i) : Int)
  let hi := getI s (HK_ENTRY_w1_HI i)
  let lo := getI s (HK_ENTRY_w2_LO i)
  let dt := match e.last with | some t => if e.fresh then 0 else s.elapsed - t | none => 0
  let isHi := decide (hi ≤ y)
  let isLo := decide (y ≤ lo)
  let isRate := decide (dt ≠ 0 ∧ (getF s (HK_ENTRY_w3_RATE i) : Int) * (dt : Int) < (y - old) * 1000 * 4000000)
  let count := fun (b : Bool) (n : Nat) => if b then min 255 (n + 1) else 0
  let e1 : HkEntry := ⟨false, count isHi e.hiN, count isLo e.loN, count isRate e.rateN, some s.elapsed⟩
  let s1 := setHkEntry (setF s (HK_ENTRY_w6_FILTERED i) (unsigned 32 y)) i e1
  let s2 := runTest s1 i 0 e1.hiN isHi (decide (y < hi - hyst))
  let s3 := runTest s2 i 1 e1.loN isLo (decide (lo + hyst < y))
  runTest s3 i 2 e1.rateN isRate (decide (dt ≠ 0) && ! isRate)

/-- An entry's result (R433, R434): an invalid one leaves y, resets the persistence counts and takes no part in the tests. -/
def applyResult (s : State) (i : Nat) (r : HkResult) : State :=
  let s1 := countResult s r
  let s2 := match r.value with | some v => setF s1 (HK_ENTRY_w5_VALUE i) (unsigned 32 v) | none => s1
  let s3 := setFlag (setFlag (setFlag (setFlag s2 (HK_ENTRY_w7_VALID i) r.valid) (HK_ENTRY_w7_OPEN i) r.opened) (HK_ENTRY_w7_SHORT i) r.short)
    (HK_ENTRY_w7_OVER i) r.tooBig
  let s4 := match r.valid, r.value with
    | true, some v => filterResult s3 i v
    | _, _ => invalidEntry s3 i
  showZones s4

/-! ### The sequence (R429, R430) -/

/-- The interval between cycles in milliseconds. -/
def hkInterval (s : State) : Nat := if pstate s = 0 then getF s TH_SLEEP_INTERVAL else getF s HK_CTRL_INTERVAL

/-- HK_CYCLE_START (R429): INTERVAL after the start of the previous cycle, or at once where that one took longer. -/
def execHkCycleStart (s : State) : Out :=
  let late : Bool := match s.th.cycle with | some t => decide (t + 4000000 * hkInterval s ≤ s.elapsed) | none => true
  if flag s HK_CTRL_EN ∧ s.th.cycling = false ∧ late then
    .next (calTemps (nextCalConversion (seekEntry { s with th := { s.th with cycle := some s.elapsed, cycling := true } } 17 0)))
  else .next s

/-! ### Urgent conversions (R425, R430) -/

/-- The raw ZERO reading of a gain code that calibration has made. -/
def zeroOf (s : State) (g : Nat) : Int := cellGet (fun _ => 0) s.th.zero g

/-- Calibration's REF reading ends (R289, R425): OFS_g and GAIN_g are accepted together within their limits, or rejected. The rounding of GAIN_g is open
(log entry 2). -/
def calMeasured (s : State) (g : Nat) (x : Int) (big : Bool) : State :=
  let ofs := zeroOf s g
  let (gain, s1) := if ofs < x then divFree s (105553116266496) (x - ofs).toNat else (0, s)
  if big = false ∧ beyondScale ofs = false ∧ ofs.natAbs ≤ 167772 ∧ 15938356 ≤ gain ∧ gain ≤ 17616076 then
    accepted (setF (setF s1 (HK_CAL_w0_OFS g) (unsigned 32 ofs)) (HK_CAL_w1_GAIN g) gain.toNat)
  else rejectP s1 0x400 0x7FFF

/-- The aborted entry restarts from its beginning once no urgent conversion runs (R430). -/
def resumeEntry (s : State) : State := if s.th.urgent.isNone ∧ s.th.cycling then beginConversion s else s

/-- The urgent conversion ends: its result appears in HK_URG_RES and HK_URG_STAT, and nowhere else (R430). -/
def urgentDone (s : State) (u : Urgent) (r : HkReading) : State :=
  let (m, s1) := hkMeasure s u.input u.gain u.owd r
  let s2 := bump (countResult s1 m) (cHK_CNT 1)
  let s3 := match m.value with | some v => setF s2 HK_URG_RES_VALUE (unsigned 32 v) | none => s2
  let s4 := setFlag (setFlag (setFlag (event s3 HK_URG_STAT_DONE) HK_URG_STAT_VALID m.valid) HK_URG_STAT_OPEN m.opened) HK_URG_STAT_OVER m.tooBig
  let s5 := showBusy (setFlag { s4 with th := { s4.th with urgent := none } } HK_STATUS_URGENT false)
  if u.cal = false then s5
  else if u.input = 24 then { s5 with th := { s5.th with zero := cellPut (fun _ => 0) s5.th.zero u.gain r.x1.toInt } }
  else calMeasured s5 u.gain r.x1.toInt m.tooBig

/-- The integrations of what the converter runs are over (R423, R429). -/
def converted (s : State) (input ncyc : Nat) (owd : Bool) (r : HkReading) : Bool :=
  decide (s.th.began + conversionTime s input ncyc owd r.opened ≤ s.elapsed)

/-- HK_CONVERSION_DONE: what the converter has run ends, an urgent request or the entry of the sequence (R430, R434), once its time has passed. -/
def execHkConversionDone (r : HkReading) (s : State) : Out :=
  match s.th.urgent with
  | some u => .next (if converted s u.input u.ncyc u.owd r then resumeEntry (nextCalConversion (urgentDone s u r)) else s)
  | none =>
    let i := getF s HK_STATUS_ENTRY
    if s.th.cycling ∧ converted s (getF s (HK_ENTRY_w0_INPUT i)) (getF s (HK_ENTRY_w0_NCYC i)) (flag s (HK_ENTRY_w0_OWD i)) r then
      let (m, s1) := hkMeasure s (getF s (HK_ENTRY_w0_INPUT i)) (getF s (HK_ENTRY_w0_GAIN i)) (flag s (HK_ENTRY_w0_OWD i)) r
      .next (autoWake (calTemps (nextCalConversion (seekEntry (applyResult s1 i m) 17 (i + 1)))))
    else .next s

/-- URGENT_CONVERSION: the write to HK_URG (R430). -/
def execUrgentConversion (w : RegWrite) (s : State) : Out := .next (rowWrite s aHK_URG w)

/-! ### Junction sensors (R432, R433, R440) -/

/-- One sensor's reading: valid from -880 to 2,800 with a good self-check; otherwise TH_INT.JS_FAIL and a fault (R432). -/
def sensorRead (s : State) (x : JsReading × Nat) : State :=
  let t := tempOf x.1.temp.toNat
  if x.1.ok ∧ -880 ≤ t then setF (setF s (TH_JS_TEMP x.2) x.1.temp.toNat) (TH_JS_VALID x.2) 1
  else raise (event (setF s (TH_JS_VALID x.2) 0) TH_INT_JS_FAIL) 0x401 0x53 clsCorrected false x.2

/-- The valid sensor that reads highest, with its reading; the first of several. -/
def hottest (s : State) : Option (Nat × Int) :=
  (List.range 12).foldl (fun (best : Option (Nat × Int)) i =>
    if flag s (TH_JS_VALID i) = false then best
    else
      let t := tempOf (getF s (TH_JS_TEMP i))
      match best with
      | some (_, b) => if b < t then some (i, t) else best
      | none => some (i, t)) none

/-- JS_UPDATE: the sensors are digitized, zone 8 follows, and an overheated junction decides the shutdown (R432, R433, R440). -/
def execJsUpdate (readings : List JsReading) (s : State) : Out :=
  let s1 := ((readings.take 12).zipIdx).foldl sensorRead s
  match hottest s1 with
  | none => .next (autoWake (calTemps (setF s1 (TH_ZONE_VALID 8) 0)))
  | some (i, t) =>
    let s2 := setF (setF { s1 with th := { s1.th with jsSeen := s1.elapsed } } (TH_ZONE_TEMP 8) (unsigned 12 t)) (TH_ZONE_VALID 8) 1
    let s3 := calTemps s2
    .next (autoWake (if (getF s TH_TSD_LIMIT : Int) ≤ t then decideTsd s3 i 0 (unsigned 12 t) else s3))

end Sys2Proof.Machine
end

