-- ==== Sys2Proof/Machine/Tally.lean ====
section
/-!
DEFINITION. Machine/Tally.lean: snapshots of the block counters (R470, R471, R513), checkpoints (R480), lifetime histograms (R477), the seconds counter
(R421), and the reads that have an effect of their own (R10, R468).
-/
namespace Sys2Proof.Machine

/-! ### Snapshots -/

/-- The addresses of word 0 of the block counters in the order of the counter index (R513). -/
def counterAddrs : List Nat :=
  (List.range 72).map cTG_CNT ++ (List.range 21).map cAD_CNT ++ (List.range 256).map cLN_CNT ++ (List.range 8).map cNT_CNT
    ++ (List.range 6).map cLS_CNT ++ (List.range 10).map cKS_CNT ++ (List.range 19).map cDK_CNT ++ (List.range 9).map cCAL_CNT
    ++ (List.range 129).map cFC_CNT ++ (List.range 4).map cTY_SLOT ++ (List.range 6).map cTC_CNT ++ (List.range 12).map cBM_CNT
    ++ (List.range 6).map cNV_CNT ++ (List.range 6).flatMap (fun p => (List.range 14).map (cCP_CNT p))
    ++ (List.range 36).flatMap (fun n => (List.range 10).map (cLZ_CNT n) ++ (List.range 11).map (cTE_CNT n))
    ++ (List.range 8).map cTH_CNT ++ (List.range 8).map cTHP_CNT ++ (List.range 6).map cHK_CNT

/-- The active bank's words by twice the counter index. -/
def snapWords (s : State) : List (Nat × Word) :=
  (List.range counterAddrs.length).flatMap (fun i => [(2 * i, rd s (aTY_SNAPBANK_w0 i)), (2 * i + 1, rd s (aTY_SNAPBANK_w1 i))])

/-- One counter goes into the bank that becomes active. -/
def bankCounter (s : State) (e : Nat × Nat) : State :=
  wr (wr s (aTY_SNAPBANK_w0 e.2) (rd s e.1)) (aTY_SNAPBANK_w1 e.2) (rd s (e.1 + 4))

/-- Nanoseconds to the next snapshot instant: the next whole millisecond of a valid network time, else 800,000 central cycles (R470). -/
def toNextSnapshot (s : State) : Nat := if timeValid s then 1000000 - netNs s % 1000000 else 1000000

/-- TALLY_SNAPSHOT (R470, R471): the first snapshot of an epoch has number 0. The instant of a valid network time is its whole millisecond. -/
def execTallySnapshot (s : State) : Out :=
  let first := ! armed s .snapshot
  if flag s TY_CTRL_SNAP_EN ∧ 2 ≤ pstate s ∧ (first ∨ due s .snapshot) then
    let instant := if timeValid s then netNs s / 1000000 * 1000000 else netNs s
    let s1 := counterAddrs.zipIdx.foldl bankCounter { s with ty := { s.ty with bank := snapWords s, instant := instant } }
    let s2 := setF (setF s1 TY_SNAP_SNAPSHOT (if first then 0 else getF s TY_SNAP_SNAPSHOT + 1)) TY_SNAP_T_STAMP (stampOf instant)
    .next (armIn s2 .snapshot (toNextSnapshot s))
  else .next s

/-! ### Checkpoints and histograms -/

/-- The body of a checkpoint (R479): the saturation mask, the lifetime counters and the histograms. -/
def checkpointBody (s : State) : List Byte :=
  leBytes 16 s.ty.mask ++ (List.range 128).flatMap (fun i => leBytes 4 (rd s (aTY_LT i)).toNat)
    ++ (List.range 768).flatMap (fun i => leBytes 4 (rd s (aTY_HIST i)).toNat)

/-- CHECKPOINT_TIMER (R480): above Standby and once the log has been read (R481), a checkpoint is fixed and queued (log entry 44). -/
def execCheckpointTimer (s : State) : Out :=
  if railGood s 0 ∧ 2 ≤ pstate s ∧ s.th.logRead ∧ (armed s .checkpoint = false ∨ due s .checkpoint) then
    .next (setFlag (queueJob (armIn s .checkpoint (1000000000 * getF s TY_CKPT_INTERVAL)) .checkpoint (checkpointBody s)) TY_STATUS_CKPT_PEND true)
  else .next s

/-- The histogram bin of a temperature (R477). -/
def tempBin (t : Int) : Nat := (clampInt 0 63 ((t + 640) / 64)).toNat

/-- HIST_SAMPLE_SECOND (R477): zone 8 in histogram 0, zones 0 to 7 in histograms 1 to 8, each while valid. -/
def execHistSampleSecond (s : State) : Out :=
  .next ((List.range 9).foldl (fun s z =>
    match zoneTemp s z with
    | some t => histogram s (if z = 8 then 0 else z + 1) (tempBin t)
    | none => s) s)

/-- HIST_SAMPLE_HOUR (R477): the failed elements of Keystone. -/
def execHistSampleHour (s : State) : Out := .next (histogram s 11 (getF s KS_STATUS_FAILED))

/-! ### Seconds (R421) -/

/-- UPTIME_SECOND: TH_UPTIME advances; hours with VDD good and in Service, and minutes with zone 8 at or above 125 °C, accrue (R475); recoveries older than an
hour leave the history (R464). -/
def execUptimeSecond (s : State) : Out :=
  let s1 := setF s TH_UPTIME_SECONDS (getF s TH_UPTIME_SECONDS + 1)
  let s2 := if railGood s 0 then lifeRemainder s1 0 3600 1 else s1
  let s3 := if pstate s = 4 then lifeRemainder s2 1 3600 1 else s2
  let hot : Bool := match zoneTemp s 8 with | some t => decide (2000 ≤ t) | none => false
  let s4 := if hot then lifeRemainder s3 17 60 1 else s3
  .next { s4 with fc := { s4.fc with recoveries := recentRecoveries s4 } }

/-- A tick of the 800 MHz central island: 1.25 ns pass, and while that island runs the clock advances by 1.25 ns × (1 + y × 2^-40) (R144). This is what a
step does with no command waiting (log entry 1). -/
def tick (s : State) : State :=
  let s1 := { s with elapsed := s.elapsed + 5 }
  if 2 ≤ pstate s ∧ flag s (TH_PLL_LOCK 0) then { s1 with clock := wrapClock ((s.clock : Int) + 5 * 2 ^ 40 + 5 * getI s NT_RATE_Y) } else s1

/-! ### Reads with an effect (R10, R468) -/

/-- COUNTER_LATCH_READ: a bus read of a counter's word. -/
def execCounterLatchRead (addr : BitVec 32) (r : RegRead) (s : State) : Out :=
  .next (busRead s r.master.val addr.toNat r.wait r.lock r.enables).1

/-- RC_FIELD_READ: a bus read of a register with fields that a read clears. -/
def execRcFieldRead (addr : BitVec 32) (r : RegRead) (s : State) : Out :=
  .next (busRead s r.master.val addr.toNat r.wait r.lock r.enables).1

end Sys2Proof.Machine
end

