-- ==== Sys2Proof/Machine/Alp.lean ====
section
/-!
DEFINITION. Machine/Alp.lean: register access over ALP (R74 to R76, R393, R394) and telemetry (R79, R80, R472).
-/
namespace Sys2Proof.Machine

/-! ### Register access -/

/-- Whether the register at an address is a word of a block counter (R467). -/
def isCounter (a : Nat) : Bool := isCounterHigh a || isCounterHigh (a + 4)

/-- The addresses behind the debug lock for ALP register access (R393, R394, R510). -/
def behindLock (s : State) (a : Nat) : Bool :=
  (debugLocked s && (decide (a < 0x100000 ∨ (0x10000000 ≤ a ∧ a < 0x10400000)) || inTables a)) || (! counterReads s && isCounter a)

/-- A port's DMA, as a master of the bus (R495). -/
def dmaOf (port : Nat) : Nat := 2 + port

/-- ADDR of a register message. -/
def regAddr (m : Msg) : Nat := beAt (msgBody m) 0 4
/-- COUNT of a register message. -/
def regCount (m : Msg) : Nat := beAt (msgBody m) 4 2
/-- The address of word `i`. -/
def wordAddr (m : Msg) (i : Nat) : Nat := (regAddr m + 4 * i) % 2 ^ 32

/-- What an access over ALP has come to: the first failing status, the words done, the words read in order, and the state. -/
structure RegRun where
  status : Status
  done : Nat
  data : List Word
  state : State

/-- A word of the capture memory that fails its check on read: the entry reads with ERR, its other words 0 (R494). -/
def failedEntry (a : Nat) : Word := if a % 16 = 12 then 0x80000000#32 else 0

/-- The word a read gives, when an entry of the capture memory fails its check. -/
def checkedWord (ecc : List MemUpset) (a : Nat) (w : Word) : Word :=
  if ecc.any (fun u => u.uncorrectable && decide (u.memory = .capture ∧ u.addr.toNat / 16 = a / 16 ∧ 0x38000000 ≤ a ∧ a < 0x387E0000))
  then failedEntry a else w

/-- A word read. -/
def readWord (ecc : List MemUpset) (m : Msg) (x : RegRun) (i : Nat) : RegRun :=
  if x.status ≠ 0 then x
  else if behindLock x.state (wordAddr m i) then ⟨0x23, x.done, x.data, x.state⟩
  else
    let (s1, st) := busRead x.state (dmaOf m.route.port) (wordAddr m i) 0 .none
    if st = 0 then ⟨0, x.done + 1, x.data ++ [checkedWord ecc (wordAddr m i) s1.bm.readData], s1⟩ else ⟨st, x.done, x.data, s1⟩

/-- A word written. -/
def writeWord (m : Msg) (x : RegRun) (i : Nat) : RegRun :=
  let s := x.state
  let master := dmaOf m.route.port
  if x.status ≠ 0 then x
  else if behindLock s (wordAddr m i) then ⟨0x23, x.done, x.data, s⟩
  else
    let (s1, st) := busWrite s master (mayFlash s master) (wordAddr m i) (BitVec.ofNat 32 (beAt (msgBody m) (8 + 4 * i) 4)) 0 .none
    if st = 0 then ⟨0, x.done + 1, [], s1⟩ else ⟨st, x.done, [], s1⟩

/-- The REG_REPLY of an access (R75). -/
def regReply (m : Msg) (x : RegRun) : State :=
  answer x.state m 0xA0 0 (beBytes 1 x.status ++ [0] ++ beBytes 2 x.done ++ beBytes 4 (regAddr m) ++ x.data.flatMap (fun w => beBytes 4 w.toNat))

/-- The words of an access in ascending order, up to the first that fails (R74, R75). COUNT is judged before ADDR (DEDUCED, log entry 45). -/
def regRun (m : Msg) (one : RegRun → Nat → RegRun) (s : State) : State :=
  if regCount m = 0 ∨ 1024 < regCount m then regReply m ⟨0x22, 0, [], s⟩
  else if regAddr m % 4 ≠ 0 then regReply m ⟨0x21, 0, [], s⟩
  else regReply m ((List.range (regCount m)).foldl one ⟨0, 0, [], s⟩)

/-- Step 6 for a REG_READ (R532), and its execution. -/
def regReadStep (ecc : List MemUpset) (m : Msg) (s : State) : State :=
  match sizeCheck m 8 with
  | some (c, d) => refuseStep6 s m c d
  | none => regRun m (readWord ecc m) s

/-- The size test of a REG_WRITE (R532): none where COUNT, which stands in bytes 4 and 5 of the body, is 0 or above 1,024. -/
def writeSize (m : Msg) : Option (Nat × Nat) :=
  if (msgBody m).length < 6 then sizeCheck m 8
  else if regCount m = 0 ∨ 1024 < regCount m then none
  else sizeCheck m (8 + 4 * regCount m)

/-- Step 6 for a REG_WRITE (R532), and its execution. -/
def regWriteStep (m : Msg) (s : State) : State :=
  match writeSize m with
  | some (c, d) => refuseStep6 s m c d
  | none => regRun m (writeWord m) s

/-- An access waits while another master's locked sequence holds a target of it (R499). -/
def accessWaits (s : State) (m : Msg) : Bool :=
  match s.bm.lock with
  | some (_, t, _) => (List.range (min 1024 (regCount m))).any (fun i => decide (targetOf (wordAddr m i) = t))
  | none => false

/-- A register message at the head of admission's queue. -/
def regMessage (typ : Nat) (step : Msg → State → State) (mm : Upsets) (s : State) : State :=
  match nextMsg s (fun m => decide (msgType m = typ)) with
  | none => s
  | some m => if accessWaits s m then s else process s m mm (step m)

/-- REG_READ (R74, R75). -/
def execRegRead (mm : Upsets) (s : State) : Out := .next (regMessage 0x20 (regReadStep mm.ecc) mm s)

/-- REG_WRITE (R74 to R76). -/
def execRegWrite (mm : Upsets) (s : State) : Out := .next (regMessage 0x21 regWriteStep mm s)

/-! ### Telemetry (R79, R80, R472) -/

/-- A record as it is split: its RTYPE, what precedes the entries in a part that begins at entry `first` and holds `count`, and the entries. -/
structure TelRecord where
  rtype : Nat
  head : Nat → Nat → List Byte
  entries : List (List Byte)

/-- Lane statistics of a stream (R472). -/
def laneRecord (s : State) (p : Nat) (b : Sub) : TelRecord :=
  let own := s.ad.lanes.filter (fun e => decide (lanePartner e.2 = p) && laneEn e.2)
  let since := fun (l : Nat) => match b.base.find? (fun e => decide (e.1 = l)) with | some (_, c) => c | none => (0, 0)
  ⟨1, fun _ _ => [], own.map (fun e =>
    beBytes 2 e.1 ++ beBytes 2 (laneFlight s e.1).length ++ beBytes 2 (laneO s e.1) ++ beBytes 2 (laneL s e.1)
      ++ beBytes 4 (e.2.accepted - (since e.1).1) ++ beBytes 4 (e.2.refused - (since e.1).2))⟩

/-- A counter of the active bank: word 1, then word 0. -/
def bankEntry (s : State) (i : Nat) : List Byte :=
  beBytes 4 (rd s (aTY_SNAPBANK_w1 i)).toNat ++ beBytes 4 (rd s (aTY_SNAPBANK_w0 i)).toNat

/-- The counter snapshot. -/
def counterRecord (s : State) : TelRecord := ⟨2, fun first n => beBytes 2 first ++ beBytes 2 n, (List.range 1420).map (bankEntry s)⟩

/-- Temperatures: zones, junction sensors, and 2 reserved bytes. -/
def tempRecord (s : State) : TelRecord :=
  ⟨3, fun _ _ => [], (List.range 9).map (fun z => beBytes 2 (getF s ⟨aTH_ZONE z, 12, 0⟩))
    ++ (List.range 12).map (fun i => beBytes 2 (getF s ⟨aTH_JS i, 12, 0⟩)) ++ [[0, 0]]⟩

/-- The spans in which a first resynchronisation of a deck and three retries have each ended with cause 11 (R331), as a mask. -/
def spentSpans (s : State) : Nat :=
  ((List.range 36).map (fun n => if 4 ≤ failedCount s n 0 ∨ 4 ≤ failedCount s n 1 then 2 ^ n else 0)).sum

/-- The fault summary (R472). -/
def faultRecordOf (s : State) : TelRecord :=
  let opens := (List.range 16).filter (fun i => flag s (FC_OPEN_w3_VALID i))
  let fixed := beBytes 4 (viewWord s aFC_STATUS).toNat ++ beBytes 4 (rd s aFC_RCV_CNT).toNat ++ bankEntry s 401 ++ bankEntry s 402 ++ bankEntry s 403
    ++ beBytes 4 (rd s aDK_OWNER_HI).toNat ++ beBytes 4 (rd s aDK_OWNER_LO).toNat ++ beBytes 8 (spentSpans s) ++ beBytes 2 opens.length ++ beBytes 2 0
  ⟨4, fun _ _ => [], fixed :: opens.map (fun i =>
    beBytes 4 (rd s (aFC_OPEN_w1 i)).toNat ++ beBytes 4 (rd s (aFC_OPEN_w0 i)).toNat ++ beBytes 2 ((openWord s i).toNat % 65536) ++ beBytes 2 0)⟩

/-- One part of a record. -/
def recordPart (r : TelRecord) (first : Nat) (es : List (List Byte)) : List Byte :=
  let body := r.head first es.length ++ es.flatten
  beBytes 1 r.rtype ++ [0] ++ beBytes 2 (4 + body.length) ++ body

/-- How many of the entries fit beside a header in `room` bytes. -/
def fitting (room : Nat) : List (List Byte) → Nat
  | [] => 0
  | e :: t => if e.length ≤ room then 1 + fitting (room - e.length) t else 0

/-- The record's parts from entry `first` on, spread over messages of at most 8,160 bytes of records: the messages so far, the last one last. -/
def placeEntries (r : TelRecord) : Nat → Nat → List (List Byte) → List (List Byte) → List (List Byte)
  | 0, _, _, msgs => msgs
  | fuel + 1, first, es, msgs =>
    let last := match msgs.getLast? with | some b => b | none => []
    let over_ := 4 + (r.head 0 0).length
    let room := 8160 - last.length
    let n := if over_ ≤ room then fitting (room - over_) es else 0
    if over_ ≤ room ∧ (n ≠ 0 ∨ es = []) then
      let msgs1 := msgs.dropLast ++ [last ++ recordPart r first (es.take n)]
      if es.length ≤ n then msgs1 else placeEntries r fuel (first + n) (es.drop n) (msgs1 ++ [[]])
    else placeEntries r fuel first es (msgs ++ [[]])

/-- The bodies of the TELEMETRY messages of one period (R79): the records in bit order, filled without splitting an entry (DEDUCED, log entry 46). -/
def telemetryBodies (records : List TelRecord) : List (List Byte) :=
  records.foldl (fun msgs r => placeEntries r 64 0 r.entries msgs) [[]]

/-- The records that CONTENT selects, in bit order. -/
def recordsFor (s : State) (p : Nat) (b : Sub) : List TelRecord :=
  let one := fun (k : Nat) (r : TelRecord) => if b.content.testBit k then [r] else []
  one 0 (laneRecord s p b) ++ one 1 (counterRecord s) ++ one 2 (tempRecord s) ++ one 3 (faultRecordOf s)

/-- The messages of a period, each with the lane's next device count in SEQ (R47) and the snapshot's instant in TIME (R530). -/
def telemetryMsgs (s : State) (k : Nat) (b : Sub) (r : Route) (bodies : List (List Byte)) : List OutMsg :=
  let head := beBytes 1 k ++ beBytes 1 b.content ++ beBytes 2 0 ++ beBytes 4 (getF s TY_SNAP_SNAPSHOT)
  let time := if timeValid s then s.ty.instant else 0
  bodies.zipIdx.map (fun x =>
    ⟨b.lane, 0xB0, ((laneOf s b.lane).devCnt + x.2) % 2 ^ 32, 0, time, laneL s b.lane, head ++ x.1, r, false, true, some k⟩)

/-- The messages join the telemetry queue. Those of the same stream that still wait are replaced where the first of them stands (R80). -/
def queueTelemetry (s : State) (p k : Nat) (msgs : List OutMsg) : State :=
  let x := shaperOf s p
  let old := fun (m : OutMsg) => decide (m.stream = some k)
  if x.telemetry.any old then
    let before := x.telemetry.takeWhile (fun m => ! old m)
    let after := (x.telemetry.dropWhile (fun m => ! old m)).filter (fun m => ! old m)
    bump (setShaper s p { x with telemetry := before ++ msgs ++ after }) (cLN_CNT (4 * p + 2))
  else setShaper s p { x with telemetry := x.telemetry ++ msgs }

/-- A stream's message is built and queued. -/
def sendTelemetry (s : State) (p k : Nat) (b : Sub) : State :=
  match (laneOf s b.lane).route with
  | none => s
  | some r =>
    let msgs := telemetryMsgs s k b r (telemetryBodies (recordsFor s p b))
    let x := laneOf s b.lane
    let s1 := setLane s b.lane { x with devCnt := (x.devCnt + msgs.length) % 2 ^ 32, shownL := laneL s b.lane }
    disarm (queueTelemetry s1 p k msgs) (.credit b.lane)

/-- TELEMETRY_PERIOD (R79): the stream's period has elapsed. -/
def execTelemetryPeriod (n : Partner) (stream : Fin 4) (s : State) : Out :=
  match subOf s n stream, timerAt (.telemetry n stream) s.timers with
  | some b, some t =>
    if t ≤ s.elapsed then
      let s1 := armAt (sendTelemetry s n stream b) (.telemetry n stream) (t + 4000000 * b.period)
      .next (setSub s1 n stream (some { b with base := statBase s n }))
    else .next s
  | _, _ => .next s

end Sys2Proof.Machine
end

