-- ==== Sys2Proof/Machine/BusRows.lean ====
section
/-!
DEFINITION. Machine/BusRows.lean: the commands that are one write of a word over the bus matrix (R10, R495): each carries the write's master, value, wait and
lock, and its effect is the register's own rule (log entry 47); and the master resets of R500 that have a row.
-/
namespace Sys2Proof.Machine

/-- ENGINE_RETURN (R101): firmware returns an engine through TG_ENGINE. -/
def execEngineReturn (w : RegWrite) (s : State) : Out := .next (rowWrite s aTG_ENGINE w)

/-- GEN_COMMIT (R110): the commit of the inactive generation through TG_GEN_CTRL. -/
def execGenCommit (w : RegWrite) (s : State) : Out := .next (rowWrite s aTG_GEN_CTRL w)

/-- RULE_READ (R111): a write to TG_RULE_OP that reads a rule into TG_RULE_DATA. -/
def execRuleRead (w : RegWrite) (s : State) : Out := .next (rowWrite s aTG_RULE_OP w)

/-- RULE_WRITE (R111): a write to TG_RULE_OP that writes TG_RULE_DATA into a rule. -/
def execRuleWrite (w : RegWrite) (s : State) : Out := .next (rowWrite s aTG_RULE_OP w)

/-- RULE_COPY (R111): a write to TG_RULE_OP that copies the active generation. -/
def execRuleCopy (w : RegWrite) (s : State) : Out := .next (rowWrite s aTG_RULE_OP w)

/-- POLICER_WRITE (R114): a word of a policer. -/
def execPolicerWrite (n : PolicerIx) (word : Fin 2) (w : RegWrite) (s : State) : Out := .next (rowWrite s (if word = 0 then aTG_POL_w0 n else aTG_POL_w1 n) w)

/-- FWQ_POP (R98): the firmware's hand-off queue is popped through TG_FWQ. -/
def execFwqPop (w : RegWrite) (s : State) : Out := .next (rowWrite s aTG_FWQ w)

/-- LANE_LOAD: a write to LN_SEL that loads a lane into the LN registers. -/
def execLaneLoad (w : RegWrite) (s : State) : Out := .next (rowWrite s aLN_SEL w)

/-- LANE_WRITE (R133): a write to LN_SEL that writes the LN registers into a lane. -/
def execLaneWrite (w : RegWrite) (s : State) : Out := .next (rowWrite s aLN_SEL w)

/-- PARTITION_WRITE (R133): a partner's pool partition. -/
def execPartitionWrite (n : Partner) (w : RegWrite) (s : State) : Out := .next (rowWrite s (aAD_PART_w0 n) w)

/-- SHAPER_WRITE (R140): a word of a partner's egress shaper. -/
def execShaperWrite (n : Partner) (word : Fin 2) (w : RegWrite) (s : State) : Out := .next (rowWrite s (if word = 0 then aLN_SHP_w0 n else aLN_SHP_w1 n) w)

/-- SCHEDULE_SWAP (R172): the bank swap through LS_CTRL. -/
def execScheduleSwap (w : RegWrite) (s : State) : Out := .next (rowWrite s aLS_CTRL w)

/-- SCHEDULE_DISABLE (R173): EN written 0 in LS_CTRL. -/
def execScheduleDisable (w : RegWrite) (s : State) : Out := .next (rowWrite s aLS_CTRL w)

/-- FAIL_MARK (R201): a write to a word of KS_FAILMAP. -/
def execFailMark (i : Fin 576) (w : RegWrite) (s : State) : Out := .next (rowWrite s (aKS_FAILMAP i) w)

/-- FAIL_CLEAR (R201): a write to KS_FAIL_CLR. -/
def execFailClear (w : RegWrite) (s : State) : Out := .next (rowWrite s aKS_FAIL_CLR w)

/-- FORCE_PARK (R245): a write to a pier's PR_CTRL that forces it to park. -/
def execForcePark (n : Span) (l : Local) (w : RegWrite) (s : State) : Out := .next (rowWrite s (aPR_CTRL n l) w)

/-- FORCE_PARK_RELEASE (R245): a write to a pier's PR_CTRL that ends the forced park. -/
def execForceParkRelease (n : Span) (l : Local) (w : RegWrite) (s : State) : Out := .next (rowWrite s (aPR_CTRL n l) w)

/-- LOOP_RECORD_LOAD (R269): a write to TE_PSEL that loads a loop record. -/
def execLoopRecordLoad (n : Span) (w : RegWrite) (s : State) : Out := .next (rowWrite s (aTE_PSEL n) w)

/-- LOOP_RECORD_WRITE (R269): a write to TE_PSEL that writes a loop record. -/
def execLoopRecordWrite (n : Span) (w : RegWrite) (s : State) : Out := .next (rowWrite s (aTE_PSEL n) w)

/-- LOOP_PERIOD_WRITE (R265): a span's loop period. -/
def execLoopPeriodWrite (n : Span) (w : RegWrite) (s : State) : Out := .next (rowWrite s (aTE_LOOP n) w)

/-- FILTER_CHANGE (R257): a span's filter code. -/
def execFilterChange (n : Span) (w : RegWrite) (s : State) : Out := .next (rowWrite s (aTE_FILT n) w)

/-- SWEEP (R304): a sweep command to CAL_CMD. -/
def execSweep (w : RegWrite) (s : State) : Out := .next (rowWrite s aCAL_CMD w)

/-- STORE_NOW (R306): a store command to CAL_CMD. -/
def execStoreNow (w : RegWrite) (s : State) : Out := .next (rowWrite s aCAL_CMD w)

/-- WATCHDOG_KICK (R331): a deck's watchdog is serviced through its DK_WDOG. -/
def execWatchdogKick (d : Deck) (w : RegWrite) (s : State) : Out := .next (rowWrite s (if d = Deck.a then aDK_WDOG_A else aDK_WDOG_B) w)

/-- HANDOVER (R327): a handover command to DK_CMD. -/
def execHandover (w : RegWrite) (s : State) : Out := .next (rowWrite s aDK_CMD w)

/-- RESYNC (R328): a resynchronisation command to DK_CMD. -/
def execResync (w : RegWrite) (s : State) : Out := .next (rowWrite s aDK_CMD w)

/-- PATH_RETURN (R312): an excluded path is returned through DK_PEXCL_CLR. -/
def execPathReturn (w : RegWrite) (s : State) : Out := .next (rowWrite s aDK_PEXCL_CLR w)

/-- NOM_WRITE (R311): the nominal claims in DK_CTRL. -/
def execNomWrite (w : RegWrite) (s : State) : Out := .next (rowWrite s aDK_CTRL w)

/-- TARGET_WRITE (R374): the target state in TH_PCTRL. -/
def execTargetWrite (w : RegWrite) (s : State) : Out := .next (rowWrite s aTH_PCTRL w)

/-- REMAP_SET (R410): the remap bits in NV_REMAP. -/
def execRemapSet (w : RegWrite) (s : State) : Out := .next (rowWrite s aNV_REMAP w)

/-- FLASH_READ (R416): a read command to NV_CMD. -/
def execFlashRead (w : RegWrite) (s : State) : Out := .next (rowWrite s aNV_CMD w)

/-- FLASH_PROGRAM (R417): a page program command to NV_CMD. -/
def execFlashProgram (w : RegWrite) (s : State) : Out := .next (rowWrite s aNV_CMD w)

/-- FLASH_ERASE_4K (R417): a 4 KiB erase command to NV_CMD. -/
def execFlashErase4k (w : RegWrite) (s : State) : Out := .next (rowWrite s aNV_CMD w)

/-- FLASH_ERASE_64K (R417): a 64 KiB erase command to NV_CMD. -/
def execFlashErase64k (w : RegWrite) (s : State) : Out := .next (rowWrite s aNV_CMD w)

/-- FAULT_CLEAR (R454): a slot is cleared through FC_CLR. -/
def execFaultClear (w : RegWrite) (s : State) : Out := .next (rowWrite s aFC_CLR w)

/-- CAPTURE_ARM (R486): a write to TC_CTRL that arms. -/
def execCaptureArm (w : RegWrite) (s : State) : Out := .next (rowWrite s aTC_CTRL w)

/-- CAPTURE_STOP (R486): a write to TC_CTRL that stops. -/
def execCaptureStop (w : RegWrite) (s : State) : Out := .next (rowWrite s aTC_CTRL w)

/-- CAPTURE_FORCE (R487): a write to TC_CTRL that forces a trigger. -/
def execCaptureForce (w : RegWrite) (s : State) : Out := .next (rowWrite s aTC_CTRL w)

/-- REGISTER_WRITE (R10): a word written to any address of the deck view. -/
def execRegisterWrite (addr : BitVec 32) (w : RegWrite) (s : State) : Out := .next (rowWrite s addr.toNat w)

/-- PORT_DMA_RESET (R500): CP_CTRL is written; where ENABLE goes to 0 the port's DMA is reset, with the burst it has granted. -/
def execPortDmaReset (p : Port) (w : RegWrite) (burst : Option Burst) (s : State) : Out :=
  let s1 := rowWrite s (aCP_CTRL p) w
  .next (if flag s (CP_CTRL_ENABLE p) ∧ flag s1 (CP_CTRL_ENABLE p) = false then masterReset s1 (dmaOf p) burst else s1)

/-- TAP_DEBUG_RESET (R500): the debug master is reset through the TAP. With the debug lock in force the TAP executes no such instruction (R393). -/
def execTapDebugReset (burst : Option Burst) (s : State) : Out := .next (if debugLocked s then s else masterReset s 11 burst)

end Sys2Proof.Machine
end

