-- ==== Sys2Proof/Machine/Replay.lean ====
section
/-!
DEFINITION. Machine/Replay.lean: what a signature replay recomputes and how it ends (R319 to R321).
-/
namespace Sys2Proof.Machine

/-! ### The history (R267, R319) -/

/-- An entry of the update history: its pier, sample record, INTEG, UN, VN and e (R267). -/
structure HistEntry where
  pier : Nat
  w0 : Word
  w1 : Word
  integ : Int
  un : Int
  vn : Int
  e : Int
  deriving DecidableEq, Repr

/-- Entry `i` of a deck's history. -/
def histEntry (s : State) (n d i : Nat) : HistEntry :=
  let h := loopBase n d + 0x8000 + 0x20 * i
  ⟨getM s h ⟨0, 8, 0⟩, memWord s (h + 4), memWord s (h + 8), getMI s h ⟨12, 31, 0⟩, getMI s h ⟨16, 17, 0⟩, getMI s h ⟨16, 31, 18⟩, getMI s h ⟨20, 17, 0⟩⟩

/-- The entries that hold an update, oldest first; a sample record of no cycles holds none. -/
def histEntries (s : State) (n d : Nat) : List HistEntry :=
  let next := cellGet (fun _ => 0) s.te.hist (2 * n + d)
  ((List.range 64).map (fun k => histEntry s n d ((next + k) % 64))).filter (fun h => decide (bitsOf h.w1 30 16 ≠ 0))

/-- The error of an entry from its own record and that of the entry before it at the same pier (R271 to R275). σ of the window is the sign of the VN
that its update left, since the dither alternates (R273; DEDUCED, log entry 71). -/
def redoneError (s : State) (n d : Nat) (p h : HistEntry) : Option Int :=
  let a := loopRec n h.pier d
  let rrat := getM s a lRRAT
  if h.w1.getLsbD 31 then
    let (ia, ib0) := recordCurrents h.w0 h.w1
    if ia + ib0 * rrat / 4096 = 0 then none else some (ratioE s n h.pier a ia (ib0 * rrat / 4096))
  else
    let c := bitsOf h.w1 0 0
    match fractionF h.w0 h.w1 c rrat, fractionF p.w0 p.w1 (bitsOf p.w1 0 0) rrat with
    | some f, some g => some (barE s n h.pier f g (decide (0 < h.vn)) (otherPath s a c))
    | _, _ => none

/-- An entry with a predecessor reproduces: e, the integrator, UN and VN (R319). -/
def redoneAfter (s : State) (n d : Nat) (p h : HistEntry) : Bool :=
  let a := loopRec n h.pier d
  match redoneError s n d p h with
  | none => false
  | some e0 =>
    let e := limitedE s n (scaledE s a e0)
    let integ := lawInteg s n (getM s a lLIM) p.integ e
    let dd : Int := if flag s (TE_CTRL_DEN n) then (getF s (TE_KD_KD n) : Int) * (e - p.e) else 0
    let dither : Int := getF s (TE_DITHER_D n)
    let vn : Int := if h.w1.getLsbD 31 ∨ flag s (TE_CTRL_DITHER_EN n) = false then 0 else if 0 < p.vn then -dither else dither
    decide (e = h.e ∧ integ = h.integ ∧ lawOut s n integ e dd = h.un ∧ vn = h.vn)

/-- An entry with no predecessor is recomputed from e onward (R319): UN from the integrator and e; with a derivative term, which needs the error before, there
is nothing to compare. -/
def redoneAlone (s : State) (n : Nat) (h : HistEntry) : Bool :=
  flag s (TE_CTRL_DEN n) || decide (lawOut s n h.integ h.e 0 = h.un)

/-- The entries, oldest first, reproduce, each from the one before it at its pier among those seen (newest first). -/
def redoneAll (s : State) (n d : Nat) : List HistEntry → List HistEntry → Bool
  | _, [] => true
  | seen, h :: rest =>
    (match seen.find? (fun p => decide (p.pier = h.pier)) with
      | some p => redoneAfter s n d p h
      | none => redoneAlone s n h) && redoneAll s n d (h :: seen) rest

/-- A deck's 64 entries reproduce from what its records and registers hold now (R319). -/
def historyReproduces (s : State) (n d : Nat) : Bool := redoneAll s n d [] (histEntries s n d)

/-! ### The end of a replay (R320) -/

/-- Whether the codes a deck presents at a mismatched pier are those its records give (R319): the fast code under R221 and R263,
the trim code under R228. -/
def codesReproduce (s : State) (n l d : Nat) : Bool :=
  let p := pathOf s (pierIx n l) d
  let a := loopRec n l d
  decide ((fastCode s n l (getMI s a lDLIVE) (getMI s a lV)).1 = p.reqF) && decide ((trimCode s n l p.arg p.vh).1.code = p.reqT)

/-- The CRC-32C of a deck's 64 history entries (R319). -/
def signatureOf (s : State) (n d : Nat) : Nat := crc32c (rdBytes s (loopBase n d + 0x8000) 2048)

/-- A replay ends (R320). A deck's history passes where every entry reproduces. Where an entry does not reproduce from what the records and registers hold
now, `histA` and `histB` say whether the deck's recomputation reproduced it: the history keeps no gains, LIM, class or windows between its entries
(log entry 71). Mismatches the replay did not cover wait for a new one (R319). -/
def execReplayEnd (n : Span) (histA histB : Bool) (s : State) : Out :=
  if replaying s n then
    let ms := (mismOf s n).filter (fun m => m.covered)
    let rest := (mismOf s n).filter (fun m => ! m.covered)
    let pass := fun (h : Bool) (d : Nat) => h && ms.all (fun m => codesReproduce s n m.pier d)
    let a := pass (histA || historyReproduces s n 0) 0
    let b := pass (histB || historyReproduces s n 1) 1
    let outcome := if a then (if b then 1 else 3) else if b then 2 else 4
    let s1 := ms.foldl (fun s m => unfreeze (logOutcome s m.entry outcome) n m.pier) s
    let s2 := setF (setF (setF (setF s1 DK_REPLAY_w0_SPAN n) DK_REPLAY_w0_OUTCOME outcome) DK_REPLAY_w1_SIG_A (signatureOf s n 0))
      DK_REPLAY_w2_SIG_B (signatureOf s n 1)
    let s3 := setFlag (setMism { s2 with dk := { s2.dk with replay := s2.dk.replay.filter (fun e => decide (e.1 ≠ n.val)) } } n rest)
      (DK_CLAIM_REPLAY n) false
    let s4 := awaitReplay s3 n
    let s5 := match outcome with
      | 1 => lowerOne (bump (event s4 DK_INT_UNRESOLVED) (cDK_CNT 14)) n (1 - owner s4 n) 10
      | 2 => lowerOne s4 n 0 5
      | 3 => lowerOne s4 n 1 5
      | _ => lowerOne (lowerOne s4 n 0 5) n 1 5
    .next (showDecks s5)
  else .next s

end Sys2Proof.Machine
end

