-- ==== Sys2Proof/Machine/Dispatch.lean ====
section
/-! DEFINITION. Machine/Dispatch.lean: one arm for each command, each one call of its meaning. -/
namespace Sys2Proof.Machine

/-- The effect of a command on everything but the queue. -/
def exec (i : Instr) (s : State) : Host.Outcome State Fault Refusal :=
  match i with
  | .frameReceived p bytes fcsOk fec => Sys2Proof.Machine.execFrameReceived p bytes fcsOk fec s
  | .pfcFrame p enable quanta => Sys2Proof.Machine.execPfcFrame p enable quanta s
  | .pfcPauseExpiry p prio => Sys2Proof.Machine.execPfcPauseExpiry p prio s
  | .pfcXoffRepeat p prio => Sys2Proof.Machine.execPfcXoffRepeat p prio s
  | .portLinkChange p l => Sys2Proof.Machine.execPortLinkChange p l s
  | .rateFallbackTimer p => Sys2Proof.Machine.execRateFallbackTimer p s
  | .portDmaReset p w burst => Sys2Proof.Machine.execPortDmaReset p w burst s
  | .parseWalk p e bufferUe ecc => Sys2Proof.Machine.execParseWalk p e bufferUe ecc s
  | .engineFault p e => Sys2Proof.Machine.execEngineFault p e s
  | .engineReturn w => Sys2Proof.Machine.execEngineReturn w s
  | .fragmentTimeout n => Sys2Proof.Machine.execFragmentTimeout n s
  | .reassemblyPass n e ecc => Sys2Proof.Machine.execReassemblyPass n e ecc s
  | .genCommit w => Sys2Proof.Machine.execGenCommit w s
  | .ruleRead w => Sys2Proof.Machine.execRuleRead w s
  | .ruleWrite w => Sys2Proof.Machine.execRuleWrite w s
  | .ruleCopy w => Sys2Proof.Machine.execRuleCopy w s
  | .policerWrite n word w => Sys2Proof.Machine.execPolicerWrite n word w s
  | .fwqPop w => Sys2Proof.Machine.execFwqPop w s
  | .full mm => Sys2Proof.Machine.execFull mm s
  | .delta mm => Sys2Proof.Machine.execDelta mm s
  | .group mm => Sys2Proof.Machine.execGroup mm s
  | .queryLaneStatus mm => Sys2Proof.Machine.execQueryLaneStatus mm s
  | .queryRequestStatus mm => Sys2Proof.Machine.execQueryRequestStatus mm s
  | .queryDeviceState mm => Sys2Proof.Machine.execQueryDeviceState mm s
  | .queryNetworkTime mm => Sys2Proof.Machine.execQueryNetworkTime mm s
  | .regRead mm => Sys2Proof.Machine.execRegRead mm s
  | .regWrite mm => Sys2Proof.Machine.execRegWrite mm s
  | .subscribe mm => Sys2Proof.Machine.execSubscribe mm s
  | .timeStep mm => Sys2Proof.Machine.execTimeStep mm s
  | .egressSend n => Sys2Proof.Machine.execEgressSend n s
  | .creditTimer l => Sys2Proof.Machine.execCreditTimer l s
  | .telemetryPeriod n stream => Sys2Proof.Machine.execTelemetryPeriod n stream s
  | .dispatch ecc => Sys2Proof.Machine.execDispatch ecc s
  | .routeDone ns half0 half1 checkA checkB ecc => Sys2Proof.Machine.execRouteDone ns half0 half1 checkA checkB ecc s
  | .requestPass n d faults => Sys2Proof.Machine.execRequestPass n d faults s
  | .stageReadyTest n => Sys2Proof.Machine.execStageReadyTest n s
  | .liftWindowStart treeA treeB => Sys2Proof.Machine.execLiftWindowStart treeA treeB s
  | .delivery => Sys2Proof.Machine.execDelivery s
  | .slotClassify => Sys2Proof.Machine.execSlotClassify s
  | .laneLoad w => Sys2Proof.Machine.execLaneLoad w s
  | .laneWrite w => Sys2Proof.Machine.execLaneWrite w s
  | .laneConfigApply l => Sys2Proof.Machine.execLaneConfigApply l s
  | .partitionWrite n w => Sys2Proof.Machine.execPartitionWrite n w s
  | .shaperWrite n word w => Sys2Proof.Machine.execShaperWrite n word w s
  | .sync frac => Sys2Proof.Machine.execSync frac s
  | .followUp => Sys2Proof.Machine.execFollowUp s
  | .followUpTimeout => Sys2Proof.Machine.execFollowUpTimeout s
  | .announce => Sys2Proof.Machine.execAnnounce s
  | .announceReceiptTimeout => Sys2Proof.Machine.execAnnounceReceiptTimeout s
  | .delayReqTimer frac => Sys2Proof.Machine.execDelayReqTimer frac s
  | .delayResp => Sys2Proof.Machine.execDelayResp s
  | .timeStepExecute => Sys2Proof.Machine.execTimeStepExecute s
  | .gmLossTimeout => Sys2Proof.Machine.execGmLossTimeout s
  | .permitExpiry => Sys2Proof.Machine.execPermitExpiry s
  | .ringFollowUpTimeout => Sys2Proof.Machine.execRingFollowUpTimeout s
  | .scheduleStart => Sys2Proof.Machine.execScheduleStart s
  | .scheduleSwap w => Sys2Proof.Machine.execScheduleSwap w s
  | .swapExecute => Sys2Proof.Machine.execSwapExecute s
  | .scheduleDisable w => Sys2Proof.Machine.execScheduleDisable w s
  | .failMark k w => Sys2Proof.Machine.execFailMark k w s
  | .failClear w => Sys2Proof.Machine.execFailClear w s
  | .refreshPass n d faults late => Sys2Proof.Machine.execRefreshPass n d faults late s
  | .powerMapUpdate as faults => Sys2Proof.Machine.execPowerMapUpdate as faults s
  | .vhtrMeasure n mv => Sys2Proof.Machine.execVhtrMeasure n mv s
  | .parkRampEnd n => Sys2Proof.Machine.execParkRampEnd n s
  | .forcePark n l w => Sys2Proof.Machine.execForcePark n l w s
  | .forceParkRelease n l w => Sys2Proof.Machine.execForceParkRelease n l w s
  | .diversityChoice n l countA countB => Sys2Proof.Machine.execDiversityChoice n l countA countB s
  | .monitorWindowClose n l countA countB => Sys2Proof.Machine.execMonitorWindowClose n l countA countB s
  | .loopRecordLoad n w => Sys2Proof.Machine.execLoopRecordLoad n w s
  | .loopRecordWrite n w => Sys2Proof.Machine.execLoopRecordWrite n w s
  | .loopPeriodWrite n w => Sys2Proof.Machine.execLoopPeriodWrite n w s
  | .filterChange n w => Sys2Proof.Machine.execFilterChange n w s
  | .calStepStart n => Sys2Proof.Machine.execCalStepStart n s
  | .calStepEnd n r => Sys2Proof.Machine.execCalStepEnd n r s
  | .extRunEnd n => Sys2Proof.Machine.execExtRunEnd n s
  | .calStarved n => Sys2Proof.Machine.execCalStarved n s
  | .sweep w => Sys2Proof.Machine.execSweep w s
  | .sweepEnd n readings => Sys2Proof.Machine.execSweepEnd n readings s
  | .storeNow w => Sys2Proof.Machine.execStoreNow w s
  | .calStoreTimer => Sys2Proof.Machine.execCalStoreTimer s
  | .calRecordWriteDone => Sys2Proof.Machine.execCalRecordWriteDone s
  | .claimLower d f => Sys2Proof.Machine.execClaimLower d f s
  | .watchdogExpiry d burst => Sys2Proof.Machine.execWatchdogExpiry d burst s
  | .watchdogKick d w => Sys2Proof.Machine.execWatchdogKick d w s
  | .abutmentMismatch n l u => Sys2Proof.Machine.execAbutmentMismatch n l u s
  | .replayStart n => Sys2Proof.Machine.execReplayStart n s
  | .replayEnd n histA histB => Sys2Proof.Machine.execReplayEnd n histA histB s
  | .handover w => Sys2Proof.Machine.execHandover w s
  | .resync w => Sys2Proof.Machine.execResync w s
  | .resyncCopyEnd n => Sys2Proof.Machine.execResyncCopyEnd n s
  | .probationEnd n => Sys2Proof.Machine.execProbationEnd n s
  | .pathReturn w => Sys2Proof.Machine.execPathReturn w s
  | .autofailTimeout n l => Sys2Proof.Machine.execAutofailTimeout n l s
  | .nomWrite w => Sys2Proof.Machine.execNomWrite w s
  | .spanLoadedReport d n => Sys2Proof.Machine.execSpanLoadedReport d n s
  | .railGood r => Sys2Proof.Machine.execRailGood r s
  | .railBad r => Sys2Proof.Machine.execRailBad r s
  | .targetWrite w => Sys2Proof.Machine.execTargetWrite w s
  | .sleepToStandby => Sys2Proof.Machine.execSleepToStandby s
  | .standbyToReady osc => Sys2Proof.Machine.execStandbyToReady osc s
  | .readyToHold => Sys2Proof.Machine.execReadyToHold s
  | .holdToService => Sys2Proof.Machine.execHoldToService s
  | .serviceToHold => Sys2Proof.Machine.execServiceToHold s
  | .holdToReady => Sys2Proof.Machine.execHoldToReady s
  | .readyToStandby => Sys2Proof.Machine.execReadyToStandby s
  | .standbyToSleep => Sys2Proof.Machine.execStandbyToSleep s
  | .transitionStepEnd => Sys2Proof.Machine.execTransitionStepEnd s
  | .pllLock k band => Sys2Proof.Machine.execPllLock k band s
  | .pllLockTimeout k => Sys2Proof.Machine.execPllLockTimeout k s
  | .pllLoss k burst => Sys2Proof.Machine.execPllLoss k burst s
  | .htrTrkUpdate => Sys2Proof.Machine.execHtrTrkUpdate s
  | .rstNAssert => Sys2Proof.Machine.execRstNAssert s
  | .rstNRise => Sys2Proof.Machine.execRstNRise s
  | .coldStart sfdp => Sys2Proof.Machine.execColdStart sfdp s
  | .firmwareVerifyDone => Sys2Proof.Machine.execFirmwareVerifyDone s
  | .footingCheckDone => Sys2Proof.Machine.execFootingCheckDone s
  | .warmStart sfdp scrubOk => Sys2Proof.Machine.execWarmStart sfdp scrubOk s
  | .clusterRestart d => Sys2Proof.Machine.execClusterRestart d s
  | .remapSet w => Sys2Proof.Machine.execRemapSet w s
  | .flashRead w => Sys2Proof.Machine.execFlashRead w s
  | .flashProgram w => Sys2Proof.Machine.execFlashProgram w s
  | .flashErase4k w => Sys2Proof.Machine.execFlashErase4k w s
  | .flashErase64k w => Sys2Proof.Machine.execFlashErase64k w s
  | .flashOpDone ok => Sys2Proof.Machine.execFlashOpDone ok s
  | .xtalValid => Sys2Proof.Machine.execXtalValid s
  | .hkCycleStart => Sys2Proof.Machine.execHkCycleStart s
  | .hkConversionDone r => Sys2Proof.Machine.execHkConversionDone r s
  | .urgentConversion w => Sys2Proof.Machine.execUrgentConversion w s
  | .jsUpdate readings => Sys2Proof.Machine.execJsUpdate readings s
  | .tsdNoSensorTimeout => Sys2Proof.Machine.execTsdNoSensorTimeout s
  | .tsdClamp => Sys2Proof.Machine.execTsdClamp s
  | .wakeTimer => Sys2Proof.Machine.execWakeTimer s
  | .tollhouseJob => Sys2Proof.Machine.execTollhouseJob s
  | .tollhousePageDone ok ue => Sys2Proof.Machine.execTollhousePageDone ok ue s
  | .faultRecord src => Sys2Proof.Machine.execFaultRecord src s
  | .correctedDrop msg => Sys2Proof.Machine.execCorrectedDrop msg s
  | .escalation slot => Sys2Proof.Machine.execEscalation slot s
  | .faultClear w => Sys2Proof.Machine.execFaultClear w s
  | .quietPeriodEnd => Sys2Proof.Machine.execQuietPeriodEnd s
  | .tallySnapshot => Sys2Proof.Machine.execTallySnapshot s
  | .checkpointTimer => Sys2Proof.Machine.execCheckpointTimer s
  | .histSampleSecond => Sys2Proof.Machine.execHistSampleSecond s
  | .histSampleHour => Sys2Proof.Machine.execHistSampleHour s
  | .counterLatchRead addr r => Sys2Proof.Machine.execCounterLatchRead addr r s
  | .rcFieldRead addr r => Sys2Proof.Machine.execRcFieldRead addr r s
  | .captureArm w => Sys2Proof.Machine.execCaptureArm w s
  | .captureStop w => Sys2Proof.Machine.execCaptureStop w s
  | .captureForce w => Sys2Proof.Machine.execCaptureForce w s
  | .captureStore => Sys2Proof.Machine.execCaptureStore s
  | .trigBusEdge line => Sys2Proof.Machine.execTrigBusEdge line s
  | .csyncLost => Sys2Proof.Machine.execCsyncLost s
  | .lockBreak => Sys2Proof.Machine.execLockBreak s
  | .jointUp j lost => Sys2Proof.Machine.execJointUp j lost s
  | .jointSat j lost => Sys2Proof.Machine.execJointSat j lost s
  | .registerWrite addr w => Sys2Proof.Machine.execRegisterWrite addr w s
  | .fastUpdateStrobe n l => Sys2Proof.Machine.execFastUpdateStrobe n l s
  | .trimUpdateStrobe n l => Sys2Proof.Machine.execTrimUpdateStrobe n l s
  | .monitorWindowOpen n l => Sys2Proof.Machine.execMonitorWindowOpen n l s
  | .uptimeSecond => Sys2Proof.Machine.execUptimeSecond s
  | .vthPowerOn => Sys2Proof.Machine.execVthPowerOn s
  | .vthPowerLoss => Sys2Proof.Machine.execVthPowerLoss s
  | .trigDriveEnd line => Sys2Proof.Machine.execTrigDriveEnd line s
  | .tapDebugReset burst => Sys2Proof.Machine.execTapDebugReset burst s

end Sys2Proof.Machine
end

