-- ==== Sys2Proof/Safety.lean ====
section
/-!
DEFINITION. Safety.lean: what claims call a good state and a safe run. The tables of plain data (registers, memories, flash) have one canonical form, in which
equal contents are equal data; a run is safe while every step answers a next state, and the device never stops.
-/
namespace Sys2Proof.Machine

/-- Registers, memories and flash stand in their canonical form: keys strictly rising, no entry equal to what an unlisted key reads as. -/
def State.Canon (s : State) : Prop :=
  cellWf resetWord s.regs = true ∧ cellWf memDefault s.mem = true ∧ cellWf flashDefault s.flash = true

/-- The other tables of plain data stand in their canonical form: the ports' and each port's pauses, the rules, buckets and fragments, lanes, shapers and subscriptions, the
collector's queues and windows, the matrix's latches, PLL attempts, the entries' filters, monitors and loops, calibration, mismatches, and the drives' powers, piers and paths. -/
def State.Tables (s : State) : Prop :=
  cellWf (fun _ => PortState.init) s.ports = true ∧ (∀ e ∈ s.ports, cellWf (fun _ => 0) e.2.pauseEnd = true)
    ∧ cellWf (fun _ => 0) s.tg.rules = true ∧ cellWf (fun _ => (⟨0, 0⟩ : Bucket)) s.tg.buckets = true ∧ cellWf (fun _ => none) s.tg.frags = true
    ∧ cellWf (fun _ => Lane.init) s.ad.lanes = true ∧ cellWf (fun _ => Shaper.init) s.ad.shapers = true ∧ cellWf (fun _ => none) s.ad.subs = true
    ∧ cellWf (fun _ => ([] : List (BitVec 64))) s.fc.queues = true ∧ cellWf (fun _ => 0) s.fc.windows = true
    ∧ cellWf (fun _ => none) s.bm.latches = true ∧ cellWf (fun _ => none) s.pw.tries = true ∧ cellWf (fun _ => HkEntry.init) s.th.entries = true
    ∧ cellWf (fun _ => Mon.init) s.te.mons = true ∧ cellWf (fun _ => 0) s.te.period = true ∧ cellWf (fun _ => CalSeq.init) s.cal.seqs = true
    ∧ cellWf (fun _ => ([] : List Mismatch)) s.dk.mism = true ∧ cellWf (fun _ => 0) s.dr.power = true ∧ cellWf (fun _ => 0) s.dr.refreshed = true
    ∧ cellWf (fun _ => Pier.init) s.dr.piers = true ∧ cellWf (fun _ => Path.init) s.dr.paths = true

/-- A run of `n` steps never stops. -/
def RunsOn : Nat → State → Prop
  | 0, _ => True
  | n + 1, s => ∃ t, step s = .next t ∧ RunsOn n t

/-- The state in which a granted access takes effect: its wait has been noted. -/
def atGrant (s : State) (w : RegWrite) : State := noteWait s w.master.val w.wait

/-- The matrix grants the write of a word to a register at once: no lock is in force or asked for, the debug lock does not hold the master back, and the
place is a register that is not refused (R393, R497, R499). -/
def Granted (s : State) (w : RegWrite) (a : Nat) : Prop :=
  s.bm.lock = none ∧ w.lock = LockUse.none ∧ (w.master.val = 11 → debugLocked s = false)
    ∧ accessError (atGrant s w) w.master.val a true w.enables = none ∧ placeOf (atGrant s w) (deckOf (atGrant s w) w.master.val) a = Place.register

end Sys2Proof.Machine
end

