-- ==== Sys2Proof/WellFormed.lean ====
section
/-!
DEFINITION. WellFormed.lean: which commands are well formed: the operands lie within what the spec lets the world supply, and a row that is a register
write carries a value that spells the row's own operation. A meaning is total: on an ill-formed command it does what the rules say of the values as they stand.
-/
namespace Sys2Proof

/-- Bits `hi` to `lo` of a written word. -/
def valueBits (w : RegWrite) (hi lo : Nat) : Nat := w.value.toNat / 2 ^ lo % 2 ^ (hi + 1 - lo)

/-- A burst has at least one beat, and no more beats done than it has. -/
def Burst.wf (b : Burst) : Bool := decide (1 ≤ b.total ∧ b.done ≤ b.total)

/-- Where a burst stands, it is well formed. -/
def burstOk (b : Option Burst) : Bool := b.all Burst.wf

/-- The targets and the circuits of a Keystone half exist in the topology (R6, R185), and a cancellation code fits its byte (R69). -/
def RouteHalf.wf : RouteHalf → Bool
  | .asComputed => true
  | .upset ts ds => ts.all (fun t => decide (t.1 < 18432 ∧ t.2 < 16384)) && ds.all (fun d => decide (d.1 < 1024 ∧ d.2 < 1024))
  | .cancel c => decide (c < 256)

/-- A deck's own fault. -/
def SelfFault.wf : SelfFault → Bool
  | .ramUe b => burstOk b
  | _ => true

/-- The flash is no larger than its address space, and a page no larger than 64 KiB (R386). -/
def Sfdp.wf (x : Sfdp) : Bool := decide (x.density ≤ 32 ∧ x.page ≤ 16)

/-- Whether a command is well formed. The operands of the other rows are well formed by their types. -/
def Instr.wf : Instr → Bool
  | .pfcFrame _ _ quanta => decide (quanta.length = 8) && quanta.all (fun q => decide (q < 65536))
  | .portDmaReset _ w burst => decide (valueBits w 0 0 = 0) && burstOk burst
  | .engineReturn w => decide (valueBits w 15 0 ≠ 0)
  | .genCommit w => decide (valueBits w 0 0 = 1)
  | .ruleRead w => decide (valueBits w 12 11 = 1)
  | .ruleWrite w => decide (valueBits w 12 11 = 2)
  | .ruleCopy w => decide (valueBits w 12 11 = 3)
  | .fwqPop w => decide (valueBits w 10 10 = 1)
  | .routeDone _ h0 h1 _ _ _ => h0.wf && h1.wf
  | .laneLoad w => decide (valueBits w 17 16 = 1)
  | .laneWrite w => decide (valueBits w 17 16 = 2)
  | .scheduleSwap w => decide (valueBits w 2 2 = 1)
  | .scheduleDisable w => decide (valueBits w 0 0 = 0)
  | .forcePark _ _ w => decide (valueBits w 0 0 = 1)
  | .forceParkRelease _ _ w => decide (valueBits w 0 0 = 0)
  | .loopRecordLoad _ w => decide (valueBits w 11 10 = 1)
  | .loopRecordWrite _ w => decide (valueBits w 11 10 = 2)
  | .sweep w => decide (valueBits w 7 7 = 1)
  | .storeNow w => decide (valueBits w 8 8 = 1)
  | .claimLower _ f => f.wf
  | .watchdogExpiry _ burst => burstOk burst
  | .handover w => decide (valueBits w 8 8 = 1)
  | .resync w => decide (valueBits w 9 9 = 1)
  | .pllLoss _ burst => burstOk burst
  | .coldStart sfdp => sfdp.wf
  | .remapSet w => decide (valueBits w 1 0 ≠ 0)
  | .flashRead w => decide (valueBits w 2 0 = 1)
  | .flashProgram w => decide (valueBits w 2 0 = 2)
  | .flashErase4k w => decide (valueBits w 2 0 = 3)
  | .flashErase64k w => decide (valueBits w 2 0 = 4)
  | .urgentConversion w => decide (valueBits w 12 12 = 1)
  | .jsUpdate readings => decide (readings.length = 12)
  | .correctedDrop msg => decide (msg.toNat / 2 ^ 20 % 4 = 1)
  | .captureArm w => decide (valueBits w 0 0 = 1)
  | .captureStop w => decide (valueBits w 1 1 = 1)
  | .captureForce w => decide (valueBits w 2 2 = 1)
  | .tapDebugReset burst => burstOk burst
  | .warmStart sfdp _ => sfdp.wf
  | _ => true

end Sys2Proof
end

