-- ==== Sys2Proof/Certificates/Slice0/Obligations.lean ====
section
/-!
DEFINITION. Certificates/Slice0/Obligations.lean: the statements for the provers.
-/
open Sys2Proof Sys2Proof.Machine

/-! ### The machine as a whole -/

/-- A step takes the command at the front of the queue and is its `exec` with the queue's rest. -/
def Obligations.StepRunsFront : Prop :=
  ∀ (c : Instr) (rest : List Instr) (s : State), s.pending = c :: rest → step s = exec c { s with pending := rest }

/-- With no command waiting a step is one tick of the central island: 1.25 ns pass, and while the island runs network time advances by 1.25 ns × (1 + y × 2^-40), in units
of 2^-42 ns, within the 48 bits of its seconds; nothing else changes. That the tick is what an idle step does is the model's choice (log entry 1); the amount is R144. -/
def Obligations.IdleStepTicks : Prop :=
  ∀ s : State, s.pending = [] →
    (2 ≤ pstate s ∧ flag s (TH_PLL_LOCK 0) = true →
      step s = .next { s with elapsed := s.elapsed + 5, clock := wrapClock ((s.clock : Int) + 5 * 2 ^ 40 + 5 * getI s NT_RATE_Y) }) ∧
    (¬ (2 ≤ pstate s ∧ flag s (TH_PLL_LOCK 0) = true) → step s = .next { s with elapsed := s.elapsed + 5 })

/-- Registers, memories, flash and the tables of the state keep their canonical form over every step, from every state that has it. -/
def Obligations.StepKeepsCanonical : Prop := ∀ s t : State, s.Canon → s.Tables → step s = .next t → t.Canon ∧ t.Tables

/-- The state after reset has the canonical form, waits for nothing, and stands in Sleep. -/
def Obligations.ResetIsCanonical : Prop := State.reset.Canon ∧ State.reset.Tables ∧ State.reset.pending = [] ∧ pstate State.reset = 0

/-- The values the spec's register tables give after VTH is applied, read through the register map: TARGET and WAKE_TARGET are Service, SLEEP_RET is 1, the thermal limit is
2,320 with hysteresis 320, every junction sensor and zone is invalid, every entry of the sequence has PERSIST 1, and no fault slot is taken. -/
def Obligations.ResetValues : Prop :=
  getF State.reset TH_PCTRL_TARGET = 4 ∧ getF State.reset TH_PCTRL_WAKE_TARGET = 4 ∧ getF State.reset TH_PCTRL_SLEEP_RET = 1
    ∧ getF State.reset TH_TSD_LIMIT = 2320 ∧ getF State.reset TH_TSD_HYST = 320 ∧ getF State.reset TH_PSTATE_RAILS = 0
    ∧ (∀ i < 12, flag State.reset (TH_JS_VALID i) = false) ∧ (∀ z < 9, flag State.reset (TH_ZONE_VALID z) = false)
    ∧ (∀ i < 16, getF State.reset (HK_ENTRY_w0_PERSIST i) = 1 ∧ getI State.reset (HK_ENTRY_w2_LO i) = -2147483648)
    ∧ (∀ g < 4, getF State.reset (HK_CAL_w1_GAIN g) = 16777216) ∧ (∀ i < 16, flag State.reset (FC_OPEN_w3_VALID i) = false)
    ∧ getF State.reset FC_QUIET_MS = 250 ∧ getF State.reset TY_CKPT_INTERVAL = 60

/-- Every command answers a next state in every state, and leaves the queue as it is. -/
def Obligations.CommandsAnswer : Prop := ∀ (c : Instr) (s : State), ∃ t, exec c s = .next t ∧ t.pending = s.pending

/-- The epoch changes only where the epoch record is written or the log's newest is read: at the end of a Tollhouse write, at the end of the footing check or of a warm start's
check, and when VTH fails or is applied (R82, R408). -/
def Obligations.EpochChangesOnlyAtItsWrite : Prop :=
  ∀ (c : Instr) (s t : State), exec c s = .next t → t.epoch ≠ s.epoch →
    (∃ ok ue, c = .tollhousePageDone ok ue) ∨ c = .footingCheckDone ∨ (∃ x ok, c = .warmStart x ok) ∨ c = .vthPowerLoss ∨ c = .vthPowerOn

/-! ### Registers over the bus -/

/-- The fields of a register row are whole: inside the word, and no two share a bit. -/
def FieldsApart : List FieldRow → Prop
  | [] => True
  | f :: fs => f.lo ≤ f.hi ∧ f.hi < 32 ∧ (∀ g ∈ fs, g.hi < f.lo ∨ f.hi < g.lo) ∧ FieldsApart fs

/-- R10: what a write leaves in each field. RO and RC fields keep their value, an RW field takes the written value as its range allows, each 1 clears a W1C bit and sets a W1S bit,
and a WO field stores nothing; bits of no field keep their value. A write that the matrix grants to a register with no rule beyond its access codes stores by them and changes no other register, no memory and no flash
(REGISTER_WRITE, in the windows of the monitors' filter code, Tally and the bus matrix). One that is not of a whole aligned word is refused with WIDTH (R497), while a memory takes the bytes that are enabled. -/
def Obligations.RegisterWrites : Prop :=
  (∀ (fs : List FieldRow) (old v : Word), FieldsApart fs →
    (∀ f ∈ fs, bitsOf (storedWord fs old v) f.hi f.lo = match f.acc with
      | .rw => (match f.norm.apply (bitsOf v f.hi f.lo) with | some x => x % 2 ^ width f.hi f.lo | none => bitsOf old f.hi f.lo)
      | .w1c => bitsOf (old &&& ~~~ v) f.hi f.lo
      | .w1s => bitsOf (old ||| v) f.hi f.lo
      | _ => bitsOf old f.hi f.lo) ∧
    (∀ i < 32, (∀ f ∈ fs, i < f.lo ∨ f.hi < i) → (storedWord fs old v).getLsbD i = old.getLsbD i))
  ∧ (∀ (s : State) (addr : BitVec 32) (w : RegWrite), Granted s w addr.toNat →
    (tyBase ≤ addr.toNat ∧ addr.toNat < tcBase) ∨ (bmBase ≤ addr.toNat ∧ addr.toNat < nvBase) →
    ∃ t, exec (.registerWrite addr w) s = .next t ∧ t = storeWrite (atGrant s w) addr.toNat w.value
      ∧ (∀ b, b ≠ addr.toNat → rd t b = rd (atGrant s w) b) ∧ t.mem = s.mem ∧ t.flash = s.flash)
  ∧ (∀ (s : State) (addr : BitVec 32) (w : RegWrite), s.bm.lock = none → w.lock = LockUse.none → (w.master.val = 11 → debugLocked s = false) →
    placeOf (atGrant s w) (deckOf (atGrant s w) w.master.val) addr.toNat = Place.register → (addr.toNat % 4 ≠ 0 ∨ w.enables ≠ 15) →
    exec (.registerWrite addr w) s = .next (busError (atGrant s w) w.master.val addr.toNat 2 true))
  ∧ (∀ (old w : Word) (e : BitVec 4) (i : Nat), i < 32 → (mergeBytes old w e).getLsbD i = if e.getLsbD (i / 8) then w.getLsbD i else old.getLsbD i)

/-- R468: a read of word 0 of a counter latches bits [47:32] for the reading master, and that master's next read of word 1 returns them, whatever the counter has done
meanwhile; a read of word 1 with nothing latched for it returns the bits of that moment. Another master's latch is not touched. COUNTER_LATCH_READ and RC_FIELD_READ: a read that the matrix grants returns the register's word in the bus matrix's read data, does what the read does there, and only then records the access's own wait (R11). A read of a register clears its RC fields and no other bit (R10). -/
def Obligations.ReadEffects : Prop :=
  (∀ (s : State) (m a : Nat), isCounterHigh (a + 4) = true → isCounterHigh a = false → cellWf (fun _ => none) s.bm.latches = true →
    latchOf (counterRead s m a).2 m = some (a, bitsOf (rd s (a + 4)) 15 0)
    ∧ (∀ k, k ≠ m → latchOf (counterRead s m a).2 k = latchOf s k)
    ∧ (∀ t : State, latchOf t m = some (a, bitsOf (rd s (a + 4)) 15 0) →
        bitsOf (counterRead t m (a + 4)).1 15 0 = bitsOf (rd s (a + 4)) 15 0)
    ∧ (∀ t : State, latchOf t m = none → (counterRead t m (a + 4)).1 = viewWord t (a + 4)))
  ∧ (∀ (s : State) (addr : BitVec 32) (r : RegRead),
    s.bm.lock = none → r.lock = LockUse.none → (r.master.val = 11 → debugLocked s = false) →
    accessError s r.master.val addr.toNat false r.enables = none → placeOf s (deckOf s r.master.val) addr.toNat = Place.register →
    ∀ w s1, registerRead s r.master.val addr.toNat = (w, s1) →
    (∃ t, exec (.counterLatchRead addr r) s = .next t ∧ t.bm.readData = w ∧ t = { noteWait s1 r.master.val r.wait with bm := t.bm }
      ∧ t.bm.latches = s1.bm.latches)
    ∧ (∃ t, exec (.rcFieldRead addr r) s = .next t ∧ t.bm.readData = w ∧ t.regs = (noteWait s1 r.master.val r.wait).regs ∧ t.mem = s.mem ∧ t.flash = s.flash))
  ∧ (∀ (s : State) (a : Nat) (r : RegRow), s.Canon → rowAt a = some r → FieldsApart r.fields →
    (∀ f ∈ r.fields, bitsOf (rd (clearOnRead s a) a) f.hi f.lo = if f.acc = Acc.rc then 0 else bitsOf (rd s a) f.hi f.lo)
    ∧ (∀ b, b ≠ a → rd (clearOnRead s a) b = rd s b))

/-- R500: a master that is reset with a burst or a lock leaves BM_MRST as the rule says, frees the lock, counts the rest of the burst and raises BM_RESET; with neither nothing is
recorded. TAP_DEBUG_RESET is the debug master's, where the debug lock does not disable it; PORT_DMA_RESET is the port DMA's, where the write takes ENABLE from 1 to 0. R499, LOCK_BREAK: a locked sequence that has not ended within LOCK_MAX is broken: the lock is released, BM_INT.LOCK_BREAK set, and the master's further accesses of the sequence are
refused. JOINT_UP (R371, R504, R505) marks a joint as joined once the islands run and the joints before it in R371's order are up, and counts the
resynchronisation and what it lost (R506); JOINT_SAT marks a saturated count, counts the lost events and reports JOINT_SAT with the joint's number. -/
def Obligations.MatrixEvents : Prop :=
  (∀ (s : State) (burst : Option Burst), debugLocked s = false → exec (.tapDebugReset burst) s = .next (masterReset s 11 burst))
  ∧ (∀ (s : State) (p : Port) (w : RegWrite) (burst : Option Burst),
      flag s (CP_CTRL_ENABLE p) = true → flag (rowWrite s (aCP_CTRL p) w) (CP_CTRL_ENABLE p) = false →
      exec (.portDmaReset p w burst) s = .next (masterReset (rowWrite s (aCP_CTRL p) w) (dmaOf p) burst))
  ∧ (∀ (s : State) (m : Nat), holdsLock s m = false → masterReset s m none = { s with bm := { s.bm with broken := s.bm.broken.filter (fun k => decide (k ≠ m)) } })
  ∧ (∀ (s : State) (m : Nat) (burst : Option Burst), s.Canon → m < 64 → (burst.isSome = true ∨ holdsLock s m = true) →
      getF (masterReset s m burst) BM_MRST_MASTER = m ∧ flag (masterReset s m burst) BM_INT_MASTER_RESET = true
      ∧ holdsLock (masterReset s m burst) m = false)
  ∧ (∀ (s : State) (m target k : Nat), s.Canon → s.bm.lock = some (m, target, k) → due s .lock = true →
    ∃ t, exec .lockBreak s = .next t ∧ t.bm.lock = none ∧ m ∈ t.bm.broken ∧ flag t BM_INT_LOCK_BREAK = true ∧ flag t BM_STATUS_LOCKED = false
      ∧ count t (cBM_CNT 4) = (count s (cBM_CNT 4) + 1) % 2 ^ 48 ∧ t.mem = s.mem ∧ t.flash = s.flash)
  ∧ (∀ (s : State) (j : Joint) (lost : Lost), islandsRun s = true → (∀ k < 91, joinRank k < joinRank j → flag s (BM_JSTAT_UP k) = true) →
      exec (.jointUp j lost) s = .next (jointUp s j lost))
  ∧ (∀ (s : State) (j : Joint) (lost : Lost), s.Canon → flag (jointUp s j lost) (BM_JSTAT_UP j) = true ∧
      (flag s (BM_JSTAT_UP j) = false → count (jointUp s j lost) (cBM_CNT 10) = (count s (cBM_CNT 10) + 1) % 2 ^ 48
        ∧ count (jointUp s j lost) (cBM_CNT 11) = (count s (cBM_CNT 11) + lost) % 2 ^ 48))
  ∧ (∀ (s : State) (j : Joint) (lost : Lost), s.Canon → lost ≠ 0 →
      ∃ t, exec (.jointSat j lost) s = .next t ∧ flag t (BM_JSTAT_SAT j) = true ∧ flag t BM_INT_JOINT_SAT = true
        ∧ count t (cBM_CNT 8) = (count s (cBM_CNT 8) + 1) % 2 ^ 48 ∧ count t (cBM_CNT 9) = (count s (cBM_CNT 9) + lost) % 2 ^ 48
        ∧ t.mem = s.mem ∧ t.flash = s.flash)


/-! ### Control ports -/

/-- The table of ports is in canonical form. -/
def PortsWf (s : State) : Prop := cellWf (fun _ => PortState.init) s.ports = true

/-- R89, R91, R92: a frame outside 64 bytes to MAX, or with a bad FCS, is discarded and counted and reaches no buffer; an accepted frame that is no flow control frame and that the port's
share has room for waits behind the frames already there, with the network time of its arrival. -/
def Obligations.FrameChecks : Prop :=
  ∀ (s : State) (p : Port) (bytes : List Byte) (fcsOk : Bool) (fec : FecCount), s.Canon → PortsWf s → portUp s p = true →
    ∃ t, exec (.frameReceived p bytes fcsOk fec) s = .next t ∧ t.mem = s.mem ∧ t.flash = s.flash ∧
      ((bytes.length + 4 < 64 ∨ getF s (CP_MAX_FRAME_MAX p) < bytes.length + 4) →
        t.ports = s.ports ∧ count t (cCP_CNT p 3) = (count s (cCP_CNT p 3) + 1) % 2 ^ 48) ∧
      (64 ≤ bytes.length + 4 → bytes.length + 4 ≤ getF s (CP_MAX_FRAME_MAX p) → fcsOk = false →
        t.ports = s.ports ∧ count t (cCP_CNT p 2) = (count s (cCP_CNT p 2) + 1) % 2 ^ 48) ∧
      (64 ≤ bytes.length + 4 → bytes.length + 4 ≤ getF s (CP_MAX_FRAME_MAX p) → fcsOk = true → acceptsMac s p (beAt bytes 0 6) = true →
        beAt bytes 12 2 ≠ 0x8808 → occupancy s p + (bytes.length + 4) ≤ getF s (CP_BUF_SHARE p) * 16384 →
        (portOf t p).frames = (portOf s p).frames ++ [⟨bytes, netNs s⟩])

/-- R94: a flow control frame sets the end of the pause of every priority it names, to now plus quanta × 512 bit times, or to no pause for quanta 0, and leaves the others; with PFC_RX_EN
0 it pauses none. A pause whose end is reached is over, and of the PTP frames it held none waits for it any more. R93, PFC_XOFF_REPEAT: 640 µs after the last pause frame, while the occupancy is at or above XON, the frame with quanta 0xFFFF goes out again and the next repetition is due 640 µs
later. -/
def Obligations.Pauses : Prop :=
  (∀ (s : State) (p : Port) (enable : BitVec 8) (quanta : List Nat), PortsWf s → cellWf (fun _ => 0) (portOf s p).pauseEnd = true →
      portUp s p = true → flag s (CP_CTRL_PFC_RX_EN p) = true →
      ∃ t, exec (.pfcFrame p enable quanta) s = .next t ∧
        ∀ i < 8, cellGet (fun _ => 0) (portOf t p).pauseEnd i =
          if enable.getLsbD i then (if quanta.getD i 0 % 2 ^ 16 = 0 then 0 else s.elapsed + pauseLen s p (quanta.getD i 0 % 2 ^ 16))
          else cellGet (fun _ => 0) (portOf s p).pauseEnd i)
  ∧ (∀ (s : State) (p : Port) (enable : BitVec 8) (quanta : List Nat), portUp s p = true → flag s (CP_CTRL_PFC_RX_EN p) = false →
      ∃ t, exec (.pfcFrame p enable quanta) s = .next t ∧ t.ports = s.ports)
  ∧ (∀ (s : State) (p : Port) (prio : Prio), PortsWf s → cellWf (fun _ => 0) (portOf s p).pauseEnd = true → paused s p prio = false →
      ∃ t, exec (.pfcPauseExpiry p prio) s = .next t ∧ cellGet (fun _ => 0) (portOf t p).pauseEnd prio = 0
        ∧ (portOf t p).frames = (portOf s p).frames ∧ (portOf t p).ptpq = (portOf s p).ptpq.filter (fun x => paused s p (x.prio s))
        ∧ ((portOf s p).ptpq = [] → t = { s with ports := t.ports }) ∧ t.mem = s.mem ∧ t.flash = s.flash)
  ∧ (∀ (s : State) (p : Port) (prio : Prio), due s (.pfcXoff p prio) = true → xoffSent s p prio = true → xonBytes s p prio ≤ prioOccupancy s p prio →
    flag s (CP_CTRL_PFC_TX_EN p) = true → portUp s p = true →
    ∃ t, exec (.pfcXoffRepeat p prio) s = .next t ∧ timerAt (.pfcXoff p prio) t.timers = some (s.elapsed + 2560000)
      ∧ t.ad.tx.any (fun f => decide (f.port = p.val ∧ f.prio = prio.val ∧ f.payload = pfcBytes prio 0xFFFF)) = true
      ∧ t.ports = s.ports ∧ t.mem = s.mem ∧ t.flash = s.flash)

/-- R86, R87: a running port's status bits follow its link, FEC_LOCK only where RS-FEC runs (one that does not run has no link: the model's choice, log entry 9), LINK_CHG is set when LINK changes, and losing block lock with FALLBACK_EN 1 starts the 2 ms. An attempt of 50 ms without
block lock is followed by one at the other rate; a loss that has lasted 2 ms by one at 25GBASE-R. -/
def Obligations.LinkAndRate : Prop :=
  (∀ (s : State) (p : Port) (l : LinkStatus), s.Canon → portRuns s p = true →
      ∃ t, exec (.portLinkChange p l) s = .next t ∧ flag t (CP_STATUS_LINK p) = linkOf s p l ∧ flag t (CP_STATUS_BLOCK_LOCK p) = l.blockLock
        ∧ flag t (CP_STATUS_FEC_LOCK p) = (l.fecLock && fecRuns s p)
        ∧ (flag s (CP_STATUS_LINK p) ≠ linkOf s p l → flag t (CP_INT_LINK_CHG p) = true)
        ∧ (l.blockLock = false → flag s (CP_STATUS_BLOCK_LOCK p) = true → flag s (CP_CTRL_FALLBACK_EN p) = true →
            timerAt (.loss p) t.timers = some (s.elapsed + 8000000))
        ∧ t.ports = s.ports ∧ t.mem = s.mem ∧ t.flash = s.flash)
  ∧ (∀ (s : State) (p : Port) (l : LinkStatus), s.Canon → portRuns s p = false →
      ∃ t, exec (.portLinkChange p l) s = .next t ∧ flag t (CP_STATUS_LINK p) = false ∧ flag t (CP_STATUS_BLOCK_LOCK p) = false
        ∧ t.ports = s.ports ∧ t.mem = s.mem ∧ t.flash = s.flash)
  ∧ (∀ (s : State) (p : Port), s.Canon → flag s (CP_CTRL_FALLBACK_EN p) = true → flag s (CP_STATUS_BLOCK_LOCK p) = false → portRuns s p = true →
      (due s (.loss p) = true →
        ∃ t, exec (.rateFallbackTimer p) s = .next t ∧ flag t (CP_STATUS_RATE p) = false ∧ timerAt (.attempt p) t.timers = some (s.elapsed + 200000000)) ∧
      (due s (.loss p) = false → due s (.attempt p) = true →
        ∃ t, exec (.rateFallbackTimer p) s = .next t ∧ flag t (CP_STATUS_RATE p) = ! flag s (CP_STATUS_RATE p)
          ∧ timerAt (.attempt p) t.timers = some (s.elapsed + 200000000)))

/-! ### The Tollgate -/

/-- R96, R101: a walk takes the oldest waiting frame and acts on its verdict, with the words it finds in error recorded, and what then occupies the buffers is judged (R93); a frame to
01-80-C2-00-00-0E is discarded and counted (R148); an uncorrectable error in the buffer discards the frame, counted. An engine that faults in a walk is withdrawn and
counted, and the frame or datagram stays; writing 1 to its FAILED bit returns it. -/
def Obligations.ParseEngines : Prop :=
  (∀ (s : State) (p : Port) (e : Engine) (f : Frame) (rest : List Frame), (portOf s p).frames = f :: rest → engineFree s e = true →
      ∀ ecc : List MemUpset,
        (peerDelayFrame f = false →
          exec (.parseWalk p e false ecc) s = .next (pfcSettle (applyVerdict (leaveBuffer (meetEcc s ecc) p) p f (walk s p f)))) ∧
        (peerDelayFrame f = true → exec (.parseWalk p e false ecc) s = .next (pfcSettle (bump (leaveBuffer s p) (cNT_CNT 4)))))
  ∧ (∀ (s : State) (p : Port) (f : Frame) (rest : List Frame), PortsWf s → (portOf s p).frames = f :: rest → (portOf (leaveBuffer s p) p).frames = rest)
  ∧ (∀ (s : State) (p : Port) (e : Engine) (f : Frame) (rest : List Frame) (ecc : List MemUpset), PortsWf s → (portOf s p).frames = f :: rest →
      engineFree s e = true → ∃ t, exec (.parseWalk p e true ecc) s = .next t ∧ (portOf t p).frames = rest ∧ t.tg.inbox = s.tg.inbox ∧ t.mem = s.mem ∧ t.flash = s.flash)
  ∧ (∀ (s : State) (p : Port) (e : Engine), s.Canon → engineFree s e = true → walkDue s p = true →
      ∃ t, exec (.engineFault p e) s = .next t ∧ getF t TG_ENGINE_FAILED = getF s TG_ENGINE_FAILED ||| 2 ^ e.val
        ∧ count t (cTG_CNT 7) = (count s (cTG_CNT 7) + 1) % 2 ^ 48 ∧ t.ports = s.ports ∧ t.mem = s.mem ∧ t.flash = s.flash)
  ∧ (∀ (s : State) (w : RegWrite), s.Canon → Granted s w aTG_ENGINE →
      ∃ t, exec (.engineReturn w) s = .next t ∧ t = storeWrite (atGrant s w) aTG_ENGINE w.value
        ∧ getF t TG_ENGINE_FAILED = bitsOf (rd s aTG_ENGINE &&& ~~~ w.value) 15 0)

/-- R102: an entry of the fragment table that reaches its deadline without being complete is freed, its fragments discarded and counted. A complete entry's reassembled datagram is freed
from the table and then classified with the bank its first fragment was classified with, or treated as its walk's verdict says. -/
def Obligations.FragmentTable : Prop :=
  (∀ (s : State) (n : FragSlot) (e : FragEntry), s.Canon → cellWf (fun _ => none) s.tg.frags = true → fragAt s n = some e → e.deadline ≤ s.elapsed →
      (e.poisoned = true ∨ e.decision ≠ .alp ∨ fragComplete e = false) →
      ∃ t, exec (.fragmentTimeout n) s = .next t ∧ fragAt t n = none ∧ (∀ k, k ≠ n.val → fragAt t k = fragAt s k) ∧ t.mem = s.mem ∧ t.flash = s.flash)
  ∧ (∀ (s : State) (n : FragSlot) (e : Engine) (ecc : List MemUpset) (x : FragEntry) (q : Fragment), fragAt s n = some x → engineFree s e = true →
      x.poisoned = false → x.decision = .alp → fragComplete x = true → x.pieces.find? (fun q => decide (q.off = 0)) = some q →
      ∀ f : Frame, f = ⟨q.frame.bytes.take (q.frame.bytes.length - q.data.length) ++ fragPayload x, lastArrival x⟩ →
        exec (.reassemblyPass n e ecc) s = .next (pfcSettle (retire
          (match secondWalk s x q f with
            | .alp r msg => classify (setFrag (meetEcc s ecc) n none) x.bank r msg f false
            | v => applyVerdict (setFrag (meetEcc s ecc) n none) q.port f v))))

/-- R110, R111, R114, R98: what the granted writes to the Tollgate's command registers do: the rule operations, the commit, a policer's level at its new depth, and the release of the oldest
frame of the viewed hand-off queue. -/
def Obligations.TollgateWrites : Prop :=
  ∀ (s : State) (w : RegWrite),
    (Granted s w aTG_RULE_OP →
      (bitsOf w.value 12 11 = 1 → exec (.ruleRead w) s = .next (ruleOp (storeWrite (atGrant s w) aTG_RULE_OP w.value) 1)) ∧
      (bitsOf w.value 12 11 = 2 → exec (.ruleWrite w) s = .next (ruleOp (storeWrite (atGrant s w) aTG_RULE_OP w.value) 2)) ∧
      (bitsOf w.value 12 11 = 3 → exec (.ruleCopy w) s = .next (ruleOp (storeWrite (atGrant s w) aTG_RULE_OP w.value) 3))) ∧
    (Granted s w aTG_GEN_CTRL → w.value.getLsbD 0 = true → exec (.genCommit w) s = .next (commit (storeWrite (atGrant s w) aTG_GEN_CTRL w.value))) ∧
    (∀ n : PolicerIx, Granted s w (aTG_POL_w1 n) → cellWf (fun _ => (⟨0, 0⟩ : Bucket)) s.tg.buckets = true →
      ∃ t, exec (.policerWrite n 1 w) s = .next t
        ∧ cellGet (fun _ => (⟨0, 0⟩ : Bucket)) t.tg.buckets n
            = ⟨((getF (storeWrite (atGrant s w) (aTG_POL_w1 n) w.value) (TG_POL_w1_DEPTH n) * 500000 : Nat) : Int), s.elapsed⟩) ∧
    (∀ n : PolicerIx, Granted s w (aTG_POL_w0 n) → exec (.policerWrite n 0 w) s = .next (policerWritten (storeWrite (atGrant s w) (aTG_POL_w0 n) w.value) n)) ∧
    (Granted s w aTG_FWQ → w.value.getLsbD 10 = true → PortsWf s → ∀ p, p = getF (storeWrite (atGrant s w) aTG_FWQ w.value) TG_FWQ_PSEL →
      ∃ t, exec (.fwqPop w) s = .next t ∧ (portOf t p).fwq = (portOf s p).fwq.drop 1 ∧ (portOf t p).frames = (portOf s p).frames)

/-- R111: a rule written from TG_RULE_DATA into a bank that may be written reads back into TG_RULE_DATA word for word, and no other rule changes. A copy makes the addressed bank equal to
the active one. Neither is done on the active bank or while a generation retires. R110: a commit that finds no retiring generation makes the other bank active with the next generation number; the rules stay as they are. With a generation still retiring it is refused
and changes nothing but COMMIT_ERR. -/
def Obligations.RulesAndCommits : Prop :=
  (∀ s : State, s.Canon → cellWf (fun _ => 0) s.tg.rules = true → bankFree s (getF s TG_RULE_OP_BANK) = true →
      (∀ k < 16, rd (ruleOp (ruleOp s 2) 1) (aTG_RULE_DATA_w0 + 4 * k) = rd s (aTG_RULE_DATA_w0 + 4 * k)) ∧
      (∀ b i k, k < 16 → b * 1024 + i ≠ getF s TG_RULE_OP_BANK * 1024 + getF s TG_RULE_OP_INDEX → ruleWord (ruleOp s 2) b i k = ruleWord s b i k))
  ∧ (∀ s : State, cellWf (fun _ => 0) s.tg.rules = true → bankFree s (getF s TG_RULE_OP_BANK) = true → (∀ e ∈ s.tg.rules, e.1 < 32768) →
      ∀ i k, i < 1024 → k < 16 → ruleWord (ruleOp s 3) (getF s TG_RULE_OP_BANK) i k = ruleWord s (activeBank s) i k)
  ∧ (∀ s : State, bankFree s (getF s TG_RULE_OP_BANK) = false →
      ruleOp s 2 = event s TG_RULE_OP_REFUSED ∧ ruleOp s 3 = event s TG_RULE_OP_REFUSED)
  ∧ (∀ s : State, s.Canon → flag s TG_GEN_CTRL_RETIRING = false →
      getF (commit s) TG_GEN_STATUS_ACTIVE = (getF s TG_GEN_STATUS_ACTIVE + 1) % 2 ^ 16 ∧ activeBank (commit s) = 1 - activeBank s
        ∧ (commit s).tg.rules = s.tg.rules ∧ (commit s).ports = s.ports)
  ∧ (∀ s : State, flag s TG_GEN_CTRL_RETIRING = true → commit s = event s TG_GEN_CTRL_COMMIT_ERR)


/-! ### Admission, lanes and messages -/

/-- A message's processing meets no upset. -/
def noUpsets : Upsets := ⟨0, []⟩

/-- The tables of lanes and of shapers are in canonical form. -/
def LanesWf (s : State) : Prop := cellWf (fun _ => Lane.init) s.ad.lanes = true ∧ cellWf (fun _ => Shaper.init) s.ad.shapers = true

/-- The message is next and passes steps 1 to 5 of R131: it can be answered, its lane is the partner's with fewer than four unsent replies, its sequence number is the expected one,
and its class is permitted. -/
def Passes (s : State) (m : Msg) : Prop :=
  s.tg.inbox.head? = some m ∧ (flag s AD_CTRL_EN = true ∨ recovering s = true) ∧ unanswerable m = false ∧ ownsLane s m = true
    ∧ unsent s (msgLane m) < 4 ∧ seqTest s m = SeqTest.process ∧ permitted s m = true

/-- The state in which step 6 judges a message that passed: it has left the queue, its way is the lane's latest, and its sequence number is consumed. -/
def atStep6 (s : State) (m : Msg) : State :=
  consume (setLane (takeMsg s) (msgLane m) { laneOf s (msgLane m) with route := some m.route }) m

/-- What the window search is asked for a request (R124, R125, R131). -/
def askOf (s : State) (m : Msg) : Ask :=
  ⟨msgType m, laneDisturb (laneOf s (msgLane m)), m.partner, msgLane m, msgCells m, m.arrival, notBefore s m⟩

/-- The partner's reply queue has gained one message with the message's SEQ and ECHO, of a type, a time and a body. -/
def Replied (s t : State) (m : Msg) (typ time : Nat) (body : List Byte) : Prop :=
  ∃ o : OutMsg, (shaperOf t m.partner).replies = (shaperOf s m.partner).replies ++ [o] ∧ o.lane = msgLane m ∧ o.typ = typ ∧ o.seq = msgSeq m
    ∧ o.echo = msgEcho m ∧ o.time = time ∧ o.body = body

/-- FULL, DELTA and GROUP (R63 to R65, R119, R120, R131): a request that passes its checks and has a window and slot is accepted: it enters flight with its booking, its slot is booked,
and ACCEPT with the delivery time t_W + 80 ns is queued; one that fails a check or the decision is refused with that code, and REFUSE is queued. Both consume the lane's sequence number,
and neither touches what is in flight already. -/
def Obligations.Requests : Prop :=
  ∀ (s : State) (m : Msg) (c : Instr), LanesWf s → Passes s m →
    (c = .full noUpsets ∧ msgType m = 1) ∨ (c = .delta noUpsets ∧ msgType m = 2) ∨ (c = .group noUpsets ∧ msgType m = 3) →
    ∃ t, exec c s = .next t ∧ t.tg.inbox = s.tg.inbox.tail ∧ t.mem = s.mem ∧ t.flash = s.flash
      ∧ (laneOf t (msgLane m)).expSeq = (if msgOOS m then (laneOf s (msgLane m)).expSeq else ((laneOf s (msgLane m)).expSeq + 1) % 2 ^ 32)
      ∧ (∀ k, k ≠ msgLane m → laneOf t k = laneOf s k)
      ∧ (∀ code d, timeCheck s m = some (code, d) →
          t.ad.inflight = s.ad.inflight ∧ t.ad.slots = s.ad.slots ∧ Replied s t m 0x82 0 (refuseBody s code d))
      ∧ (∀ code d, timeCheck s m = none → contentCheck (msgType m) (portCount s) (msgBody m) = some (code, d) →
          t.ad.inflight = s.ad.inflight ∧ t.ad.slots = s.ad.slots ∧ Replied s t m 0x82 0 (refuseBody s code d))
      ∧ (∀ code time d, timeCheck s m = none → contentCheck (msgType m) (portCount s) (msgBody m) = none →
          decision (atStep6 s m) (askOf (atStep6 s m) m) = Decision.refuse code time d →
          t.ad.inflight = s.ad.inflight ∧ t.ad.slots = s.ad.slots ∧ Replied s t m 0x82 time (refuseBody s code d))
      ∧ (∀ r d, timeCheck s m = none → contentCheck (msgType m) (portCount s) (msgBody m) = none →
          decision (atStep6 s m) (askOf (atStep6 s m) m) = Decision.accept r d →
          (∃ q : Request, t.ad.inflight = s.ad.inflight ++ [q] ∧ q.lane = msgLane m ∧ q.partner = m.partner ∧ q.seq = msgSeq m ∧ q.cells = msgCells m
            ∧ q.typ = msgType m ∧ q.tW = r.win.start ∧ q.slot = d ∧ q.deliver = r.win.start + 80 ∧ q.phase = ReqPhase.queued)
          ∧ t.ad.slots = s.ad.slots ++ [⟨r.win.start, d, m.partner, false⟩]
          ∧ ∃ body, Replied s t m 0x81 (r.win.start + 80) body)

/-- The row takes the message: it is the row of the message's type, and of a query's kind. -/
def RowTakes (c : Upsets → Instr) (m : Msg) : Prop :=
  (c = .full ∧ msgType m = 1) ∨ (c = .delta ∧ msgType m = 2) ∨ (c = .group ∧ msgType m = 3)
    ∨ (c = .queryLaneStatus ∧ msgType m = 0x10 ∧ queryKind m = 1) ∨ (c = .queryRequestStatus ∧ msgType m = 0x10 ∧ queryKind m = 2)
    ∨ (c = .queryDeviceState ∧ msgType m = 0x10 ∧ queryKind m = 3) ∨ (c = .queryNetworkTime ∧ msgType m = 0x10 ∧ queryKind m = 4)
    ∨ (c = .regRead ∧ msgType m = 0x20) ∨ (c = .regWrite ∧ msgType m = 0x21) ∨ (c = .subscribe ∧ msgType m = 0x30) ∨ (c = .timeStep ∧ msgType m = 0x40)

/-- R18, R131: a first lockstep mismatch is counted and reported, and the message is then judged as without it; a second one refuses a message that can be answered with ADMIT_FAULT, whatever
the other tests would have given, and its sequence number is not consumed. -/
def Obligations.LockstepUpsets : Prop :=
  ∀ (s : State) (m : Msg) (c : Upsets → Instr), s.Canon → LanesWf s → RowTakes c m → s.tg.inbox.head? = some m →
    (flag s AD_CTRL_EN = true ∨ recovering s = true) → unanswerable m = false → accessWaits s m = false →
    exec (c ⟨1, []⟩) s = exec (c noUpsets) (reportMismatch s m ⟨1, []⟩)
    ∧ (∃ t, exec (c ⟨2, []⟩) s = .next t ∧ t.tg.inbox = s.tg.inbox.tail ∧ t.ad.inflight = s.ad.inflight ∧ t.mem = s.mem
        ∧ (∀ l, (laneOf t l).expSeq = (laneOf s l).expSeq) ∧ Replied s t m 0x82 0 (refuseBody s 0x10 0))

/-- QUERY (R73) and SUBSCRIBE (R77): a message that passes is answered with what the state says in the instant it is judged, and nothing in flight changes; a subscription with a PERIOD
replaces the partner's stream and starts its period, PERIOD 0 ends it. -/
def Obligations.Queries : Prop :=
  (∀ (s : State) (m : Msg), LanesWf s → Passes s m → msgType m = 0x10 → (msgBody m).length = 8 →
    (queryKind m = 1 → ∃ t, exec (.queryLaneStatus noUpsets) s = .next t ∧ t.ad.inflight = s.ad.inflight ∧ t.mem = s.mem ∧
      Replied s t m 0x90 0 (queryHead s 1 ++ beBytes 4 (laneOf (atStep6 s m) (msgLane m)).expSeq ++ beBytes 2 (laneL s (msgLane m))
        ++ beBytes 2 (laneQ (laneOf s (msgLane m))) ++ beBytes 4 (laneO s (msgLane m)) ++ beBytes 4 (laneFlight s (msgLane m)).length
        ++ alpTime (estimate (atStep6 s m) (msgLane m)))) ∧
    (queryKind m = 2 → ∃ t, exec (.queryRequestStatus noUpsets) s = .next t ∧ t.ad.inflight = s.ad.inflight ∧ t.mem = s.mem ∧
      ∀ x, x = requestStatus s (msgLane m) (beAt (msgBody m) 4 4) →
        Replied s t m 0x90 0 (queryHead s 2 ++ beBytes 1 x.1 ++ beBytes 1 x.2.1 ++ beBytes 2 x.2.2.1 ++ alpTime x.2.2.2)) ∧
    (queryKind m = 3 → ∃ t, exec (.queryDeviceState noUpsets) s = .next t ∧ t.ad.inflight = s.ad.inflight ∧ t.mem = s.mem ∧
      Replied s t m 0x90 0 (queryHead s 3 ++ beBytes 1 (stateCode s) ++ beBytes 1 (getF s FC_STATUS_FATAL)
        ++ beBytes 8 (getF s DK_OWNER_HI_B_OWNS * 2 ^ 32 + getF s DK_OWNER_LO_B_OWNS) ++ beBytes 4 (getF s FC_RCV_CNT_COUNT))) ∧
    (queryKind m = 4 → ∃ t, exec (.queryNetworkTime noUpsets) s = .next t ∧ t.ad.inflight = s.ad.inflight ∧ t.mem = s.mem ∧
      Replied s t m 0x90 0 (queryHead s 4 ++ alpTime (netNs s) ++ beBytes 1 (getF s NT_STATE_SERVO) ++ beBytes 3 0 ++ beBytes 8 (gmId s))))
  ∧ (∀ (s : State) (m : Msg), LanesWf s → cellWf (fun _ => none) s.ad.subs = true → Passes s m → msgType m = 0x30 → (msgBody m).length = 8 →
      (beAt (msgBody m) 1 1 % 16).testBit 1 = false ∨ counterReads s = true →
      ∃ t k, exec (.subscribe noUpsets) s = .next t ∧ k < 4 ∧ (beAt (msgBody m) 0 1 < 4 → k = beAt (msgBody m) 0 1)
        ∧ t.ad.inflight = s.ad.inflight ∧ t.mem = s.mem ∧ Replied s t m 0xA1 0 (beBytes 8 0)
        ∧ (beAt (msgBody m) 2 2 = 0 → subOf t m.partner k = none)
        ∧ (beAt (msgBody m) 2 2 ≠ 0 →
            timerAt (.telemetry m.partner k) t.timers = some (s.elapsed + 4 * (beAt (msgBody m) 2 2 * 1000000))
            ∧ ∃ b, subOf t m.partner k = some b ∧ b.lane = msgLane m ∧ b.content = beAt (msgBody m) 1 1 % 16
              ∧ b.period = beAt (msgBody m) 2 2))

/-- TIME_STEP (R39, R81, R159): one whose nanoseconds word is above 999,999,999 is refused as malformed at that word; a permission that is past, or names another
grandmaster than the selected one, is answered so and changes no stored permission; with nothing to permit yet it is stored and answered with status 1 and VALID_UNTIL. -/
def Obligations.TimeStepMessage : Prop :=
  ∀ (s : State) (m : Msg) (until_ : Nat), s.Canon → LanesWf s → Passes s m → msgType m = 0x40 → (msgBody m).length = 24 →
    until_ = extendSec s (beAt (msgBody m) 16 4) * 1000000000 + beAt (msgBody m) 20 4 →
    (999999999 < beAt (msgBody m) 20 4 → exec (.timeStep noUpsets) s = .next (refuseStep6 (atStep6 s m) m 0x0B 44)) ∧
    (beAt (msgBody m) 20 4 ≤ 999999999 →
    ∃ t, exec (.timeStep noUpsets) s = .next t ∧ t.mem = s.mem ∧ t.ad.inflight = s.ad.inflight ∧
      (until_ < netNs s → t.regs = s.regs ∧ Replied s t m 0xA1 0 (beBytes 1 0x26 ++ beBytes 3 0 ++ beBytes 4 0)) ∧
      (netNs s ≤ until_ → s.nt.decision = none → (getF s NT_STATE_SERVO ≠ 4 ∨ s.nt.persist = none) →
        flag s NT_STATE_GM_VALID = true → beAt (msgBody m) 0 8 ≠ gmId s →
        t.regs = s.regs ∧ Replied s t m 0xA1 0 (beBytes 1 0x25 ++ beBytes 3 0 ++ beBytes 4 0)) ∧
      (netNs s ≤ until_ → s.nt.decision = none → (getF s NT_STATE_SERVO ≠ 4 ∨ s.nt.persist = none) →
        (flag s NT_STATE_GM_VALID = true → beAt (msgBody m) 0 8 = gmId s) →
        permitStored t = true ∧ permitGm t = beAt (msgBody m) 0 8 ∧ permitMax t = beAt (msgBody m) 8 8 ∧ permitUntil t = until_
          ∧ Replied s t m 0xA1 until_ (beBytes 1 1 ++ beBytes 3 0 ++ beBytes 4 0)))

/-- REG_READ and REG_WRITE of one word (R74 to R76): the access is the port DMA's access over the matrix in the state after step 5, and the answer in the state it leaves carries status 0
and, for a read, the word; an access that the bus refuses is answered with its status and no word. -/
def Obligations.RegisterMessages : Prop :=
  ∀ (s : State) (m : Msg), LanesWf s → Passes s m → accessWaits s m = false → regCount m = 1 → regAddr m % 4 = 0 →
    behindLock s (regAddr m) = false →
    (msgType m = 0x20 → (msgBody m).length = 8 → ∀ s1 st, busRead (atStep6 s m) (dmaOf m.route.port) (regAddr m) 0 .none = (s1, st) →
      (st = 0 → exec (.regRead noUpsets) s = .next (answer s1 m 0xA0 0 (beBytes 1 0 ++ [0] ++ beBytes 2 1 ++ beBytes 4 (regAddr m) ++ beBytes 4 s1.bm.readData.toNat))) ∧
      (st ≠ 0 → exec (.regRead noUpsets) s = .next (answer s1 m 0xA0 0 (beBytes 1 st ++ [0] ++ beBytes 2 0 ++ beBytes 4 (regAddr m))))) ∧
    (msgType m = 0x21 → (msgBody m).length = 12 → ∀ s1 st,
      busWrite (atStep6 s m) (dmaOf m.route.port) (mayFlash (atStep6 s m) (dmaOf m.route.port)) (regAddr m) (BitVec.ofNat 32 (beAt (msgBody m) 8 4)) 0 .none
        = (s1, st) →
      exec (.regWrite noUpsets) s = .next (answer s1 m 0xA0 0 (beBytes 1 st ++ [0] ++ beBytes 2 (if st = 0 then 1 else 0) ++ beBytes 4 (regAddr m))))

/-- R134, R135: with fewer than two requests between stages 6 and 10 (R28), of those that wait for a due slot's window one goes to Keystone, and V becomes its tag; where the tags have not wrapped it is the one with the smallest finish tag,
of equal tags the lower lane. -/
def Obligations.DispatchOrder : Prop :=
  ∀ (s : State) (x : Slot) (r : Request), s.Canon → dueSlot s = some x → inPipe s < 2 → dispatchChoice s x.tW = some r →
    ∃ t, exec (.dispatch []) s = .next t ∧ t.ks.queue = s.ks.queue ++ [r.id] ∧ getF t AD_VT_V = r.tag % 2 ^ 32 ∧ flag t KS_STATUS_BUSY = true
      ∧ (∀ q ∈ t.ad.inflight, q.id = r.id → q.phase = ReqPhase.routing) ∧ t.ad.inflight.length = s.ad.inflight.length
      ∧ r ∈ waiting s x.tW
      ∧ ((∀ q ∈ waiting s x.tW, q.tag < 2 ^ 31) → ∀ q ∈ waiting s x.tW, r.tag < q.tag ∨ (r.tag = q.tag ∧ r.lane ≤ q.lane))
      ∧ t.mem = s.mem ∧ t.flash = s.flash

/-- R126, R71, R119: the due request with the earliest delivery time is delivered: it leaves flight and its cells and entry are returned; with CREP a COMPLETE with the delivery time is
queued on the way of the lane's latest message; the others in flight stay as they are. SLOT_CLASSIFY (R473) at close_W adds the unbooked slots of the next request window to one of the two
starvation counts. -/
def Obligations.DeliveryAndSlots : Prop :=
  (∀ (s : State) (q : Request), LanesWf s → dueDelivery s = some q →
    ∃ t, exec .delivery s = .next t ∧ t.ad.inflight = s.ad.inflight.filter (fun r => decide (r.id ≠ q.id)) ∧ q ∈ s.ad.inflight ∧ q.deliver ≤ netNs s
      ∧ (∀ r ∈ s.ad.inflight, q.deliver ≤ r.deliver)
      ∧ (q.crep = true → (laneOf s q.lane).route.isSome = true →
          ∃ o : OutMsg, (shaperOf t q.partner).replies = (shaperOf s q.partner).replies ++ [o] ∧ o.typ = 0x83 ∧ o.seq = q.seq ∧ o.time = q.deliver)
      ∧ (q.crep = false → t.ad.shapers = s.ad.shapers) ∧ t.mem = s.mem ∧ t.flash = s.flash)
  ∧ (∀ (s : State) (r : ReqWin), s.Canon → flag s LS_CTRL_RUN = true → firstReq s (s.ad.closed + 1) = some r → closeOf s r.win.start ≤ (netNs s : Int) → beyondStep s r.win.start = false →
      ∃ t, exec .slotClassify s = .next t ∧ t.ad.closed = r.win.start ∧ t.ad.inflight = s.ad.inflight
        ∧ count t (cTY_SLOT (if s.ad.starved.any (fun w => decide (w = r.win.start)) then 3 else 2))
            = (count s (cTY_SLOT (if s.ad.starved.any (fun w => decide (w = r.win.start)) then 3 else 2))
                + (slotsOf s r - (s.ad.slots.filter (fun x => decide (x.tW = r.win.start))).length)) % 2 ^ 48
        ∧ t.mem = s.mem ∧ t.flash = s.flash)

/-- R133: a write of LN_SEL with OP 0b10 gives the lane the three configuration registers, at once with nothing in flight and held otherwise, a later one replacing a held one; a held one is
applied when the lane has nothing in flight. OP 0b01 shows the lane's configuration and state. A lane's configuration written and loaded again is the one written. A write to a shaper's
words sets its level to DEPTH or 0 (R140); a partition's SIZE is stored unless the
partitions would then total more than 163,840 cells, which sets PART_ERR and changes nothing else (R115, R133). -/
def Obligations.LaneConfig : Prop :=
  (∀ (s : State) (w : RegWrite), Granted s w aLN_SEL →
    (bitsOf w.value 17 16 = 2 → exec (.laneWrite w) s = .next (laneWrite (storeWrite (atGrant s w) aLN_SEL w.value))) ∧
    (bitsOf w.value 17 16 = 1 → exec (.laneLoad w) s = .next (laneLoad (storeWrite (atGrant s w) aLN_SEL w.value))))
  ∧ (∀ s : State, s.Canon → LanesWf s → laneFlight s (getF s LN_SEL_LANE) = [] →
      ∀ t, t = laneLoad (laneWrite s) → rd t aLN_CFG = rd s aLN_CFG ∧ rd t aLN_QUOTA = rd s aLN_QUOTA ∧ rd t aLN_PROMISE = rd s aLN_PROMISE
        ∧ ∀ k, k ≠ getF s LN_SEL_LANE → laneOf t k = laneOf s k)
  ∧ (∀ s : State, LanesWf s → laneFlight s (getF s LN_SEL_LANE) ≠ [] →
      (laneOf (laneWrite s) (getF s LN_SEL_LANE)).held = some ⟨rd s aLN_CFG, rd s aLN_QUOTA, rd s aLN_PROMISE⟩
        ∧ (laneOf (laneWrite s) (getF s LN_SEL_LANE)).cfg = (laneOf s (getF s LN_SEL_LANE)).cfg)
  ∧ (∀ (s : State) (l : LaneIx) (c : LaneCfg), LanesWf s → (laneOf s l).held = some c → laneFlight s l = [] →
      ∃ t, exec (.laneConfigApply l) s = .next t ∧ (laneOf t l).cfg = c ∧ (laneOf t l).held = none ∧ (∀ k, k ≠ l.val → laneOf t k = laneOf s k)
        ∧ t.regs = s.regs ∧ t.mem = s.mem)
  ∧ (∀ (s : State) (n : Partner) (w : RegWrite), Granted s w (aAD_PART_w0 n) → ∀ t, t = storeWrite (atGrant s w) (aAD_PART_w0 n) w.value →
      exec (.partitionWrite n w) s = .next (if partitionTotal t ≤ 163840 then t else event (atGrant s w) AD_INT_PART_ERR))
  ∧ (∀ (s : State) (n : Partner) (word : Fin 2) (w : RegWrite), LanesWf s → Granted s w (if word = 0 then aLN_SHP_w0 n else aLN_SHP_w1 n) →
      ∃ t, exec (.shaperWrite n word w) s = .next t
        ∧ (shaperOf t n).bucket.level = (if flag t (LN_SHP_w1_RESET_FULL n) then ((getF t (LN_SHP_w1_DEPTH n) * 500000 : Nat) : Int) else 0)
        ∧ (shaperOf t n).bucket.stamp = s.elapsed ∧ (shaperOf t n).replies = (shaperOf s n).replies)

/-- R138, R139, R53, R79: a partner's shaper with a level of at least 0 sends its first reply that can start, and only with none of those its first telemetry; a level below 0 sends
nothing. A due CREDIT timer queues CREDIT for the lane and is disarmed. A due telemetry period starts the next one where it ended. -/
def Obligations.Egress : Prop :=
  (∀ (s : State) (n : Partner) (m : OutMsg) (rest : List OutMsg), LanesWf s → (shaperOpen s n = true ∨ 0 ≤ shaperLevel s n) →
    takeFirst s (shaperOf s n).replies = some (m, rest) →
    ∃ t, exec (.egressSend n) s = .next t ∧ (shaperOf t n).replies = rest ∧ (shaperOf t n).telemetry = (shaperOf s n).telemetry
      ∧ t.ad.tx = some (frameFor s m (wayOf s m)) ∧ t.ad.lanes = s.ad.lanes ∧ t.mem = s.mem)
  ∧ (∀ (s : State) (n : Partner) (m : OutMsg) (rest : List OutMsg), LanesWf s → (shaperOpen s n = true ∨ 0 ≤ shaperLevel s n) →
      takeFirst s (shaperOf s n).replies = none → takeFirst s (shaperOf s n).telemetry = some (m, rest) →
      ∃ t, exec (.egressSend n) s = .next t ∧ (shaperOf t n).telemetry = rest ∧ (shaperOf t n).replies = (shaperOf s n).replies
        ∧ t.ad.tx = some (frameFor s m (wayOf s m)) ∧ t.mem = s.mem)
  ∧ (∀ (s : State) (n : Partner), shaperOpen s n = false → shaperLevel s n < 0 → exec (.egressSend n) s = .next s)
  ∧ (∀ (s : State) (l : LaneIx) (r : Route), LanesWf s → due s (.credit l) = true → (laneOf s l).route = some r →
      ∃ t, exec (.creditTimer l) s = .next t ∧ timerAt (.credit l) t.timers = none
        ∧ (∃ o : OutMsg, (shaperOf t (lanePartner (laneOf s l))).replies = (shaperOf s (lanePartner (laneOf s l))).replies ++ [o] ∧ o.typ = 0x84 ∧ o.lane = l
            ∧ o.credit = laneL s l ∧ o.seq = (laneOf s l).devCnt ∧ o.echo = 0)
        ∧ (laneOf t l).devCnt = ((laneOf s l).devCnt + 1) % 2 ^ 32 ∧ t.regs = s.regs ∧ t.mem = s.mem)
  ∧ (∀ (s : State) (n : Partner) (k : Fin 4) (b : Sub) (d : Nat), cellWf (fun _ => none) s.ad.subs = true → subOf s n k = some b →
      timerAt (.telemetry n k) s.timers = some d → d ≤ s.elapsed →
      ∃ t, exec (.telemetryPeriod n k) s = .next t ∧ timerAt (.telemetry n k) t.timers = some (d + 4000000 * b.period)
        ∧ (∃ b', subOf t n k = some b' ∧ b'.lane = b.lane ∧ b'.content = b.content ∧ b'.period = b.period) ∧ t.mem = s.mem ∧ t.flash = s.flash)

/-- R80: when a new TELEMETRY of a stream is queued while one of that stream waits, that is replaced by it, which is counted; nothing of another stream is lost, and with none waiting it joins
the end of the queue. Where the older waits as several messages (R79) they are replaced together and counted once: the model's choice (log entry 46). -/
def Obligations.TelemetryReplaces : Prop :=
  ∀ (s : State) (p k : Nat) (msgs : List OutMsg), s.Canon → LanesWf s → (∀ m ∈ msgs, m.stream = some k) →
    (shaperOf (queueTelemetry s p k msgs) p).telemetry.filter (fun m => decide (m.stream = some k)) = msgs
    ∧ (shaperOf (queueTelemetry s p k msgs) p).telemetry.filter (fun m => decide (m.stream ≠ some k))
        = (shaperOf s p).telemetry.filter (fun m => decide (m.stream ≠ some k))
    ∧ (shaperOf (queueTelemetry s p k msgs) p).replies = (shaperOf s p).replies
    ∧ ((∃ m ∈ (shaperOf s p).telemetry, m.stream = some k) →
        count (queueTelemetry s p k msgs) (cLN_CNT (4 * p + 2)) = (count s (cLN_CNT (4 * p + 2)) + 1) % 2 ^ 48)
    ∧ ((∀ m ∈ (shaperOf s p).telemetry, m.stream ≠ some k) → (shaperOf (queueTelemetry s p k msgs) p).telemetry = (shaperOf s p).telemetry ++ msgs)

/-! ### Network time and the lift schedule -/

/-- R149 to R151, R162: what the PTP rows do with the message at the head, and with the timers. An Announce is counted and its data set remembered for its wait, and the best master is
chosen again; a Sync of another than the selected master is only counted; a two-step Sync waits 100 ms for its Follow_Up, a one-step one and a Follow_Up give a measurement; a Sync or a
Sync whose Follow_Up does not come is given up and counted, and so is, uncounted, the residence time of a forwarded one; a Follow_Up that finds none waiting is forwarded
unchanged and counted (R162); a Delay_Req goes out on the selected master's port, or waits where its
priority is paused (R94), and its answer gives a sample of the path delay. -/
def Obligations.PtpMessages : Prop :=
  (∀ (s : State) (m : PtpMsg), s.Canon → nextPtp s ptpAnnounce = some m → 64 ≤ m.bytes.length →
    ∃ t, exec .announce s = .next t ∧ t.tg.ptp = s.tg.ptp.tail ∧ count t (cNT_CNT 1) = (count s (cNT_CNT 1) + 1) % 2 ^ 48
      ∧ t.nt.masters = s.nt.masters.filter (fun x => decide (x.source ≠ ptpSource m.bytes ∨ x.route.port ≠ m.route.port))
          ++ [⟨m.route, ptpSource m.bytes, beAt m.bytes 47 1, beAt m.bytes 48 4, beAt m.bytes 52 1, beAt m.bytes 53 8, beAt m.bytes 61 2⟩]
      ∧ flag t NT_STATE_GM_VALID = (bestMaster t).isSome ∧ (∀ b, bestMaster t = some b → gmId t = b.gm % 2 ^ 64)
      ∧ t.clock = s.clock ∧ t.mem = s.mem)
  ∧ (∀ (s : State) (m : Foreign), s.Canon → s.nt.masters.find? (fun m => due s (announceKey m)) = some m →
      ∃ t, exec .announceReceiptTimeout s = .next t ∧ t.nt.masters = s.nt.masters.filter (fun x => decide (announceKey x ≠ announceKey m))
        ∧ m ∉ t.nt.masters ∧ flag t NT_STATE_GM_VALID = (bestMaster t).isSome ∧ t.clock = s.clock ∧ t.mem = s.mem)
  ∧ (∀ (s : State) (m : PtpMsg) (frac : Fin 256), nextPtp s ptpSync = some m →
      fromSelected (bump (takePtp s) (cNT_CNT 0)) m = false → exec (.sync frac) s = .next (bump (takePtp s) (cNT_CNT 0)))
  ∧ (∀ (s : State) (m : PtpMsg) (frac : Fin 256) (u : State), u = bump (takePtp s) (cNT_CNT 0) → nextPtp s ptpSync = some m → fromSelected u m = true →
      44 ≤ m.bytes.length → -7 ≤ ptpLog m.bytes → ptpLog m.bytes ≤ 1 →
      (ptpTwoStep m.bytes = true → ∃ t, exec (.sync frac) s = .next t ∧ t.clock = s.clock ∧ t.regs = u.regs
        ∧ timerAt (.followUp (ptpSource m.bytes) (ptpSeq m.bytes)) t.timers = some (s.elapsed + 400000000)
        ∧ ⟨m.route.port, ptpSeq m.bytes, ptpSource m.bytes, ((m.arrival * 65536 + frac.val * 256 : Nat) : Int), ptpCorr m.bytes, true⟩ ∈ t.nt.syncs) ∧
      (ptpTwoStep m.bytes = false → exec (.sync frac) s
        = .next (syncDone u m.route.port (((m.arrival * 65536 + frac.val * 256 : Nat) : Int) - ptpStamp m.bytes - ptpCorr m.bytes))))
  ∧ (∀ (s : State) (m : PtpMsg) (x : PendingSync), nextPtp s ptpFollowUp = some m → 44 ≤ m.bytes.length →
      s.nt.syncs.find? (fun x => decide (x.seqId = ptpSeq m.bytes ∧ x.source = ptpSource m.bytes ∧ x.port = m.route.port)) = some x →
      ∀ u, u = disarm { takePtp s with nt := { s.nt with syncs := s.nt.syncs.filter (fun y => decide (y.seqId ≠ x.seqId ∨ y.source ≠ x.source)) } }
        (.followUp x.source x.seqId) →
      exec .followUp s = .next (syncDone u x.port (x.t2 - ptpStamp m.bytes - ptpCorr m.bytes - x.corr)))
  ∧ (∀ (s : State) (x : PendingSync), s.Canon → s.nt.syncs.find? (fun x => due s (.followUp x.source x.seqId)) = some x →
      ∃ t, exec .followUpTimeout s = .next t ∧ x ∉ t.nt.syncs ∧ timerAt (.followUp x.source x.seqId) t.timers = none
        ∧ count t (cNT_CNT 3) = (count s (cNT_CNT 3) + 1) % 2 ^ 48 ∧ t.clock = s.clock)
  ∧ (∀ (s : State) (x : PendingSync), s.Canon → s.nt.ring.find? (fun x => due s (.ringFollowUp x.source x.seqId)) = some x →
      ∃ t, exec .ringFollowUpTimeout s = .next t ∧ x ∉ t.nt.ring ∧ timerAt (.ringFollowUp x.source x.seqId) t.timers = none
        ∧ t.regs = s.regs ∧ t.clock = s.clock)
  ∧ (∀ (s : State) (m : PtpMsg), ptpType m.bytes = ptpFollowUp →
      s.nt.ring.find? (fun x => decide (x.seqId = ptpSeq m.bytes ∧ x.source = ptpSource m.bytes)) = none →
      ringEgress s m = bump (ringSend s m m.bytes) (cNT_CNT 7))
  ∧ (∀ (s : State) (m : Foreign) (frac : Fin 256), PortsWf s → due s .delayReq = true → bestMaster s = some m → portUp s m.route.port = true →
      ∃ t, exec (.delayReqTimer frac) s = .next t ∧ timerAt .delayReq t.timers = some (s.elapsed + 4 * dreqInterval s) ∧ t.clock = s.clock
        ∧ (ptpWaits s m.route.port (routePrio s m.route) = false →
          (∃ f, t.ad.tx = some f ∧ f.port = m.route.port ∧ f.payload = delayReqBytes s m.route.port ((s.nt.dreqSeq + 1) % 2 ^ 16))
          ∧ t.nt.dreqSeq = (s.nt.dreqSeq + 1) % 2 ^ 16 ∧ t.nt.dreqT3 = some ((netNs s * 65536 + frac.val * 256 : Nat) : Int))
        ∧ (ptpWaits s m.route.port (routePrio s m.route) = true →
          t.ad.tx = s.ad.tx ∧ t.nt = s.nt ∧ (portOf t m.route.port).ptpq.length = (portOf s m.route.port).ptpq.length + 1))
  ∧ (∀ (s : State) (m : PtpMsg) (t3 d : Int), nextPtp s ptpDelayResp = some m → 54 ≤ m.bytes.length → fromSelected (takePtp s) m = true →
      ptpSeq m.bytes = s.nt.dreqSeq → beAt m.bytes 44 10 = Config.clockIdentity % 2 ^ 64 * 65536 + m.route.port + 1 → s.nt.dreqT3 = some t3 →
      s.nt.syncDelta = some d →
      ∃ t, exec .delayResp s = .next t ∧ t.nt.dreqT3 = none ∧ t.clock = s.clock
        ∧ t.nt.samples = ((d + (ptpStamp m.bytes - t3) - ptpCorr m.bytes) :: s.nt.samples).take
            (if getF s NT_CTRL_DLY_AVG = 0 then 64 else getF s NT_CTRL_DLY_AVG))

/-- R153, R155, R156: in FREE the first measurement sets the clock and the servo acquires; in LOCKED a measurement beyond the jump threshold leaves the clock and the rate alone, is counted
and sets JUMP; within the threshold the clock is never set, and the rate stays within the servo's limit; in HELD_OFF a
measurement from another grandmaster than the persistence's leaves the rate as it is (R154). -/
def Obligations.Measurements : Prop :=
  (∀ (s : State) (o : Int), s.Canon → getF s NT_STATE_SERVO = 0 →
    (measure s o).clock = wrapClock ((s.clock : Int) - o * 2 ^ 26) ∧ getF (measure s o) NT_STATE_SERVO = 1 ∧ flag (measure s o) LS_CTRL_RUN = false
      ∧ getF (measure s o) NT_STEP_CNT_COUNT = (getF s NT_STEP_CNT_COUNT + 1) % 2 ^ 32)
  ∧ (∀ (s : State) (o : Int), s.Canon → getF s NT_STATE_SERVO = 2 → withinNs o (getF s NT_JUMP_THR) = false →
      (measure s o).clock = s.clock ∧ getF (measure s o) NT_RATE_Y = getF s NT_RATE_Y ∧ flag (measure s o) NT_INT_JUMP = true
        ∧ count (measure s o) (cNT_CNT 5) = (count s (cNT_CNT 5) + 1) % 2 ^ 48)
  ∧ (∀ (s : State) (o : Int), s.Canon → 1 ≤ getF s NT_STATE_SERVO → withinNs o (getF s NT_JUMP_THR) = true →
      (getF s NT_STATE_SERVO = 4 → ∃ x, s.nt.persist = some x ∧ x.gm = gmId s) →
      (measure s o).clock = s.clock ∧ (getI (measure s o) NT_RATE_Y).natAbs ≤ servoLimit s)
  ∧ (∀ (s : State) (o : Int), s.Canon → getF s NT_STATE_SERVO = 4 → withinNs o (getF s NT_JUMP_THR) = true →
      (∀ x, s.nt.persist = some x → x.gm ≠ gmId s) →
      (measure s o).clock = s.clock ∧ getF (measure s o) NT_RATE_Y = getF s NT_RATE_Y ∧ getF (measure s o) NT_STATE_SERVO = 4)

/-- R155, R159, R160: at B a decided step moves the clock by Δ, the decision and the persistence are gone, STEP_CNT counts it and STEP is set; LOCKED without an accepted measurement for
NT_LOSS.MS falls to HOLDOVER; a permission past its time is discarded; before their time the rows change nothing. -/
def Obligations.ClockSteps : Prop :=
  (∀ (s : State) (d : StepDecision), s.Canon → s.nt.decision = some d → d.bound ≤ netNs s →
    ∃ t, exec .timeStepExecute s = .next t ∧ t.clock = wrapClock ((s.clock : Int) + d.delta * 2 ^ 42) ∧ t.nt.decision = none ∧ t.nt.persist = none
      ∧ t.nt.refused = [] ∧ getF t NT_STEP_CNT_COUNT = (getF s NT_STEP_CNT_COUNT + 1) % 2 ^ 32 ∧ flag t NT_INT_STEP = true
      ∧ flag t NT_STATE_STEP_PEND = false ∧ t.ad.inflight = s.ad.inflight ∧ t.mem = s.mem)
  ∧ (∀ (s : State) (d : StepDecision), s.nt.decision = some d → netNs s < d.bound → exec .timeStepExecute s = .next s)
  ∧ (∀ s : State, s.Canon → getF s NT_STATE_SERVO = 2 → s.nt.lastGood + 4000000 * getF s NT_LOSS_MS ≤ s.elapsed →
      ∃ t, exec .gmLossTimeout s = .next t ∧ getF t NT_STATE_SERVO = 3 ∧ flag t NT_INT_HOLDOVER = true ∧ t = { s with regs := t.regs }
        ∧ (∀ b, b ≠ aNT_STATE → b ≠ aNT_INT → rd t b = rd s b))
  ∧ (∀ s : State, s.Canon → permitStored s = true → permitUntil s < netNs s →
      ∃ t, exec .permitExpiry s = .next t ∧ permitStored t = false ∧ t = { s with regs := t.regs } ∧ (∀ b, b ≠ aNT_PERMIT_w6 → rd t b = rd s b))

/-- R165: cycle boundaries are the network times whose nanoseconds word satisfies (ns - PHASE) mod CYCLE = 0. In a valid bank the boundary from a time on is such a time, and no time before
it, from the given one on, is. -/
def Obligations.CycleBoundaries : Prop :=
  ∀ (s : State) (b t : Nat), bankValid s b = true →
    t ≤ boundaryFrom s b t
    ∧ ∀ u, t ≤ u → u ≤ boundaryFrom s b t →
        ((((u % 1000000000 : Nat) : Int) - (phaseOf s b : Int)) % (cycleOf s b : Int) = 0 ↔ u = boundaryFrom s b t)

/-- R167, R363, R375, R385: the schedule starts at the first cycle boundary from now, in Hold, where Service is wanted (EN with TARGET Service, or bookings), with a valid bank and a
valid time, and Hold → Service begins; with a rail not good it waits. R172, R173: a swap is refused where the inactive bank is not valid, and otherwise fixed for a boundary later than now and every booked window; at B the banks change, the swap is counted,
and the new bank's windows begin at N. With EN cleared and nothing booked to start RUN falls. -/
def Obligations.Schedule : Prop :=
  (∀ s : State, s.Canon → serviceWanted s = true → bankValid s (lsBank s) = true → timeValid s = true → flag s LS_CTRL_RUN = false →
    flag s FC_STATUS_FATAL = false → pstate s = 3 → s.pw.moving = none →
    (railsGood s 6 = true →
      ∃ t, exec .scheduleStart s = .next t ∧ flag t LS_CTRL_RUN = true ∧ t.nt.nextStart = boundaryFrom s (lsBank s) (netNs s) ∧ t.nt.nextEntry = 0
        ∧ t.nt.winFrom = t.nt.nextStart ∧ t.pw = { s.pw with moving := some ⟨.holdService, 1, s.elapsed, s.elapsed⟩ }
        ∧ t = { s with regs := t.regs, nt := t.nt, pw := t.pw } ∧ (∀ b, b ≠ aLS_CTRL → rd t b = rd s b)) ∧
    (railsGood s 6 = false → exec .scheduleStart s = .next (railWait s)))
  ∧ (∀ (s u : State) (w : RegWrite), Granted s w aLS_CTRL → u = storeWrite (atGrant s w) aLS_CTRL w.value →
    (w.value.getLsbD 2 = true → flag (swapWritten u) LS_CTRL_EN = true → exec (.scheduleSwap w) s = .next (refreshReady (swapWritten u))) ∧
    (w.value.getLsbD 2 = false → flag u LS_CTRL_EN = false → exec (.scheduleDisable w) s = .next (refreshReady (enCleared u))))
  ∧ (∀ u : State, bankValid u (1 - lsBank u) = false → swapWritten u = event u LS_CTRL_SWAP_ERR)
  ∧ (∀ u : State, u.Canon → bankValid u (1 - lsBank u) = true → u.nt.swapAt = none → cycleOf u (lsBank u) ≠ 0 →
      ∃ b n, (swapWritten u).nt.swapAt = some (b, n) ∧ netNs u < b ∧ latestBooked u < b ∧ b % cycleOf u (lsBank u) = phaseOf u (lsBank u) % cycleOf u (lsBank u)
        ∧ b ≤ n ∧ flag (swapWritten u) LS_CTRL_SWAP_PEND = true ∧ lsBank (swapWritten u) = lsBank u)
  ∧ (∀ u : State, u.Canon → flag u LS_CTRL_EN = false → flag (enCleared u) LS_CTRL_RUN = (flag u LS_CTRL_RUN && decide (netNs u < latestBooked u)))
  ∧ (∀ (s : State) (b n : Nat), s.Canon → s.nt.swapAt = some (b, n) → b ≤ netNs s →
      ∃ t, exec .swapExecute s = .next t ∧ lsBank t = 1 - lsBank s ∧ t.nt.swapAt = none ∧ t.nt.nextStart = n ∧ t.nt.nextEntry = 0
        ∧ count t (cLS_CNT 5) = (count s (cLS_CNT 5) + 1) % 2 ^ 48 ∧ flag t LS_CTRL_SWAP_PEND = false ∧ t.ad = s.ad ∧ t.mem = s.mem)

/-- R164, R169, R171, R238: a window of calibration or quiet class counts, shows its entry and class, and the next window follows at its end; a window of full or delta class leaves no routed
request of its window behind and no request in flight of it staged; with the strobe withheld the trees do not matter. A window past a pending swap's or step's boundary does not begin. -/
def Obligations.WindowStarts : Prop :=
  (∀ (s : State) (a b : Bool) (c : Nat), s.Canon → flag s LS_CTRL_RUN = true → s.nt.nextStart ≤ netNs s → s.nt.swapAt = none → s.nt.decision = none →
    c = entryClass s (lsBank s) s.nt.nextEntry → 2 ≤ c → s.nt.nextEntry < 256 →
    ∃ t, exec (.liftWindowStart a b) s = .next t ∧ count t (cLS_CNT c) = (count s (cLS_CNT c) + 1) % 2 ^ 48
      ∧ getF t LS_STATUS_ENTRY = s.nt.nextEntry ∧ getF t LS_STATUS_CLASS = c
      ∧ t.nt.nextStart = s.nt.nextStart + entryDur s (lsBank s) s.nt.nextEntry
      ∧ t.nt.nextEntry = (if s.nt.nextEntry + 1 < countOf s (lsBank s) then s.nt.nextEntry + 1 else 0)
      ∧ t.nt.lastWin = some (s.nt.nextStart, t.nt.nextStart, c, false))
  ∧ (∀ (s : State) (a b : Bool), flag s LS_CTRL_RUN = true → s.nt.nextStart ≤ netNs s → windowOccurs s s.nt.nextStart = true →
      ∃ t, exec (.liftWindowStart a b) s = .next t ∧ (∀ r ∈ t.ad.inflight, r.tW = s.nt.nextStart → r.phase ≠ ReqPhase.staged)
        ∧ (∀ r ∈ t.dr.routed, s.nt.nextStart < r.tW) ∧ t.dr.withheld = none)
  ∧ (∀ (s : State) (a b : Bool), s.dr.withheld = some s.nt.nextStart → exec (.liftWindowStart a b) s = exec (.liftWindowStart true true) s)
  ∧ (∀ (s : State) (a b : Bool), windowOccurs s s.nt.nextStart = false → exec (.liftWindowStart a b) s = .next s)

/-- R231: a deck's release makes its staged code the live code of the pier. -/
def Obligations.ReleaseTakesStagedCode : Prop :=
  ∀ (s : State) (n : Span) (l : Local) (d : Nat), d < 2 → s.Canon →
    getF (releaseDeck s n l d) (liveF n l d) = getF s (stagedF n l d) ∧ getF (releaseDeck s n l d) (stagedF n l d) = getF s (stagedF n l d)
      ∧ (releaseDeck s n l d).ad = s.ad ∧ (releaseDeck s n l d).flash = s.flash

/-! ### Keystone -/

/-- The state and the draw with which Keystone routes a request: a request of another window than the last starts a new set of named outputs (R205). -/
def routeStart (s : State) (q : Request) : Nat × State :=
  fresh (if s.ks.win = q.tW then s else { s with ks := { s.ks with win := q.tW, base := s.ks.circuits, named := [] } }) (2 ^ 20)

/-- The collector's queues are in canonical form. -/
def QueuesWf (s : State) : Prop := cellWf (fun _ => ([] : List (BitVec 64))) s.fc.queues = true

/-- R28, R68, R185, R206, R207: with no upset, and the request before it done with its passes, a request that cannot be realised leaves flight and the live circuits as they are; one that can, and that the checkers pass, becomes the
projected state, goes to the spans with its targets for both decks, and stays in flight. With both checkers of both decks rejecting nothing is staged and a fatal fault is queued. -/
def Obligations.Routing : Prop :=
  ∀ (s : State) (m : EMap) (q : Request) (ns : Nat), LanesWf s → s.ks.map = some m → routing s = some q → s.dr.routed.any (passesLeft s) = false →
    ∀ (u : State) (r : RouteResult), u = (routeStart s q).2 → r = routeRequest u m q q.dposs (routeStart s q).1 →
    (∀ c i d, r = RouteResult.cancel c i d →
      ∃ t, exec (.routeDone ns .asComputed .asComputed none none []) s = .next t ∧ t.ad.inflight = s.ad.inflight.filter (fun x => decide (x.id ≠ q.id))
        ∧ t.ks.queue = s.ks.queue.filter (fun x => decide (x ≠ q.id)) ∧ t.ks.circuits = s.ks.circuits ∧ t.ks.targets = s.ks.targets ∧ t.dr = s.dr
        ∧ ((laneOf s q.lane).route.isSome = true →
            ∃ o : OutMsg, (shaperOf t q.partner).replies = (shaperOf s q.partner).replies ++ [o] ∧ o.typ = 0x86 ∧ o.seq = q.seq ∧ o.time = q.deliver
              ∧ o.body = beBytes 1 c ++ [0] ++ beBytes 2 i ++ beBytes 4 d)) ∧
    (∀ cs gs ts dl, r = RouteResult.staged cs gs ts dl →
      verdict u m (resulting u q.typ (opsOf q.words)).1 (resulting u q.typ (opsOf q.words)).2 ((opsOf q.words).groups.map (fun r => grGroup r.1)) (decide (q.typ = 2) && ! q.dposs) r r = true →
      ∃ t, exec (.routeDone ns .asComputed .asComputed none none []) s = .next t ∧ t.ks.circuits = cs ∧ t.ks.groups = gs
        ∧ t.ks.queue = s.ks.queue.filter (fun x => decide (x ≠ q.id)) ∧ t.dr.routed = s.dr.routed ++ [⟨q.id, q.tW, some ts, some ts, []⟩]
        ∧ t.ad.inflight = s.ad.inflight.map (fun x => if x.id = q.id then { x with phase := ReqPhase.staged, disturbed := dl.length } else x)
        ∧ t.mem = s.mem) ∧
    (QueuesWf s → ∃ t, exec (.routeDone ns .asComputed .asComputed (some false) (some false) []) s = .next t ∧ t.dr.routed = s.dr.routed ∧ t.ks.circuits = s.ks.circuits
      ∧ t.ad.inflight = s.ad.inflight ∧ queueOf t 3 = queueOf s 3 ++ [faultMsg 3 0x14 clsFatal false q.lane])

/-- R201: the bits written 1 in a word of KS_FAILMAP mark their piers, KS_FAIL_CLR clears the one it names, and no other pier's mark changes. -/
def Obligations.FailedPiers : Prop :=
  (∀ (s : State) (i : Fin 576) (w : RegWrite), s.Canon → Granted s w (aKS_FAILMAP i) →
    ∃ t, exec (.failMark i w) s = .next t ∧ (∀ b < 32, isFailed t (32 * i + b) = (w.value.getLsbD b || isFailed s (32 * i + b)))
      ∧ (∀ g, g / 32 ≠ i.val → g < 18432 → isFailed t g = isFailed s g))
  ∧ (∀ (s : State) (w : RegWrite) (g : Nat), s.Canon → Granted s w aKS_FAIL_CLR → g = bitsOf w.value 14 0 → g < 18432 →
      ∃ t, exec (.failClear w) s = .next t ∧ isFailed t g = false ∧ (∀ k, k ≠ g → k < 18432 → isFailed t k = isFailed s k))

/-! ### Spans: staging, strobes, parking -/

/-- R29, R222, R224, R230, R238: a request pass stages the span's target of the oldest routed request of the earliest window that waits for it, a target to hold changes nothing staged, and a record without VALID sets
CAL_UE; a deck that is late at t_W - 40 ns loses its passes, both late withhold the strobe with a fatal fault; a refresh pass runs when it is due, where refresh passes run (R373). -/
def Obligations.Staging : Prop :=
  (∀ (s : State) (n : Span) (d : Deck) (r : Routed), s.dr.routed.find? (fun r => ! passDone r n (deckNum d) && decide (some r.tW = stagingWindow s)) = some r →
    ∃ t, exec (.requestPass n d []) s = .next t ∧ t.ad = s.ad ∧ t.flash = s.flash
      ∧ t.dr.stagedWin = some r.tW ∧ t.dr.routed = s.dr.routed.map (fun x => if x.id = r.id then { x with done := (2 * n.val + deckNum d) :: x.done } else x)
      ∧ (s.Canon → ∀ l g, (targetsFor r (deckNum d)).filter (fun e => decide (e.1 / 512 = n.val)) = [(512 * n.val + l, g)] → l < 512 →
          (g = tgtHold → rd t (stagedWord n l (deckNum d)) = rd s (stagedWord n l (deckNum d))) ∧
          (g ≠ tgtHold → getM s (calRec n l) cVALID = 0 →
            flag t (LZ_INT_CAL_UE n) = true ∧ rd t (stagedWord n l (deckNum d)) = rd s (stagedWord n l (deckNum d))) ∧
          (g ≠ tgtHold → getM s (calRec n l) cVALID ≠ 0 →
            flag t (stagedBit n l (deckNum d)) = true ∧ getF t (PR_TARGET_TARGET n l) = g % 2 ^ 16)))
  ∧ (∀ (s : State) (n : Span) (w : Nat), stagingWindow s = some w → w ≤ netNs s + 40 → QueuesWf s → s.Canon →
      (healthy s n 0 = true → stageReady s n 0 w = false → healthy s n 1 = true → stageReady s n 1 w = false →
        ∃ t, exec (.stageReadyTest n) s = .next t ∧ t.dr.withheld = some w ∧ flag t (LZ_INT_NOT_READY n) = true
          ∧ (queueOf t (0x200 + 4 * n)).getLast? = some (faultMsg (0x200 + 4 * n) 0x25 clsFatal false n) ∧ t.ad = s.ad) ∧
      (healthy s n 0 = true → stageReady s n 0 w = false → (healthy s n 1 && ! stageReady s n 1 w) = false →
        exec (.stageReadyTest n) s = .next (lateDeck (bump (event s (LZ_INT_NOT_READY n)) (cLZ_CNT n 7)) n 0 w)) ∧
      ((healthy s n 0 && ! stageReady s n 0 w) = false → healthy s n 1 = true → stageReady s n 1 w = false →
        exec (.stageReadyTest n) s = .next (lateDeck (bump (event s (LZ_INT_NOT_READY n)) (cLZ_CNT n 7)) n 1 w)) ∧
      ((healthy s n 0 && ! stageReady s n 0 w) = false → (healthy s n 1 && ! stageReady s n 1 w) = false → exec (.stageReadyTest n) s = .next s))
  ∧ (∀ (s : State) (n : Span) (d : Deck) (late : Bool), s.Canon → cellWf (fun _ => 0) s.dr.refreshed = true → loopsRun s = true →
      flag s (LZ_CTRL_REFRESH_EN n) = true →
      cellGet (fun _ => 0) s.dr.refreshed (2 * n.val + deckNum d) + 4000 * getF s (LZ_CTRL_REFRESH_US n) ≤ s.elapsed →
      ∃ t, exec (.refreshPass n d [] late) s = .next t ∧ cellGet (fun _ => 0) t.dr.refreshed (2 * n.val + deckNum d) = s.elapsed
        ∧ count t (cLZ_CNT n (2 + deckNum d)) = (count s (cLZ_CNT n (2 + deckNum d)) + 1) % 2 ^ 48
        ∧ (late = true → flag t (LZ_INT_REFRESH_LATE n) = true) ∧ t.ad = s.ad ∧ t.te = s.te ∧ t.flash = s.flash)

/-- R226, R229, R234, R235, R312: under a closed clamp a strobe only counts, and a fast one chooses the pier's deck (R327); otherwise the codes move, the abutment connects and compares, and PR_OUT shows the result. A slew limiter's step
reaches a request no farther than STEP away, and moves by STEP toward any other. A pier with one path excluded connects the other deck, with both excluded it is clamped at code 0. The
measured rail is stored. A power estimate with time constant 1 is the region's power itself. -/
def Obligations.Strobes : Prop :=
  (∀ (s : State) (n : Span) (l : Local), clamped s n = true →
    (∀ u, u = setPier s (pierIx n l) { pierOf s (pierIx n l) with fastN := (pierOf s (pierIx n l)).fastN + 1 } →
      exec (.fastUpdateStrobe n l) s = .next (pierSwitched (setF u (PR_OUT_OWNER n l) (deckFor u n l)) n l)) ∧
    exec (.trimUpdateStrobe n l) s = .next (setPier s (pierIx n l) { pierOf s (pierIx n l) with trimN := (pierOf s (pierIx n l)).trimN + 1 }))
  ∧ (∀ (s u : State) (n : Span) (l : Local), clamped s n = false →
      (u = fastCodes s n l → exec (.fastUpdateStrobe n l) s = .next (pierSwitched (showOut (compareCodes (connectDeck
        (setPier u (pierIx n l) { pierOf u (pierIx n l) with fastN := (pierOf u (pierIx n l)).fastN + 1 }) n l) n l false) n l) n l)) ∧
      (u = trimCodes s n l → exec (.trimUpdateStrobe n l) s = .next (showOut (compareCodes
        (setPier u (pierIx n l) { pierOf u (pierIx n l) with trimN := (pierOf u (pierIx n l)).trimN + 1 }) n l true) n l)))
  ∧ (∀ req out step : Nat, (req ≤ out + step → out ≤ req + step → slewStep req out step = req) ∧ (out + step < req → slewStep req out step = out + step) ∧
      (req + step < out → slewStep req out step = out - step))
  ∧ (∀ (s : State) (n : Span) (l : Local), s.Canon → (pierOf s (pierIx n l)).step = true →
      getF (fastCodes s n l) (liveF n l 0) = getF s (PR_PARK_FAST n l) ∧ getF (fastCodes s n l) (liveF n l 1) = getF s (PR_PARK_FAST n l))
  ∧ (∀ (s : State) (n : Span) (l : Local), s.Canon →
      (excluded s (pierIx n l) 0 = true → excluded s (pierIx n l) 1 = true →
        flag (connectDeck s n l) (PR_OUT_CLAMPED n l) = true ∧ getF (connectDeck s n l) (PR_OUT_FAST n l) = 0 ∧ getF (connectDeck s n l) (PR_OUT_TRIM n l) = 0) ∧
      (excluded s (pierIx n l) 0 = true → excluded s (pierIx n l) 1 = false →
        flag (connectDeck s n l) (PR_OUT_CLAMPED n l) = false ∧ getF (connectDeck s n l) (PR_OUT_OWNER n l) = 1) ∧
      (excluded s (pierIx n l) 0 = false → excluded s (pierIx n l) 1 = true →
        flag (connectDeck s n l) (PR_OUT_CLAMPED n l) = false ∧ getF (connectDeck s n l) (PR_OUT_OWNER n l) = 0) ∧
      (excluded s (pierIx n l) 0 = false → excluded s (pierIx n l) 1 = false →
        flag (connectDeck s n l) (PR_OUT_CLAMPED n l) = false ∧
        getF (connectDeck s n l) (PR_OUT_OWNER n l) = (if claim s n (getF s (PR_OUT_OWNER n l)) < claim s n (1 - getF s (PR_OUT_OWNER n l))
          then 1 - getF s (PR_OUT_OWNER n l) else getF s (PR_OUT_OWNER n l))))
  ∧ (∀ (s : State) (n : Span) (mv : BitVec 13), s.Canon → ∃ t, exec (.vhtrMeasure n mv) s = .next t ∧ getF t (LZ_VHTR_MV n) = mv.toNat
      ∧ t = { s with regs := t.regs } ∧ (∀ b, b ≠ aLZ_VHTR n → rd t b = rd s b))
  ∧ (∀ (s : State) (as : List Activity), ∃ t, exec (.powerMapUpdate as []) s = .next t ∧ t = { s with regs := t.regs, dr := t.dr, free := t.free } ∧ t.dr.moved = []
      ∧ t.dr.piers = s.dr.piers ∧ t.dr.paths = s.dr.paths ∧ t.dr.routed = s.dr.routed)
  ∧ (∀ (s : State) (as : List Activity) (d r : Nat), cellWf (fun _ => 0) s.dr.power = true → getM s (thermalRec + 32 * r) ⟨0, 19, 16⟩ = 0 →
      cellGet (fun _ => 0) (filterRegion as d s r).dr.power (64 * d + r) = 65536 * regionPower s d r as)

/-- R243 to R245: FORCE_PARK written 1 parks the pier, one in its first ramp (R243) too, and starts the ramp, without effect under the clamp; a pier at park only
loses what is staged for it. Written 0 it returns the pier, with no predecessor window (R285), unless the span is parked or no map names the pier (R359). When the ramp
time has passed the span no longer ramps, and shows PARKED where every pier is parked; before, nothing changes. -/
def Obligations.Parking : Prop :=
  (∀ (s u : State) (n : Span) (l : Local) (w : RegWrite), Granted s w (aPR_CTRL n l) → u = storeWrite (atGrant s w) (aPR_CTRL n l) w.value →
    (flag u (PR_CTRL_FORCE_PARK n l) = true →
      exec (.forcePark n l w) s = .next (if flag (atGrant s w) (PR_CTRL_FORCE_PARK n l) then u else forcePark u n l)) ∧
    (flag u (PR_CTRL_FORCE_PARK n l) = false →
      exec (.forceParkRelease n l w) s = .next (if flag (atGrant s w) (PR_CTRL_FORCE_PARK n l) then releasePark u n l else u)))
  ∧ (∀ (s : State) (n : Span) (l : Local), s.Canon → clamped s n = false → parkMoves s n l = true →
      flag (forcePark s n l) (PR_OUT_PARKED n l) = true ∧ flag (forcePark s n l) (LZ_STATUS_RAMPING n) = true
        ∧ flag (forcePark s n l) (stagedBit n l 0) = false ∧ flag (forcePark s n l) (stagedBit n l 1) = false
        ∧ timerAt (.ramp n) (forcePark s n l).timers = some (s.elapsed + 4000 * getF s (LZ_PARK_RAMP n)) ∧ (forcePark s n l).mem = s.mem)
  ∧ (∀ (s : State) (n : Span) (l : Local), (clamped s n = true → forcePark s n l = s) ∧
      (clamped s n = false → parkMoves s n l = false → forcePark s n l = discardStaged s n l))
  ∧ (∀ (s : State) (n : Span) (l : Local), s.Canon →
      (clamped s n = true ∨ spanParked s n = true ∨ mapNames s (pierIx n l) = false → releasePark s n l = s) ∧
      (clamped s n = false → spanParked s n = false → mapNames s (pierIx n l) = true → flag (releasePark s n l) (PR_OUT_PARKED n l) = false ∧
        getM (releasePark s n l) (loopRec n l 0) lPVALID = 0 ∧ getM (releasePark s n l) (loopRec n l 1) lPVALID = 0 ∧
        (∀ a, (a < loopRec n l 0 + 0x14 ∨ loopRec n l 0 + 0x18 ≤ a) → (a < loopRec n l 1 + 0x14 ∨ loopRec n l 1 + 0x18 ≤ a) →
          rdByte (releasePark s n l) a = rdByte s a)))
  ∧ (∀ (s : State) (n : Span), s.Canon → due s (.ramp n) = true → getF (endRamp s n) NV_STATUS_STAGE ≠ 6 →
      ∃ t, exec (.parkRampEnd n) s = .next t ∧ flag t (LZ_STATUS_RAMPING n) = false ∧ timerAt (.ramp n) t.timers = none
        ∧ flag t (LZ_STATUS_PARKED n) = (List.range 512).all (fun l => flag t (PR_OUT_PARKED n l)) ∧ t.mem = s.mem ∧ t.ad = s.ad)
  ∧ (∀ (s : State) (n : Span), due s (.ramp n) = false → exec (.parkRampEnd n) s = .next s)

/-! ### Monitors and truss loops -/

/-- The table of monitors is in canonical form. -/
def MonsWf (s : State) : Prop := cellWf (fun _ => Mon.init) s.te.mons = true

/-- R251, R253 to R255, R262: a window opens where its timing says, covers the present, and lasts WIN; its mode and MONSEL are those of its begin (R285); the choice of monitor is made when the lead-in has
ended, and where MONSEL names one outside ratio mode it is that one; at its end the window closes, and outside the loop its record stands in TE_SAMPLE. -/
def Obligations.MonitorWindows : Prop :=
  (∀ (s : State) (n : Span) (l : Local) (a b : Nat) (k : Bool), s.Canon → MonsWf s → loopsRun s = true → (monOf s (pierIx n l)).opened = false →
    windowAt s n l s.elapsed (monOf s (pierIx n l)).cont = some (a, b, k) →
    ∃ t, exec (.monitorWindowOpen n l) s = .next t ∧ (monOf t (pierIx n l)).opened = true ∧ (monOf t (pierIx n l)).start = a
      ∧ (monOf t (pierIx n l)).ratio = ratioMode s n l ∧ (monOf t (pierIx n l)).monsel = getF s (TE_MON_MONSEL n l) ∧ (monOf t (pierIx n l)).stop = b ∧ (monOf t (pierIx n l)).loop = k ∧ (monOf t (pierIx n l)).lead = none
      ∧ (periodOf s n ≠ 0 → a ≤ s.elapsed ∧ s.elapsed < b ∧ b - a = 10 * winLen s n l)
      ∧ (∀ g, g ≠ pierIx n l → monOf t g = monOf s g) ∧ t.mem = s.mem ∧ t.dr = s.dr)
  ∧ (∀ (s : State) (n : Span) (l : Local), (monOf s (pierIx n l)).opened = true → exec (.monitorWindowOpen n l) s = .next s)
  ∧ (∀ (s : State) (n : Span) (l : Local) (ca cb : BitVec 16), MonsWf s → (monOf s (pierIx n l)).opened = true → (monOf s (pierIx n l)).lead = none →
      (monOf s (pierIx n l)).start + 10 * leadIn (monOf s (pierIx n l)).n ≤ s.elapsed →
      ∃ t, exec (.diversityChoice n l ca cb) s = .next t ∧ (monOf t (pierIx n l)).lead = some (ca.toNat, cb.toNat) ∧ t = { s with te := t.te }
        ∧ ((monOf s (pierIx n l)).ratio = false → (monOf s (pierIx n l)).monsel = 1 → (monOf t (pierIx n l)).choice = 0)
        ∧ ((monOf s (pierIx n l)).ratio = false → (monOf s (pierIx n l)).monsel = 2 → (monOf t (pierIx n l)).choice = 1))
  ∧ (∀ (s : State) (n : Span) (l : Local) (fa fb : BitVec 16) (ca cb : Nat), s.Canon → MonsWf s → (monOf s (pierIx n l)).opened = true →
      (monOf s (pierIx n l)).lead = some (ca, cb) → (monOf s (pierIx n l)).stop ≤ s.elapsed →
      ∃ t, exec (.monitorWindowClose n l fa fb) s = .next t ∧ (monOf t (pierIx n l)).opened = false ∧ (monOf t (pierIx n l)).lead = none
        ∧ (monOf t (pierIx n l)).prevChoice = (monOf s (pierIx n l)).choice
        ∧ ((monOf s (pierIx n l)).loop = false → (tcState s = 0 ∨ tcState s = 4 → t.mem = s.mem)
            ∧ rd t (aTE_SAMPLE_w0 n l) = (sampleOf s n (monOf s (pierIx n l)) ca cb fa.toNat fb.toNat).w0
            ∧ rd t (aTE_SAMPLE_w1 n l) = (sampleOf s n (monOf s (pierIx n l)) ca cb fa.toNat fb.toNat).w1))

/-- R257, R265, R269: TE_PSEL loads a loop record's fields or queues the registers for the pier; the period in force stays after a write of TE_LOOP; a write of TE_FILT stores. In manual
mode an update (R263, R275) of a pier whose trim table does not fall (R277) applies the next U and V, takes UMAN and VMAN as the next ones, and clears EVALID. -/
def Obligations.TrussLoops : Prop :=
  (∀ (s u : State) (n : Span) (w : RegWrite), Granted s w (aTE_PSEL n) → u = storeWrite (atGrant s w) (aTE_PSEL n) w.value →
    (bitsOf w.value 11 10 = 1 → exec (.loopRecordLoad n w) s = .next (pselOp u n 1)) ∧
    (bitsOf w.value 11 10 = 2 → exec (.loopRecordWrite n w) s = .next (pselOp u n 2)))
  ∧ (∀ (s : State) (n : Span) (a : Nat), s.Canon → a = loopRec n (getF s (TE_PSEL_PIER n)) (getF s (TE_PSEL_DECK n)) →
      getF (pselOp s n 1) (TE_PCFG0_LMODE n) = getM s a lLMODE ∧ rd (pselOp s n 1) (aTE_PCFG1 n) = memWord s (a + 0x20)
        ∧ rd (pselOp s n 1) (aTE_PCFG2 n) = memWord s (a + 0x24) ∧ rd (pselOp s n 1) (aTE_PSTAT0 n) = memWord s (a + 0x04)
        ∧ rd (pselOp s n 1) (aTE_PSTAT1 n) = memWord s a ∧ (pselOp s n 1).mem = s.mem ∧ (pselOp s n 1).te = s.te)
  ∧ (∀ (s : State) (n : Span), s.Canon → MonsWf s →
      (monOf (pselOp s n 2) (pierIx n (getF s (TE_PSEL_PIER n)))).write
          = some (rd s (aTE_PCFG0 n), rd s (aTE_PCFG1 n), rd s (aTE_PCFG2 n), rd s (aTE_PCFG3 n))
        ∧ flag (pselOp s n 2) (TE_PSEL_PENDING n) = true ∧ (pselOp s n 2).mem = s.mem)
  ∧ (∀ (s : State) (n : Span) (w : RegWrite), Granted s w (aTE_LOOP n) → s.Canon → cellWf (fun _ => 0) s.te.period = true →
      getF (atGrant s w) (TE_LOOP_PERIOD n) ≠ 0 →
      ∃ t, exec (.loopPeriodWrite n w) s = .next t ∧ periodOf t n = periodOf (atGrant s w) n
        ∧ rd t (aTE_LOOP n) = rd (storeWrite (atGrant s w) (aTE_LOOP n) w.value) (aTE_LOOP n) ∧ t.mem = s.mem)
  ∧ (∀ (s : State) (n : Span) (w : RegWrite), Granted s w (aTE_FILT n) →
      exec (.filterChange n w) s = .next (storeWrite (atGrant s w) (aTE_FILT n) w.value))
  ∧ (∀ (s : State) (n : Span) (l : Local) (d a : Nat) (m : Mon) (x : Sample), d < 2 → s.Canon → m.write = none → pierIx n l ∉ s.te.falling → a = loopRec n l d → getM s a lLMODE = 1 →
      getM (deckUpdate s n l d m x) a lU = getM s a lUN ∧ getM (deckUpdate s n l d m x) a lV = getM s a lVN
        ∧ getM (deckUpdate s n l d m x) a lUN = getM s a lUMAN ∧ getM (deckUpdate s n l d m x) a lVN = getM s a lVMAN
        ∧ getM (deckUpdate s n l d m x) a lEVALID = 0)

/-! ### Calibration -/

/-- The table of sequencers is in canonical form. -/
def SeqsWf (s : State) : Prop := cellWf (fun _ => CalSeq.init) s.cal.seqs = true

/-- R288, R289, R292 to R298: the step that is chosen runs, and its run keeps the rest; at its end nothing runs, and a bandwidth trim in range and confirmed is stored and any other raises
FAIL_P; two offset measurements that agree within a step and need no more than 15 steps give the trim, their mean. An EXT run ends at its time when no step of it runs, and a run that has
waited 1 s raises STARVED. -/
def Obligations.CalibrationSteps : Prop :=
  (∀ (s : State) (n : Span) (k : Nat) (x : CalStep) (rest : List CalStep), SeqsWf s → (seqOf s n).running = none → calRuns s n = true →
    chooseStep s n = some (k, x, rest) →
    ∃ t, exec (.calStepStart n) s = .next t ∧ (seqOf t n).running = some x ∧ runOf (seqOf t n) k = some ⟨rest, s.elapsed⟩
      ∧ (∀ j, j ≠ n.val → seqOf t j = seqOf s j) ∧ t.mem = s.mem ∧ t.flash = s.flash)
  ∧ (∀ (s : State) (n : Span) (r : CalReading) (x : CalStep), (seqOf s n).running = some x →
      exec (.calStepEnd n r) s = .next (settleRun (stepResult
        (bump (freeFronts (setSeq s n { seqOf s n with running := none }) n) (cCAL_CNT (kindOf x).2)) n x r) n (kindOf x).1))
  ∧ (∀ (s : State) (n : Span) (r : CalReading) (f : Nat), s.Canon → SeqsWf s → QueuesWf s → f < 4 → (seqOf s n).running = some (.bandwidth f) →
      ∃ t, exec (.calStepEnd n r) s = .next t ∧ (seqOf t n).running = none ∧ count t (cCAL_CNT 2) = (count s (cCAL_CNT 2) + 1) % 2 ^ 48 ∧
        (8 ≤ r.bandwidth.toNat → r.bandwidth.toNat ≤ 247 → r.within = true → bitsOf (rd t (aCAL_BW n)) (8 * f + 7) (8 * f) = r.bandwidth.toNat) ∧
        ((r.bandwidth.toNat < 8 ∨ 247 < r.bandwidth.toNat ∨ r.within = false) → rd t (aCAL_BW n) = rd s (aCAL_BW n) ∧ flag t CAL_INT_FAIL_P = true))
  ∧ (∀ (s : State) (n : Span) (l : Local) (d c : Nat) (m : Int × Int), s.Canon → d < 2 → c < 3 → (m.1 - m.2).natAbs ≤ 1 → ((m.1 + m.2 + 1) / 2).natAbs ≤ 15 →
      getI (trimChannel n l d s (c, m)).1 (trimFld n l d c) = (m.1 + m.2 + 1) / 2 ∧ (trimChannel n l d s (c, m)).2 = false)
  ∧ (∀ (s : State) (n : Span), SeqsWf s → due s (.extRun n) = true → (seqOf s n).ext.isSome = true → (∀ i, (seqOf s n).running ≠ some (.extinction i)) →
      ∃ t, exec (.extRunEnd n) s = .next t ∧ (seqOf t n).ext = none ∧ timerAt (.extRun n) t.timers = none ∧ t.mem = s.mem)
  ∧ (∀ (s : State) (n : Span) (k : Nat) (r : CalRun), s.Canon → k < 3 → runOf (seqOf s n) k = some r →
      r.since + 4000000000 ≤ s.elapsed → ∃ t, exec (.calStarved n) s = .next t ∧ flag t CAL_INT_STARVED = true ∧ t = { s with regs := t.regs })

/-- R304 to R306: a sweep command begins in Hold with nothing in the way and is refused otherwise; a swept span's end begins the next span's sweep, or ends the sweep; a store command, and
the store timer once it is due, give the Tollhouse the record of a pending result for the slot that does not hold the newest record, and do nothing else. -/
def Obligations.CalibrationCommands : Prop :=
  (∀ (s u : State) (w : RegWrite), Granted s w aCAL_CMD → u = storeWrite (atGrant s w) aCAL_CMD w.value →
    (w.value.getLsbD 7 = true → w.value.getLsbD 8 = false → exec (.sweep w) s = .next (sweepCommand u)) ∧
    (w.value.getLsbD 7 = false → w.value.getLsbD 8 = true → exec (.storeNow w) s = .next (startStore u)))
  ∧ (∀ u : State, u.Canon → flag u CAL_CMD_ALL = false → getF u CAL_CMD_SPAN < 36 →
      (pstate u = 3 → flag u LS_CTRL_RUN = false → u.ad.inflight = [] → u.cal.sweep = none →
        (sweepCommand u).cal.sweep = some (getF u CAL_CMD_SPAN, []) ∧ flag (sweepCommand u) CAL_STATUS_SWEEPING = true) ∧
      (pstate u ≠ 3 ∨ flag u LS_CTRL_RUN = true ∨ u.ad.inflight ≠ [] ∨ u.cal.sweep ≠ none → sweepCommand u = event u CAL_CMD_REFUSED))
  ∧ (∀ (s : State) (n : Span) (rs : List SweepReading) (rest : List Nat), s.Canon → s.cal.sweep = some (n.val, rest) →
      ∃ t, exec (.sweepEnd n rs) s = .next t ∧ t.cal.sweep = (match rest with | k :: more => some (k, more) | [] => none)
        ∧ flag t CAL_STATUS_SWEEPING = ! rest.isEmpty)
  ∧ (∀ u : State, u.Canon → canStore u = true →
      (∃ j : Job, (startStore u).th.jobs = u.th.jobs ++ [j] ∧ j.kind = JobKind.record
        ∧ j.at_ = slotAddr (if flag u CAL_STATUS_NOREC then 0 else 1 - getF u CAL_STATUS_SLOT)) ∧ flag (startStore u) CAL_STATUS_WRITING = true
        ∧ (startStore u).cal.lastStart = some u.elapsed ∧ (startStore u).mem = u.mem ∧ (startStore u).flash = u.flash)
  ∧ (∀ u : State, canStore u = false → startStore u = u)
  ∧ (∀ s : State, exec .calStoreTimer s = .next (if storeDue s then startStore s else s))

/-! ### Decks -/

/-- R311 to R315, R330, R331: a lowered claim stands at the lower of its value and the cause's, the deck is faulted in the span, and a span whose owner's claim falls below the other's is taken
over; a kick restarts the watchdog; a cause that comes during a resynchronisation ends that with cause 11 and leaves the claim (R329); a deck's own faults and its watchdog lower its claims; before the footing check ends a span
reported loaded is healthy, unless a cause has lowered its claim (R316); a new NOM is taken by the claims that stood at the old one. -/
def Obligations.Claims : Prop :=
  (∀ (s : State) (n : Span) (d cause v : Nat), d < 2 → v < 256 → cause < 16 → s.Canon → healthy s n (1 - d) = true → resyncing s n d = false →
    claim (lowerSpan s n d cause v) n d = min v (claim s n d) ∧ getF (lowerSpan s n d cause v) (stateFld n d) = 1
      ∧ healthy (lowerSpan s n d cause v) n (1 - d) = true
      ∧ owner (lowerSpan s n d cause v) n = (if min v (claim s n d) < claim s n (1 - d) ∧ owner s n = d then 1 - d
          else if claim s n (1 - d) < min v (claim s n d) ∧ owner s n = 1 - d then d else owner s n))
  ∧ (∀ (s : State) (n : Span) (d cause v : Nat), d < 2 → s.Canon → resyncing s n d = true →
    claim (lowerSpan s n d cause v) n d = claim s n d ∧ getF (lowerSpan s n d cause v) (stateFld n d) = 1 ∧ getF (lowerSpan s n d cause v) (causeFld n d) = 11
      ∧ count (lowerSpan s n d cause v) (cDK_CNT 11) = (count s (cDK_CNT 11) + 1) % 2 ^ 48 ∧ owner (lowerSpan s n d cause v) n = owner s n)
  ∧ (∀ (s : State) (d : Deck) (n : Span) (l : Local) (b : Option Burst),
      exec (.claimLower d (.ramUe b)) s = .next (lowerAll (masterReset s (deckNum d) b) (deckNum d) 2) ∧
      exec (.claimLower d (.loopUe n)) s = .next (lowerOne s n (deckNum d) 3) ∧
      (healthy s n (deckNum d) = true → getM s (loopRec n l (deckNum d)) lRESID = 1 → getM s (loopRec n l (1 - deckNum d)) lRESID = 0 →
        exec (.claimLower d (.resid n l)) s = .next (lowerOne s n (deckNum d) 4)) ∧
      (due s (.watchdog (deckNum d)) = true → exec (.watchdogExpiry d b) s = .next (lowerAll (masterReset s (deckNum d) b) (deckNum d) 1)) ∧
      (due s (.watchdog (deckNum d)) = false → exec (.watchdogExpiry d b) s = .next s))
  ∧ (∀ (s u : State) (d : Deck) (w : RegWrite) (a : Nat), a = (if d = Deck.a then aDK_WDOG_A else aDK_WDOG_B) → Granted s w a →
      u = storeWrite (atGrant s w) a w.value → w.value.getLsbD 16 = true →
      ∃ t, exec (.watchdogKick d w) s = .next t ∧ timerAt (.watchdog (deckNum d)) t.timers = some (s.elapsed + 4000 * getF u (wdogTimeout (deckNum d)))
        ∧ t = { u with timers := t.timers })
  ∧ (∀ (s : State) (d : Deck) (n : Span), s.Canon → flag s NV_STATUS_FOOT_OK = false → getF s (stateFld n (deckNum d)) = 0 →
      ∃ t, exec (.spanLoadedReport d n) s = .next t ∧ healthy t n (deckNum d) = true ∧ claim t n (1 - deckNum d) = claim s n (1 - deckNum d)
        ∧ t = { s with regs := t.regs } ∧ (∀ b, b ≠ aDK_CLAIM n → rd t b = rd s b))
  ∧ (∀ (s : State) (d : Deck) (n : Span), flag s NV_STATUS_FOOT_OK = true ∨ getF s (stateFld n (deckNum d)) ≠ 0 → exec (.spanLoadedReport d n) s = .next s)
  ∧ (∀ (s u : State) (w : RegWrite), Granted s w aDK_CTRL → u = storeWrite (atGrant s w) aDK_CTRL w.value →
      (u.dk.handing = [] → exec (.nomWrite w) s = .next (applyNom
        (if flag (atGrant s w) DK_CTRL_FREEZE ∧ flag u DK_CTRL_FREEZE = false then unfreezeAll u else u) (getF (atGrant s w) DK_CTRL_NOM) (getF u DK_CTRL_NOM))) ∧
      (u.dk.handing ≠ [] → s.Canon → ∃ t, exec (.nomWrite w) s = .next t ∧ t.dk.nomPend = some (getF u DK_CTRL_NOM)
        ∧ getF t DK_CTRL_NOM = getF s DK_CTRL_NOM))
  ∧ (∀ (s : State) (old new n d : Nat), s.Canon → n < 36 → d < 2 → new < 256 →
      claim (applyNom s old new) n d = (if claim s n d = old ∧ 0x80 ≤ old then new else claim s n d) ∧ getF (applyNom s old new) DK_CTRL_NOM = new)

/-- The table of mismatches is in canonical form. -/
def MismWf (s : State) : Prop := cellWf (fun _ => ([] : List Mismatch)) s.dk.mism = true

/-- R318 to R321: with both decks healthy, a code that differs begins one mismatch for its pier and channel, counted and logged; after MISWAIT a replay begins that covers the mismatches of
the span; a replay that one deck alone passes, or both, ends with its outcome in DK_REPLAY, and no replay runs in the span. -/
def Obligations.MismatchAndReplay : Prop :=
  (∀ (s : State) (n : Span) (l : Local) (u : CodeUpset), s.Canon → MismWf s → cellWf (fun _ => Path.init) s.dr.paths = true → u.trim = false → healthy s n 0 = true → healthy s n 1 = true →
    u.code.toNat ≠ requestedFast s n l (1 - deckNum u.deck) → (∀ m ∈ mismOf s n, ¬ (m.pier = l.val ∧ m.trim = false)) →
    ∃ t, exec (.abutmentMismatch n l u) s = .next t ∧ getF t (liveF n l (deckNum u.deck)) = u.code.toNat
      ∧ (∃ m, mismOf t n = mismOf s n ++ [m] ∧ m.pier = l.val ∧ m.trim = false ∧ m.since = s.elapsed)
      ∧ count t (cDK_CNT 12) = (count s (cDK_CNT 12) + 1) % 2 ^ 48 ∧ flag t DK_INT_MISMATCH = true ∧ flag t (DK_CLAIM_MISMATCH n) = true ∧ t.ad = s.ad)
  ∧ (∀ (s : State) (n : Span), s.Canon → MismWf s → due s (.misWait n) = true → healthy s n 0 = true → healthy s n 1 = true → replaying s n = false →
      mismOf s n ≠ [] →
      ∃ t, exec (.replayStart n) s = .next t ∧ replaying t n = true ∧ (∀ m ∈ mismOf t n, m.covered = true) ∧ timerAt (.misWait n) t.timers = none
        ∧ count t (cDK_CNT 13) = (count s (cDK_CNT 13) + 1) % 2 ^ 48 ∧ t.mem = s.mem)
  ∧ (∀ (s : State) (n : Span) (ha hb a b : Bool), s.Canon → MismWf s → replaying s n = true → healthy s n 0 = true → healthy s n 1 = true →
      a = ((ha || historyReproduces s n 0) && ((mismOf s n).filter (fun m => m.covered)).all (fun m => codesReproduce s n m.pier 0)) →
      b = ((hb || historyReproduces s n 1) && ((mismOf s n).filter (fun m => m.covered)).all (fun m => codesReproduce s n m.pier 1)) → (a || b) = true →
      ∃ t, exec (.replayEnd n ha hb) s = .next t ∧ replaying t n = false ∧ getF t DK_REPLAY_w0_SPAN = n.val
        ∧ getF t DK_REPLAY_w0_OUTCOME = (if a then (if b then 1 else 3) else 2)
        ∧ (a = true → b = false → getF t (stateFld n 1) = 1 ∧ claim t n 1 = min 0x10 (claim s n 1))
        ∧ (a = false → b = true → getF t (stateFld n 0) = 1 ∧ claim t n 0 = min 0x10 (claim s n 0)))

/-- R312, R324, R326 to R329: a handover names the other deck owner with the deck that hands over at NOM - 1 and cause 9; a resynchronisation puts the deck in COPY; at the copy's end its loop
records are the healthy deck's and it is in PROBATION; after PROBATION it is healthy. A path returned through DK_PEXCL_CLR is no longer excluded; RESID on both decks for FAIL_MS marks the
pier failed under AUTOFAIL. -/
def Obligations.HandoverAndResync : Prop :=
  (∀ (s u : State) (w : RegWrite), Granted s w aDK_CMD → u = storeWrite (atGrant s w) aDK_CMD w.value →
    (w.value.getLsbD 8 = true → w.value.getLsbD 9 = false → exec (.handover w) s = .next (handover u)) ∧
    (w.value.getLsbD 8 = false → w.value.getLsbD 9 = true → exec (.resync w) s = .next (resync u)))
  ∧ (∀ (u : State) (n : Span), u.Canon → flag u DK_CMD_ALL = false → getF u DK_CMD_SPAN = n.val → 1 ≤ getF u DK_CTRL_NOM →
      (healthy u n 0 = true → healthy u n 1 = true → mismOf u n = [] → replaying u n = false → passPending u n = false →
        owner (handover u) n = 1 - owner u n ∧ claim (handover u) n (owner u n) = getF u DK_CTRL_NOM - 1 ∧ getF (handover u) (causeFld n (owner u n)) = 9
          ∧ (handover u).dk.handing = u.dk.handing ++ [(n.val, (owner u n, List.range 512))]) ∧
      (healthy u n 0 = false ∨ healthy u n 1 = false ∨ mismOf u n ≠ [] ∨ replaying u n = true ∨ passPending u n = true →
        handover u = showDecks (event u DK_INT_CMD_REFUSED)))
  ∧ (∀ (u : State) (n : Span) (d : Nat), u.Canon → flag u DK_CMD_ALL = false → getF u DK_CMD_SPAN = n.val → getF u DK_CMD_DECK = d →
      canResync u n d = true → getF (resync u) (stateFld n d) = 2 ∧ timerAt (.copy n) (resync u).timers = some (u.elapsed + 400 * periodOf u n))
  ∧ (∀ (s : State) (n : Span) (d : Nat), s.Canon → deckIn s n 2 = some d → due s (.copy n) = true →
      ∃ t, exec (.resyncCopyEnd n) s = .next t ∧ getF t (stateFld n d) = 3
        ∧ (∀ i < 0x8800, rdByte t (loopBase n d + i) = rdByte s (loopBase n (1 - d) + i))
        ∧ (∀ a, (a < loopBase n d ∨ loopBase n d + 0x8800 ≤ a) → rdByte t a = rdByte s a)
        ∧ timerAt (.probation n) t.timers = some (s.elapsed + 400 * periodOf s n * getF s DK_TIMING_PROBATION) ∧ timerAt (.copy n) t.timers = none)
  ∧ (∀ (s : State) (n : Span) (d : Nat), s.Canon → deckIn s n 3 = some d → due s (.probation n) = true →
      ∃ t, exec (.probationEnd n) s = .next t ∧ healthy t n d = true ∧ flag t DK_INT_RESYNC_DONE = true
        ∧ count t (cDK_CNT 15) = (count s (cDK_CNT 15) + 1) % 2 ^ 48 ∧ timerAt (.probation n) t.timers = none ∧ t.mem = s.mem)
  ∧ (∀ (s : State) (w : RegWrite) (g d : Nat), s.Canon → Granted s w aDK_PEXCL_CLR → g = bitsOf w.value 14 0 → d = bitsOf w.value 15 15 → g < 18432 →
      ∃ t, exec (.pathReturn w) s = .next t ∧ excluded t g d = false
        ∧ (∀ k e, k < 18432 → e < 2 → (k ≠ g ∨ e ≠ d) → excluded t k e = excluded s k e))
  ∧ (∀ (s : State) (n : Span) (l : Local) (e : Nat × Nat), s.Canon → s.dk.resid.find? (fun e => decide (e.1 = pierIx n l)) = some e →
      flag s DK_CTRL_AUTOFAIL = true → e.2 + 4000000 * getF s DK_TIMING_FAIL_MS ≤ s.elapsed →
      ∃ t, exec (.autofailTimeout n l) s = .next t ∧ isFailed t (pierIx n l) = true ∧ t.mem = s.mem ∧ t.ad = s.ad)

/-! ### Power -/

/-- A transition has ended in a state: the state shows, none is in progress, and TH_PLAST and STATE_CHG say so (R374). -/
def Arrived (s t : State) (st : Nat) : Prop :=
  pstate t = st ∧ t.pw.moving = none ∧ getF t TH_PLAST_TO = st ∧ getF t TH_PLAST_FROM = pstate s ∧ flag t TH_PINT_STATE_CHG = true

/-- A transition has begun: it is in progress with its first step. -/
def Began (s t : State) (m : Move) : Prop := ∃ k, t.pw.moving = some ⟨m, k, s.elapsed, s.elapsed⟩

/-- R374 to R377: each transition begins in its state under its conditions, with its rails good, and otherwise waits for a rail and says so; a start above Standby begins without requests and
with the clock at 0, its oscillator trimmed where the result lies within 1 % (R289); the clamps open only with a healthy deck in every span (R313); Service and Hold are entered and left with the
schedule, and Hold only when nothing is booked (R385); in recovery mode TARGET starts no transition (R414). -/
def Obligations.TransitionsBegin : Prop :=
  (∀ s : State, s.Canon → mayMove s 0 = true → 1 ≤ getF s TH_PCTRL_TARGET → flag s TH_STATUS_TSD_PEND = false →
    (flag s TH_STATUS_TSD_LATCH = false ∨ cooled s = true) →
    (railsGood s 2 = true → ∃ t, exec .sleepToStandby s = .next t ∧ Began s t .sleepStandby ∧ pstate t = 0 ∧ t = { s with regs := t.regs, pw := t.pw }) ∧
    (railsGood s 2 = false → ∃ t, exec .sleepToStandby s = .next t ∧ t.pw = s.pw ∧ flag t TH_PINT_RAIL_WAIT = true ∧ t = { s with regs := t.regs }))
  ∧ (∀ (s : State) (osc : OscReading), mayMove s 1 = true → 2 ≤ getF s TH_PCTRL_TARGET → flag s TH_STATUS_TSD_PEND = false → railsGood s 3 = true →
      cellWf (fun _ => none) s.pw.tries = true → (∀ i < 45, ∀ x, triesOf s i = some x → x.1 < 3) →
      ∃ t, exec (.standbyToReady osc) s = .next t ∧ Began s t .standbyReady ∧ t.clock = 0 ∧ t.ad.inflight = [] ∧ t.nt = NetTime.init
        ∧ (∀ i < 3, triesOf t i = some (1, s.elapsed)) ∧ t.flash = s.flash ∧ t.epoch = s.epoch
        ∧ t.pw.oscTrim = (if osc.within then osc.trim else s.pw.oscTrim))
  ∧ (∀ s : State, mayMove s 2 = true → 3 ≤ getF s TH_PCTRL_TARGET → flag s NV_STATUS_FOOT_OK = true → getF s NV_STATUS_STAGE ≠ 6 →
      flag s TH_STATUS_TSD_PEND = false → (everySpanHealthy s = true ∨ clampedSpans s = []) → railsGood s 6 = true →
      ∃ t, exec .readyToHold s = .next t ∧ Began s t .readyHold ∧ t.ad = s.ad ∧ t.flash = s.flash)
  ∧ (∀ s : State, s.Canon → mayMove s 3 = true → flag s LS_CTRL_RUN = true → s.nt.winFrom ≤ netNs s → flag s TH_STATUS_TSD_PEND = false →
      (railsGood s 6 = true → ∃ t, exec .holdToService s = .next t ∧ Arrived s t 4 ∧ t.ad = s.ad ∧ t.mem = s.mem) ∧
      (railsGood s 6 = false → exec .holdToService s = .next (railWait s)))
  ∧ (∀ s : State, s.Canon → mayMove s 4 = true → flag s LS_CTRL_RUN = false → (∀ a b c d, s.nt.lastWin = some (a, b, c, d) → b ≤ netNs s) →
      ∃ t, exec .serviceToHold s = .next t ∧ Arrived s t 3 ∧ t.ad = s.ad ∧ t.mem = s.mem)
  ∧ (∀ s : State, mayMove s 3 = true → getF s TH_PCTRL_TARGET < 3 → flag s LS_CTRL_RUN = false → s.ad.inflight = [] →
      ∃ t, exec .holdToReady s = .next t ∧ Began s t .holdReady ∧ t.ks.circuits = [] ∧ t.ad.inflight = [])
  ∧ (∀ s : State, (flag s LS_CTRL_RUN = true ∨ s.ad.inflight ≠ []) → exec .holdToReady s = .next s)
  ∧ (∀ s : State, mayMove s 2 = true → getF s TH_PCTRL_TARGET < 2 → getF s NV_STATUS_STAGE ≠ 6 → s.th.op = none → (∀ n < 36, flag s (LZ_STATUS_RAMPING n) = false) →
      ∃ t, exec .readyToStandby s = .next t ∧ Began s t .readyStandby ∧ t.th.jobs = [] ∧ t.bt.retained = none ∧ (s.bt.host = none → t.flash = s.flash))
  ∧ (∀ s : State, getF s NV_STATUS_STAGE = 6 → exec .readyToStandby s = .next s)
  ∧ (∀ s : State, mayMove s 1 = true → getF s TH_PCTRL_TARGET = 0 →
      ∃ t, exec .standbyToSleep s = .next t ∧ Began s t .standbySleep ∧ t.mem = (if flag s TH_PCTRL_SLEEP_RET then s.mem else []))

/-- R375 to R377: a transition step's end: the crystal, the PLLs and the ramps let the next step or state come; Hold → Ready ends once every loop has held, at most T and 1 µs after
its begin; nothing ends before its time, or with no transition in progress. -/
def Obligations.TransitionsEnd : Prop :=
  (∀ s : State, s.pw.moving = none → exec .transitionStepEnd s = .next s)
  ∧ (∀ (s : State) (m : Moving), s.Canon → s.pw.moving = some m →
      (m.move = .sleepStandby → flag s TH_STATUS_XTAL_VALID = true → ∃ t, exec .transitionStepEnd s = .next t ∧ Arrived s t 1) ∧
      (m.move = .sleepStandby → flag s TH_STATUS_XTAL_VALID = false → exec .transitionStepEnd s = .next s) ∧
      (m.move = .standbyReady → m.step = 1 → allLocked s = true →
        ∃ t, exec .transitionStepEnd s = .next t ∧ t.pw.moving = some { m with step := 2, stepAt := s.elapsed }) ∧
      (m.move = .standbyReady → m.step = 1 → allLocked s = false → exec .transitionStepEnd s = .next s) ∧
      (m.move = .standbyReady → m.step ≠ 1 →
        ∃ t, exec .transitionStepEnd s = .next t ∧ pstate t = 2 ∧ t.pw.moving = none ∧ (t.bt.step = 1 ∨ t.bt.step = 8)) ∧
      (m.move = .readyHold → exec .transitionStepEnd s = .next (holdStepEnd s m)) ∧
      (m.move = .readyHold → 4 ≤ m.step → m.stepAt + 8 * longestT s ≤ s.elapsed → breaksOff s = false → ∃ t, exec .transitionStepEnd s = .next t ∧ Arrived s t 3) ∧
      (m.move = .holdReady → allHeld s m.began = true → ∃ t, exec .transitionStepEnd s = .next t ∧ Arrived s t 2) ∧
      (m.move = .holdReady → m.began + 4 * longestT s + 4000 ≤ s.elapsed → allHeld s m.began = true) ∧
      (m.move = .holdReady → allHeld s m.began = false → exec .transitionStepEnd s = .next s) ∧
      (m.move = .readyStandby → ∃ t, exec .transitionStepEnd s = .next t ∧ Arrived s t 1) ∧
      (m.move = .standbySleep → ∃ t, exec .transitionStepEnd s = .next t ∧ Arrived s t 0))

/-- R362, R365, R437, R438: a rail that becomes good shows so; a required one that fails is counted and sets SUP_BAD, and with VDD memories and requests go, and the
device stands in Standby where VDD was required, with RST_N low in Sleep (R382); the heater request rises at once
and falls by half a millivolt, between 1.2 V and 5.5 V. -/
def Obligations.Rails : Prop :=
  (∀ (s : State) (r : Rail), s.Canon → ∃ t, exec (.railGood r) s = .next t ∧ railGood t (railNum r) = true
    ∧ (∀ i < 6, i ≠ railNum r → railGood t i = railGood s i) ∧ t.mem = s.mem ∧ t.ad = s.ad ∧ (r = .vdd → railGood s 0 = false → flag t FU_STATUS_VALID = true)
    ∧ (r = .vdd → s.pw.rstLow = true → pstate t = 1))
  ∧ (∀ (s : State) (r : Rail), railGood s (railNum r) = false → exec (.railBad r) s = .next s)
  ∧ (∀ s : State, s.Canon → railGood s 0 = true →
      ∃ t, exec (.railBad .vdd) s = .next t ∧ railGood t 0 = false ∧ t.mem = [] ∧ t.ad.inflight = [] ∧ t.clock = 0 ∧ t.pw.moving = none
        ∧ pstate t = (if s.pw.rstLow then 0 else if railRequired s 0 then 1 else 0) ∧ flag t TH_PSTATE_RETAINED = false)
  ∧ (∀ (s : State) (r : Rail), s.Canon → r ≠ .vdd → railGood s (railNum r) = true →
      ∃ t, exec (.railBad r) s = .next t ∧ railGood t (railNum r) = false ∧
        (r = .vpd ∨ r = .vhtr → railRequired s (railNum r) = true → flag t TH_INT_SUP_BAD = true ∧ count t (cTH_CNT 4) = (count s (cTH_CNT 4) + 1) % 2 ^ 48))
  ∧ (∀ s : State, ∃ t, exec .htrTrkUpdate s = .next t ∧ t = { s with regs := t.regs, pw := t.pw, free := t.free }
      ∧ (s.pw.request ≤ 2 * min 5500 (max 1200 (wantedMv s)) → t.pw.request = 2 * min 5500 (max 1200 (wantedMv s)))
      ∧ (2 * min 5500 (max 1200 (wantedMv s)) < s.pw.request → t.pw.request = max (2 * min 5500 (max 1200 (wantedMv s))) (s.pw.request - 1)))

/-- R289, R370, R372, R460: a band from 1 to 62 locks the PLL and shows; any other is refused, and the attempt fails with it. A first attempt that
fails is followed by a second, a second by PLL_FAIL, each with its corrected fault. A lost lock is
recorded; a span PLL's loss closes its clamp and is fatal, the core PLL's loss above Standby leads to Fault. -/
def Obligations.Plls : Prop :=
  (∀ (s : State) (i : PllIx) (band : Fin 64) (k t0 : Nat), s.Canon → cellWf (fun _ => none) s.pw.tries = true → triesOf s i = some (k, t0) → k < 3 →
    (1 ≤ band.val → band.val ≤ 62 → ∃ t, exec (.pllLock i band) s = .next t ∧ flag t (TH_PLL_LOCK i) = true ∧ getF t (TH_PLL_BAND i) = band.val
      ∧ getF t (TH_PLL_LOCK_US i) = min ((s.elapsed - t0) / 4000) 65535 ∧ triesOf t i = none ∧ t.mem = s.mem) ∧
    ((band.val < 1 ∨ 62 < band.val) → exec (.pllLock i band) s = .next (attemptFailed s i k)))
  ∧ (∀ (s : State) (i : PllIx) (t0 : Nat), s.Canon → cellWf (fun _ => none) s.pw.tries = true →
      (triesOf s i = some (1, t0) → t0 + 400000 ≤ s.elapsed →
        ∃ t, exec (.pllLockTimeout i) s = .next t ∧ triesOf t i = some (2, s.elapsed) ∧ flag t CAL_INT_FAIL_P = true
          ∧ t.mem = s.mem ∧ t.ad = s.ad ∧ pstate t = pstate s) ∧
      (triesOf s i = some (2, t0) → t0 + 400000 ≤ s.elapsed →
        ∃ t, exec (.pllLockTimeout i) s = .next t ∧ triesOf t i = some (3, s.elapsed) ∧ flag t TH_PINT_PLL_FAIL = true
          ∧ flag t CAL_INT_FAIL_P = true) ∧
      (∀ k, triesOf s i = some (k, t0) → s.elapsed < t0 + 400000 → exec (.pllLockTimeout i) s = .next s))
  ∧ (∀ (s : State) (i : PllIx) (b : Option Burst), flag s (TH_PLL_LOCK i) = false → exec (.pllLoss i b) s = .next s)
  ∧ (∀ (s : State) (i : PllIx) (b : Option Burst), s.Canon → QueuesWf s → flag s (TH_PLL_LOCK i) = true → 3 ≤ i.val →
      ∃ t, exec (.pllLoss i b) s = .next t ∧ flag t (TH_PLL_LOCK i) = false ∧ flag t (TH_PLL_LOSS i) = true ∧ flag t TH_PINT_PLL_LOSS = true
        ∧ count t (cTHP_CNT 7) = (count s (cTHP_CNT 7) + 1) % 2 ^ 48 ∧ t.mem = s.mem
        ∧ (i.val ≤ 38 → clamped t (i.val - 3) = true
            ∧ queueOf t (0x500 + i.val) = queueOf s (0x500 + i.val) ++ [faultMsg (0x500 + i.val) 0x42 clsFatal false (i.val - 3)]))
  ∧ (∀ (s : State) (b : Option Burst), s.Canon → flag s (TH_PLL_LOCK 0) = true → 2 ≤ pstate s →
      ∃ t, exec (.pllLoss 0 b) s = .next t ∧ pstate t = 5 ∧ t.pw.moving = none)

/-- R379, R382, R420, R422, R437, R439, R483: RST_N low ends everything but the Tollhouse, and high again is a wake, as is the wake timer; a wake raises TARGET to WAKE_TARGET. The crystal
moves the Tollhouse's clock. VTH brings the reset values, the flash stays. TARGET is not raised by a write in Sleep and Standby. -/
def Obligations.Resets : Prop :=
  (∀ s : State, s.Canon → ∃ t, exec .rstNAssert s = .next t ∧ t.clock = 0 ∧ t.ad.inflight = [] ∧ t.pw.rstLow = true ∧ t.pw.moving = none ∧ t.mem = s.mem
    ∧ pstate t = (if railGood s 0 then 1 else 0) ∧ t.th.jobs = [] ∧ t.th.job = none ∧ t.epoch = s.epoch
    ∧ (railGood s 0 = false → flag t TH_STATUS_CLK = false ∧ flag t TH_STATUS_XTAL_VALID = false))
  ∧ (∀ s : State, exec .rstNRise s = .next (wake { s with pw := { s.pw with rstLow := false } }))
  ∧ (∀ s : State, s.Canon → pstate s ≤ 1 → flag s TH_STATUS_TSD_PEND = false → (flag s TH_STATUS_TSD_LATCH = false ∨ cooled s = true) →
      getF (wake s) TH_PCTRL_TARGET = max (getF s TH_PCTRL_TARGET) (getF s TH_PCTRL_WAKE_TARGET) ∧ flag (wake s) TH_PINT_WAKE = true ∧ (wake s).mem = s.mem)
  ∧ (∀ s : State, 2 ≤ pstate s → wake s = s)
  ∧ (∀ s : State, s.Canon → due s .wake = true → pstate s ≤ 1 → ∃ t, exec .wakeTimer s = .next t ∧ timerAt .wake t.timers = none
      ∧ flag t TH_INT_WAKE_TMR = true ∧ count t (cTH_CNT 2) = (count s (cTH_CNT 2) + 1) % 2 ^ 48)
  ∧ (∀ s : State, s.Canon → flag s TH_STATUS_XTAL_VALID = false → (pstate s ≠ 0 ∨ s.pw.moving.isSome = true) →
      ∃ t, exec .xtalValid s = .next t ∧ flag t TH_STATUS_XTAL_VALID = true ∧ flag t TH_STATUS_CLK = true
        ∧ t = { s with regs := t.regs, th := t.th } ∧ (flag s HK_STATUS_BUSY = true → t.th.began = s.elapsed ∧ count t (cHK_CNT 2) = (count s (cHK_CNT 2) + 1) % 2 ^ 48))
  ∧ (∀ s : State, exec .vthPowerOn s = .next { State.reset with pending := s.pending, free := s.free, flash := s.flash })
  ∧ (∀ s : State, ∃ t, exec .vthPowerLoss s = .next t ∧ t = { State.reset with pending := s.pending, elapsed := s.elapsed, free := t.free, flash := t.flash }
      ∧ (s.th.op = none → s.bt.host = none → t.flash = s.flash))
  ∧ (∀ (s u : State) (w : RegWrite), s.Canon → Granted s w aTH_PCTRL → u = storeWrite (atGrant s w) aTH_PCTRL w.value →
      ∃ t, exec (.targetWrite w) s = .next t ∧
        getF t TH_PCTRL_TARGET = (if pstate s ≤ 1 ∧ getF s TH_PCTRL_TARGET < getF u TH_PCTRL_TARGET then getF s TH_PCTRL_TARGET else getF u TH_PCTRL_TARGET)
        ∧ t.mem = s.mem ∧ t.ad = s.ad)

/-! ### Boot and flash -/

/-- R386, R397 to R399, R407, R412, R415: a flash without what the device requires stops the start; a signed candidate becomes the running slot and both clusters start; with none left, or a
footing that fails its checks, the device enters recovery mode; a warm start whose contents do not check is made a cold one. A warm start too
begins with what the flash offers. A cluster restarts in a recovery mode of a failed footing check too. A step that is not due changes nothing. -/
def Obligations.BootSteps : Prop :=
  (∀ (s : State) (x : Sfdp), s.Canon → s.bt.step = 1 → readyToBoot s = true → (x.complete = false ∨ x.density < 25 ∨ 28 < x.density) →
    ∃ t, exec (.coldStart x) s = .next t ∧ getF t NV_STATUS_STAGE = 7 ∧ flag t NV_STATUS_SFDP_ERR = true ∧ t.bt.step = 0 ∧ t.flash = s.flash
      ∧ (pstate s = 5 → pstate t = 2))
  ∧ (∀ (s u : State) (x : Sfdp), s.Canon → s.bt.step = 1 → s.bt.reason = 2 → allLocked s = true → x.complete = true → 25 ≤ x.density → x.density ≤ 28 → x.page < 16 →
      u = sfdpRead (setF (joinAll s) TH_PSTATE_WARM 0) x →
      (fwCandidates u ≠ [] → ∃ t, exec (.coldStart x) s = .next t ∧ t.bt.step = 2 ∧ t.bt.candidates = fwCandidates u ∧ getF t NV_STATUS_STAGE = 2
        ∧ getF t NV_FLASH_DENSITY = x.density ∧ t.flash = s.flash) ∧
      (fwCandidates u = [] → exec (.coldStart x) s = .next (enterRecovery u)))
  ∧ (∀ (s : State) (c : Nat) (rest : List Nat), s.Canon → s.bt.step = 2 → s.bt.candidates = c :: rest →
      (imageSigned s (fwImage s c) 0 = true → c < 2 → ∃ t, exec .firmwareVerifyDone s = .next t ∧ t.bt.step = 5 ∧ getF t NV_STATUS_STAGE = 3
        ∧ getF t NV_STATUS_FW_SLOT = c ∧ flag t DK_STATUS_RUN_A = true ∧ flag t DK_STATUS_RUN_B = true ∧ t.flash = s.flash) ∧
      (imageSigned s (fwImage s c) 0 = false → rest ≠ [] → ∃ t, exec .firmwareVerifyDone s = .next t ∧ t.bt.step = 2 ∧ t.bt.candidates = rest) ∧
      (imageSigned s (fwImage s c) 0 = false → rest = [] →
        exec .firmwareVerifyDone s = .next (enterRecovery (loadPayload (loadPayload s c 0) c 1))))
  ∧ (∀ s : State, s.bt.step = 5 →
      (∀ e, footError s (footImage s) (getF s NV_FW_VERSION) = some e →
        exec .footingCheckDone s = .next (enterRecovery (setF (setF (clearDestinations s (footRecords (footImage s))) NV_STATUS_FOOT_ERR e.1) NV_STATUS_FOOT_REC e.2))) ∧
      (footError s (footImage s) (getF s NV_FW_VERSION) = none →
        ∃ t j, exec .footingCheckDone s = .next t ∧ t.bt.step = 7 ∧ t.th.jobs.getLast? = some j ∧ j.kind = JobKind.epoch ∧ t.flash = s.flash))
  ∧ (∀ (s : State) (x : Sfdp) (ok : Bool), s.bt.step = 8 →
      (sfdpOk x = false → exec (.warmStart x ok) s = .next (sfdpFailed s)) ∧
      (sfdpOk x = true → retentionOk (sfdpRead s x) ok = true → ∃ t j, exec (.warmStart x ok) s = .next t ∧ t.bt.step = 7 ∧ t.bt.reason = 1 ∧ t.th.jobs.getLast? = some j
        ∧ j.kind = JobKind.epoch) ∧
      (sfdpOk x = true → retentionOk (sfdpRead s x) ok = false → ∃ t, exec (.warmStart x ok) s = .next t ∧ t.bt.step = 1 ∧ t.bt.reason = 0 ∧ t.ad = State.reset.ad))
  ∧ (∀ (s : State) (d : Deck), s.Canon → flag s (runFld (deckNum d)) = false → 2 ≤ pstate s → firmwareStands s = true →
      flag s (TH_PLL_LOCK (1 + deckNum d)) = true → imageSigned s (fwImage s (getF s NV_STATUS_FW_SLOT)) 0 = true →
      ∃ t, exec (.clusterRestart d) s = .next t ∧ flag t (runFld (deckNum d)) = true ∧ t.flash = s.flash ∧ t.ad = s.ad)
  ∧ (∀ s : State, (∀ x, s.bt.step ≠ 1 → exec (.coldStart x) s = .next s) ∧ (s.bt.step ≠ 2 → exec .firmwareVerifyDone s = .next s)
      ∧ (s.bt.step ≠ 5 → exec .footingCheckDone s = .next s) ∧ (∀ x ok, s.bt.step ≠ 8 → exec (.warmStart x ok) s = .next s))

/-- What R417 asks of an erase or program: no write-protected block, nothing outside the firmware slots, the footing image and beyond them, not the running slot, one page, and the
density. -/
def FlashAdmits (s : State) (op : Nat) : Prop :=
  writeProtected s (opRange s op).1 (opRange s op).2 = false ∧ meets (opRange s op).1 (opRange s op).2 0x01800000 0xFE800000 = false
    ∧ (firmwareStands s = true → meets (opRange s op).1 (opRange s op).2 (fwAddr (getF s NV_STATUS_FW_SLOT)) 0x400000 = false)
    ∧ (op = 2 → (opRange s op).1 / pageSize s = ((opRange s op).1 + (opRange s op).2 - 1) / pageSize s)
    ∧ (opRange s op).1 + (opRange s op).2 ≤ 2 ^ getF s NV_FLASH_DENSITY

/-- An erase or program has begun: it is the host's operation, with the range and the data it was given, and waits where the Tollhouse's runs; nothing is written yet. -/
def FlashBegun (s t : State) (op : Nat) : Prop :=
  t.bt.host = some ⟨op, (opRange s op).1, if op = 2 then bufBytes s (opRange s op).2 else [], (opRange s op).2, s.th.op.isSome⟩
    ∧ flag t NV_STATUS_BUSY = true ∧ t.flash = s.flash ∧ t.ad = s.ad ∧ t.mem = s.mem

/-- R416, R417, R419: a flash command that nothing refuses becomes the host's operation with BUSY, a program with the bytes of NV_BUF, an erase with its sector or block; one without the
role, or into a protected range, is refused as such, and one that overlaps another is refused; at its end a program has only cleared bits, an erase
has left ones, and nothing outside the operation's range has changed; a read changes no flash. With the pins not driven (R389) the operation
ends with ERR and changes nothing. NV_REMAP stores. -/
def Obligations.FlashOperations : Prop :=
  (∀ (s : State) (w : RegWrite), Granted s w aNV_CMD →
    (bitsOf w.value 2 0 = 1 → exec (.flashRead w) s = .next (nvCommand (atGrant s w) 1 (mayFlash s w.master.val)).1) ∧
    (bitsOf w.value 2 0 = 2 → exec (.flashProgram w) s = .next (nvCommand (atGrant s w) 2 (mayFlash s w.master.val)).1) ∧
    (bitsOf w.value 2 0 = 3 → exec (.flashErase4k w) s = .next (nvCommand (atGrant s w) 3 (mayFlash s w.master.val)).1) ∧
    (bitsOf w.value 2 0 = 4 → exec (.flashErase64k w) s = .next (nvCommand (atGrant s w) 4 (mayFlash s w.master.val)).1))
  ∧ (∀ (s : State) (allowed : Bool), s.Canon → s.bt.host = none →
      ∃ h, (nvCommand s 1 allowed).1.bt.host = some h ∧ h.op = 1 ∧ h.addr = getF s NV_ADDR_ADDR ∧ h.len = getF s NV_LEN_LEN
        ∧ flag (nvCommand s 1 allowed).1 NV_STATUS_BUSY = true)
  ∧ (∀ (s : State) (w : RegWrite), Granted s w aNV_CMD → mayFlash s w.master.val = true → s.bt.host = none →
      (bitsOf w.value 2 0 = 2 → FlashAdmits s 2 → ∃ t, exec (.flashProgram w) s = .next t ∧ FlashBegun s t 2) ∧
      (bitsOf w.value 2 0 = 3 → FlashAdmits s 3 → ∃ t, exec (.flashErase4k w) s = .next t ∧ FlashBegun s t 3) ∧
      (bitsOf w.value 2 0 = 4 → FlashAdmits s 4 → ∃ t, exec (.flashErase64k w) s = .next t ∧ FlashBegun s t 4))
  ∧ (∀ (s : State) (op : Nat) (allowed : Bool), 2 ≤ op → op ≤ 4 → (allowed = false ∨ writeProtected s (opRange s op).1 (opRange s op).2 = true) →
      nvCommand s op allowed = (refuseFlash s, true))
  ∧ (∀ (s : State) (op : Nat) (allowed : Bool), 1 ≤ op → op ≤ 4 → s.bt.host.isSome = true →
      (2 ≤ op → allowed = true ∧ writeProtected s (opRange s op).1 (opRange s op).2 = false) → nvCommand s op allowed = (refuseFlash s, false))
  ∧ (∀ (s : State) (h : HostOp), s.Canon → s.bt.host = some h → h.waits = false → flashDriven s = true →
      ∃ t, exec (.flashOpDone true) s = .next t ∧ flag t NV_STATUS_BUSY = false ∧ flag t NV_INT_DONE = true ∧ t.bt.host = none ∧ t.ad = s.ad ∧
        (h.op = 1 → t.flash = s.flash) ∧
        (h.op = 2 → ∀ a, cellGet flashDefault t.flash a = (if h.addr ≤ a ∧ a < h.addr + h.data.length
          then cellGet flashDefault s.flash a &&& h.data.getD (a - h.addr) 0 else cellGet flashDefault s.flash a)) ∧
        (h.op = 3 ∨ h.op = 4 → ∀ a, cellGet flashDefault t.flash a = (if h.addr ≤ a ∧ a < h.addr + h.len then 0xFF#8 else cellGet flashDefault s.flash a)))
  ∧ (∀ (s : State) (h : HostOp) (ok : Bool), s.Canon → s.bt.host = some h → h.waits = false → flashDriven s = false →
      ∃ t, exec (.flashOpDone ok) s = .next t ∧ t.bt.host = none ∧ flag t NV_STATUS_BUSY = false ∧ flag t NV_INT_ERR = true ∧ t.flash = s.flash ∧ t.ad = s.ad)
  ∧ (∀ (s : State) (w : RegWrite), Granted s w aNV_REMAP → exec (.remapSet w) s = .next (storeWrite (atGrant s w) aNV_REMAP w.value))

/-- R418, R445, R308, R306: a waiting job that is not a record begins, the epoch's before all others; a page the flash has finished is programmed, and what an unfinished one would have
written stays; in a write-protected range nothing is written (R395); a job that meets an uncorrectable error of the Tollhouse's memory is abandoned, with MEM_UE_TOLL (R465); a finished calibration record shows its slot and sequence number, with REC_WRITTEN, and a store is no longer in progress. -/
def Obligations.TollhouseJobs : Prop :=
  (∀ (s : State) (j : Job), s.Canon → s.th.job = none → flashDriven s = true → flag s TH_STATUS_TSD_PEND = false → j.kind ≠ JobKind.record →
    (s.th.jobs.find? (fun j => decide (j.kind = JobKind.epoch))).or s.th.jobs.head? = some j →
    ∃ t k, exec .tollhouseJob s = .next t ∧ t.th.jobs = s.th.jobs.erase j ∧ t.th.job = some k ∧ k.kind = j.kind ∧ k.body = j.body
      ∧ flag t TH_STATUS_WRITING = true ∧ t.mem = s.mem ∧ t.flash = s.flash)
  ∧ (∀ (s : State) (j : Job) (a : Nat) (bs : List Byte), s.Canon → s.th.op = some (.program a bs) → s.th.job = some j → j.ops ≠ [] →
      flag s TH_STATUS_TSD_PEND = false → writeProtected s a bs.length = false →
      ∃ t, exec (.tollhousePageDone true none) s = .next t ∧ t.th.job.isSome = true ∧ t.mem = s.mem
        ∧ ∀ b, cellGet flashDefault t.flash b = (if a ≤ b ∧ b < a + bs.length then cellGet flashDefault s.flash b &&& bs.getD (b - a) 0
            else cellGet flashDefault s.flash b))
  ∧ (∀ (s : State) (op : FlashOp) (ok : Bool) (ue : Option (BitVec 18)), s.th.op = some op → opProtected s op = true →
      ∃ t, exec (.tollhousePageDone ok ue) s = .next t ∧ t.flash = s.flash)
  ∧ (∀ (s : State) (op : FlashOp) (j : Job) (ok : Bool) (a : BitVec 18), s.Canon → s.th.op = some op → s.th.job = some j →
      ∃ t, exec (.tollhousePageDone ok (some a)) s = .next t ∧ t.th.job = none ∧ t.th.jobs = s.th.jobs
        ∧ faultMsg 0x400 0x06 clsContained false a.toNat ∈ queueOf t 0x400)
  ∧ (∀ (s : State) (j : Job), s.Canon → s.th.job = some j → j.kind = JobKind.record → j.ops = [] → s.th.op = none → j.begun = true →
      ∃ t, exec .calRecordWriteDone s = .next t ∧ flag t CAL_STATUS_WRITING = false ∧ flag t CAL_STATUS_NOREC = false
        ∧ getF t CAL_STATUS_SLOT = (if flag s CAL_STATUS_NOREC then 0 else 1 - getF s CAL_STATUS_SLOT)
        ∧ getF t CAL_SEQ_SEQ = (getF s CAL_SEQ_SEQ + 1) % 2 ^ 32 ∧ flag t CAL_INT_REC_WRITTEN = true ∧ t.th.job = none ∧ t.flash = s.flash)

/-! ### Housekeeping and thermal shutdown -/

/-- R429, R430, R434: a cycle begins at its time and not before. A GO makes an urgent request, and one written while a request stands is refused with URG_BUSY; a host's urgent
conversion ends once its integrations are over (R423), and shows its result and touches no entry. A valid result of an entry whose tests have no actions is filtered: the first as it is, a later one by ⌊(x − y) / 2^FILT⌋; an invalid one leaves y
and clears the counts. -/
def Obligations.HkSequence : Prop :=
  (∀ s : State, flag s HK_CTRL_EN = true → s.th.cycling = false → (∀ t, s.th.cycle = some t → t + 4000000 * hkInterval s ≤ s.elapsed) →
      ∃ t, exec .hkCycleStart s = .next t ∧ t.th.cycle = some s.elapsed ∧ t.mem = s.mem ∧ t.flash = s.flash)
  ∧ (∀ s : State, (flag s HK_CTRL_EN = false ∨ s.th.cycling = true ∨ (∃ t, s.th.cycle = some t ∧ s.elapsed < t + 4000000 * hkInterval s)) →
      exec .hkCycleStart s = .next s)
  ∧ (∀ (s u : State) (w : RegWrite), s.Canon → Granted s w aHK_URG → u = storeWrite (atGrant s w) aHK_URG w.value → w.value.getLsbD 12 = true →
      (s.th.urgent = none → ∃ t, exec (.urgentConversion w) s = .next t ∧ t.th.urgent = some ⟨getF u HK_URG_INPUT, getF u HK_URG_GAIN, getF u HK_URG_NCYC, flag u HK_URG_OWD, false⟩
        ∧ flag t HK_STATUS_URGENT = true ∧ flag t HK_STATUS_BUSY = true ∧ t.th.began = s.elapsed) ∧
      (s.th.urgent.isSome = true → ∃ t, exec (.urgentConversion w) s = .next t ∧ t.th.urgent = s.th.urgent ∧ flag t TH_INT_URG_BUSY = true))
  ∧ (∀ (s : State) (u : Urgent) (r : HkReading), s.Canon → s.th.urgent = some u → u.cal = false → s.th.calQueue = [] →
      (converted s u.input u.ncyc u.owd r = false → exec (.hkConversionDone r) s = .next s) ∧
      (converted s u.input u.ncyc u.owd r = true → ∃ t, exec (.hkConversionDone r) s = .next t ∧ t.th.urgent = none ∧ flag t HK_URG_STAT_DONE = true ∧ flag t HK_STATUS_URGENT = false
        ∧ t.th.entries = s.th.entries ∧ (∀ i < 16, ∀ k < 8, rd t (aHK_ENTRY_w0 i + 4 * k) = rd s (aHK_ENTRY_w0 i + 4 * k))
        ∧ count t (cHK_CNT 1) = (count s (cHK_CNT 1) + 1) % 2 ^ 48))
  ∧ (∀ (s : State) (i : Nat) (x : Int), s.Canon → i < 16 → cellWf (fun _ => HkEntry.init) s.th.entries = true → (∀ k < 3, testActions s i k = 0) →
      getI (filterResult s i x) (HK_ENTRY_w6_FILTERED i)
          = signed 32 (unsigned 32 (if (hkEntryOf s i).fresh then x
              else getI s (HK_ENTRY_w6_FILTERED i) + (x - getI s (HK_ENTRY_w6_FILTERED i)) / 2 ^ getF s (HK_ENTRY_w0_FILT i)))
        ∧ (hkEntryOf (filterResult s i x) i).fresh = false ∧ (hkEntryOf (filterResult s i x) i).last = some s.elapsed
        ∧ (∀ k, k ≠ i → hkEntryOf (filterResult s i x) k = hkEntryOf s k))
  ∧ (∀ (s : State) (i : Nat) (r : HkResult), s.Canon → i < 16 → cellWf (fun _ => HkEntry.init) s.th.entries = true → r.valid = false →
      getI (applyResult s i r) (HK_ENTRY_w6_FILTERED i) = getI s (HK_ENTRY_w6_FILTERED i)
        ∧ hkEntryOf (applyResult s i r) i = { hkEntryOf s i with hiN := 0, loN := 0, rateN := 0 }
        ∧ flag (applyResult s i r) (HK_ENTRY_w7_VALID i) = false)

/-- R432, R440, R441: a sensor that fails is invalid and reported, zone 8 follows the highest valid reading, and a reading at LIMIT, or 10 ms with no valid sensor, decides the shutdown; above
Sleep that leaves nothing in flight whose delivery time lies ahead, and no transition, refuses what comes (R441), with the clamps due after 3 ms. They close once no Tollhouse operation is on the flash, and the device stands in Sleep with the latch
and TARGET 0. -/
def Obligations.ThermalShutdown : Prop :=
  (∀ (s u : State) (rs : List JsReading), u = ((rs.take 12).zipIdx).foldl sensorRead s →
      (hottest u = none → exec (.jsUpdate rs) s = .next (autoWake (calTemps (setF u (TH_ZONE_VALID 8) 0)))) ∧
      (∀ i x, hottest u = some (i, x) → s.Canon → x < (getF s TH_TSD_LIMIT : Int) → pstate s ≠ 0 →
        ∃ t, exec (.jsUpdate rs) s = .next t ∧ t.th.jsSeen = s.elapsed ∧ zoneTemp t 8 = some x ∧ pstate t = pstate s ∧ t.mem = s.mem ∧ t.flash = s.flash) ∧
      (∀ i x, hottest u = some (i, x) → s.Canon → (getF s TH_TSD_LIMIT : Int) ≤ x → 1 ≤ pstate s → flag s TH_STATUS_TSD_PEND = false →
        ∃ t, exec (.jsUpdate rs) s = .next t ∧ flag t TH_STATUS_TSD_PEND = true ∧ flag t TH_INT_TSD = true ∧ getF t TH_TSD_REC_w0_SOURCE = i
          ∧ (∀ q ∈ t.ad.inflight, q.deliver ≤ netNs s) ∧ t.pw.moving = none))
  ∧ (∀ (s : State) (x : JsReading) (i : Nat), s.Canon → QueuesWf s → i < 12 →
      (x.ok = true → -880 ≤ tempOf x.temp.toNat → flag (sensorRead s (x, i)) (TH_JS_VALID i) = true ∧ getF (sensorRead s (x, i)) (TH_JS_TEMP i) = x.temp.toNat) ∧
      (x.ok = false → flag (sensorRead s (x, i)) (TH_JS_VALID i) = false ∧ flag (sensorRead s (x, i)) TH_INT_JS_FAIL = true
        ∧ ((queueOf s 0x401).length < 3 → queueOf (sensorRead s (x, i)) 0x401 = queueOf s 0x401 ++ [faultMsg 0x401 0x53 clsCorrected false i])))
  ∧ (∀ (s : State) (source entry temp : Nat), s.Canon → 1 ≤ pstate s → flag s TH_STATUS_TSD_PEND = false →
      flag (decideTsd s source entry temp) TH_STATUS_TSD_PEND = true ∧ (∀ q ∈ (decideTsd s source entry temp).ad.inflight, q ∈ s.ad.inflight ∧ q.deliver ≤ netNs s)
        ∧ flag (decideTsd s source entry temp) AD_STATUS_NOT_READY = true
        ∧ (decideTsd s source entry temp).pw.moving = none ∧ (decideTsd s source entry temp).dr.routed = []
        ∧ timerAt .tsd (decideTsd s source entry temp).timers = some (s.elapsed + 12000000)
        ∧ flag (decideTsd s source entry temp) TH_TSD_REC_w0_VALID = true ∧ getF (decideTsd s source entry temp) TH_TSD_REC_w0_SOURCE = source % 16)
  ∧ (∀ s : State, s.Canon → pstate s = 0 → flag s TH_STATUS_TSD_LATCH = false → flag s TH_STATUS_TSD_PEND = false → ∀ source entry temp,
      flag (decideTsd s source entry temp) TH_STATUS_TSD_LATCH = true ∧ (decideTsd s source entry temp).timers = s.timers
        ∧ (decideTsd s source entry temp).ad = s.ad)
  ∧ (∀ s : State, s.Canon → (∀ i < 12, flag s (TH_JS_VALID i) = false) → s.th.jsSeen + 40000000 ≤ s.elapsed → 1 ≤ pstate s → flag s TH_STATUS_TSD_PEND = false →
      ∃ t, exec .tsdNoSensorTimeout s = .next t ∧ flag t TH_STATUS_TSD_PEND = true ∧ getF t TH_TSD_REC_w0_SOURCE = 13
        ∧ (∀ q ∈ t.ad.inflight, q.deliver ≤ netNs s))
  ∧ (∀ s : State, s.Canon → flag s TH_STATUS_TSD_PEND = true → due s .tsd = true → s.th.op = none → pstate s ≠ 0 →
      ∃ t, exec .tsdClamp s = .next t ∧ pstate t = 0 ∧ flag t TH_STATUS_TSD_PEND = false ∧ flag t TH_STATUS_TSD_LATCH = true ∧ getF t TH_PCTRL_TARGET = 0
        ∧ (∀ n < 36, clamped t n = true) ∧ t.pw.moving = none ∧ flag t TH_PSTATE_RETAINED = false ∧ t.mem = []
        ∧ flag t TH_STATUS_CLK = false)
  ∧ (∀ s : State, (due s .tsd = false ∨ s.th.op.isSome = true) → exec .tsdClamp s = .next s)

/-! ### The fault collector -/

/-- R450, R451, R453 to R456, R463, R464: the collector records the oldest message of a source, a fatal one without waiting for those before it, and counts it; a corrected message that finds three waiting is dropped and counted. A contained
fault takes a free slot for its window; a window that has passed is escalated, below Ready with nothing but its record; the lead deck clears a slot and no other master does. At the end of
the quiet period the device starts again, or stays blocked. -/
def Obligations.FaultCollector : Prop :=
  (∀ (s : State) (src : SourceCode) (m : BitVec 64) (rest : List (BitVec 64)), queueOf s src = m :: rest → (∀ k ∈ queueOf s src, msgClass k ≠ 3) →
      collectorRuns s = true → exec (.faultRecord src) s = .next (recordFault (setQueue s src rest) m))
  ∧ (∀ (s : State) (src : SourceCode) (m : BitVec 64) (older newer : List (BitVec 64)), queueOf s src = older ++ m :: newer → msgClass m = 3 →
      (∀ k ∈ older, msgClass k ≠ 3) → collectorRuns s = true → exec (.faultRecord src) s = .next (recordFault (setQueue s src (older ++ newer)) m))
  ∧ (∀ (s : State) (src : SourceCode), queueOf s src = [] → exec (.faultRecord src) s = .next s)
  ∧ (∀ (s : State) (m : BitVec 64), s.Canon → msgClass m = 1 → msgKind m < 113 →
      flag (recordFault s m) FC_INT_CORRECTED = true ∧ count (recordFault s m) (cFC_CNT 0) = (count s (cFC_CNT 0) + 1) % 2 ^ 48
        ∧ count (recordFault s m) (cFC_CNT (16 + msgKind m)) = (count s (cFC_CNT (16 + msgKind m)) + 1) % 2 ^ 48
        ∧ recordFault s m = { s with regs := (recordFault s m).regs })
  ∧ (∀ (s : State) (m : BitVec 64), s.Canon → QueuesWf s → msgClass m = 1 →
      (3 ≤ (queueOf s (msgSource m)).length → ∃ t, exec (.correctedDrop m) s = .next t ∧ t.fc = s.fc ∧ flag t FC_INT_OVERFLOW = true
        ∧ count t (cFC_CNT 5) = (count s (cFC_CNT 5) + 1) % 2 ^ 48) ∧
      ((queueOf s (msgSource m)).length < 3 → ∃ t, exec (.correctedDrop m) s = .next t ∧ queueOf t (msgSource m) = queueOf s (msgSource m) ++ [m] ∧ t.regs = s.regs))
  ∧ (∀ (s : State) (m : BitVec 64) (i : Nat), s.Canon → cellWf (fun _ => 0) s.fc.windows = true → freeSlot s = some i →
      flag (openFault s m) (FC_OPEN_w3_VALID i) = true ∧ slotMsg (openFault s m) i = m
        ∧ cellGet (fun _ => 0) (openFault s m).fc.windows i = s.elapsed + 4000 * getF s FC_ESC_WINDOW)
  ∧ (∀ (s : State) (i : OpenSlot), s.Canon → flag s (FC_OPEN_w3_VALID i) = true → windowOver s i = true → pstate s ≤ 1 →
      ∃ t, exec (.escalation i) s = .next t ∧ flag t (FC_OPEN_w3_VALID i) = false ∧ flag t FC_INT_ESCALATED = true ∧ flag t FC_INT_FATAL = true
        ∧ count t (cFC_CNT 3) = (count s (cFC_CNT 3) + 1) % 2 ^ 48 ∧ pstate t = pstate s ∧ t.ad = s.ad)
  ∧ (∀ (s : State) (w : RegWrite) (i : Nat), s.Canon → Granted s w aFC_CLR → i = bitsOf w.value 3 0 →
      (w.master.val ≠ lead s → ∃ t, exec (.faultClear w) s = .next t ∧ flag t FC_INT_CLR_DENIED = true ∧ t.fc = s.fc
        ∧ (∀ k < 16, flag t (FC_OPEN_w3_VALID k) = flag s (FC_OPEN_w3_VALID k))) ∧
      (w.master.val = lead s → windowOver s i = false → ∃ t, exec (.faultClear w) s = .next t ∧ flag t (FC_OPEN_w3_VALID i) = false
        ∧ (∀ k < 16, k ≠ i → flag t (FC_OPEN_w3_VALID k) = flag s (FC_OPEN_w3_VALID k))))
  ∧ (∀ s : State, s.Canon → due s .quiet = true →
      (mayRecover s = false → ∃ t, exec .quietPeriodEnd s = .next t ∧ flag t FC_STATUS_RCV_BLOCKED = true ∧ flag t FC_STATUS_QUIET = false ∧ t.bt = s.bt) ∧
      (mayRecover s = true → ∃ t, exec .quietPeriodEnd s = .next t ∧ t.bt.step = 1 ∧ t.bt.reason = 2 ∧ t.clock = 0 ∧ t.ad.inflight = [] ∧ t.dr.piers = s.dr.piers
        ∧ flag t FC_STATUS_FATAL = true ∧ t.mem = s.mem))

/-! ### Tally -/

/-- R421, R470, R471, R477, R480: a snapshot puts every block counter's words into the active bank and the words that stood there into the other, with its number, 0 for the first. A checkpoint
is fixed and queued at its time. Each second TH_UPTIME advances and the valid zones' temperatures are counted, each hour the failed elements. -/
def Obligations.TallyRows : Prop :=
  (∀ s : State, s.Canon → flag s TY_CTRL_SNAP_EN = true → 2 ≤ pstate s → (armed s .snapshot = false ∨ due s .snapshot = true) →
      ∃ t, exec .tallySnapshot s = .next t ∧ t.ty.bank = snapWords s
        ∧ (∀ i < counterAddrs.length, rd t (aTY_SNAPBANK_w0 i) = rd s (counterAddrs.getD i 0) ∧ rd t (aTY_SNAPBANK_w1 i) = rd s (counterAddrs.getD i 0 + 4))
        ∧ getF t TY_SNAP_SNAPSHOT = (if armed s .snapshot then (getF s TY_SNAP_SNAPSHOT + 1) % 2 ^ 32 else 0)
        ∧ timerAt .snapshot t.timers = some (s.elapsed + 4 * toNextSnapshot s) ∧ t.mem = s.mem ∧ t.ad = s.ad)
  ∧ (∀ s : State, s.Canon → railGood s 0 = true → 2 ≤ pstate s → s.th.logRead = true → due s .checkpoint = true →
      ∃ t, exec .checkpointTimer s = .next t ∧ t.th.jobs = s.th.jobs ++ [⟨.checkpoint, checkpointBody s, 0, false, []⟩] ∧ flag t TY_STATUS_CKPT_PEND = true
        ∧ timerAt .checkpoint t.timers = some (s.elapsed + 4000000000 * getF s TY_CKPT_INTERVAL) ∧ t.flash = s.flash)
  ∧ (∀ (s : State) (z : Nat) (x : Int), s.Canon → z < 9 → zoneTemp s z = some x →
      ∃ t, exec .histSampleSecond s = .next t ∧ t = { s with regs := t.regs }
        ∧ (rd t (aTY_HIST (64 * (if z = 8 then 0 else z + 1) + tempBin x))).toNat
            = min ((rd s (aTY_HIST (64 * (if z = 8 then 0 else z + 1) + tempBin x))).toNat + 1) 0xFFFFFFFF
        ∧ (∀ i, 576 ≤ i → i < 768 → rd t (aTY_HIST i) = rd s (aTY_HIST i)))
  ∧ (∀ s : State, s.Canon → ∃ t, exec .histSampleHour s = .next t ∧ t = { s with regs := t.regs }
        ∧ (rd t (aTY_HIST (704 + min (getF s KS_STATUS_FAILED) 63))).toNat
            = min ((rd s (aTY_HIST (704 + min (getF s KS_STATUS_FAILED) 63))).toNat + 1) 0xFFFFFFFF
        ∧ (∀ a, a ≠ aTY_HIST (704 + min (getF s KS_STATUS_FAILED) 63) → rd t a = rd s a))
  ∧ (∀ s : State, s.Canon → ∃ t, exec .uptimeSecond s = .next t ∧ getF t TH_UPTIME_SECONDS = (getF s TH_UPTIME_SECONDS + 1) % 2 ^ 32
        ∧ t.mem = s.mem ∧ t.flash = s.flash ∧ t.ad = s.ad ∧ t.elapsed = s.elapsed)

/-- R476: a lifetime counter ends at 0xFFFF_FFFF. As it reaches that value, and only then, its bit of the mask and LT_SAT are set, so a counter that stands there raises no event. A
checkpoint begins with the mask and holds no remainder. -/
def Obligations.LifetimeCounters : Prop :=
  (∀ (s : State) (i n : Nat), s.Canon → i < 128 →
      (rd (lifeBy s i n) (aTY_LT i)).toNat = min ((rd s (aTY_LT i)).toNat + n) 0xFFFFFFFF
        ∧ (∀ k < 128, k ≠ i → rd (lifeBy s i n) (aTY_LT k) = rd s (aTY_LT k)))
  ∧ (∀ (s : State) (i n : Nat), s.Canon → i < 128 → (rd s (aTY_LT i)).toNat < 0xFFFFFFFF → 0xFFFFFFFF ≤ (rd s (aTY_LT i)).toNat + n →
      (lifeBy s i n).ty.mask = s.ty.mask ||| 2 ^ i ∧ flag (lifeBy s i n) TY_INT_LT_SAT = true)
  ∧ (∀ (s : State) (i n : Nat), s.Canon → i < 128 → ((rd s (aTY_LT i)).toNat = 0xFFFFFFFF ∨ (rd s (aTY_LT i)).toNat + n < 0xFFFFFFFF) →
      (lifeBy s i n).ty = s.ty ∧ flag (lifeBy s i n) TY_INT_LT_SAT = flag s TY_INT_LT_SAT)
  ∧ (∀ s : State, (checkpointBody s).take 16 = leBytes 16 s.ty.mask)
  ∧ (∀ (s : State) (r : List (Nat × Nat)), checkpointBody { s with ty := { s.ty with remainders := r } } = checkpointBody s)

/-! ### Transient capture -/

/-- R485 to R489, R493, R494: ARM clears the capture memory and the segments and begins segment 0; STOP ends a post-fill; FORCE is trigger source 0; an edge on a trigger line is source 4 or 5,
with its compensation. An accepted trigger in the armed state fixes the segment's time and begins post-fill, and during pre-fill it is counted as ignored. The store empties the queue in
order. -/
def Obligations.CaptureRows : Prop :=
  (∀ (s u : State) (w : RegWrite), Granted s w aTC_CTRL → u = storeWrite (atGrant s w) aTC_CTRL w.value →
      (w.value.getLsbD 0 = true → exec (.captureArm w) s = .next (tcCtrlWritten u w.value)) ∧
      (w.value.getLsbD 0 = false → w.value.getLsbD 1 = true → exec (.captureStop w) s = .next (tcCtrlWritten u w.value)) ∧
      (w.value.getLsbD 0 = false → w.value.getLsbD 1 = false → w.value.getLsbD 2 = true →
        exec (.captureForce w) s = .next (if flag (offerTrigger u 0 0) TC_CTRL_CSYNC_EN then offerTrigger u 0 0 else setF (offerTrigger u 0 0) TC_STATUS_CSYNC_LOST 0)))
  ∧ (∀ u : State, u.Canon → tcState (captureArm u) = (if segPre u = 0 then 2 else 1) ∧ getF (captureArm u) TC_STATUS_SEG = 0 ∧ (captureArm u).tc.queue = []
      ∧ (∀ n < 64, flag (captureArm u) (TC_SEG_w3_VALID n) = false) ∧ getF (captureArm u) TC_STATUS_D = getF u TC_CTRL_DECIM
      ∧ (∀ a, capBase ≤ a → a < capBase + 0x800000 → cellGet memDefault (captureArm u).mem a = memDefault a)
      ∧ (∀ a, a < capBase ∨ capBase + 0x800000 ≤ a → cellGet memDefault (captureArm u).mem a = cellGet memDefault u.mem a))
  ∧ (∀ u : State, u.Canon → tcState u = 3 → (flag u TC_CTRL_REARM = false ∨ getF u TC_CTRL_SEGS ≤ getF u TC_STATUS_SEG) →
      tcState (captureStop u) = 4 ∧ flag (captureStop u) TC_INT_DONE = true)
  ∧ (∀ u : State, tcState u ≠ 3 → captureStop u = u)
  ∧ (∀ (s : State) (src comp : Nat), s.Canon → src < 8 → (getF s TC_TRIG_SRC).testBit src = true → s.tc.lastTrig ≠ some (s.elapsed / 5) →
      (tcState s = 2 → tcState (offerTrigger s src comp) = 3 ∧ (offerTrigger s src comp).tc.trig = some (netNs s - comp)
        ∧ flag (offerTrigger s src comp) (TC_SEG_w3_VALID (getF s TC_STATUS_SEG)) = true ∧ flag (offerTrigger s src comp) TC_INT_TRIG = true
        ∧ count (offerTrigger s src comp) (cTC_CNT 0) = (count s (cTC_CNT 0) + 1) % 2 ^ 48) ∧
      (tcState s = 1 → flag (offerTrigger s src comp) TC_INT_IGNORED = true ∧ tcState (offerTrigger s src comp) = 1
        ∧ count (offerTrigger s src comp) (cTC_CNT 1) = (count s (cTC_CNT 1) + 1) % 2 ^ 48))
  ∧ (∀ (s : State) (src comp : Nat), (getF s TC_TRIG_SRC).testBit src = false → offerTrigger s src comp = s)
  ∧ (∀ s : State, s.tc.queue = [] → exec .captureStore s = .next s)
  ∧ (∀ s : State, s.Canon → s.tc.queue ≠ [] → tcState s = 2 → ∃ t, exec .captureStore s = .next t ∧ t.tc.queue = s.tc.queue.drop 1 ∧ tcState t = 2)
  ∧ (∀ (s : State) (line : Fin 2), s.Canon → (getF s TC_TRIG_SRC).testBit (4 + line.val) = true → tcState s = 2 → s.tc.lastTrig ≠ some (s.elapsed / 5) →
      ∃ t, exec (.trigBusEdge line) s = .next t ∧ tcState t = 3 ∧ flag t TC_STATUS_CSYNC_LOST = false
        ∧ t.tc.trig = some (netNs s - (if line.val = 0 then getF s TC_BUS_COMP0 else getF s TC_BUS_COMP1)))
  ∧ (∀ s : State, s.Canon → flag s TC_CTRL_CSYNC_EN = true → ∃ t, exec .csyncLost s = .next t ∧ flag t TC_STATUS_CSYNC_LOST = true ∧ t = { s with regs := t.regs })
  ∧ (∀ (s : State) (line : Fin 2), due s (.trigDrive line) = true → ∃ t, exec (.trigDriveEnd line) s = .next t ∧ armed t (.trigDrive line) = false
      ∧ t = { s with timers := t.timers })
end

