-- ==== Sys2Proof/Laws/Store.lean ====
section
/-!
SUPPORT. Laws/Store.lean: the laws of sparse tables: reading after writing, and that every operation keeps the canonical form.
-/
namespace Sys2Proof.Machine

variable {α : Type} [DecidableEq α] (d : Nat → α)

omit [DecidableEq α] in
/-- A key that lies above every listed key is not listed. -/
theorem cellGet_above (l : List (Nat × α)) (lo k : Nat) (h : cellAbove lo l = true) (hk : k ≤ lo) : cellGet d l k = d k := by
  induction l with
  | nil => rfl
  | cons e t ih =>
    obtain ⟨k', v⟩ := e
    simp only [cellAbove, Bool.and_eq_true, decide_eq_true_eq] at h
    have : k ≠ k' := by omega
    simp only [cellGet, this, if_false]
    exact ih h.2

omit [DecidableEq α] in
/-- A lower bound may be lowered. -/
theorem cellAbove_mono (l : List (Nat × α)) (a b : Nat) (h : cellAbove a l = true) (hb : b ≤ a) : cellAbove b l = true := by
  induction l with
  | nil => rfl
  | cons e t ih =>
    simp only [cellAbove, Bool.and_eq_true, decide_eq_true_eq] at h ⊢
    exact ⟨by omega, ih h.2⟩

/-- A written key reads as what was written. -/
theorem cellGet_cellPut_same (l : List (Nat × α)) (k : Nat) (v : α) (h : cellWf d l = true) : cellGet d (cellPut d l k v) k = v := by
  induction l with
  | nil =>
    simp only [cellPut]
    split <;> simp_all [cellGet]
  | cons e t ih =>
    obtain ⟨k', v'⟩ := e
    simp only [cellWf, Bool.and_eq_true, decide_eq_true_eq] at h
    simp only [cellPut]
    split_ifs with h1 h2 h3 h4
    · have : k ≠ k' := by omega
      simp only [cellGet, this, if_false]
      rw [cellGet_above d t k' k h.1.1 (by omega), h2]
    · simp [cellGet]
    · subst h3
      rw [cellGet_above d t k k h.1.1 (le_refl k), h4]
    · simp [cellGet]
    · simp only [cellGet, h3, if_false]
      exact ih h.2

/-- Every other key reads as before. -/
theorem cellGet_cellPut_other (l : List (Nat × α)) (k j : Nat) (v : α) (h : j ≠ k) : cellGet d (cellPut d l k v) j = cellGet d l j := by
  induction l with
  | nil =>
    simp only [cellPut]
    split <;> simp [cellGet, h]
  | cons e t ih =>
    obtain ⟨k', v'⟩ := e
    simp only [cellPut]
    split_ifs with h1 h2 h3 h4
    · rfl
    · simp [cellGet, h]
    · subst h3
      simp [cellGet, h]
    · subst h3
      simp [cellGet, h]
    · simp only [cellGet]
      rw [ih]

/-- A write adds no key below a bound it lies above. -/
theorem cellAbove_cellPut (l : List (Nat × α)) (lo k : Nat) (v : α) (h : cellAbove lo l = true) (hk : lo < k) :
    cellAbove lo (cellPut d l k v) = true := by
  induction l with
  | nil =>
    simp only [cellPut]
    split <;> simp [cellAbove, hk]
  | cons e t ih =>
    obtain ⟨k', v'⟩ := e
    simp only [cellAbove, Bool.and_eq_true, decide_eq_true_eq] at h
    simp only [cellPut]
    split_ifs <;> simp_all [cellAbove]

/-- A write keeps the canonical form. -/
theorem cellWf_cellPut (l : List (Nat × α)) (k : Nat) (v : α) (h : cellWf d l = true) : cellWf d (cellPut d l k v) = true := by
  induction l with
  | nil =>
    simp only [cellPut]
    split <;> simp_all [cellWf, cellAbove]
  | cons e t ih =>
    obtain ⟨k', v'⟩ := e
    have h' := h
    simp only [cellWf, Bool.and_eq_true, decide_eq_true_eq] at h
    simp only [cellPut]
    split_ifs with h1 h2 h3 h4
    · exact h'
    · simp only [cellWf, cellAbove, Bool.and_eq_true, decide_eq_true_eq]
      exact ⟨⟨⟨h1, cellAbove_mono t k' k h.1.1 (by omega)⟩, h2⟩, h.1, h.2⟩
    · exact h.2
    · subst h3
      simp only [cellWf, Bool.and_eq_true, decide_eq_true_eq]
      exact ⟨⟨h.1.1, h4⟩, h.2⟩
    · simp only [cellWf, Bool.and_eq_true, decide_eq_true_eq]
      exact ⟨⟨cellAbove_cellPut d t k' k v h.1.1 (by omega), h.1.2⟩, ih h.2⟩

omit [DecidableEq α] in
/-- Dropping entries keeps a bound. -/
theorem cellAbove_cellDrop (p : Nat → Bool) (l : List (Nat × α)) (lo : Nat) (h : cellAbove lo l = true) : cellAbove lo (cellDrop p l) = true := by
  induction l with
  | nil => rfl
  | cons e t ih =>
    simp only [cellAbove, Bool.and_eq_true, decide_eq_true_eq] at h
    simp only [cellDrop, List.filter_cons] at ih ⊢
    split
    · simp only [cellAbove, Bool.and_eq_true, decide_eq_true_eq]
      exact ⟨h.1, ih h.2⟩
    · exact ih h.2

/-- Dropping entries keeps the canonical form. -/
theorem cellWf_cellDrop (p : Nat → Bool) (l : List (Nat × α)) (h : cellWf d l = true) : cellWf d (cellDrop p l) = true := by
  induction l with
  | nil => rfl
  | cons e t ih =>
    simp only [cellWf, Bool.and_eq_true, decide_eq_true_eq] at h
    simp only [cellDrop, List.filter_cons] at ih ⊢
    split
    · simp only [cellWf, Bool.and_eq_true, decide_eq_true_eq]
      exact ⟨⟨cellAbove_cellDrop p t e.1 h.1.1, h.1.2⟩, ih h.2⟩
    · exact ih h.2

omit [DecidableEq α] in
/-- After a drop a key reads as its default where it was dropped, and as before elsewhere. -/
theorem cellGet_cellDrop (p : Nat → Bool) (l : List (Nat × α)) (k : Nat) :
    cellGet d (cellDrop p l) k = if p k then d k else cellGet d l k := by
  induction l with
  | nil => simp [cellDrop, cellGet]
  | cons e t ih =>
    obtain ⟨k', v⟩ := e
    simp only [cellDrop, List.filter_cons] at ih ⊢
    by_cases hk : k = k'
    · subst hk
      by_cases hp : p k = true
      · simp [hp] at ih ⊢
        exact ih
      · simp [hp, cellGet]
    · by_cases hp : p k' = true
      · simp only [hp, Bool.not_true, Bool.false_eq_true, if_false, cellGet, hk]
        exact ih
      · simp only [hp, Bool.not_false, if_true, cellGet, hk, if_false]
        exact ih

end Sys2Proof.Machine
end

