-- ==== Sys2Proof/Laws/Ops.lean ====
section
/-!
SUPPORT. Laws/Ops.lean: what the shared operations on registers, memories and deadlines do: a field reads as written, every other field as before.
-/
namespace Sys2Proof.Machine

/-! ### Bits -/

/-- A bit of a field. -/
theorem testBit_bitsOf (w : Word) (hi lo i : Nat) : (bitsOf w hi lo).testBit i = (decide (i < width hi lo) && w.getLsbD (lo + i)) := by
  simp [bitsOf, Nat.testBit_mod_two_pow, Nat.testBit_div_two_pow, BitVec.getLsbD, Nat.add_comm]

/-- A bit of a word in which a field was replaced. -/
theorem getLsbD_withBits (w : Word) (hi lo v i : Nat) (h : i < 32) :
    (withBits w hi lo v).getLsbD i = if lo ≤ i ∧ i - lo < width hi lo then v.testBit (i - lo) else w.getLsbD i := by
  have hm : ∀ a n : Nat, (a * 2 ^ n).testBit i = (decide (n ≤ i) && a.testBit (i - n)) := fun a n => by
    rw [Nat.mul_comm]; exact Nat.testBit_two_pow_mul
  simp only [withBits, fieldMask, BitVec.getLsbD_or, BitVec.getLsbD_and, BitVec.getLsbD_not, BitVec.getLsbD_ofNat, h, decide_true, Bool.true_and, hm,
    Nat.testBit_two_pow_sub_one, Nat.testBit_mod_two_pow]
  by_cases h1 : lo ≤ i <;> by_cases h2 : i - lo < width hi lo <;> simp [h1, h2]

/-- A replaced field reads as its new value. -/
theorem bitsOf_withBits_same (w : Word) (hi lo v : Nat) (h : hi < 32) : bitsOf (withBits w hi lo v) hi lo = v % 2 ^ width hi lo := by
  apply Nat.eq_of_testBit_eq
  intro i
  rw [testBit_bitsOf, Nat.testBit_mod_two_pow]
  by_cases hi' : i < width hi lo
  · have : lo + i < 32 := by unfold width at hi'; omega
    rw [getLsbD_withBits _ _ _ _ _ this]
    simp [hi']
  · simp [hi']

/-- A field that shares no bit with the replaced one reads as before. -/
theorem bitsOf_withBits_other (w : Word) (hi lo v hi' lo' : Nat) (h : hi' < 32) (hd : hi' < lo ∨ hi < lo') :
    bitsOf (withBits w hi lo v) hi' lo' = bitsOf w hi' lo' := by
  apply Nat.eq_of_testBit_eq
  intro i
  rw [testBit_bitsOf, testBit_bitsOf]
  by_cases hw : i < width hi' lo'
  · have h32 : lo' + i < 32 := by unfold width at hw; omega
    rw [getLsbD_withBits _ _ _ _ _ h32, if_neg]
    unfold width at hw ⊢
    omega
  · simp [hw]

/-- A field's value fits its width. -/
theorem bitsOf_lt (w : Word) (hi lo : Nat) : bitsOf w hi lo < 2 ^ width hi lo := Nat.mod_lt _ (Nat.two_pow_pos _)

/-! ### Registers -/

/-- The register table is in canonical form. -/
abbrev State.RegsWf (s : State) : Prop := cellWf resetWord s.regs = true

/-- A register write keeps the table's canonical form. -/
@[simp] theorem regsWf_wr (s : State) (a : Nat) (v : Word) (h : s.RegsWf) : (wr s a v).RegsWf := cellWf_cellPut _ _ _ _ h

/-- A register reads as written. -/
theorem rd_wr_same (s : State) (a : Nat) (v : Word) (h : s.RegsWf) : rd (wr s a v) a = v := cellGet_cellPut_same _ _ _ _ h

/-- Every other register reads as before. -/
theorem rd_wr_other (s : State) (a b : Nat) (v : Word) (h : b ≠ a) : rd (wr s a v) b = rd s b := cellGet_cellPut_other _ _ _ _ _ h

/-- A field write keeps the table's canonical form. -/
@[simp] theorem regsWf_setF (s : State) (f : Fld) (v : Nat) (h : s.RegsWf) : (setF s f v).RegsWf := regsWf_wr _ _ _ h

/-- A field reads as written. -/
theorem getF_setF_same (s : State) (f : Fld) (v : Nat) (h : s.RegsWf) (hf : f.hi < 32) : getF (setF s f v) f = v % 2 ^ width f.hi f.lo := by
  simp only [getF, setF, rd_wr_same _ _ _ h, bitsOf_withBits_same _ _ _ _ hf]

/-- A field of another register reads as before. -/
theorem getF_setF_addr (s : State) (f g : Fld) (v : Nat) (h : g.addr ≠ f.addr) : getF (setF s f v) g = getF s g := by
  simp only [getF, setF, rd_wr_other _ _ _ _ h]

/-- A field with no bit in common reads as before. -/
theorem getF_setF_bits (s : State) (f g : Fld) (v : Nat) (h : s.RegsWf) (hg : g.hi < 32) (hd : g.hi < f.lo ∨ f.hi < g.lo) :
    getF (setF s f v) g = getF s g := by
  by_cases ha : g.addr = f.addr
  · simp only [getF, setF, ha, rd_wr_same _ _ _ h, bitsOf_withBits_other _ _ _ _ _ _ hg hd]
  · exact getF_setF_addr s f g v ha

/-- A register outside a field write reads as before. -/
theorem rd_setF_other (s : State) (f : Fld) (v b : Nat) (h : b ≠ f.addr) : rd (setF s f v) b = rd s b := rd_wr_other _ _ _ _ h

/-- A one-bit field reads as it was set. -/
theorem flag_setFlag_same (s : State) (f : Fld) (b : Bool) (h : s.RegsWf) (hf : f.hi < 32) (hw : f.lo ≤ f.hi) : flag (setFlag s f b) f = b := by
  have : 2 ≤ 2 ^ width f.hi f.lo := by
    have : 1 ≤ width f.hi f.lo := by unfold width; omega
    calc 2 = 2 ^ 1 := rfl
      _ ≤ _ := Nat.pow_le_pow_right (by decide) this
  simp only [flag, setFlag, getF_setF_same _ _ _ h hf]
  cases b
  · simp
  · simp [Nat.mod_eq_of_lt (show 1 < 2 ^ width f.hi f.lo by omega)]

/-- An event bit reads 1 once set. -/
theorem flag_event_same (s : State) (f : Fld) (h : s.RegsWf) (hf : f.hi < 32) (hw : f.lo ≤ f.hi) : flag (event s f) f = true :=
  flag_setFlag_same s f true h hf hw

/-! ### Counters (R467) -/

/-- A counter write keeps the table's canonical form. -/
@[simp] theorem regsWf_bumpBy (s : State) (a n : Nat) (h : s.RegsWf) : (bumpBy s a n).RegsWf := regsWf_wr _ _ _ (regsWf_wr _ _ _ h)

/-- Registers outside a counter read as before. -/
theorem rd_bumpBy_other (s : State) (a n b : Nat) (h : b ≠ a) (h4 : b ≠ a + 4) : rd (bumpBy s a n) b = rd s b := by
  simp only [bumpBy, rd_wr_other _ _ _ _ h4, rd_wr_other _ _ _ _ h]

/-- Fields outside a counter read as before. -/
theorem getF_bumpBy_other (s : State) (a n : Nat) (g : Fld) (h : g.addr ≠ a) (h4 : g.addr ≠ a + 4) : getF (bumpBy s a n) g = getF s g := by
  simp only [getF, rd_bumpBy_other _ _ _ _ h h4]

/-- An advanced counter shows the sum modulo 2^48 (R467). -/
theorem count_bumpBy (s : State) (a n : Nat) (h : s.RegsWf) : count (bumpBy s a n) a = (count s a + n) % 2 ^ 48 := by
  have h4 : a ≠ a + 4 := by omega
  have hw : (wr s a (BitVec.ofNat 32 (count s a + n))).RegsWf := regsWf_wr _ _ _ h
  have hb : ∀ w : Word, bitsOf (if 2 ^ 48 ≤ count s a + n then withBits (withBits w 15 0 ((count s a + n) / 2 ^ 32)) 31 31 1
      else withBits w 15 0 ((count s a + n) / 2 ^ 32)) 15 0 = (count s a + n) / 2 ^ 32 % 2 ^ 16 := by
    intro w
    split
    · rw [bitsOf_withBits_other _ 31 31 1 15 0 (by decide) (Or.inl (by decide)), bitsOf_withBits_same _ _ _ _ (by decide)]
      rfl
    · rw [bitsOf_withBits_same _ _ _ _ (by decide)]
      rfl
  have h2 : count (bumpBy s a n) a = (BitVec.ofNat 32 (count s a + n)).toNat + 2 ^ 32 * ((count s a + n) / 2 ^ 32 % 2 ^ 16) := by
    conv_lhs => unfold count bumpBy
    simp only []
    rw [rd_wr_other _ _ _ _ h4, rd_wr_same _ _ _ h, rd_wr_same _ _ _ hw, hb]
  rw [h2, BitVec.toNat_ofNat]
  omega

/-! ### Memories -/

/-- A byte reads as written. -/
theorem rdByte_wrByte_same (s : State) (a : Nat) (v : Byte) (h : cellWf memDefault s.mem = true) : rdByte (wrByte s a v) a = v :=
  cellGet_cellPut_same _ _ _ _ h

/-- Every other byte reads as before. -/
theorem rdByte_wrByte_other (s : State) (a b : Nat) (v : Byte) (h : b ≠ a) : rdByte (wrByte s a v) b = rdByte s b :=
  cellGet_cellPut_other _ _ _ _ _ h

/-- A byte write keeps the memories' canonical form. -/
@[simp] theorem memWf_wrByte (s : State) (a : Nat) (v : Byte) (h : cellWf memDefault s.mem = true) : cellWf memDefault (wrByte s a v).mem = true :=
  cellWf_cellPut _ _ _ _ h

/-- Bytes outside a block write read as before. -/
theorem rdByte_wrBytes_other (bs : List Byte) (s : State) (a b : Nat) (h : b < a ∨ a + bs.length ≤ b) : rdByte (wrBytes s a bs) b = rdByte s b := by
  induction bs generalizing s a with
  | nil => rfl
  | cons v t ih =>
    simp only [List.length_cons] at h
    simp only [wrBytes]
    rw [ih _ _ (by omega), rdByte_wrByte_other _ _ _ _ (by omega)]

/-- A block write keeps the memories' canonical form. -/
theorem memWf_wrBytes (bs : List Byte) (s : State) (a : Nat) (h : cellWf memDefault s.mem = true) : cellWf memDefault (wrBytes s a bs).mem = true := by
  induction bs generalizing s a with
  | nil => exact h
  | cons v t ih => exact ih _ _ (memWf_wrByte _ _ _ h)

/-! ### Deadlines -/

/-- A timer armed for an instant is armed for it. -/
@[simp] theorem timerAt_armAt_same (s : State) (t : Timer) (n : Nat) : timerAt t (armAt s t n).timers = some n := by simp [armAt, timerAt]

/-- Taking a timer out leaves every other as it was. -/
theorem timerAt_filter (l : List (Timer × Nat)) (t u : Timer) : timerAt u (l.filter (fun e => decide (e.1 ≠ t))) = if u = t then none else timerAt u l := by
  induction l with
  | nil => simp [timerAt]
  | cons e r ih =>
    obtain ⟨t', n⟩ := e
    by_cases h1 : t' = t
    · subst h1
      by_cases h2 : u = t' <;> simp_all [timerAt]
    · by_cases h2 : u = t'
      · subst h2
        simp [h1, timerAt]
      · by_cases h3 : u = t <;> simp_all [timerAt]

/-- A disarmed timer is not armed. -/
@[simp] theorem timerAt_disarm_same (s : State) (t : Timer) : timerAt t (disarm s t).timers = none := by
  unfold disarm
  rw [timerAt_filter]
  simp

/-- Every other timer stands as it was. -/
theorem timerAt_armAt_other (s : State) (t u : Timer) (n : Nat) (h : u ≠ t) : timerAt u (armAt s t n).timers = timerAt u s.timers := by
  have := timerAt_filter s.timers t u
  simp only [h, if_false] at this
  simp only [armAt, timerAt, h, if_false]
  exact this

end Sys2Proof.Machine
end

