-- ==== Sys2Proof/Laws/Bus.lean ====
section
/-!
SUPPORT. Laws/Bus.lean: a write that the matrix grants at once is the register's own write, window by window.
-/
namespace Sys2Proof.Machine

/-- A granted write is the register's own write. -/
theorem rowWrite_granted (s : State) (a : Nat) (w : RegWrite) (h : Granted s w a) :
    rowWrite s a w = (regWritten (atGrant s w) w.master.val (mayFlash s w.master.val) a w.value).1 := by
  obtain ⟨h1, h2, h3, h4, h5⟩ := h
  have hd : ¬ (w.master.val = 11 ∧ debugLocked s = true) := fun ⟨x, y⟩ => by simp [h3 x] at y
  simp only [atGrant] at h4 h5
  simp only [rowWrite, busWrite, hd, if_false, arbitrate, h1, h2, true_or, if_true, h4, placeWrite, h5, atGrant]

/-- A window that ends at or below the address is passed over. -/
theorem above_window {α : Type} {a b : Nat} {x y : α} (h : b ≤ a) : (if a < b then x else y) = y := if_neg (Nat.not_lt.mpr h)

/-- The window that the address lies in answers. -/
theorem in_window {α : Type} {a b : Nat} {x y : α} (h : a < b) : (if a < b then x else y) = x := if_pos h

/-- The windows by their addresses (R507). -/
theorem regWritten_windows (s : State) (m : Nat) (f : Bool) (a : Nat) (v : Word) : regWritten s m f a v =
    if a < 0x40000000 then (s, false)
    else if a < 0x64000000 then (spanWrite s ((a - 0x40000000) / 0x1000000) a v, false)
    else if a < 0xE0010000 then (tgWrite s a v, false)
    else if a < 0xE0020000 then (adWrite s a v, false)
    else if a < 0xE0030000 then (ntWrite s a v, false)
    else if a < 0xE0040000 then (ksWrite s a v, false)
    else if a < 0xE0050000 then (dkWrite s a v, false)
    else if a < 0xE0060000 then (fcWrite s m a v, false)
    else if a < 0xE0070000 then (storeWrite s a v, false)
    else if a < 0xE0080000 then (tcWrite s a v, false)
    else if a < 0xE0090000 then (storeWrite s a v, false)
    else if a < 0xE00A0000 then nvWrite s f a v
    else if a < 0xE0100000 then (storeWrite s a v, false)
    else if a < 0xE0160000 then (cpWrite s ((a - 0xE0100000) / 0x10000) a v, false)
    else (thWrite s a v, false) := rfl

/-- A write to the Tollgate's window. -/
theorem regWritten_tg (s : State) (m : Nat) (f : Bool) (a : Nat) (v : Word) (h : 0x64000000 ≤ a ∧ a < adBase) :
    regWritten s m f a v = (tgWrite s a v, false) := by
  have h : 0x64000000 ≤ a ∧ a < 0xE0010000 := h
  simp (disch := omega) only [regWritten_windows, above_window, in_window]

/-- A write to the window of admission and lanes. -/
theorem regWritten_ad (s : State) (m : Nat) (f : Bool) (a : Nat) (v : Word) (h : adBase ≤ a ∧ a < ntBase) :
    regWritten s m f a v = (adWrite s a v, false) := by
  have h : 0xE0010000 ≤ a ∧ a < 0xE0020000 := h
  simp (disch := omega) only [regWritten_windows, above_window, in_window]

/-- A write to the window of network time and the lift schedule. -/
theorem regWritten_nt (s : State) (m : Nat) (f : Bool) (a : Nat) (v : Word) (h : ntBase ≤ a ∧ a < ksBase) :
    regWritten s m f a v = (ntWrite s a v, false) := by
  have h : 0xE0020000 ≤ a ∧ a < 0xE0030000 := h
  simp (disch := omega) only [regWritten_windows, above_window, in_window]

/-- A write to Keystone's window. -/
theorem regWritten_ks (s : State) (m : Nat) (f : Bool) (a : Nat) (v : Word) (h : ksBase ≤ a ∧ a < dkBase) :
    regWritten s m f a v = (ksWrite s a v, false) := by
  have h : 0xE0030000 ≤ a ∧ a < 0xE0040000 := h
  simp (disch := omega) only [regWritten_windows, above_window, in_window]

/-- A write to the decks' window. -/
theorem regWritten_dk (s : State) (m : Nat) (f : Bool) (a : Nat) (v : Word) (h : dkBase ≤ a ∧ a < fcBase) :
    regWritten s m f a v = (dkWrite s a v, false) := by
  have h : 0xE0040000 ≤ a ∧ a < 0xE0050000 := h
  simp (disch := omega) only [regWritten_windows, above_window, in_window]

/-- A write to a span's window. -/
theorem regWritten_span (s : State) (m : Nat) (f : Bool) (a : Nat) (v : Word) (h : 0x40000000 ≤ a ∧ a < 0x64000000) :
    regWritten s m f a v = (spanWrite s ((a - 0x40000000) / 0x1000000) a v, false) := by
  simp (disch := omega) only [regWritten_windows, above_window, in_window]

/-- A write to the collector's window. -/
theorem regWritten_fc (s : State) (m : Nat) (f : Bool) (a : Nat) (v : Word) (h : fcBase ≤ a ∧ a < tyBase) :
    regWritten s m f a v = (fcWrite s m a v, false) := by
  have h : 0xE0050000 ≤ a ∧ a < 0xE0060000 := h
  simp (disch := omega) only [regWritten_windows, above_window, in_window]

/-- A write to the capture unit's window. -/
theorem regWritten_tc (s : State) (m : Nat) (f : Bool) (a : Nat) (v : Word) (h : tcBase ≤ a ∧ a < bmBase) :
    regWritten s m f a v = (tcWrite s a v, false) := by
  have h : 0xE0070000 ≤ a ∧ a < 0xE0080000 := h
  simp (disch := omega) only [regWritten_windows, above_window, in_window]

/-- A write to the NVM window. -/
theorem regWritten_nv (s : State) (m : Nat) (f : Bool) (a : Nat) (v : Word) (h : nvBase ≤ a ∧ a < fuBase) :
    regWritten s m f a v = nvWrite s f a v := by
  have h : 0xE0090000 ≤ a ∧ a < 0xE00A0000 := h
  simp (disch := omega) only [regWritten_windows, above_window, in_window]

/-- A write to a control port's window. -/
theorem regWritten_cp (s : State) (m : Nat) (f : Bool) (a : Nat) (v : Word) (h : 0xE0100000 ≤ a ∧ a < 0xE0160000) :
    regWritten s m f a v = (cpWrite s ((a - 0xE0100000) / 0x10000) a v, false) := by
  simp (disch := omega) only [regWritten_windows, above_window, in_window]

/-- A write to the Tollhouse's window. -/
theorem regWritten_th (s : State) (m : Nat) (f : Bool) (a : Nat) (v : Word) (h : 0xE0160000 ≤ a) :
    regWritten s m f a v = (thWrite s a v, false) := by
  simp (disch := omega) only [regWritten_windows, above_window]

end Sys2Proof.Machine
end

