-- ==== Sys2Proof/Laws/Canon.lean ====
section
/-!
SUPPORT. Laws/Canon.lean: every shared update of the state keeps the canonical form of its tables. A meaning is a chain of these updates.
-/
namespace Sys2Proof.Machine

/-- Every table of the state stands in its canonical form. -/
abbrev State.Good (s : State) : Prop := s.Canon ∧ s.Tables

variable {s : State}

/-- A register write. -/
theorem good_wr (a : Nat) (v : Word) (h : s.Good) : (wr s a v).Good := ⟨⟨cellWf_cellPut _ _ _ _ h.1.1, h.1.2⟩, h.2⟩

/-- A field. -/
theorem good_setF (f : Fld) (v : Nat) (h : s.Good) : (setF s f v).Good := good_wr _ _ h

/-- A flag. -/
theorem good_setFlag (f : Fld) (b : Bool) (h : s.Good) : (setFlag s f b).Good := good_wr _ _ h

/-- An event flag. -/
theorem good_event (f : Fld) (h : s.Good) : (event s f).Good := good_wr _ _ h

/-- A block counter. -/
theorem good_bumpBy (a n : Nat) (h : s.Good) : (bumpBy s a n).Good := good_wr _ _ (good_wr _ _ h)

/-- A block counter, once. -/
theorem good_bump (a : Nat) (h : s.Good) : (bump s a).Good := good_bumpBy _ _ h

/-- A histogram. -/
theorem good_histogram (k b : Nat) (h : s.Good) : (histogram s k b).Good := good_wr _ _ h

/-- What a write stores. -/
theorem good_storeWrite (a : Nat) (v : Word) (h : s.Good) : (storeWrite s a v).Good := by
  unfold storeWrite; split
  · exact good_wr _ _ h
  · exact h

/-- A byte of a memory. -/
theorem good_wrByte (a : Nat) (v : Byte) (h : s.Good) : (wrByte s a v).Good := ⟨⟨h.1.1, cellWf_cellPut _ _ _ _ h.1.2.1, h.1.2.2⟩, h.2⟩

/-- A run of bytes of a memory. -/
theorem good_wrBytes (bs : List Byte) : ∀ (s : State) (a : Nat), s.Good → (wrBytes s a bs).Good := by
  induction bs with
  | nil => intro s a h; exact h
  | cons b bs ih => intro s a h; exact ih _ _ (good_wrByte _ _ h)

/-- A value of a memory. -/
theorem good_wrMem (a n v : Nat) (h : s.Good) : (wrMem s a n v).Good := good_wrBytes _ _ _ h

/-- A word of a memory. -/
theorem good_putWord (a : Nat) (w : Word) (h : s.Good) : (putWord s a w).Good := good_wrMem _ _ _ h

/-- A field of a record. -/
theorem good_putM (a : Nat) (f : MFld) (v : Nat) (h : s.Good) : (putM s a f v).Good := by
  unfold putM; exact good_putWord _ _ h

/-- A signed field of a record. -/
theorem good_putMI (a : Nat) (f : MFld) (v : Int) (h : s.Good) : (putMI s a f v).Good := good_putM _ _ _ h

/-- A deadline is no table. -/
theorem good_armAt (t : Timer) (n : Nat) (h : s.Good) : (armAt s t n).Good := h

/-- A deadline from now. -/
theorem good_armIn (t : Timer) (n : Nat) (h : s.Good) : (armIn s t n).Good := h

/-- A deadline taken away. -/
theorem good_disarm (t : Timer) (h : s.Good) : (disarm s t).Good := h

/-- A free value. -/
theorem good_fresh (m : Nat) (h : s.Good) : (fresh s m).2.Good := h

/-- A source's queue. -/
theorem good_setQueue (n : Nat) (q : List (BitVec 64)) (h : s.Good) : (setQueue s n q).Good := by
  obtain ⟨hc, h1, h2, h3, h4, h5, h6, h7, h8, h9, hr⟩ := h
  exact ⟨hc, h1, h2, h3, h4, h5, h6, h7, h8, cellWf_cellPut _ _ _ _ h9, hr⟩

/-- A lane. -/
theorem good_setLane (l : Nat) (x : Lane) (h : s.Good) : (setLane s l x).Good := by
  obtain ⟨hc, h1, h2, h3, h4, h5, h6, hr⟩ := h
  exact ⟨hc, h1, h2, h3, h4, h5, cellWf_cellPut _ _ _ _ h6, hr⟩

/-- A shaper. -/
theorem good_setShaper (p : Nat) (x : Shaper) (h : s.Good) : (setShaper s p x).Good := by
  obtain ⟨hc, h1, h2, h3, h4, h5, h6, h7, hr⟩ := h
  exact ⟨hc, h1, h2, h3, h4, h5, h6, cellWf_cellPut _ _ _ _ h7, hr⟩

/-- A subscription. -/
theorem good_setSub (p k : Nat) (x : Option Sub) (h : s.Good) : (setSub s p k x).Good := by
  obtain ⟨hc, h1, h2, h3, h4, h5, h6, h7, h8, hr⟩ := h
  exact ⟨hc, h1, h2, h3, h4, h5, h6, h7, cellWf_cellPut _ _ _ _ h8, hr⟩

/-- A pier's own record. -/
theorem good_setPier (g : Nat) (x : Pier) (h : s.Good) : (setPier s g x).Good := by
  obtain ⟨hc, h1, h2, h3, h4, h5, h6, h7, h8, h9, h10, h11, h12, h13, h14, h15, h16, h17, h18, h19, h20, hr⟩ := h
  exact ⟨hc, h1, h2, h3, h4, h5, h6, h7, h8, h9, h10, h11, h12, h13, h14, h15, h16, h17, h18, h19, cellWf_cellPut _ _ _ _ h20, hr⟩

/-- A path's own record. -/
theorem good_setPath (g d : Nat) (x : Path) (h : s.Good) : (setPath s g d x).Good := by
  obtain ⟨hc, h1, h2, h3, h4, h5, h6, h7, h8, h9, h10, h11, h12, h13, h14, h15, h16, h17, h18, h19, h20, hr⟩ := h
  exact ⟨hc, h1, h2, h3, h4, h5, h6, h7, h8, h9, h10, h11, h12, h13, h14, h15, h16, h17, h18, h19, h20, cellWf_cellPut _ _ _ _ hr⟩

/-- A monitor pair. -/
theorem good_setMon (g : Nat) (x : Mon) (h : s.Good) : (setMon s g x).Good := by
  obtain ⟨hc, h1, h2, h3, h4, h5, h6, h7, h8, h9, h10, h11, h12, h13, h14, hr⟩ := h
  exact ⟨hc, h1, h2, h3, h4, h5, h6, h7, h8, h9, h10, h11, h12, h13, cellWf_cellPut _ _ _ _ h14, hr⟩

/-- An extinction run. -/
theorem good_setExt (g : Nat) (x : Ext) (h : s.Good) : (setExt s g x).Good := h

/-- A sequence entry's filter. -/
theorem good_setHkEntry (i : Nat) (x : HkEntry) (h : s.Good) : (setHkEntry s i x).Good := by
  obtain ⟨hc, h1, h2, h3, h4, h5, h6, h7, h8, h9, h10, h11, h12, h13, hr⟩ := h
  exact ⟨hc, h1, h2, h3, h4, h5, h6, h7, h8, h9, h10, h11, h12, cellWf_cellPut _ _ _ _ h13, hr⟩

/-- A span's mismatches. -/
theorem good_setMism (n : Nat) (l : List Mismatch) (h : s.Good) : (setMism s n l).Good := by
  refine good_setFlag _ _ ?_
  obtain ⟨hc, h1, h2, h3, h4, h5, h6, h7, h8, h9, h10, h11, h12, h13, h14, h15, h16, h17, hr⟩ := h
  exact ⟨hc, h1, h2, h3, h4, h5, h6, h7, h8, h9, h10, h11, h12, h13, h14, h15, h16, cellWf_cellPut _ _ _ _ h17, hr⟩

/-- A chain of updates over a list. -/
theorem good_foldl {α : Type} (f : State → α → State) (hf : ∀ s a, s.Good → (f s a).Good) (l : List α) : ∀ s : State, s.Good → (l.foldl f s).Good := by
  induction l with
  | nil => intro s h; exact h
  | cons a l ih => intro s h; exact ih _ (hf _ _ h)

end Sys2Proof.Machine
end

