-- ==== Sys2Proof/Laws/State.lean ====
section
/-!
SUPPORT. Laws/State.lean: one lemma for each field of the state and each shared update of it that leaves that field alone, so that no later proof unfolds a record update.
-/
namespace Sys2Proof.Machine

variable (s : State)

/-! A register write leaves alone what is not its own. -/

@[simp] theorem wr_pending (a : Nat) (v : Word) : (wr s a v).pending = s.pending := rfl
@[simp] theorem wr_elapsed (a : Nat) (v : Word) : (wr s a v).elapsed = s.elapsed := rfl
@[simp] theorem wr_clock (a : Nat) (v : Word) : (wr s a v).clock = s.clock := rfl
@[simp] theorem wr_free (a : Nat) (v : Word) : (wr s a v).free = s.free := rfl
@[simp] theorem wr_epoch (a : Nat) (v : Word) : (wr s a v).epoch = s.epoch := rfl
@[simp] theorem wr_mem (a : Nat) (v : Word) : (wr s a v).mem = s.mem := rfl
@[simp] theorem wr_flash (a : Nat) (v : Word) : (wr s a v).flash = s.flash := rfl
@[simp] theorem wr_timers (a : Nat) (v : Word) : (wr s a v).timers = s.timers := rfl
@[simp] theorem wr_ports (a : Nat) (v : Word) : (wr s a v).ports = s.ports := rfl
@[simp] theorem wr_tg (a : Nat) (v : Word) : (wr s a v).tg = s.tg := rfl
@[simp] theorem wr_ad (a : Nat) (v : Word) : (wr s a v).ad = s.ad := rfl
@[simp] theorem wr_nt (a : Nat) (v : Word) : (wr s a v).nt = s.nt := rfl
@[simp] theorem wr_ks (a : Nat) (v : Word) : (wr s a v).ks = s.ks := rfl
@[simp] theorem wr_dr (a : Nat) (v : Word) : (wr s a v).dr = s.dr := rfl
@[simp] theorem wr_dk (a : Nat) (v : Word) : (wr s a v).dk = s.dk := rfl
@[simp] theorem wr_te (a : Nat) (v : Word) : (wr s a v).te = s.te := rfl
@[simp] theorem wr_fc (a : Nat) (v : Word) : (wr s a v).fc = s.fc := rfl
@[simp] theorem wr_ty (a : Nat) (v : Word) : (wr s a v).ty = s.ty := rfl
@[simp] theorem wr_tc (a : Nat) (v : Word) : (wr s a v).tc = s.tc := rfl
@[simp] theorem wr_bm (a : Nat) (v : Word) : (wr s a v).bm = s.bm := rfl
@[simp] theorem wr_cal (a : Nat) (v : Word) : (wr s a v).cal = s.cal := rfl
@[simp] theorem wr_pw (a : Nat) (v : Word) : (wr s a v).pw = s.pw := rfl
@[simp] theorem wr_bt (a : Nat) (v : Word) : (wr s a v).bt = s.bt := rfl
@[simp] theorem wr_th (a : Nat) (v : Word) : (wr s a v).th = s.th := rfl

/-! Setting a field leaves alone what is not its own. -/

@[simp] theorem setF_pending (f : Fld) (v : Nat) : (setF s f v).pending = s.pending := rfl
@[simp] theorem setF_elapsed (f : Fld) (v : Nat) : (setF s f v).elapsed = s.elapsed := rfl
@[simp] theorem setF_clock (f : Fld) (v : Nat) : (setF s f v).clock = s.clock := rfl
@[simp] theorem setF_free (f : Fld) (v : Nat) : (setF s f v).free = s.free := rfl
@[simp] theorem setF_epoch (f : Fld) (v : Nat) : (setF s f v).epoch = s.epoch := rfl
@[simp] theorem setF_mem (f : Fld) (v : Nat) : (setF s f v).mem = s.mem := rfl
@[simp] theorem setF_flash (f : Fld) (v : Nat) : (setF s f v).flash = s.flash := rfl
@[simp] theorem setF_timers (f : Fld) (v : Nat) : (setF s f v).timers = s.timers := rfl
@[simp] theorem setF_ports (f : Fld) (v : Nat) : (setF s f v).ports = s.ports := rfl
@[simp] theorem setF_tg (f : Fld) (v : Nat) : (setF s f v).tg = s.tg := rfl
@[simp] theorem setF_ad (f : Fld) (v : Nat) : (setF s f v).ad = s.ad := rfl
@[simp] theorem setF_nt (f : Fld) (v : Nat) : (setF s f v).nt = s.nt := rfl
@[simp] theorem setF_ks (f : Fld) (v : Nat) : (setF s f v).ks = s.ks := rfl
@[simp] theorem setF_dr (f : Fld) (v : Nat) : (setF s f v).dr = s.dr := rfl
@[simp] theorem setF_dk (f : Fld) (v : Nat) : (setF s f v).dk = s.dk := rfl
@[simp] theorem setF_te (f : Fld) (v : Nat) : (setF s f v).te = s.te := rfl
@[simp] theorem setF_fc (f : Fld) (v : Nat) : (setF s f v).fc = s.fc := rfl
@[simp] theorem setF_ty (f : Fld) (v : Nat) : (setF s f v).ty = s.ty := rfl
@[simp] theorem setF_tc (f : Fld) (v : Nat) : (setF s f v).tc = s.tc := rfl
@[simp] theorem setF_bm (f : Fld) (v : Nat) : (setF s f v).bm = s.bm := rfl
@[simp] theorem setF_cal (f : Fld) (v : Nat) : (setF s f v).cal = s.cal := rfl
@[simp] theorem setF_pw (f : Fld) (v : Nat) : (setF s f v).pw = s.pw := rfl
@[simp] theorem setF_bt (f : Fld) (v : Nat) : (setF s f v).bt = s.bt := rfl
@[simp] theorem setF_th (f : Fld) (v : Nat) : (setF s f v).th = s.th := rfl

/-! Setting a flag leaves alone what is not its own. -/

@[simp] theorem setFlag_pending (f : Fld) (b : Bool) : (setFlag s f b).pending = s.pending := rfl
@[simp] theorem setFlag_elapsed (f : Fld) (b : Bool) : (setFlag s f b).elapsed = s.elapsed := rfl
@[simp] theorem setFlag_clock (f : Fld) (b : Bool) : (setFlag s f b).clock = s.clock := rfl
@[simp] theorem setFlag_free (f : Fld) (b : Bool) : (setFlag s f b).free = s.free := rfl
@[simp] theorem setFlag_epoch (f : Fld) (b : Bool) : (setFlag s f b).epoch = s.epoch := rfl
@[simp] theorem setFlag_mem (f : Fld) (b : Bool) : (setFlag s f b).mem = s.mem := rfl
@[simp] theorem setFlag_flash (f : Fld) (b : Bool) : (setFlag s f b).flash = s.flash := rfl
@[simp] theorem setFlag_timers (f : Fld) (b : Bool) : (setFlag s f b).timers = s.timers := rfl
@[simp] theorem setFlag_ports (f : Fld) (b : Bool) : (setFlag s f b).ports = s.ports := rfl
@[simp] theorem setFlag_tg (f : Fld) (b : Bool) : (setFlag s f b).tg = s.tg := rfl
@[simp] theorem setFlag_ad (f : Fld) (b : Bool) : (setFlag s f b).ad = s.ad := rfl
@[simp] theorem setFlag_nt (f : Fld) (b : Bool) : (setFlag s f b).nt = s.nt := rfl
@[simp] theorem setFlag_ks (f : Fld) (b : Bool) : (setFlag s f b).ks = s.ks := rfl
@[simp] theorem setFlag_dr (f : Fld) (b : Bool) : (setFlag s f b).dr = s.dr := rfl
@[simp] theorem setFlag_dk (f : Fld) (b : Bool) : (setFlag s f b).dk = s.dk := rfl
@[simp] theorem setFlag_te (f : Fld) (b : Bool) : (setFlag s f b).te = s.te := rfl
@[simp] theorem setFlag_fc (f : Fld) (b : Bool) : (setFlag s f b).fc = s.fc := rfl
@[simp] theorem setFlag_ty (f : Fld) (b : Bool) : (setFlag s f b).ty = s.ty := rfl
@[simp] theorem setFlag_tc (f : Fld) (b : Bool) : (setFlag s f b).tc = s.tc := rfl
@[simp] theorem setFlag_bm (f : Fld) (b : Bool) : (setFlag s f b).bm = s.bm := rfl
@[simp] theorem setFlag_cal (f : Fld) (b : Bool) : (setFlag s f b).cal = s.cal := rfl
@[simp] theorem setFlag_pw (f : Fld) (b : Bool) : (setFlag s f b).pw = s.pw := rfl
@[simp] theorem setFlag_bt (f : Fld) (b : Bool) : (setFlag s f b).bt = s.bt := rfl
@[simp] theorem setFlag_th (f : Fld) (b : Bool) : (setFlag s f b).th = s.th := rfl

/-! Raising an event flag leaves alone what is not its own. -/

@[simp] theorem event_pending (f : Fld) : (event s f).pending = s.pending := rfl
@[simp] theorem event_elapsed (f : Fld) : (event s f).elapsed = s.elapsed := rfl
@[simp] theorem event_clock (f : Fld) : (event s f).clock = s.clock := rfl
@[simp] theorem event_free (f : Fld) : (event s f).free = s.free := rfl
@[simp] theorem event_epoch (f : Fld) : (event s f).epoch = s.epoch := rfl
@[simp] theorem event_mem (f : Fld) : (event s f).mem = s.mem := rfl
@[simp] theorem event_flash (f : Fld) : (event s f).flash = s.flash := rfl
@[simp] theorem event_timers (f : Fld) : (event s f).timers = s.timers := rfl
@[simp] theorem event_ports (f : Fld) : (event s f).ports = s.ports := rfl
@[simp] theorem event_tg (f : Fld) : (event s f).tg = s.tg := rfl
@[simp] theorem event_ad (f : Fld) : (event s f).ad = s.ad := rfl
@[simp] theorem event_nt (f : Fld) : (event s f).nt = s.nt := rfl
@[simp] theorem event_ks (f : Fld) : (event s f).ks = s.ks := rfl
@[simp] theorem event_dr (f : Fld) : (event s f).dr = s.dr := rfl
@[simp] theorem event_dk (f : Fld) : (event s f).dk = s.dk := rfl
@[simp] theorem event_te (f : Fld) : (event s f).te = s.te := rfl
@[simp] theorem event_fc (f : Fld) : (event s f).fc = s.fc := rfl
@[simp] theorem event_ty (f : Fld) : (event s f).ty = s.ty := rfl
@[simp] theorem event_tc (f : Fld) : (event s f).tc = s.tc := rfl
@[simp] theorem event_bm (f : Fld) : (event s f).bm = s.bm := rfl
@[simp] theorem event_cal (f : Fld) : (event s f).cal = s.cal := rfl
@[simp] theorem event_pw (f : Fld) : (event s f).pw = s.pw := rfl
@[simp] theorem event_bt (f : Fld) : (event s f).bt = s.bt := rfl
@[simp] theorem event_th (f : Fld) : (event s f).th = s.th := rfl

/-! Counting leaves alone what is not its own. -/

@[simp] theorem bumpBy_pending (a n : Nat) : (bumpBy s a n).pending = s.pending := rfl
@[simp] theorem bumpBy_elapsed (a n : Nat) : (bumpBy s a n).elapsed = s.elapsed := rfl
@[simp] theorem bumpBy_clock (a n : Nat) : (bumpBy s a n).clock = s.clock := rfl
@[simp] theorem bumpBy_free (a n : Nat) : (bumpBy s a n).free = s.free := rfl
@[simp] theorem bumpBy_epoch (a n : Nat) : (bumpBy s a n).epoch = s.epoch := rfl
@[simp] theorem bumpBy_mem (a n : Nat) : (bumpBy s a n).mem = s.mem := rfl
@[simp] theorem bumpBy_flash (a n : Nat) : (bumpBy s a n).flash = s.flash := rfl
@[simp] theorem bumpBy_timers (a n : Nat) : (bumpBy s a n).timers = s.timers := rfl
@[simp] theorem bumpBy_ports (a n : Nat) : (bumpBy s a n).ports = s.ports := rfl
@[simp] theorem bumpBy_tg (a n : Nat) : (bumpBy s a n).tg = s.tg := rfl
@[simp] theorem bumpBy_ad (a n : Nat) : (bumpBy s a n).ad = s.ad := rfl
@[simp] theorem bumpBy_nt (a n : Nat) : (bumpBy s a n).nt = s.nt := rfl
@[simp] theorem bumpBy_ks (a n : Nat) : (bumpBy s a n).ks = s.ks := rfl
@[simp] theorem bumpBy_dr (a n : Nat) : (bumpBy s a n).dr = s.dr := rfl
@[simp] theorem bumpBy_dk (a n : Nat) : (bumpBy s a n).dk = s.dk := rfl
@[simp] theorem bumpBy_te (a n : Nat) : (bumpBy s a n).te = s.te := rfl
@[simp] theorem bumpBy_fc (a n : Nat) : (bumpBy s a n).fc = s.fc := rfl
@[simp] theorem bumpBy_ty (a n : Nat) : (bumpBy s a n).ty = s.ty := rfl
@[simp] theorem bumpBy_tc (a n : Nat) : (bumpBy s a n).tc = s.tc := rfl
@[simp] theorem bumpBy_bm (a n : Nat) : (bumpBy s a n).bm = s.bm := rfl
@[simp] theorem bumpBy_cal (a n : Nat) : (bumpBy s a n).cal = s.cal := rfl
@[simp] theorem bumpBy_pw (a n : Nat) : (bumpBy s a n).pw = s.pw := rfl
@[simp] theorem bumpBy_bt (a n : Nat) : (bumpBy s a n).bt = s.bt := rfl
@[simp] theorem bumpBy_th (a n : Nat) : (bumpBy s a n).th = s.th := rfl

/-! Counting once leaves alone what is not its own. -/

@[simp] theorem bump_pending (a : Nat) : (bump s a).pending = s.pending := rfl
@[simp] theorem bump_elapsed (a : Nat) : (bump s a).elapsed = s.elapsed := rfl
@[simp] theorem bump_clock (a : Nat) : (bump s a).clock = s.clock := rfl
@[simp] theorem bump_free (a : Nat) : (bump s a).free = s.free := rfl
@[simp] theorem bump_epoch (a : Nat) : (bump s a).epoch = s.epoch := rfl
@[simp] theorem bump_mem (a : Nat) : (bump s a).mem = s.mem := rfl
@[simp] theorem bump_flash (a : Nat) : (bump s a).flash = s.flash := rfl
@[simp] theorem bump_timers (a : Nat) : (bump s a).timers = s.timers := rfl
@[simp] theorem bump_ports (a : Nat) : (bump s a).ports = s.ports := rfl
@[simp] theorem bump_tg (a : Nat) : (bump s a).tg = s.tg := rfl
@[simp] theorem bump_ad (a : Nat) : (bump s a).ad = s.ad := rfl
@[simp] theorem bump_nt (a : Nat) : (bump s a).nt = s.nt := rfl
@[simp] theorem bump_ks (a : Nat) : (bump s a).ks = s.ks := rfl
@[simp] theorem bump_dr (a : Nat) : (bump s a).dr = s.dr := rfl
@[simp] theorem bump_dk (a : Nat) : (bump s a).dk = s.dk := rfl
@[simp] theorem bump_te (a : Nat) : (bump s a).te = s.te := rfl
@[simp] theorem bump_fc (a : Nat) : (bump s a).fc = s.fc := rfl
@[simp] theorem bump_ty (a : Nat) : (bump s a).ty = s.ty := rfl
@[simp] theorem bump_tc (a : Nat) : (bump s a).tc = s.tc := rfl
@[simp] theorem bump_bm (a : Nat) : (bump s a).bm = s.bm := rfl
@[simp] theorem bump_cal (a : Nat) : (bump s a).cal = s.cal := rfl
@[simp] theorem bump_pw (a : Nat) : (bump s a).pw = s.pw := rfl
@[simp] theorem bump_bt (a : Nat) : (bump s a).bt = s.bt := rfl
@[simp] theorem bump_th (a : Nat) : (bump s a).th = s.th := rfl

/-! Counting in a histogram leaves alone what is not its own. -/

@[simp] theorem histogram_pending (h b : Nat) : (histogram s h b).pending = s.pending := rfl
@[simp] theorem histogram_elapsed (h b : Nat) : (histogram s h b).elapsed = s.elapsed := rfl
@[simp] theorem histogram_clock (h b : Nat) : (histogram s h b).clock = s.clock := rfl
@[simp] theorem histogram_free (h b : Nat) : (histogram s h b).free = s.free := rfl
@[simp] theorem histogram_epoch (h b : Nat) : (histogram s h b).epoch = s.epoch := rfl
@[simp] theorem histogram_mem (h b : Nat) : (histogram s h b).mem = s.mem := rfl
@[simp] theorem histogram_flash (h b : Nat) : (histogram s h b).flash = s.flash := rfl
@[simp] theorem histogram_timers (h b : Nat) : (histogram s h b).timers = s.timers := rfl
@[simp] theorem histogram_ports (h b : Nat) : (histogram s h b).ports = s.ports := rfl
@[simp] theorem histogram_tg (h b : Nat) : (histogram s h b).tg = s.tg := rfl
@[simp] theorem histogram_ad (h b : Nat) : (histogram s h b).ad = s.ad := rfl
@[simp] theorem histogram_nt (h b : Nat) : (histogram s h b).nt = s.nt := rfl
@[simp] theorem histogram_ks (h b : Nat) : (histogram s h b).ks = s.ks := rfl
@[simp] theorem histogram_dr (h b : Nat) : (histogram s h b).dr = s.dr := rfl
@[simp] theorem histogram_dk (h b : Nat) : (histogram s h b).dk = s.dk := rfl
@[simp] theorem histogram_te (h b : Nat) : (histogram s h b).te = s.te := rfl
@[simp] theorem histogram_fc (h b : Nat) : (histogram s h b).fc = s.fc := rfl
@[simp] theorem histogram_ty (h b : Nat) : (histogram s h b).ty = s.ty := rfl
@[simp] theorem histogram_tc (h b : Nat) : (histogram s h b).tc = s.tc := rfl
@[simp] theorem histogram_bm (h b : Nat) : (histogram s h b).bm = s.bm := rfl
@[simp] theorem histogram_cal (h b : Nat) : (histogram s h b).cal = s.cal := rfl
@[simp] theorem histogram_pw (h b : Nat) : (histogram s h b).pw = s.pw := rfl
@[simp] theorem histogram_bt (h b : Nat) : (histogram s h b).bt = s.bt := rfl
@[simp] theorem histogram_th (h b : Nat) : (histogram s h b).th = s.th := rfl

/-! Writing a byte of a memory leaves alone what is not its own. -/

@[simp] theorem wrByte_pending (a : Nat) (v : Byte) : (wrByte s a v).pending = s.pending := rfl
@[simp] theorem wrByte_elapsed (a : Nat) (v : Byte) : (wrByte s a v).elapsed = s.elapsed := rfl
@[simp] theorem wrByte_clock (a : Nat) (v : Byte) : (wrByte s a v).clock = s.clock := rfl
@[simp] theorem wrByte_free (a : Nat) (v : Byte) : (wrByte s a v).free = s.free := rfl
@[simp] theorem wrByte_epoch (a : Nat) (v : Byte) : (wrByte s a v).epoch = s.epoch := rfl
@[simp] theorem wrByte_regs (a : Nat) (v : Byte) : (wrByte s a v).regs = s.regs := rfl
@[simp] theorem wrByte_flash (a : Nat) (v : Byte) : (wrByte s a v).flash = s.flash := rfl
@[simp] theorem wrByte_timers (a : Nat) (v : Byte) : (wrByte s a v).timers = s.timers := rfl
@[simp] theorem wrByte_ports (a : Nat) (v : Byte) : (wrByte s a v).ports = s.ports := rfl
@[simp] theorem wrByte_tg (a : Nat) (v : Byte) : (wrByte s a v).tg = s.tg := rfl
@[simp] theorem wrByte_ad (a : Nat) (v : Byte) : (wrByte s a v).ad = s.ad := rfl
@[simp] theorem wrByte_nt (a : Nat) (v : Byte) : (wrByte s a v).nt = s.nt := rfl
@[simp] theorem wrByte_ks (a : Nat) (v : Byte) : (wrByte s a v).ks = s.ks := rfl
@[simp] theorem wrByte_dr (a : Nat) (v : Byte) : (wrByte s a v).dr = s.dr := rfl
@[simp] theorem wrByte_dk (a : Nat) (v : Byte) : (wrByte s a v).dk = s.dk := rfl
@[simp] theorem wrByte_te (a : Nat) (v : Byte) : (wrByte s a v).te = s.te := rfl
@[simp] theorem wrByte_fc (a : Nat) (v : Byte) : (wrByte s a v).fc = s.fc := rfl
@[simp] theorem wrByte_ty (a : Nat) (v : Byte) : (wrByte s a v).ty = s.ty := rfl
@[simp] theorem wrByte_tc (a : Nat) (v : Byte) : (wrByte s a v).tc = s.tc := rfl
@[simp] theorem wrByte_bm (a : Nat) (v : Byte) : (wrByte s a v).bm = s.bm := rfl
@[simp] theorem wrByte_cal (a : Nat) (v : Byte) : (wrByte s a v).cal = s.cal := rfl
@[simp] theorem wrByte_pw (a : Nat) (v : Byte) : (wrByte s a v).pw = s.pw := rfl
@[simp] theorem wrByte_bt (a : Nat) (v : Byte) : (wrByte s a v).bt = s.bt := rfl
@[simp] theorem wrByte_th (a : Nat) (v : Byte) : (wrByte s a v).th = s.th := rfl

/-! Disarming a deadline leaves alone what is not its own. -/

@[simp] theorem disarm_pending (t : Timer) : (disarm s t).pending = s.pending := rfl
@[simp] theorem disarm_elapsed (t : Timer) : (disarm s t).elapsed = s.elapsed := rfl
@[simp] theorem disarm_clock (t : Timer) : (disarm s t).clock = s.clock := rfl
@[simp] theorem disarm_free (t : Timer) : (disarm s t).free = s.free := rfl
@[simp] theorem disarm_epoch (t : Timer) : (disarm s t).epoch = s.epoch := rfl
@[simp] theorem disarm_regs (t : Timer) : (disarm s t).regs = s.regs := rfl
@[simp] theorem disarm_mem (t : Timer) : (disarm s t).mem = s.mem := rfl
@[simp] theorem disarm_flash (t : Timer) : (disarm s t).flash = s.flash := rfl
@[simp] theorem disarm_ports (t : Timer) : (disarm s t).ports = s.ports := rfl
@[simp] theorem disarm_tg (t : Timer) : (disarm s t).tg = s.tg := rfl
@[simp] theorem disarm_ad (t : Timer) : (disarm s t).ad = s.ad := rfl
@[simp] theorem disarm_nt (t : Timer) : (disarm s t).nt = s.nt := rfl
@[simp] theorem disarm_ks (t : Timer) : (disarm s t).ks = s.ks := rfl
@[simp] theorem disarm_dr (t : Timer) : (disarm s t).dr = s.dr := rfl
@[simp] theorem disarm_dk (t : Timer) : (disarm s t).dk = s.dk := rfl
@[simp] theorem disarm_te (t : Timer) : (disarm s t).te = s.te := rfl
@[simp] theorem disarm_fc (t : Timer) : (disarm s t).fc = s.fc := rfl
@[simp] theorem disarm_ty (t : Timer) : (disarm s t).ty = s.ty := rfl
@[simp] theorem disarm_tc (t : Timer) : (disarm s t).tc = s.tc := rfl
@[simp] theorem disarm_bm (t : Timer) : (disarm s t).bm = s.bm := rfl
@[simp] theorem disarm_cal (t : Timer) : (disarm s t).cal = s.cal := rfl
@[simp] theorem disarm_pw (t : Timer) : (disarm s t).pw = s.pw := rfl
@[simp] theorem disarm_bt (t : Timer) : (disarm s t).bt = s.bt := rfl
@[simp] theorem disarm_th (t : Timer) : (disarm s t).th = s.th := rfl

/-! Arming a deadline leaves alone what is not its own. -/

@[simp] theorem armAt_pending (t : Timer) (n : Nat) : (armAt s t n).pending = s.pending := rfl
@[simp] theorem armAt_elapsed (t : Timer) (n : Nat) : (armAt s t n).elapsed = s.elapsed := rfl
@[simp] theorem armAt_clock (t : Timer) (n : Nat) : (armAt s t n).clock = s.clock := rfl
@[simp] theorem armAt_free (t : Timer) (n : Nat) : (armAt s t n).free = s.free := rfl
@[simp] theorem armAt_epoch (t : Timer) (n : Nat) : (armAt s t n).epoch = s.epoch := rfl
@[simp] theorem armAt_regs (t : Timer) (n : Nat) : (armAt s t n).regs = s.regs := rfl
@[simp] theorem armAt_mem (t : Timer) (n : Nat) : (armAt s t n).mem = s.mem := rfl
@[simp] theorem armAt_flash (t : Timer) (n : Nat) : (armAt s t n).flash = s.flash := rfl
@[simp] theorem armAt_ports (t : Timer) (n : Nat) : (armAt s t n).ports = s.ports := rfl
@[simp] theorem armAt_tg (t : Timer) (n : Nat) : (armAt s t n).tg = s.tg := rfl
@[simp] theorem armAt_ad (t : Timer) (n : Nat) : (armAt s t n).ad = s.ad := rfl
@[simp] theorem armAt_nt (t : Timer) (n : Nat) : (armAt s t n).nt = s.nt := rfl
@[simp] theorem armAt_ks (t : Timer) (n : Nat) : (armAt s t n).ks = s.ks := rfl
@[simp] theorem armAt_dr (t : Timer) (n : Nat) : (armAt s t n).dr = s.dr := rfl
@[simp] theorem armAt_dk (t : Timer) (n : Nat) : (armAt s t n).dk = s.dk := rfl
@[simp] theorem armAt_te (t : Timer) (n : Nat) : (armAt s t n).te = s.te := rfl
@[simp] theorem armAt_fc (t : Timer) (n : Nat) : (armAt s t n).fc = s.fc := rfl
@[simp] theorem armAt_ty (t : Timer) (n : Nat) : (armAt s t n).ty = s.ty := rfl
@[simp] theorem armAt_tc (t : Timer) (n : Nat) : (armAt s t n).tc = s.tc := rfl
@[simp] theorem armAt_bm (t : Timer) (n : Nat) : (armAt s t n).bm = s.bm := rfl
@[simp] theorem armAt_cal (t : Timer) (n : Nat) : (armAt s t n).cal = s.cal := rfl
@[simp] theorem armAt_pw (t : Timer) (n : Nat) : (armAt s t n).pw = s.pw := rfl
@[simp] theorem armAt_bt (t : Timer) (n : Nat) : (armAt s t n).bt = s.bt := rfl
@[simp] theorem armAt_th (t : Timer) (n : Nat) : (armAt s t n).th = s.th := rfl

/-! Arming a deadline from now leaves alone what is not its own. -/

@[simp] theorem armIn_pending (t : Timer) (n : Nat) : (armIn s t n).pending = s.pending := rfl
@[simp] theorem armIn_elapsed (t : Timer) (n : Nat) : (armIn s t n).elapsed = s.elapsed := rfl
@[simp] theorem armIn_clock (t : Timer) (n : Nat) : (armIn s t n).clock = s.clock := rfl
@[simp] theorem armIn_free (t : Timer) (n : Nat) : (armIn s t n).free = s.free := rfl
@[simp] theorem armIn_epoch (t : Timer) (n : Nat) : (armIn s t n).epoch = s.epoch := rfl
@[simp] theorem armIn_regs (t : Timer) (n : Nat) : (armIn s t n).regs = s.regs := rfl
@[simp] theorem armIn_mem (t : Timer) (n : Nat) : (armIn s t n).mem = s.mem := rfl
@[simp] theorem armIn_flash (t : Timer) (n : Nat) : (armIn s t n).flash = s.flash := rfl
@[simp] theorem armIn_ports (t : Timer) (n : Nat) : (armIn s t n).ports = s.ports := rfl
@[simp] theorem armIn_tg (t : Timer) (n : Nat) : (armIn s t n).tg = s.tg := rfl
@[simp] theorem armIn_ad (t : Timer) (n : Nat) : (armIn s t n).ad = s.ad := rfl
@[simp] theorem armIn_nt (t : Timer) (n : Nat) : (armIn s t n).nt = s.nt := rfl
@[simp] theorem armIn_ks (t : Timer) (n : Nat) : (armIn s t n).ks = s.ks := rfl
@[simp] theorem armIn_dr (t : Timer) (n : Nat) : (armIn s t n).dr = s.dr := rfl
@[simp] theorem armIn_dk (t : Timer) (n : Nat) : (armIn s t n).dk = s.dk := rfl
@[simp] theorem armIn_te (t : Timer) (n : Nat) : (armIn s t n).te = s.te := rfl
@[simp] theorem armIn_fc (t : Timer) (n : Nat) : (armIn s t n).fc = s.fc := rfl
@[simp] theorem armIn_ty (t : Timer) (n : Nat) : (armIn s t n).ty = s.ty := rfl
@[simp] theorem armIn_tc (t : Timer) (n : Nat) : (armIn s t n).tc = s.tc := rfl
@[simp] theorem armIn_bm (t : Timer) (n : Nat) : (armIn s t n).bm = s.bm := rfl
@[simp] theorem armIn_cal (t : Timer) (n : Nat) : (armIn s t n).cal = s.cal := rfl
@[simp] theorem armIn_pw (t : Timer) (n : Nat) : (armIn s t n).pw = s.pw := rfl
@[simp] theorem armIn_bt (t : Timer) (n : Nat) : (armIn s t n).bt = s.bt := rfl
@[simp] theorem armIn_th (t : Timer) (n : Nat) : (armIn s t n).th = s.th := rfl

/-! Setting a source's queue leaves alone what is not its own. -/

@[simp] theorem setQueue_pending (n : Nat) (q : List (BitVec 64)) : (setQueue s n q).pending = s.pending := rfl
@[simp] theorem setQueue_elapsed (n : Nat) (q : List (BitVec 64)) : (setQueue s n q).elapsed = s.elapsed := rfl
@[simp] theorem setQueue_clock (n : Nat) (q : List (BitVec 64)) : (setQueue s n q).clock = s.clock := rfl
@[simp] theorem setQueue_free (n : Nat) (q : List (BitVec 64)) : (setQueue s n q).free = s.free := rfl
@[simp] theorem setQueue_epoch (n : Nat) (q : List (BitVec 64)) : (setQueue s n q).epoch = s.epoch := rfl
@[simp] theorem setQueue_regs (n : Nat) (q : List (BitVec 64)) : (setQueue s n q).regs = s.regs := rfl
@[simp] theorem setQueue_mem (n : Nat) (q : List (BitVec 64)) : (setQueue s n q).mem = s.mem := rfl
@[simp] theorem setQueue_flash (n : Nat) (q : List (BitVec 64)) : (setQueue s n q).flash = s.flash := rfl
@[simp] theorem setQueue_timers (n : Nat) (q : List (BitVec 64)) : (setQueue s n q).timers = s.timers := rfl
@[simp] theorem setQueue_ports (n : Nat) (q : List (BitVec 64)) : (setQueue s n q).ports = s.ports := rfl
@[simp] theorem setQueue_tg (n : Nat) (q : List (BitVec 64)) : (setQueue s n q).tg = s.tg := rfl
@[simp] theorem setQueue_ad (n : Nat) (q : List (BitVec 64)) : (setQueue s n q).ad = s.ad := rfl
@[simp] theorem setQueue_nt (n : Nat) (q : List (BitVec 64)) : (setQueue s n q).nt = s.nt := rfl
@[simp] theorem setQueue_ks (n : Nat) (q : List (BitVec 64)) : (setQueue s n q).ks = s.ks := rfl
@[simp] theorem setQueue_dr (n : Nat) (q : List (BitVec 64)) : (setQueue s n q).dr = s.dr := rfl
@[simp] theorem setQueue_dk (n : Nat) (q : List (BitVec 64)) : (setQueue s n q).dk = s.dk := rfl
@[simp] theorem setQueue_te (n : Nat) (q : List (BitVec 64)) : (setQueue s n q).te = s.te := rfl
@[simp] theorem setQueue_ty (n : Nat) (q : List (BitVec 64)) : (setQueue s n q).ty = s.ty := rfl
@[simp] theorem setQueue_tc (n : Nat) (q : List (BitVec 64)) : (setQueue s n q).tc = s.tc := rfl
@[simp] theorem setQueue_bm (n : Nat) (q : List (BitVec 64)) : (setQueue s n q).bm = s.bm := rfl
@[simp] theorem setQueue_cal (n : Nat) (q : List (BitVec 64)) : (setQueue s n q).cal = s.cal := rfl
@[simp] theorem setQueue_pw (n : Nat) (q : List (BitVec 64)) : (setQueue s n q).pw = s.pw := rfl
@[simp] theorem setQueue_bt (n : Nat) (q : List (BitVec 64)) : (setQueue s n q).bt = s.bt := rfl
@[simp] theorem setQueue_th (n : Nat) (q : List (BitVec 64)) : (setQueue s n q).th = s.th := rfl

/-! Setting a port leaves alone what is not its own. -/

@[simp] theorem setPort_pending (p : Nat) (x : PortState) : (setPort s p x).pending = s.pending := rfl
@[simp] theorem setPort_elapsed (p : Nat) (x : PortState) : (setPort s p x).elapsed = s.elapsed := rfl
@[simp] theorem setPort_clock (p : Nat) (x : PortState) : (setPort s p x).clock = s.clock := rfl
@[simp] theorem setPort_free (p : Nat) (x : PortState) : (setPort s p x).free = s.free := rfl
@[simp] theorem setPort_epoch (p : Nat) (x : PortState) : (setPort s p x).epoch = s.epoch := rfl
@[simp] theorem setPort_regs (p : Nat) (x : PortState) : (setPort s p x).regs = s.regs := rfl
@[simp] theorem setPort_mem (p : Nat) (x : PortState) : (setPort s p x).mem = s.mem := rfl
@[simp] theorem setPort_flash (p : Nat) (x : PortState) : (setPort s p x).flash = s.flash := rfl
@[simp] theorem setPort_timers (p : Nat) (x : PortState) : (setPort s p x).timers = s.timers := rfl
@[simp] theorem setPort_tg (p : Nat) (x : PortState) : (setPort s p x).tg = s.tg := rfl
@[simp] theorem setPort_ad (p : Nat) (x : PortState) : (setPort s p x).ad = s.ad := rfl
@[simp] theorem setPort_nt (p : Nat) (x : PortState) : (setPort s p x).nt = s.nt := rfl
@[simp] theorem setPort_ks (p : Nat) (x : PortState) : (setPort s p x).ks = s.ks := rfl
@[simp] theorem setPort_dr (p : Nat) (x : PortState) : (setPort s p x).dr = s.dr := rfl
@[simp] theorem setPort_dk (p : Nat) (x : PortState) : (setPort s p x).dk = s.dk := rfl
@[simp] theorem setPort_te (p : Nat) (x : PortState) : (setPort s p x).te = s.te := rfl
@[simp] theorem setPort_fc (p : Nat) (x : PortState) : (setPort s p x).fc = s.fc := rfl
@[simp] theorem setPort_ty (p : Nat) (x : PortState) : (setPort s p x).ty = s.ty := rfl
@[simp] theorem setPort_tc (p : Nat) (x : PortState) : (setPort s p x).tc = s.tc := rfl
@[simp] theorem setPort_bm (p : Nat) (x : PortState) : (setPort s p x).bm = s.bm := rfl
@[simp] theorem setPort_cal (p : Nat) (x : PortState) : (setPort s p x).cal = s.cal := rfl
@[simp] theorem setPort_pw (p : Nat) (x : PortState) : (setPort s p x).pw = s.pw := rfl
@[simp] theorem setPort_bt (p : Nat) (x : PortState) : (setPort s p x).bt = s.bt := rfl
@[simp] theorem setPort_th (p : Nat) (x : PortState) : (setPort s p x).th = s.th := rfl

/-! Setting a lane leaves alone what is not its own. -/

@[simp] theorem setLane_pending (l : Nat) (x : Lane) : (setLane s l x).pending = s.pending := rfl
@[simp] theorem setLane_elapsed (l : Nat) (x : Lane) : (setLane s l x).elapsed = s.elapsed := rfl
@[simp] theorem setLane_clock (l : Nat) (x : Lane) : (setLane s l x).clock = s.clock := rfl
@[simp] theorem setLane_free (l : Nat) (x : Lane) : (setLane s l x).free = s.free := rfl
@[simp] theorem setLane_epoch (l : Nat) (x : Lane) : (setLane s l x).epoch = s.epoch := rfl
@[simp] theorem setLane_regs (l : Nat) (x : Lane) : (setLane s l x).regs = s.regs := rfl
@[simp] theorem setLane_mem (l : Nat) (x : Lane) : (setLane s l x).mem = s.mem := rfl
@[simp] theorem setLane_flash (l : Nat) (x : Lane) : (setLane s l x).flash = s.flash := rfl
@[simp] theorem setLane_timers (l : Nat) (x : Lane) : (setLane s l x).timers = s.timers := rfl
@[simp] theorem setLane_ports (l : Nat) (x : Lane) : (setLane s l x).ports = s.ports := rfl
@[simp] theorem setLane_tg (l : Nat) (x : Lane) : (setLane s l x).tg = s.tg := rfl
@[simp] theorem setLane_nt (l : Nat) (x : Lane) : (setLane s l x).nt = s.nt := rfl
@[simp] theorem setLane_ks (l : Nat) (x : Lane) : (setLane s l x).ks = s.ks := rfl
@[simp] theorem setLane_dr (l : Nat) (x : Lane) : (setLane s l x).dr = s.dr := rfl
@[simp] theorem setLane_dk (l : Nat) (x : Lane) : (setLane s l x).dk = s.dk := rfl
@[simp] theorem setLane_te (l : Nat) (x : Lane) : (setLane s l x).te = s.te := rfl
@[simp] theorem setLane_fc (l : Nat) (x : Lane) : (setLane s l x).fc = s.fc := rfl
@[simp] theorem setLane_ty (l : Nat) (x : Lane) : (setLane s l x).ty = s.ty := rfl
@[simp] theorem setLane_tc (l : Nat) (x : Lane) : (setLane s l x).tc = s.tc := rfl
@[simp] theorem setLane_bm (l : Nat) (x : Lane) : (setLane s l x).bm = s.bm := rfl
@[simp] theorem setLane_cal (l : Nat) (x : Lane) : (setLane s l x).cal = s.cal := rfl
@[simp] theorem setLane_pw (l : Nat) (x : Lane) : (setLane s l x).pw = s.pw := rfl
@[simp] theorem setLane_bt (l : Nat) (x : Lane) : (setLane s l x).bt = s.bt := rfl
@[simp] theorem setLane_th (l : Nat) (x : Lane) : (setLane s l x).th = s.th := rfl

/-! Setting a shaper leaves alone what is not its own. -/

@[simp] theorem setShaper_pending (p : Nat) (x : Shaper) : (setShaper s p x).pending = s.pending := rfl
@[simp] theorem setShaper_elapsed (p : Nat) (x : Shaper) : (setShaper s p x).elapsed = s.elapsed := rfl
@[simp] theorem setShaper_clock (p : Nat) (x : Shaper) : (setShaper s p x).clock = s.clock := rfl
@[simp] theorem setShaper_free (p : Nat) (x : Shaper) : (setShaper s p x).free = s.free := rfl
@[simp] theorem setShaper_epoch (p : Nat) (x : Shaper) : (setShaper s p x).epoch = s.epoch := rfl
@[simp] theorem setShaper_regs (p : Nat) (x : Shaper) : (setShaper s p x).regs = s.regs := rfl
@[simp] theorem setShaper_mem (p : Nat) (x : Shaper) : (setShaper s p x).mem = s.mem := rfl
@[simp] theorem setShaper_flash (p : Nat) (x : Shaper) : (setShaper s p x).flash = s.flash := rfl
@[simp] theorem setShaper_timers (p : Nat) (x : Shaper) : (setShaper s p x).timers = s.timers := rfl
@[simp] theorem setShaper_ports (p : Nat) (x : Shaper) : (setShaper s p x).ports = s.ports := rfl
@[simp] theorem setShaper_tg (p : Nat) (x : Shaper) : (setShaper s p x).tg = s.tg := rfl
@[simp] theorem setShaper_nt (p : Nat) (x : Shaper) : (setShaper s p x).nt = s.nt := rfl
@[simp] theorem setShaper_ks (p : Nat) (x : Shaper) : (setShaper s p x).ks = s.ks := rfl
@[simp] theorem setShaper_dr (p : Nat) (x : Shaper) : (setShaper s p x).dr = s.dr := rfl
@[simp] theorem setShaper_dk (p : Nat) (x : Shaper) : (setShaper s p x).dk = s.dk := rfl
@[simp] theorem setShaper_te (p : Nat) (x : Shaper) : (setShaper s p x).te = s.te := rfl
@[simp] theorem setShaper_fc (p : Nat) (x : Shaper) : (setShaper s p x).fc = s.fc := rfl
@[simp] theorem setShaper_ty (p : Nat) (x : Shaper) : (setShaper s p x).ty = s.ty := rfl
@[simp] theorem setShaper_tc (p : Nat) (x : Shaper) : (setShaper s p x).tc = s.tc := rfl
@[simp] theorem setShaper_bm (p : Nat) (x : Shaper) : (setShaper s p x).bm = s.bm := rfl
@[simp] theorem setShaper_cal (p : Nat) (x : Shaper) : (setShaper s p x).cal = s.cal := rfl
@[simp] theorem setShaper_pw (p : Nat) (x : Shaper) : (setShaper s p x).pw = s.pw := rfl
@[simp] theorem setShaper_bt (p : Nat) (x : Shaper) : (setShaper s p x).bt = s.bt := rfl
@[simp] theorem setShaper_th (p : Nat) (x : Shaper) : (setShaper s p x).th = s.th := rfl

/-! Setting a subscription leaves alone what is not its own. -/

@[simp] theorem setSub_pending (p k : Nat) (x : Option Sub) : (setSub s p k x).pending = s.pending := rfl
@[simp] theorem setSub_elapsed (p k : Nat) (x : Option Sub) : (setSub s p k x).elapsed = s.elapsed := rfl
@[simp] theorem setSub_clock (p k : Nat) (x : Option Sub) : (setSub s p k x).clock = s.clock := rfl
@[simp] theorem setSub_free (p k : Nat) (x : Option Sub) : (setSub s p k x).free = s.free := rfl
@[simp] theorem setSub_epoch (p k : Nat) (x : Option Sub) : (setSub s p k x).epoch = s.epoch := rfl
@[simp] theorem setSub_regs (p k : Nat) (x : Option Sub) : (setSub s p k x).regs = s.regs := rfl
@[simp] theorem setSub_mem (p k : Nat) (x : Option Sub) : (setSub s p k x).mem = s.mem := rfl
@[simp] theorem setSub_flash (p k : Nat) (x : Option Sub) : (setSub s p k x).flash = s.flash := rfl
@[simp] theorem setSub_timers (p k : Nat) (x : Option Sub) : (setSub s p k x).timers = s.timers := rfl
@[simp] theorem setSub_ports (p k : Nat) (x : Option Sub) : (setSub s p k x).ports = s.ports := rfl
@[simp] theorem setSub_tg (p k : Nat) (x : Option Sub) : (setSub s p k x).tg = s.tg := rfl
@[simp] theorem setSub_nt (p k : Nat) (x : Option Sub) : (setSub s p k x).nt = s.nt := rfl
@[simp] theorem setSub_ks (p k : Nat) (x : Option Sub) : (setSub s p k x).ks = s.ks := rfl
@[simp] theorem setSub_dr (p k : Nat) (x : Option Sub) : (setSub s p k x).dr = s.dr := rfl
@[simp] theorem setSub_dk (p k : Nat) (x : Option Sub) : (setSub s p k x).dk = s.dk := rfl
@[simp] theorem setSub_te (p k : Nat) (x : Option Sub) : (setSub s p k x).te = s.te := rfl
@[simp] theorem setSub_fc (p k : Nat) (x : Option Sub) : (setSub s p k x).fc = s.fc := rfl
@[simp] theorem setSub_ty (p k : Nat) (x : Option Sub) : (setSub s p k x).ty = s.ty := rfl
@[simp] theorem setSub_tc (p k : Nat) (x : Option Sub) : (setSub s p k x).tc = s.tc := rfl
@[simp] theorem setSub_bm (p k : Nat) (x : Option Sub) : (setSub s p k x).bm = s.bm := rfl
@[simp] theorem setSub_cal (p k : Nat) (x : Option Sub) : (setSub s p k x).cal = s.cal := rfl
@[simp] theorem setSub_pw (p k : Nat) (x : Option Sub) : (setSub s p k x).pw = s.pw := rfl
@[simp] theorem setSub_bt (p k : Nat) (x : Option Sub) : (setSub s p k x).bt = s.bt := rfl
@[simp] theorem setSub_th (p k : Nat) (x : Option Sub) : (setSub s p k x).th = s.th := rfl

/-! Setting a pier leaves alone what is not its own. -/

@[simp] theorem setPier_pending (g : Nat) (x : Pier) : (setPier s g x).pending = s.pending := rfl
@[simp] theorem setPier_elapsed (g : Nat) (x : Pier) : (setPier s g x).elapsed = s.elapsed := rfl
@[simp] theorem setPier_clock (g : Nat) (x : Pier) : (setPier s g x).clock = s.clock := rfl
@[simp] theorem setPier_free (g : Nat) (x : Pier) : (setPier s g x).free = s.free := rfl
@[simp] theorem setPier_epoch (g : Nat) (x : Pier) : (setPier s g x).epoch = s.epoch := rfl
@[simp] theorem setPier_regs (g : Nat) (x : Pier) : (setPier s g x).regs = s.regs := rfl
@[simp] theorem setPier_mem (g : Nat) (x : Pier) : (setPier s g x).mem = s.mem := rfl
@[simp] theorem setPier_flash (g : Nat) (x : Pier) : (setPier s g x).flash = s.flash := rfl
@[simp] theorem setPier_timers (g : Nat) (x : Pier) : (setPier s g x).timers = s.timers := rfl
@[simp] theorem setPier_ports (g : Nat) (x : Pier) : (setPier s g x).ports = s.ports := rfl
@[simp] theorem setPier_tg (g : Nat) (x : Pier) : (setPier s g x).tg = s.tg := rfl
@[simp] theorem setPier_ad (g : Nat) (x : Pier) : (setPier s g x).ad = s.ad := rfl
@[simp] theorem setPier_nt (g : Nat) (x : Pier) : (setPier s g x).nt = s.nt := rfl
@[simp] theorem setPier_ks (g : Nat) (x : Pier) : (setPier s g x).ks = s.ks := rfl
@[simp] theorem setPier_dk (g : Nat) (x : Pier) : (setPier s g x).dk = s.dk := rfl
@[simp] theorem setPier_te (g : Nat) (x : Pier) : (setPier s g x).te = s.te := rfl
@[simp] theorem setPier_fc (g : Nat) (x : Pier) : (setPier s g x).fc = s.fc := rfl
@[simp] theorem setPier_ty (g : Nat) (x : Pier) : (setPier s g x).ty = s.ty := rfl
@[simp] theorem setPier_tc (g : Nat) (x : Pier) : (setPier s g x).tc = s.tc := rfl
@[simp] theorem setPier_bm (g : Nat) (x : Pier) : (setPier s g x).bm = s.bm := rfl
@[simp] theorem setPier_cal (g : Nat) (x : Pier) : (setPier s g x).cal = s.cal := rfl
@[simp] theorem setPier_pw (g : Nat) (x : Pier) : (setPier s g x).pw = s.pw := rfl
@[simp] theorem setPier_bt (g : Nat) (x : Pier) : (setPier s g x).bt = s.bt := rfl
@[simp] theorem setPier_th (g : Nat) (x : Pier) : (setPier s g x).th = s.th := rfl

/-! Setting a path leaves alone what is not its own. -/

@[simp] theorem setPath_pending (g d : Nat) (x : Path) : (setPath s g d x).pending = s.pending := rfl
@[simp] theorem setPath_elapsed (g d : Nat) (x : Path) : (setPath s g d x).elapsed = s.elapsed := rfl
@[simp] theorem setPath_clock (g d : Nat) (x : Path) : (setPath s g d x).clock = s.clock := rfl
@[simp] theorem setPath_free (g d : Nat) (x : Path) : (setPath s g d x).free = s.free := rfl
@[simp] theorem setPath_epoch (g d : Nat) (x : Path) : (setPath s g d x).epoch = s.epoch := rfl
@[simp] theorem setPath_regs (g d : Nat) (x : Path) : (setPath s g d x).regs = s.regs := rfl
@[simp] theorem setPath_mem (g d : Nat) (x : Path) : (setPath s g d x).mem = s.mem := rfl
@[simp] theorem setPath_flash (g d : Nat) (x : Path) : (setPath s g d x).flash = s.flash := rfl
@[simp] theorem setPath_timers (g d : Nat) (x : Path) : (setPath s g d x).timers = s.timers := rfl
@[simp] theorem setPath_ports (g d : Nat) (x : Path) : (setPath s g d x).ports = s.ports := rfl
@[simp] theorem setPath_tg (g d : Nat) (x : Path) : (setPath s g d x).tg = s.tg := rfl
@[simp] theorem setPath_ad (g d : Nat) (x : Path) : (setPath s g d x).ad = s.ad := rfl
@[simp] theorem setPath_nt (g d : Nat) (x : Path) : (setPath s g d x).nt = s.nt := rfl
@[simp] theorem setPath_ks (g d : Nat) (x : Path) : (setPath s g d x).ks = s.ks := rfl
@[simp] theorem setPath_dk (g d : Nat) (x : Path) : (setPath s g d x).dk = s.dk := rfl
@[simp] theorem setPath_te (g d : Nat) (x : Path) : (setPath s g d x).te = s.te := rfl
@[simp] theorem setPath_fc (g d : Nat) (x : Path) : (setPath s g d x).fc = s.fc := rfl
@[simp] theorem setPath_ty (g d : Nat) (x : Path) : (setPath s g d x).ty = s.ty := rfl
@[simp] theorem setPath_tc (g d : Nat) (x : Path) : (setPath s g d x).tc = s.tc := rfl
@[simp] theorem setPath_bm (g d : Nat) (x : Path) : (setPath s g d x).bm = s.bm := rfl
@[simp] theorem setPath_cal (g d : Nat) (x : Path) : (setPath s g d x).cal = s.cal := rfl
@[simp] theorem setPath_pw (g d : Nat) (x : Path) : (setPath s g d x).pw = s.pw := rfl
@[simp] theorem setPath_bt (g d : Nat) (x : Path) : (setPath s g d x).bt = s.bt := rfl
@[simp] theorem setPath_th (g d : Nat) (x : Path) : (setPath s g d x).th = s.th := rfl

/-! Setting a monitor pair leaves alone what is not its own. -/

@[simp] theorem setMon_pending (g : Nat) (x : Mon) : (setMon s g x).pending = s.pending := rfl
@[simp] theorem setMon_elapsed (g : Nat) (x : Mon) : (setMon s g x).elapsed = s.elapsed := rfl
@[simp] theorem setMon_clock (g : Nat) (x : Mon) : (setMon s g x).clock = s.clock := rfl
@[simp] theorem setMon_free (g : Nat) (x : Mon) : (setMon s g x).free = s.free := rfl
@[simp] theorem setMon_epoch (g : Nat) (x : Mon) : (setMon s g x).epoch = s.epoch := rfl
@[simp] theorem setMon_regs (g : Nat) (x : Mon) : (setMon s g x).regs = s.regs := rfl
@[simp] theorem setMon_mem (g : Nat) (x : Mon) : (setMon s g x).mem = s.mem := rfl
@[simp] theorem setMon_flash (g : Nat) (x : Mon) : (setMon s g x).flash = s.flash := rfl
@[simp] theorem setMon_timers (g : Nat) (x : Mon) : (setMon s g x).timers = s.timers := rfl
@[simp] theorem setMon_ports (g : Nat) (x : Mon) : (setMon s g x).ports = s.ports := rfl
@[simp] theorem setMon_tg (g : Nat) (x : Mon) : (setMon s g x).tg = s.tg := rfl
@[simp] theorem setMon_ad (g : Nat) (x : Mon) : (setMon s g x).ad = s.ad := rfl
@[simp] theorem setMon_nt (g : Nat) (x : Mon) : (setMon s g x).nt = s.nt := rfl
@[simp] theorem setMon_ks (g : Nat) (x : Mon) : (setMon s g x).ks = s.ks := rfl
@[simp] theorem setMon_dr (g : Nat) (x : Mon) : (setMon s g x).dr = s.dr := rfl
@[simp] theorem setMon_dk (g : Nat) (x : Mon) : (setMon s g x).dk = s.dk := rfl
@[simp] theorem setMon_fc (g : Nat) (x : Mon) : (setMon s g x).fc = s.fc := rfl
@[simp] theorem setMon_ty (g : Nat) (x : Mon) : (setMon s g x).ty = s.ty := rfl
@[simp] theorem setMon_tc (g : Nat) (x : Mon) : (setMon s g x).tc = s.tc := rfl
@[simp] theorem setMon_bm (g : Nat) (x : Mon) : (setMon s g x).bm = s.bm := rfl
@[simp] theorem setMon_cal (g : Nat) (x : Mon) : (setMon s g x).cal = s.cal := rfl
@[simp] theorem setMon_pw (g : Nat) (x : Mon) : (setMon s g x).pw = s.pw := rfl
@[simp] theorem setMon_bt (g : Nat) (x : Mon) : (setMon s g x).bt = s.bt := rfl
@[simp] theorem setMon_th (g : Nat) (x : Mon) : (setMon s g x).th = s.th := rfl

/-! Setting an extinction run leaves alone what is not its own. -/

@[simp] theorem setExt_pending (g : Nat) (x : Ext) : (setExt s g x).pending = s.pending := rfl
@[simp] theorem setExt_elapsed (g : Nat) (x : Ext) : (setExt s g x).elapsed = s.elapsed := rfl
@[simp] theorem setExt_clock (g : Nat) (x : Ext) : (setExt s g x).clock = s.clock := rfl
@[simp] theorem setExt_free (g : Nat) (x : Ext) : (setExt s g x).free = s.free := rfl
@[simp] theorem setExt_epoch (g : Nat) (x : Ext) : (setExt s g x).epoch = s.epoch := rfl
@[simp] theorem setExt_regs (g : Nat) (x : Ext) : (setExt s g x).regs = s.regs := rfl
@[simp] theorem setExt_mem (g : Nat) (x : Ext) : (setExt s g x).mem = s.mem := rfl
@[simp] theorem setExt_flash (g : Nat) (x : Ext) : (setExt s g x).flash = s.flash := rfl
@[simp] theorem setExt_timers (g : Nat) (x : Ext) : (setExt s g x).timers = s.timers := rfl
@[simp] theorem setExt_ports (g : Nat) (x : Ext) : (setExt s g x).ports = s.ports := rfl
@[simp] theorem setExt_tg (g : Nat) (x : Ext) : (setExt s g x).tg = s.tg := rfl
@[simp] theorem setExt_ad (g : Nat) (x : Ext) : (setExt s g x).ad = s.ad := rfl
@[simp] theorem setExt_nt (g : Nat) (x : Ext) : (setExt s g x).nt = s.nt := rfl
@[simp] theorem setExt_ks (g : Nat) (x : Ext) : (setExt s g x).ks = s.ks := rfl
@[simp] theorem setExt_dr (g : Nat) (x : Ext) : (setExt s g x).dr = s.dr := rfl
@[simp] theorem setExt_dk (g : Nat) (x : Ext) : (setExt s g x).dk = s.dk := rfl
@[simp] theorem setExt_fc (g : Nat) (x : Ext) : (setExt s g x).fc = s.fc := rfl
@[simp] theorem setExt_ty (g : Nat) (x : Ext) : (setExt s g x).ty = s.ty := rfl
@[simp] theorem setExt_tc (g : Nat) (x : Ext) : (setExt s g x).tc = s.tc := rfl
@[simp] theorem setExt_bm (g : Nat) (x : Ext) : (setExt s g x).bm = s.bm := rfl
@[simp] theorem setExt_cal (g : Nat) (x : Ext) : (setExt s g x).cal = s.cal := rfl
@[simp] theorem setExt_pw (g : Nat) (x : Ext) : (setExt s g x).pw = s.pw := rfl
@[simp] theorem setExt_bt (g : Nat) (x : Ext) : (setExt s g x).bt = s.bt := rfl
@[simp] theorem setExt_th (g : Nat) (x : Ext) : (setExt s g x).th = s.th := rfl

/-! Setting a sequence entry's filter leaves alone what is not its own. -/

@[simp] theorem setHkEntry_pending (i : Nat) (x : HkEntry) : (setHkEntry s i x).pending = s.pending := rfl
@[simp] theorem setHkEntry_elapsed (i : Nat) (x : HkEntry) : (setHkEntry s i x).elapsed = s.elapsed := rfl
@[simp] theorem setHkEntry_clock (i : Nat) (x : HkEntry) : (setHkEntry s i x).clock = s.clock := rfl
@[simp] theorem setHkEntry_free (i : Nat) (x : HkEntry) : (setHkEntry s i x).free = s.free := rfl
@[simp] theorem setHkEntry_epoch (i : Nat) (x : HkEntry) : (setHkEntry s i x).epoch = s.epoch := rfl
@[simp] theorem setHkEntry_regs (i : Nat) (x : HkEntry) : (setHkEntry s i x).regs = s.regs := rfl
@[simp] theorem setHkEntry_mem (i : Nat) (x : HkEntry) : (setHkEntry s i x).mem = s.mem := rfl
@[simp] theorem setHkEntry_flash (i : Nat) (x : HkEntry) : (setHkEntry s i x).flash = s.flash := rfl
@[simp] theorem setHkEntry_timers (i : Nat) (x : HkEntry) : (setHkEntry s i x).timers = s.timers := rfl
@[simp] theorem setHkEntry_ports (i : Nat) (x : HkEntry) : (setHkEntry s i x).ports = s.ports := rfl
@[simp] theorem setHkEntry_tg (i : Nat) (x : HkEntry) : (setHkEntry s i x).tg = s.tg := rfl
@[simp] theorem setHkEntry_ad (i : Nat) (x : HkEntry) : (setHkEntry s i x).ad = s.ad := rfl
@[simp] theorem setHkEntry_nt (i : Nat) (x : HkEntry) : (setHkEntry s i x).nt = s.nt := rfl
@[simp] theorem setHkEntry_ks (i : Nat) (x : HkEntry) : (setHkEntry s i x).ks = s.ks := rfl
@[simp] theorem setHkEntry_dr (i : Nat) (x : HkEntry) : (setHkEntry s i x).dr = s.dr := rfl
@[simp] theorem setHkEntry_dk (i : Nat) (x : HkEntry) : (setHkEntry s i x).dk = s.dk := rfl
@[simp] theorem setHkEntry_te (i : Nat) (x : HkEntry) : (setHkEntry s i x).te = s.te := rfl
@[simp] theorem setHkEntry_fc (i : Nat) (x : HkEntry) : (setHkEntry s i x).fc = s.fc := rfl
@[simp] theorem setHkEntry_ty (i : Nat) (x : HkEntry) : (setHkEntry s i x).ty = s.ty := rfl
@[simp] theorem setHkEntry_tc (i : Nat) (x : HkEntry) : (setHkEntry s i x).tc = s.tc := rfl
@[simp] theorem setHkEntry_bm (i : Nat) (x : HkEntry) : (setHkEntry s i x).bm = s.bm := rfl
@[simp] theorem setHkEntry_cal (i : Nat) (x : HkEntry) : (setHkEntry s i x).cal = s.cal := rfl
@[simp] theorem setHkEntry_pw (i : Nat) (x : HkEntry) : (setHkEntry s i x).pw = s.pw := rfl
@[simp] theorem setHkEntry_bt (i : Nat) (x : HkEntry) : (setHkEntry s i x).bt = s.bt := rfl

/-! Setting a span's mismatches leaves alone what is not its own. -/

@[simp] theorem setMism_pending (n : Nat) (x : List Mismatch) : (setMism s n x).pending = s.pending := rfl
@[simp] theorem setMism_elapsed (n : Nat) (x : List Mismatch) : (setMism s n x).elapsed = s.elapsed := rfl
@[simp] theorem setMism_clock (n : Nat) (x : List Mismatch) : (setMism s n x).clock = s.clock := rfl
@[simp] theorem setMism_free (n : Nat) (x : List Mismatch) : (setMism s n x).free = s.free := rfl
@[simp] theorem setMism_epoch (n : Nat) (x : List Mismatch) : (setMism s n x).epoch = s.epoch := rfl
@[simp] theorem setMism_mem (n : Nat) (x : List Mismatch) : (setMism s n x).mem = s.mem := rfl
@[simp] theorem setMism_flash (n : Nat) (x : List Mismatch) : (setMism s n x).flash = s.flash := rfl
@[simp] theorem setMism_timers (n : Nat) (x : List Mismatch) : (setMism s n x).timers = s.timers := rfl
@[simp] theorem setMism_ports (n : Nat) (x : List Mismatch) : (setMism s n x).ports = s.ports := rfl
@[simp] theorem setMism_tg (n : Nat) (x : List Mismatch) : (setMism s n x).tg = s.tg := rfl
@[simp] theorem setMism_ad (n : Nat) (x : List Mismatch) : (setMism s n x).ad = s.ad := rfl
@[simp] theorem setMism_nt (n : Nat) (x : List Mismatch) : (setMism s n x).nt = s.nt := rfl
@[simp] theorem setMism_ks (n : Nat) (x : List Mismatch) : (setMism s n x).ks = s.ks := rfl
@[simp] theorem setMism_dr (n : Nat) (x : List Mismatch) : (setMism s n x).dr = s.dr := rfl
@[simp] theorem setMism_te (n : Nat) (x : List Mismatch) : (setMism s n x).te = s.te := rfl
@[simp] theorem setMism_fc (n : Nat) (x : List Mismatch) : (setMism s n x).fc = s.fc := rfl
@[simp] theorem setMism_ty (n : Nat) (x : List Mismatch) : (setMism s n x).ty = s.ty := rfl
@[simp] theorem setMism_tc (n : Nat) (x : List Mismatch) : (setMism s n x).tc = s.tc := rfl
@[simp] theorem setMism_bm (n : Nat) (x : List Mismatch) : (setMism s n x).bm = s.bm := rfl
@[simp] theorem setMism_cal (n : Nat) (x : List Mismatch) : (setMism s n x).cal = s.cal := rfl
@[simp] theorem setMism_pw (n : Nat) (x : List Mismatch) : (setMism s n x).pw = s.pw := rfl
@[simp] theorem setMism_bt (n : Nat) (x : List Mismatch) : (setMism s n x).bt = s.bt := rfl
@[simp] theorem setMism_th (n : Nat) (x : List Mismatch) : (setMism s n x).th = s.th := rfl

/-! Setting a count of failed resynchronisations leaves alone what is not its own. -/

@[simp] theorem setFailed_pending (n d k : Nat) : (setFailed s n d k).pending = s.pending := rfl
@[simp] theorem setFailed_elapsed (n d k : Nat) : (setFailed s n d k).elapsed = s.elapsed := rfl
@[simp] theorem setFailed_clock (n d k : Nat) : (setFailed s n d k).clock = s.clock := rfl
@[simp] theorem setFailed_free (n d k : Nat) : (setFailed s n d k).free = s.free := rfl
@[simp] theorem setFailed_epoch (n d k : Nat) : (setFailed s n d k).epoch = s.epoch := rfl
@[simp] theorem setFailed_regs (n d k : Nat) : (setFailed s n d k).regs = s.regs := rfl
@[simp] theorem setFailed_mem (n d k : Nat) : (setFailed s n d k).mem = s.mem := rfl
@[simp] theorem setFailed_flash (n d k : Nat) : (setFailed s n d k).flash = s.flash := rfl
@[simp] theorem setFailed_timers (n d k : Nat) : (setFailed s n d k).timers = s.timers := rfl
@[simp] theorem setFailed_ports (n d k : Nat) : (setFailed s n d k).ports = s.ports := rfl
@[simp] theorem setFailed_tg (n d k : Nat) : (setFailed s n d k).tg = s.tg := rfl
@[simp] theorem setFailed_ad (n d k : Nat) : (setFailed s n d k).ad = s.ad := rfl
@[simp] theorem setFailed_nt (n d k : Nat) : (setFailed s n d k).nt = s.nt := rfl
@[simp] theorem setFailed_ks (n d k : Nat) : (setFailed s n d k).ks = s.ks := rfl
@[simp] theorem setFailed_dr (n d k : Nat) : (setFailed s n d k).dr = s.dr := rfl
@[simp] theorem setFailed_te (n d k : Nat) : (setFailed s n d k).te = s.te := rfl
@[simp] theorem setFailed_fc (n d k : Nat) : (setFailed s n d k).fc = s.fc := rfl
@[simp] theorem setFailed_ty (n d k : Nat) : (setFailed s n d k).ty = s.ty := rfl
@[simp] theorem setFailed_tc (n d k : Nat) : (setFailed s n d k).tc = s.tc := rfl
@[simp] theorem setFailed_bm (n d k : Nat) : (setFailed s n d k).bm = s.bm := rfl
@[simp] theorem setFailed_cal (n d k : Nat) : (setFailed s n d k).cal = s.cal := rfl
@[simp] theorem setFailed_pw (n d k : Nat) : (setFailed s n d k).pw = s.pw := rfl
@[simp] theorem setFailed_bt (n d k : Nat) : (setFailed s n d k).bt = s.bt := rfl
@[simp] theorem setFailed_th (n d k : Nat) : (setFailed s n d k).th = s.th := rfl

/-! Setting whether a stream carries every window leaves alone what is not its own. -/

@[simp] theorem setCont_pending (k : Nat) (b : Bool) : (setCont s k b).pending = s.pending := rfl
@[simp] theorem setCont_elapsed (k : Nat) (b : Bool) : (setCont s k b).elapsed = s.elapsed := rfl
@[simp] theorem setCont_clock (k : Nat) (b : Bool) : (setCont s k b).clock = s.clock := rfl
@[simp] theorem setCont_free (k : Nat) (b : Bool) : (setCont s k b).free = s.free := rfl
@[simp] theorem setCont_epoch (k : Nat) (b : Bool) : (setCont s k b).epoch = s.epoch := rfl
@[simp] theorem setCont_regs (k : Nat) (b : Bool) : (setCont s k b).regs = s.regs := rfl
@[simp] theorem setCont_mem (k : Nat) (b : Bool) : (setCont s k b).mem = s.mem := rfl
@[simp] theorem setCont_flash (k : Nat) (b : Bool) : (setCont s k b).flash = s.flash := rfl
@[simp] theorem setCont_timers (k : Nat) (b : Bool) : (setCont s k b).timers = s.timers := rfl
@[simp] theorem setCont_ports (k : Nat) (b : Bool) : (setCont s k b).ports = s.ports := rfl
@[simp] theorem setCont_tg (k : Nat) (b : Bool) : (setCont s k b).tg = s.tg := rfl
@[simp] theorem setCont_ad (k : Nat) (b : Bool) : (setCont s k b).ad = s.ad := rfl
@[simp] theorem setCont_nt (k : Nat) (b : Bool) : (setCont s k b).nt = s.nt := rfl
@[simp] theorem setCont_ks (k : Nat) (b : Bool) : (setCont s k b).ks = s.ks := rfl
@[simp] theorem setCont_dr (k : Nat) (b : Bool) : (setCont s k b).dr = s.dr := rfl
@[simp] theorem setCont_dk (k : Nat) (b : Bool) : (setCont s k b).dk = s.dk := rfl
@[simp] theorem setCont_te (k : Nat) (b : Bool) : (setCont s k b).te = s.te := rfl
@[simp] theorem setCont_fc (k : Nat) (b : Bool) : (setCont s k b).fc = s.fc := rfl
@[simp] theorem setCont_ty (k : Nat) (b : Bool) : (setCont s k b).ty = s.ty := rfl
@[simp] theorem setCont_bm (k : Nat) (b : Bool) : (setCont s k b).bm = s.bm := rfl
@[simp] theorem setCont_cal (k : Nat) (b : Bool) : (setCont s k b).cal = s.cal := rfl
@[simp] theorem setCont_pw (k : Nat) (b : Bool) : (setCont s k b).pw = s.pw := rfl
@[simp] theorem setCont_bt (k : Nat) (b : Bool) : (setCont s k b).bt = s.bt := rfl
@[simp] theorem setCont_th (k : Nat) (b : Bool) : (setCont s k b).th = s.th := rfl

/-! Setting the release a stream awaits leaves alone what is not its own. -/

@[simp] theorem setAwaited_pending (k : Nat) (x : Option (Nat × List (Nat × Nat))) : (setAwaited s k x).pending = s.pending := rfl
@[simp] theorem setAwaited_elapsed (k : Nat) (x : Option (Nat × List (Nat × Nat))) : (setAwaited s k x).elapsed = s.elapsed := rfl
@[simp] theorem setAwaited_clock (k : Nat) (x : Option (Nat × List (Nat × Nat))) : (setAwaited s k x).clock = s.clock := rfl
@[simp] theorem setAwaited_free (k : Nat) (x : Option (Nat × List (Nat × Nat))) : (setAwaited s k x).free = s.free := rfl
@[simp] theorem setAwaited_epoch (k : Nat) (x : Option (Nat × List (Nat × Nat))) : (setAwaited s k x).epoch = s.epoch := rfl
@[simp] theorem setAwaited_regs (k : Nat) (x : Option (Nat × List (Nat × Nat))) : (setAwaited s k x).regs = s.regs := rfl
@[simp] theorem setAwaited_mem (k : Nat) (x : Option (Nat × List (Nat × Nat))) : (setAwaited s k x).mem = s.mem := rfl
@[simp] theorem setAwaited_flash (k : Nat) (x : Option (Nat × List (Nat × Nat))) : (setAwaited s k x).flash = s.flash := rfl
@[simp] theorem setAwaited_timers (k : Nat) (x : Option (Nat × List (Nat × Nat))) : (setAwaited s k x).timers = s.timers := rfl
@[simp] theorem setAwaited_ports (k : Nat) (x : Option (Nat × List (Nat × Nat))) : (setAwaited s k x).ports = s.ports := rfl
@[simp] theorem setAwaited_tg (k : Nat) (x : Option (Nat × List (Nat × Nat))) : (setAwaited s k x).tg = s.tg := rfl
@[simp] theorem setAwaited_ad (k : Nat) (x : Option (Nat × List (Nat × Nat))) : (setAwaited s k x).ad = s.ad := rfl
@[simp] theorem setAwaited_nt (k : Nat) (x : Option (Nat × List (Nat × Nat))) : (setAwaited s k x).nt = s.nt := rfl
@[simp] theorem setAwaited_ks (k : Nat) (x : Option (Nat × List (Nat × Nat))) : (setAwaited s k x).ks = s.ks := rfl
@[simp] theorem setAwaited_dr (k : Nat) (x : Option (Nat × List (Nat × Nat))) : (setAwaited s k x).dr = s.dr := rfl
@[simp] theorem setAwaited_dk (k : Nat) (x : Option (Nat × List (Nat × Nat))) : (setAwaited s k x).dk = s.dk := rfl
@[simp] theorem setAwaited_te (k : Nat) (x : Option (Nat × List (Nat × Nat))) : (setAwaited s k x).te = s.te := rfl
@[simp] theorem setAwaited_fc (k : Nat) (x : Option (Nat × List (Nat × Nat))) : (setAwaited s k x).fc = s.fc := rfl
@[simp] theorem setAwaited_ty (k : Nat) (x : Option (Nat × List (Nat × Nat))) : (setAwaited s k x).ty = s.ty := rfl
@[simp] theorem setAwaited_bm (k : Nat) (x : Option (Nat × List (Nat × Nat))) : (setAwaited s k x).bm = s.bm := rfl
@[simp] theorem setAwaited_cal (k : Nat) (x : Option (Nat × List (Nat × Nat))) : (setAwaited s k x).cal = s.cal := rfl
@[simp] theorem setAwaited_pw (k : Nat) (x : Option (Nat × List (Nat × Nat))) : (setAwaited s k x).pw = s.pw := rfl
@[simp] theorem setAwaited_bt (k : Nat) (x : Option (Nat × List (Nat × Nat))) : (setAwaited s k x).bt = s.bt := rfl
@[simp] theorem setAwaited_th (k : Nat) (x : Option (Nat × List (Nat × Nat))) : (setAwaited s k x).th = s.th := rfl

/-! Taking a free value moves the model's own counter alone. -/

@[simp] theorem fresh_pending (m : Nat) : (fresh s m).2.pending = s.pending := rfl
@[simp] theorem fresh_elapsed (m : Nat) : (fresh s m).2.elapsed = s.elapsed := rfl
@[simp] theorem fresh_clock (m : Nat) : (fresh s m).2.clock = s.clock := rfl
@[simp] theorem fresh_epoch (m : Nat) : (fresh s m).2.epoch = s.epoch := rfl
@[simp] theorem fresh_regs (m : Nat) : (fresh s m).2.regs = s.regs := rfl
@[simp] theorem fresh_mem (m : Nat) : (fresh s m).2.mem = s.mem := rfl
@[simp] theorem fresh_flash (m : Nat) : (fresh s m).2.flash = s.flash := rfl
@[simp] theorem fresh_timers (m : Nat) : (fresh s m).2.timers = s.timers := rfl
@[simp] theorem fresh_ports (m : Nat) : (fresh s m).2.ports = s.ports := rfl
@[simp] theorem fresh_tg (m : Nat) : (fresh s m).2.tg = s.tg := rfl
@[simp] theorem fresh_ad (m : Nat) : (fresh s m).2.ad = s.ad := rfl
@[simp] theorem fresh_nt (m : Nat) : (fresh s m).2.nt = s.nt := rfl
@[simp] theorem fresh_ks (m : Nat) : (fresh s m).2.ks = s.ks := rfl
@[simp] theorem fresh_dr (m : Nat) : (fresh s m).2.dr = s.dr := rfl
@[simp] theorem fresh_dk (m : Nat) : (fresh s m).2.dk = s.dk := rfl
@[simp] theorem fresh_te (m : Nat) : (fresh s m).2.te = s.te := rfl
@[simp] theorem fresh_fc (m : Nat) : (fresh s m).2.fc = s.fc := rfl
@[simp] theorem fresh_ty (m : Nat) : (fresh s m).2.ty = s.ty := rfl
@[simp] theorem fresh_tc (m : Nat) : (fresh s m).2.tc = s.tc := rfl
@[simp] theorem fresh_bm (m : Nat) : (fresh s m).2.bm = s.bm := rfl
@[simp] theorem fresh_cal (m : Nat) : (fresh s m).2.cal = s.cal := rfl
@[simp] theorem fresh_pw (m : Nat) : (fresh s m).2.pw = s.pw := rfl
@[simp] theorem fresh_bt (m : Nat) : (fresh s m).2.bt = s.bt := rfl
@[simp] theorem fresh_th (m : Nat) : (fresh s m).2.th = s.th := rfl
@[simp] theorem fresh_free (m : Nat) : (fresh s m).2.free = s.free + 1 := rfl

/-! What the updates set. -/

@[simp] theorem wr_regs (a : Nat) (v : Word) : (wr s a v).regs = cellPut resetWord s.regs a v := rfl
@[simp] theorem wrByte_mem (a : Nat) (v : Byte) : (wrByte s a v).mem = cellPut memDefault s.mem a v := rfl
@[simp] theorem armAt_timers (t : Timer) (n : Nat) : (armAt s t n).timers = (t, n) :: s.timers.filter (fun e => decide (e.1 ≠ t)) := rfl
@[simp] theorem disarm_timers (t : Timer) : (disarm s t).timers = s.timers.filter (fun e => decide (e.1 ≠ t)) := rfl
@[simp] theorem setPort_ports (p : Nat) (x : PortState) : (setPort s p x).ports = cellPut (fun _ => PortState.init) s.ports p x := rfl

end Sys2Proof.Machine
end

