-- ==== Sys2Proof/Machine/Outputs.lean ====
section
/-!
DEFINITION. Machine/Outputs.lean: what a pier drives at its sites DRVP, DRVN and TRM (R233, R239, R240, R242).
-/
namespace Sys2Proof.Machine

/-- The fast code whose level stands at the output: while the deglitcher holds, the previous one (R233). -/
def outputFast (s : State) (n l : Nat) : Nat :=
  match (pierOf s (pierIx n l)).glitch with
  | some (v, t) => if s.elapsed < t then v else drivenFast s n l
  | none => drivenFast s n l

/-- Nothing is connected: the span's clamp or the pier's own is closed (R242, R312). -/
def outputClamped (s : State) (n l : Nat) : Bool := clamped s n || flag s (PR_OUT_CLAMPED n l)

/-- The voltage of tap `k` of a ladder in millivolts; tap 256 is its top end (R239). -/
def tapMv (k : Nat) : Rat := 3600 * (k : Rat) / 256

/-- A fast path (R239): D[13:6] selects the segment from one tap to the next, and the interpolating string selects D[5:0] of its 64 steps. -/
def stringMv (code : Nat) : Rat :=
  let k := code / 64 % 256
  tapMv k + (tapMv (k + 1) - tapMv k) * ((code % 64 : Nat) : Rat) / 64

/-- V_DRVP of a pier in millivolts (R239, R242). -/
def drvpMv (s : State) (n l : Nat) : Rat := if outputClamped s n l then 0 else stringMv (outputFast s n l)

/-- V_DRVN of a pier in millivolts: the complementary code (R239, R242). -/
def drvnMv (s : State) (n l : Nat) : Rat := if outputClamped s n l then 0 else stringMv (16383 - outputFast s n l)

/-- The common mode of a pier's fast output in millivolts (R239). -/
def commonMv (s : State) (n l : Nat) : Rat := (drvpMv s n l + drvnMv s n l) / 2

/-- I_TRM of a trim code in milliamperes (R240). -/
def trimMa (tc : Nat) : Rat := 16 * (tc : Rat) / 4096

/-- The current a pier drives into TRM in milliamperes, while the voltage there stays within its compliance (R240, R242). -/
def trmMa (s : State) (n l : Nat) : Rat := if outputClamped s n l then 0 else trimMa (getF s (PR_OUT_TRIM n l))

end Sys2Proof.Machine
end

