-- ==== Sys2Proof/Tests/Slice0.lean ====
section
/-!
SUPPORT. Tests/Slice0.lean: the ill-formed commands that WellFormed refuses, worked examples of the spec, and for every statement of Obligations.lean with hypotheses
a concrete state and operands that meet them.
-/
set_option autoImplicit false
set_option Elab.async false

namespace Sys2Proof.Tests
open Sys2Proof Sys2Proof.Machine

/-- The state after reset with some fields set. -/
def tst (fs : List (Fld × Nat)) : State := fs.foldl (fun s e => setF s e.1 e.2) State.reset

/-- A write of one word by a bus master, with no lock and no wait. -/
def wrt (m : Master) (v : BitVec 32) : RegWrite := ⟨m, v, 0, .none, 15⟩

/-- A way for messages. -/
def way : Route := ⟨0, 0, 0, 0, [], 0, 0, 0, 0⟩

/-- A frame of zeros. -/
def zeros (n : Nat) : Frame := ⟨List.replicate n 0, 0⟩

/-- Port 0 enabled with its link up. -/
def portSt : State := tst [(TH_PSTATE_STATE, 2), (CP_CTRL_ENABLE 0, 1), (CP_STATUS_LINK 0, 1), (CP_MAX_FRAME_MAX 0, 1522), (CP_BUF_SHARE 0, 8)]

/-! ### The machine as a whole, and registers -/

theorem test_step_front : ({ State.reset with pending := [.rstNRise] } : State).pending = .rstNRise :: [] := rfl

theorem test_idle : State.reset.pending = [] ∧ ¬ (2 ≤ pstate State.reset ∧ flag State.reset (TH_PLL_LOCK 0) = true)
    ∧ (tst [(TH_PSTATE_STATE, 2), (TH_PLL_LOCK 0, 1)]).pending = []
    ∧ 2 ≤ pstate (tst [(TH_PSTATE_STATE, 2), (TH_PLL_LOCK 0, 1)]) ∧ flag (tst [(TH_PSTATE_STATE, 2), (TH_PLL_LOCK 0, 1)]) (TH_PLL_LOCK 0) = true := by decide +kernel

theorem test_canonical : State.reset.Canon ∧ State.reset.Tables ∧ ∃ t, step State.reset = .next t := by
  refine ⟨?_, ?_, _, rfl⟩
  · simp only [State.Canon]; decide +kernel
  · simp only [State.Tables]; decide +kernel

theorem test_epoch : exec .vthPowerOn { State.reset with epoch := 1 } = .next State.reset
    ∧ State.reset.epoch ≠ ({ State.reset with epoch := 1 } : State).epoch := ⟨rfl, by decide⟩

theorem test_fields_apart : FieldsApart [⟨3, 1, .rw, 0, .asIs⟩, ⟨31, 31, .w1c, 0, .asIs⟩] := by simp [FieldsApart]

theorem test_plain_write : Granted State.reset (wrt 0 1) aTY_CTRL ∧ tyBase ≤ aTY_CTRL ∧ aTY_CTRL < tcBase
    ∧ Granted State.reset (wrt 47 1) (nvBase - 4) ∧ bmBase ≤ nvBase - 4 ∧ nvBase - 4 < nvBase := by simp only [Granted]; decide +kernel

theorem test_counter_latch : isCounterHigh (cTG_CNT 0 + 4) = true ∧ isCounterHigh (cTG_CNT 0) = false ∧ isCounterHigh (cHK_CNT 5 + 4) = true
    ∧ isCounterHigh (cHK_CNT 5) = false ∧ cellWf (fun _ => none) State.reset.bm.latches = true
    ∧ latchOf { State.reset with bm := { State.reset.bm with latches := [(3, some (cTG_CNT 0, 0))] } } 3 = some (cTG_CNT 0, bitsOf (rd State.reset (cTG_CNT 0 + 4)) 15 0)
    ∧ latchOf State.reset 3 = none := by decide +kernel

theorem test_refused_write : State.reset.bm.lock = none ∧ debugLocked State.reset = false
    ∧ placeOf (atGrant State.reset ⟨47, 1, 0, .none, 7⟩) (deckOf (atGrant State.reset ⟨47, 1, 0, .none, 7⟩) 47) aTY_CTRL = Place.register
    ∧ aTY_CTRL % 4 = 0 ∧ mergeBytes 0xAABBCCDD 0x11223344 5 = 0xAA22CC44 := by decide +kernel

theorem test_granted_read : State.reset.bm.lock = none ∧ debugLocked State.reset = false
    ∧ accessError State.reset 11 (cTG_CNT 0) false 15 = none
    ∧ placeOf State.reset (deckOf State.reset 11) (cTG_CNT 0) = Place.register := by decide +kernel

/-- R11: a master that reads its own BM_WAIT is given the maximum before this access's own wait, which the register then holds. -/
theorem test_own_wait : (match exec (.rcFieldRead (BitVec.ofNat 32 (aBM_WAIT 11)) ⟨11, 7, .none, 15⟩) (tst [(BM_WAIT_MAX 11, 5)]) with
    | .next t => (t.bm.readData, getF t (BM_WAIT_MAX 11)) | _ => (0, 0)) = (5, 7) := by decide +kernel

theorem test_read_clears : (rowAt (aCP_STATUS 0)).isSome = true := by decide +kernel

/-- A master that holds a lock on a target until `t`. -/
def lockSt : State := { tst [(CP_CTRL_ENABLE 0, 1), (TH_PSTATE_STATE, 2)] with bm := ⟨[], some (11, 100, 2), [], 0⟩, timers := [(.lock, 0)] }

theorem test_matrix : debugLocked State.reset = false
    ∧ flag lockSt (CP_CTRL_ENABLE 0) = true ∧ flag (rowWrite portSt (aCP_CTRL 0) (wrt 0 0)) (CP_CTRL_ENABLE 0) = false
    ∧ holdsLock lockSt 0 = false ∧ holdsLock lockSt 11 = true ∧ lockSt.bm.lock = some (11, 100, 2) ∧ due lockSt .lock = true
    ∧ flag portSt (CP_CTRL_ENABLE 0) = true
    ∧ islandsRun (tst (((List.range 90).map (fun k => (BM_JSTAT_UP k, 1))) ++ [(TH_PSTATE_STATE, 2)])) = true
    ∧ (∀ k < 91, joinRank k < joinRank 90 → flag (tst (((List.range 90).map (fun k => (BM_JSTAT_UP k, 1))) ++ [(TH_PSTATE_STATE, 2)])) (BM_JSTAT_UP k) = true)
    ∧ flag (tst [(TH_PSTATE_STATE, 2)]) (BM_JSTAT_UP 90) = false := by decide +kernel

theorem test_matrix_canon : lockSt.Canon := by simp only [State.Canon]; decide +kernel

/-! ### Control ports and the Tollgate -/

theorem test_frames : portSt.Canon ∧ PortsWf portSt ∧ portUp portSt 0 = true
    ∧ (List.replicate 59 (0 : Byte)).length + 4 < 64 ∧ getF portSt (CP_MAX_FRAME_MAX 0) < (List.replicate 1519 (0 : Byte)).length + 4
    ∧ 64 ≤ (List.replicate 60 (0xFF#8)).length + 4 ∧ (List.replicate 60 (0xFF#8)).length + 4 ≤ getF portSt (CP_MAX_FRAME_MAX 0)
    ∧ acceptsMac portSt 0 (beAt (List.replicate 60 (0xFF#8)) 0 6) = true ∧ beAt (List.replicate 60 (0xFF#8)) 12 2 ≠ 0x8808
    ∧ occupancy portSt 0 + ((List.replicate 60 (0xFF#8)).length + 4) ≤ getF portSt (CP_BUF_SHARE 0) * 16384 := by
  simp only [State.Canon, PortsWf]; decide +kernel

/-- Port 0 with flow control, a paused priority and a pause frame to repeat. -/
def pauseSt : State := { setF (setF portSt (CP_CTRL_PFC_RX_EN 0) 1) (CP_PFC_THR_XON 0 3) 0 with
  ports := [(0, ⟨[], [], [(2, 5)], [(3, true)], [.delayReq ⟨0, 2, 0, 0, [], 0, 0, 0, 0, 0, 0, []⟩ 1]⟩)], timers := [(.pfcXoff 0 3, 7)], elapsed := 7 }

theorem test_pauses : PortsWf pauseSt ∧ cellWf (fun _ => 0) (portOf pauseSt 0).pauseEnd = true ∧ portUp pauseSt 0 = true ∧ flag pauseSt (CP_CTRL_PFC_RX_EN 0) = true
    ∧ portUp (setF portSt (CP_CTRL_PFC_RX_EN 0) 0) 0 = true ∧ flag (setF portSt (CP_CTRL_PFC_RX_EN 0) 0) (CP_CTRL_PFC_RX_EN 0) = false ∧ paused pauseSt 0 2 = false
    ∧ flag pauseSt (CP_CTRL_PFC_TX_EN 0) = true ∧ due pauseSt (.pfcXoff 0 3) = true ∧ xoffSent pauseSt 0 3 = true ∧ xonBytes pauseSt 0 3 ≤ prioOccupancy pauseSt 0 3 := by
  simp only [PortsWf]; decide +kernel

/-- Port 0 whose rate alternates. -/
def rateSt (b : Nat) (x : Timer) : State := { tst [(TH_PSTATE_STATE, 2), (CP_CTRL_ENABLE 0, 1), (CP_CTRL_FALLBACK_EN 0, 1), (CP_STATUS_BLOCK_LOCK 0, b)] with timers := [(x, 0)] }

theorem test_links : State.reset.Canon ∧ portRuns State.reset 0 = false ∧ (rateSt 1 .lock).Canon ∧ portRuns (rateSt 1 .lock) 0 = true ∧ flag (rateSt 1 .lock) (CP_STATUS_BLOCK_LOCK 0) = true
    ∧ flag (rateSt 1 .lock) (CP_CTRL_FALLBACK_EN 0) = true ∧ flag portSt (CP_STATUS_LINK 0) ≠ linkOf portSt 0 ⟨false, false, false, false⟩ ∧ portRuns portSt 0 = true
    ∧ portSt.Canon ∧ (rateSt 0 (.loss 0)).Canon ∧ flag (rateSt 0 (.loss 0)) (CP_CTRL_FALLBACK_EN 0) = true
    ∧ flag (rateSt 0 (.loss 0)) (CP_STATUS_BLOCK_LOCK 0) = false ∧ due (rateSt 0 (.loss 0)) (.loss 0) = true
    ∧ (rateSt 0 (.attempt 0)).Canon ∧ due (rateSt 0 (.attempt 0)) (.loss 0) = false ∧ due (rateSt 0 (.attempt 0)) (.attempt 0) = true := by
  simp only [State.Canon]; decide +kernel

/-- Port 0 with one frame waiting. -/
def walkSt : State := { portSt with ports := [(0, ⟨[zeros 60], [zeros 61], [], [], []⟩)] }

theorem test_walks : walkSt.Canon ∧ PortsWf walkSt ∧ (portOf walkSt 0).frames = zeros 60 :: [] ∧ engineFree walkSt 15 = true ∧ walkDue walkSt 0 = true ∧ peerDelayFrame (zeros 60) = false
    ∧ peerDelayFrame ⟨[0x01, 0x80, 0xC2, 0, 0, 0x0E] ++ List.replicate 54 0, 0⟩ = true
    ∧ Granted walkSt (wrt 0 1) aTG_ENGINE := by
  simp only [State.Canon, PortsWf, Granted]; decide +kernel

/-- An entry of the fragment table: complete or not. -/
def fragEntry (done : Bool) : FragEntry := ⟨0, 0, 0, 17, false, 0, 0, 0, .alp, 0, [⟨0, 0, ! done, [0, 0, 0, 0, 0, 0, 0, 0], zeros 42⟩], false, 0⟩

/-- The table with an entry in its last place. -/
def fragSt (done : Bool) : State := { portSt with tg := { portSt.tg with frags := [(255, some (fragEntry done))] } }

theorem test_fragments : (fragSt false).Canon ∧ cellWf (fun _ => none) (fragSt false).tg.frags = true ∧ fragAt (fragSt false) 255 = some (fragEntry false)
    ∧ (fragEntry false).deadline ≤ (fragSt false).elapsed ∧ fragComplete (fragEntry false) = false
    ∧ fragAt (fragSt true) 255 = some (fragEntry true) ∧ engineFree (fragSt true) 0 = true ∧ (fragEntry true).poisoned = false
    ∧ fragComplete (fragEntry true) = true ∧ (fragEntry true).pieces.find? (fun q => decide (q.off = 0)) = some ⟨0, 0, false, [0, 0, 0, 0, 0, 0, 0, 0], zeros 42⟩ := by
  simp only [State.Canon]; decide +kernel

theorem test_tollgate_writes : Granted walkSt (wrt 0 0x800) aTG_RULE_OP ∧ bitsOf (0x800 : BitVec 32) 12 11 = 1 ∧ bitsOf (0x1000 : BitVec 32) 12 11 = 2
    ∧ bitsOf (0x1800 : BitVec 32) 12 11 = 3 ∧ Granted walkSt (wrt 0 1) aTG_GEN_CTRL ∧ (1 : BitVec 32).getLsbD 0 = true ∧ Granted walkSt (wrt 0 1) (aTG_POL_w1 63)
    ∧ cellWf (fun _ => (⟨0, 0⟩ : Bucket)) walkSt.tg.buckets = true ∧ Granted walkSt (wrt 0 1) (aTG_POL_w0 63) ∧ Granted walkSt (wrt 0 0x400) aTG_FWQ
    ∧ (0x400 : BitVec 32).getLsbD 10 = true ∧ PortsWf walkSt := by
  simp only [Granted, PortsWf]; decide +kernel

theorem test_rules : (tst [(TG_RULE_OP_BANK, 1)]).Canon ∧ bankFree (tst [(TG_RULE_OP_BANK, 1)]) (getF (tst [(TG_RULE_OP_BANK, 1)]) TG_RULE_OP_BANK) = true
    ∧ cellWf (fun _ => (0 : Word)) (tst [(TG_RULE_OP_BANK, 1)]).tg.rules = true ∧ (∀ e ∈ (tst [(TG_RULE_OP_BANK, 1)]).tg.rules, e.1 < 32768)
    ∧ bankFree State.reset (getF State.reset TG_RULE_OP_BANK) = false ∧ flag State.reset TG_GEN_CTRL_RETIRING = false
    ∧ flag (tst [(TG_GEN_CTRL_RETIRING, 1)]) TG_GEN_CTRL_RETIRING = true := by
  simp only [State.Canon]; decide +kernel

/-! ### Admission, lanes and messages -/

/-- A partner message of a type: ver 1, on lane 0 with sequence number 0, and a body. -/
def mkMsg (typ : Byte) (body : List Byte) (nano : Nat) : Msg :=
  ⟨way, 0, 0, 0, 1, 0xF, [0x10, typ] ++ beBytes 2 (24 + body.length) ++ List.replicate 16 0 ++ beBytes 4 nano ++ body, zeros 60⟩

/-- Lane 0 of partner 0, with every request type and a quota. -/
def lane0 : Lane := { Lane.init with cfg := ⟨0x000105C0#32 ||| 0x800#32, 100#32, 1000#32⟩ }

/-- A map of some ports and one cell. -/
def mapOf (n : Nat) : EMap := ⟨0, n, n, 1, 0, 0, 70, 0, [[⟨0, 1, 2, 0, 1, 2, 3⟩]], [(0x7FFF, 0x7FFF), (0x7FFF, 0x7FFF)]⟩

/-- Service with a schedule of two windows of 4 µs, and a message first in admission's queue. -/
def admSt (m : Msg) : State :=
  let s := wr (tst [(AD_CTRL_EN, 1), (AD_PIPE_P, 2000), (AD_PIPE_C, 900), (AD_PART_w0_SIZE 0, 1000), (TH_PSTATE_STATE, 4), (NT_STATE_SERVO, 2),
    (LS_CTRL_EN, 1), (LS_CTRL_RUN, 1), (LS_BANK_w0_CYCLE 0, 8000), (LS_BANK_w2_COUNT 0, 2), (LS_ENTRY_DURATION 0, 4000), (LS_ENTRY_DURATION 1, 4000),
    (TH_PCTRL_TARGET, 4), (CP_CTRL_ENABLE 0, 1), (CP_STATUS_LINK 0, 1), (FU_PROT_CNTRD, 1)]) aFU_ROLE 0x3FFFFFFF
  { s with tg := { s.tg with inbox := [m] }, ad := { s.ad with lanes := [(0, lane0)] }, ks := { Keystone.init with map := some (mapOf 8) } }

/-- A FULL request that connects output 1 to input 2, and one whose output does not exist. -/
def fullMsg (out nano : Nat) : Msg := mkMsg 1 (beBytes 4 (out * 1024 + 2)) nano

theorem test_requests :
    LanesWf (admSt (fullMsg 1 0)) ∧ Passes (admSt (fullMsg 1 0)) (fullMsg 1 0) ∧ msgType (fullMsg 1 0) = 1
    ∧ timeCheck (admSt (fullMsg 1 0)) (fullMsg 1 0) = none ∧ contentCheck 1 (portCount (admSt (fullMsg 1 0))) (msgBody (fullMsg 1 0)) = none
    ∧ timeCheck (admSt (fullMsg 1 5)) (fullMsg 1 5) = some (0x0B, 20) ∧ Passes (admSt (fullMsg 1 5)) (fullMsg 1 5)
    ∧ Passes (admSt (fullMsg 9 0)) (fullMsg 9 0) ∧ (contentCheck 1 (portCount (admSt (fullMsg 9 0))) (msgBody (fullMsg 9 0))).isSome = true := by
  simp only [LanesWf, Passes]; decide +kernel

theorem test_request_types : Passes (admSt (mkMsg 2 (beBytes 4 1026) 0)) (mkMsg 2 (beBytes 4 1026) 0) ∧ msgType (mkMsg 2 (beBytes 4 1026) 0) = 2
    ∧ Passes (admSt (mkMsg 3 [] 0)) (mkMsg 3 [] 0) ∧ msgType (mkMsg 3 [] 0) = 3 := by
  simp only [Passes]; decide +kernel

/-- Whether the decision accepts. -/
def accepts (s : State) (m : Msg) : Bool := match decision (atStep6 s m) (askOf (atStep6 s m) m) with | .accept _ _ => true | .refuse _ _ _ => false

theorem test_decisions : accepts (admSt (fullMsg 1 0)) (fullMsg 1 0) = true
    ∧ accepts (setF (admSt (fullMsg 1 0)) (AD_PART_w0_SIZE 0) 0) (fullMsg 1 0) = false
    ∧ Passes (setF (admSt (fullMsg 1 0)) (AD_PART_w0_SIZE 0) 0) (fullMsg 1 0) := by
  simp only [Passes]; decide +kernel

theorem test_lockstep : (admSt (fullMsg 1 0)).Canon ∧ (admSt (fullMsg 1 0)).tg.inbox.head? = some (fullMsg 1 0) ∧ flag (admSt (fullMsg 1 0)) AD_CTRL_EN = true
    ∧ unanswerable (fullMsg 1 0) = false ∧ accessWaits (admSt (fullMsg 1 0)) (fullMsg 1 0) = false := by
  simp only [State.Canon]; decide +kernel

/-- A QUERY of a kind. -/
def query (k : Byte) : Msg := mkMsg 0x10 [k, 0, 0, 0, 0, 0, 0, 0] 0

/-- A SUBSCRIBE with a period. -/
def subMsg (p : Byte) : Msg := mkMsg 0x30 [3, 0xF, 0, p, 0, 0, 0, 0] 0

theorem test_queries : (∀ k < 5, 1 ≤ k → queryKind (query (BitVec.ofNat 8 k)) = k ∧ (msgBody (query (BitVec.ofNat 8 k))).length = 8
      ∧ msgType (query (BitVec.ofNat 8 k)) = 0x10 ∧ seqTest (admSt (query (BitVec.ofNat 8 k))) (query (BitVec.ofNat 8 k)) = SeqTest.process
      ∧ permitted (admSt (query (BitVec.ofNat 8 k))) (query (BitVec.ofNat 8 k)) = true)
    ∧ Passes (admSt (query 1)) (query 1) ∧ Passes (admSt (subMsg 0)) (subMsg 0) ∧ Passes (admSt (subMsg 1)) (subMsg 1) ∧ msgType (subMsg 1) = 0x30
    ∧ (msgBody (subMsg 1)).length = 8 ∧ counterReads (admSt (subMsg 1)) = true ∧ beAt (msgBody (subMsg 0)) 2 2 = 0 ∧ beAt (msgBody (subMsg 1)) 2 2 ≠ 0
    ∧ cellWf (fun _ => none) (admSt (subMsg 1)).ad.subs = true := by
  simp only [Passes]; decide +kernel

/-- A TIME_STEP for a grandmaster, until a second. -/
def stepMsg (gm sec : Nat) : Msg := mkMsg 0x40 (beBytes 8 gm ++ beBytes 8 5 ++ beBytes 4 sec ++ beBytes 4 0) 0

/-- The state with the time 2 s and another grandmaster selected. -/
def stepSt (m : Msg) : State := { setF (admSt m) NT_STATE_GM_VALID 1 with clock := 2000000000 * 2 ^ 42 }

theorem test_time_step : Passes (stepSt (stepMsg 7 1)) (stepMsg 7 1) ∧ msgType (stepMsg 7 1) = 0x40 ∧ (msgBody (stepMsg 7 1)).length = 24
    ∧ extendSec (stepSt (stepMsg 7 1)) (beAt (msgBody (stepMsg 7 1)) 16 4) * 1000000000 + beAt (msgBody (stepMsg 7 1)) 20 4 < netNs (stepSt (stepMsg 7 1))
    ∧ netNs (stepSt (stepMsg 7 2)) ≤ extendSec (stepSt (stepMsg 7 2)) (beAt (msgBody (stepMsg 7 2)) 16 4) * 1000000000 + beAt (msgBody (stepMsg 7 2)) 20 4
    ∧ (stepSt (stepMsg 7 2)).nt.decision = none ∧ (stepSt (stepMsg 7 2)).nt.persist = none ∧ flag (stepSt (stepMsg 7 2)) NT_STATE_GM_VALID = true
    ∧ beAt (msgBody (stepMsg 7 2)) 0 8 ≠ gmId (stepSt (stepMsg 7 2)) ∧ beAt (msgBody (stepMsg 0 2)) 0 8 = gmId (stepSt (stepMsg 0 2))
    ∧ Passes (stepSt (stepMsg 7 2)) (stepMsg 7 2) ∧ Passes (stepSt (stepMsg 0 2)) (stepMsg 0 2) := by
  simp only [Passes]; decide +kernel

/-- A TIME_STEP whose nanoseconds word is a whole second, and one a nanosecond below it. -/
def nanoMsg (ns : Nat) : Msg := mkMsg 0x40 (beBytes 8 7 ++ beBytes 8 5 ++ beBytes 4 2 ++ beBytes 4 ns) 0

theorem test_time_step_nanos : Passes (stepSt (nanoMsg 1000000000)) (nanoMsg 1000000000) ∧ msgType (nanoMsg 1000000000) = 0x40
    ∧ (msgBody (nanoMsg 1000000000)).length = 24 ∧ beAt (msgBody (nanoMsg 1000000000)) 20 4 = 1000000000
    ∧ beAt (msgBody (nanoMsg 999999999)) 20 4 = 999999999 ∧ Passes (stepSt (nanoMsg 999999999)) (nanoMsg 999999999) := by
  simp only [Passes]; decide +kernel

/-- A REG_READ and a REG_WRITE of one word. -/
def readMsg (a : Nat) : Msg := mkMsg 0x20 (beBytes 4 a ++ beBytes 2 1 ++ [0, 0]) 0
def writeMsg (a : Nat) : Msg := mkMsg 0x21 (beBytes 4 a ++ beBytes 2 1 ++ [0, 0, 0, 0, 0, 1]) 0

theorem test_register_messages : Passes (admSt (readMsg aTG_ENGINE)) (readMsg aTG_ENGINE) ∧ accessWaits (admSt (readMsg aTG_ENGINE)) (readMsg aTG_ENGINE) = false
    ∧ regCount (readMsg aTG_ENGINE) = 1 ∧ regAddr (readMsg aTG_ENGINE) % 4 = 0 ∧ behindLock (admSt (readMsg aTG_ENGINE)) (regAddr (readMsg aTG_ENGINE)) = false
    ∧ (msgBody (readMsg aTG_ENGINE)).length = 8 ∧ (busRead (atStep6 (admSt (readMsg aTG_ENGINE)) (readMsg aTG_ENGINE)) 2 (regAddr (readMsg aTG_ENGINE)) 0 .none).2 = 0
    ∧ (busRead (atStep6 (admSt (readMsg 0xF0000000)) (readMsg 0xF0000000)) 2 (regAddr (readMsg 0xF0000000)) 0 .none).2 ≠ 0
    ∧ Passes (admSt (writeMsg aTG_ENGINE)) (writeMsg aTG_ENGINE) ∧ (msgBody (writeMsg aTG_ENGINE)).length = 12 ∧ dmaOf way.port = 2 := by
  simp only [Passes]; decide +kernel

/-- A request in flight on a lane, for the window at 8,000 ns. -/
def req (id lane tag : Nat) (ph : ReqPhase) : Request := ⟨id, lane, 0, 1, 0, 0, [], 1, 0, 8000, 0, 0, 6000, 8080, tag, true, false, 0, ph⟩

/-- Two requests in flight, and a time. -/
def flightSt (ns : Nat) (ph : ReqPhase) : State :=
  { admSt (fullMsg 1 0) with
    clock := ns * 2 ^ 42
    ad := { (admSt (fullMsg 1 0)).ad with inflight := [req 1 0 9 ph, req 2 1 9 ph], slots := [⟨8000, 6000, 0, false⟩], lanes := [(0, { lane0 with route := some way })] } }

theorem test_dispatch : (flightSt 6000 .queued).Canon ∧ dueSlot (flightSt 6000 .queued) = some ⟨8000, 6000, 0, false⟩
    ∧ dispatchChoice (flightSt 6000 .queued) 8000 = some (req 1 0 9 .queued) ∧ (∀ q ∈ waiting (flightSt 6000 .queued) 8000, q.tag < 2 ^ 31)
    ∧ waiting (flightSt 6000 .queued) 8000 = [req 1 0 9 .queued, req 2 1 9 .queued] ∧ inPipe (flightSt 6000 .queued) < 2 := by
  simp only [State.Canon]; decide +kernel

theorem test_delivery : LanesWf (flightSt 8080 .released) ∧ dueDelivery (flightSt 8080 .released) = some (req 1 0 9 .released)
    ∧ (req 1 0 9 .released).crep = true ∧ (laneOf (flightSt 8080 .released) 0).route.isSome = true
    ∧ (flightSt 8080 .released).Canon ∧ flag (flightSt 8080 .released) LS_CTRL_RUN = true
    ∧ (firstReq (flightSt 8080 .released) ((flightSt 8080 .released).ad.closed + 1)).any
        (fun r => decide (closeOf (flightSt 8080 .released) r.win.start ≤ (netNs (flightSt 8080 .released) : Int)) && ! beyondStep (flightSt 8080 .released) r.win.start) = true := by
  simp only [LanesWf, State.Canon]; decide +kernel

/-- A lane with a held configuration and nothing in flight. -/
def heldSt : State := { State.reset with ad := { State.reset.ad with lanes := [(16383, { Lane.init with held := some ⟨1, 2, 3⟩ })] } }

theorem test_lane_config : Granted State.reset (wrt 0 0x20000) aLN_SEL ∧ bitsOf (0x20000 : BitVec 32) 17 16 = 2 ∧ bitsOf (0x10000 : BitVec 32) 17 16 = 1
    ∧ State.reset.Canon ∧ LanesWf State.reset ∧ laneFlight State.reset (getF State.reset LN_SEL_LANE) = []
    ∧ LanesWf (flightSt 0 .queued) ∧ laneFlight (flightSt 0 .queued) (getF (flightSt 0 .queued) LN_SEL_LANE) ≠ []
    ∧ LanesWf heldSt ∧ (laneOf heldSt 16383).held = some ⟨1, 2, 3⟩ ∧ laneFlight heldSt 16383 = []
    ∧ Granted State.reset (wrt 0 163840) (aAD_PART_w0 63) ∧ partitionTotal (storeWrite (atGrant State.reset (wrt 0 163840)) (aAD_PART_w0 63) 163840) ≤ 163840
    ∧ ¬ partitionTotal (storeWrite (atGrant State.reset (wrt 0 163841)) (aAD_PART_w0 63) 163841) ≤ 163840
    ∧ Granted State.reset (wrt 0 1) (aLN_SHP_w0 63) ∧ Granted State.reset (wrt 0 1) (aLN_SHP_w1 63) := by
  simp only [Granted, State.Canon, LanesWf]; decide +kernel

/-- A device message on its way. -/
def outMsg (k : Option Nat) : OutMsg := ⟨0, 0x83, 0, 0, 0, 0, [0], way, true, true, k⟩

/-- Partner 63 with a reply or a telemetry message waiting, and a level. -/
def shpSt (rs ts : List OutMsg) (level : Int) (en : Nat) : State :=
  { setF (setF (admSt (query 1)) (LN_SHP_w1_EN 63) en) (LN_SHP_w0_RATE 63) en with
    ad := { (admSt (query 1)).ad with
      shapers := [(63, ⟨⟨level, 0⟩, rs, ts⟩)], lanes := [(0, { lane0 with route := some way })], subs := [(255, some ⟨0, 1, 1000, []⟩)] },
    timers := [(.credit 0, 0), (.telemetry 63 3, 0)] }

theorem test_egress : LanesWf (shpSt [outMsg none] [] 0 0) ∧ shaperOpen (shpSt [outMsg none] [] 0 0) 63 = true
    ∧ takeFirst (shpSt [outMsg none] [] 0 0) (shaperOf (shpSt [outMsg none] [] 0 0) 63).replies = some (outMsg none, [])
    ∧ shaperOpen (shpSt [] [outMsg (some 3)] 0 1) 63 = false ∧ 0 ≤ shaperLevel (shpSt [] [outMsg (some 3)] 0 1) 63
    ∧ takeFirst (shpSt [] [outMsg (some 3)] 0 1) (shaperOf (shpSt [] [outMsg (some 3)] 0 1) 63).replies = none
    ∧ takeFirst (shpSt [] [outMsg (some 3)] 0 1) (shaperOf (shpSt [] [outMsg (some 3)] 0 1) 63).telemetry = some (outMsg (some 3), [])
    ∧ shaperOpen (shpSt [] [] (-1) 1) 63 = false ∧ shaperLevel (shpSt [] [] (-1) 1) 63 < 0
    ∧ due (shpSt [] [] 0 0) (.credit 0) = true ∧ (laneOf (shpSt [] [] 0 0) 0).route = some way
    ∧ cellWf (fun _ => none) (shpSt [] [] 0 0).ad.subs = true ∧ subOf (shpSt [] [] 0 0) 63 3 = some ⟨0, 1, 1000, []⟩
    ∧ timerAt (.telemetry 63 3) (shpSt [] [] 0 0).timers = some 0 := by
  simp only [LanesWf]; decide +kernel

theorem test_telemetry : (shpSt [] [outMsg (some 3)] 0 0).Canon ∧ LanesWf (shpSt [] [outMsg (some 3)] 0 0) ∧ (∀ m ∈ [outMsg (some 3)], m.stream = some 3)
    ∧ (∃ m ∈ (shaperOf (shpSt [] [outMsg (some 3)] 0 0) 63).telemetry, m.stream = some 3)
    ∧ (∀ m ∈ (shaperOf (shpSt [] [outMsg (some 2)] 0 0) 63).telemetry, m.stream ≠ some 3) := by
  simp only [State.Canon, LanesWf]; decide +kernel

/-! ### Network time and the lift schedule -/

/-- A PTP message of a type, with a sequence number, and its other bytes 0; a two-step one has bit 1 of byte 6. -/
def ptpMsg (typ : Byte) (two : Byte) (n : Nat) : PtpMsg := ⟨way, 10, [typ, 2, 0, 0, 0, 0, two] ++ List.replicate (n - 7) 0⟩

/-- The master that the messages come from. -/
def gm0 : Foreign := ⟨way, 0, 1, 2, 3, 0, 0⟩

/-- The state with a message for network time and a selected master. -/
def ptpSt (m : PtpMsg) : State :=
  { tst [(NT_CTRL_PTP_EN, 63), (NT_STATE_GM_VALID, 1), (TH_PSTATE_STATE, 2), (CP_CTRL_ENABLE 0, 1), (CP_STATUS_LINK 0, 1)] with
    tg := { State.reset.tg with ptp := [m] }
    nt := { NetTime.init with masters := [gm0], syncs := [⟨0, 0, 0, 1, 2, true⟩], ring := [⟨0, 0, 0, 1, 2, true⟩] }
    timers := [(announceKey gm0, 0), (.followUp 0 0, 0), (.ringFollowUp 0 0, 0), (.delayReq, 0)] }

theorem test_ptp : (ptpSt (ptpMsg 11 0 64)).Canon ∧ nextPtp (ptpSt (ptpMsg 11 0 64)) ptpAnnounce = some (ptpMsg 11 0 64) ∧ 64 ≤ (ptpMsg 11 0 64).bytes.length
    ∧ (ptpSt (ptpMsg 0 0 44)).nt.masters.find? (fun m => due (ptpSt (ptpMsg 0 0 44)) (announceKey m)) = some gm0
    ∧ nextPtp (ptpSt (ptpMsg 0 0 44)) ptpSync = some (ptpMsg 0 0 44) ∧ fromSelected (bump (takePtp (ptpSt (ptpMsg 0 0 44))) (cNT_CNT 0)) (ptpMsg 0 0 44) = true
    ∧ fromSelected (bump (takePtp { ptpSt (ptpMsg 0 0 44) with nt := NetTime.init }) (cNT_CNT 0)) (ptpMsg 0 0 44) = false
    ∧ 44 ≤ (ptpMsg 0 0 44).bytes.length ∧ ptpLog (ptpMsg 0 0 44).bytes = 0 ∧ ptpTwoStep (ptpMsg 0 0 44).bytes = false ∧ ptpTwoStep (ptpMsg 0 2 44).bytes = true
    ∧ nextPtp (ptpSt (ptpMsg 0 2 44)) ptpSync = some (ptpMsg 0 2 44) ∧ fromSelected (bump (takePtp (ptpSt (ptpMsg 0 2 44))) (cNT_CNT 0)) (ptpMsg 0 2 44) = true := by
  simp only [State.Canon]; decide +kernel

/-- The same with every priority of the port paused. -/
def pausedPtp : State := { ptpSt (ptpMsg 8 0 44) with ports := [(0, ⟨[], [], (List.range 8).map (fun p => (p, 5)), [], []⟩)] }

theorem test_ptp_follow : nextPtp (ptpSt (ptpMsg 8 0 44)) ptpFollowUp = some (ptpMsg 8 0 44)
    ∧ (ptpSt (ptpMsg 8 0 44)).nt.syncs.find? (fun x => decide (x.seqId = ptpSeq (ptpMsg 8 0 44).bytes ∧ x.source = ptpSource (ptpMsg 8 0 44).bytes
        ∧ x.port = (ptpMsg 8 0 44).route.port)) = some ⟨0, 0, 0, 1, 2, true⟩
    ∧ (ptpSt (ptpMsg 8 0 44)).nt.syncs.find? (fun x => due (ptpSt (ptpMsg 8 0 44)) (.followUp x.source x.seqId)) = some ⟨0, 0, 0, 1, 2, true⟩
    ∧ (ptpSt (ptpMsg 8 0 44)).nt.ring.find? (fun x => due (ptpSt (ptpMsg 8 0 44)) (.ringFollowUp x.source x.seqId)) = some ⟨0, 0, 0, 1, 2, true⟩
    ∧ due (ptpSt (ptpMsg 8 0 44)) .delayReq = true ∧ bestMaster (ptpSt (ptpMsg 8 0 44)) = some gm0 ∧ portUp (ptpSt (ptpMsg 8 0 44)) 0 = true
    ∧ PortsWf (ptpSt (ptpMsg 8 0 44)) ∧ ptpWaits (ptpSt (ptpMsg 8 0 44)) 0 (routePrio (ptpSt (ptpMsg 8 0 44)) way) = false
    ∧ portUp pausedPtp 0 = true ∧ due pausedPtp .delayReq = true ∧ bestMaster pausedPtp = some gm0 ∧ ptpWaits pausedPtp 0 (routePrio pausedPtp way) = true
    ∧ ptpType (ptpMsg 8 0 44).bytes = ptpFollowUp
    ∧ State.reset.nt.ring.find? (fun x => decide (x.seqId = ptpSeq (ptpMsg 8 0 44).bytes ∧ x.source = ptpSource (ptpMsg 8 0 44).bytes)) = none
    ∧ (ptpSt (ptpMsg 8 0 44)).Canon := by
  simp only [State.Canon, PortsWf]; decide +kernel

/-- HELD_OFF with the persistence of a grandmaster. -/
def heldSt' (gm : Nat) : State := { tst [(NT_STATE_SERVO, 4)] with nt := { NetTime.init with persist := some ⟨gm, 0⟩ } }

theorem test_measure : (tst [(NT_STATE_SERVO, 2)]).Canon ∧ getF State.reset NT_STATE_SERVO = 0 ∧ getF (tst [(NT_STATE_SERVO, 2)]) NT_STATE_SERVO = 2
    ∧ withinNs (65536 * 4294967296) (getF (tst [(NT_STATE_SERVO, 2)]) NT_JUMP_THR) = false ∧ withinNs 0 (getF (tst [(NT_STATE_SERVO, 2)]) NT_JUMP_THR) = true
    ∧ State.reset.Canon ∧ 1 ≤ getF (tst [(NT_STATE_SERVO, 1)]) NT_STATE_SERVO ∧ (heldSt' 0).Canon ∧ getF (heldSt' 0) NT_STATE_SERVO = 4
    ∧ (heldSt' 0).nt.persist = some ⟨gmId (heldSt' 0), 0⟩ ∧ gmId (heldSt' 1) ≠ 1 ∧ (heldSt' 1).nt.persist = some ⟨1, 0⟩ := by
  simp only [State.Canon]; decide +kernel

/-- A step decision, a LOCKED servo without a measurement for long, and a permission that is past. -/
def clockSt (ns : Nat) : State :=
  { tst [(NT_STATE_SERVO, 2), (NT_PERMIT_w6_VALID, 1), (NT_PERMIT_w5_VALID_UNTIL, 50)] with
    clock := ns * 2 ^ 42, elapsed := 4000000 * 4294967296, nt := { NetTime.init with decision := some ⟨100, -5, 0, 0⟩ } }

theorem test_clock : (clockSt 100).Canon ∧ (clockSt 100).nt.decision = some ⟨100, -5, 0, 0⟩ ∧ 100 ≤ netNs (clockSt 100) ∧ netNs (clockSt 99) < 100
    ∧ getF (clockSt 100) NT_STATE_SERVO = 2 ∧ (clockSt 100).nt.lastGood + 4000000 * getF (clockSt 100) NT_LOSS_MS ≤ (clockSt 100).elapsed
    ∧ permitStored (clockSt 51) = true ∧ permitUntil (clockSt 51) < netNs (clockSt 51) := by
  simp only [State.Canon]; decide +kernel

/-- Hold with a valid schedule in bank `b`, EN and RUN as given. -/
def schedSt (en run : Nat) (cls : Nat) : State :=
  tst [(AD_PIPE_C, 900), (TH_PSTATE_STATE, 3), (NT_STATE_SERVO, 2), (LS_CTRL_EN, en), (LS_CTRL_RUN, run), (LS_BANK_w0_CYCLE 0, 8000), (LS_BANK_w2_COUNT 0, 2),
    (LS_ENTRY_DURATION 0, 4000), (LS_ENTRY_DURATION 1, 4000), (LS_ENTRY_CLASS 0, cls), (LS_BANK_w0_CYCLE 1, 4000), (LS_BANK_w2_COUNT 1, 1),
    (LS_ENTRY_DURATION 256, 4000), (TH_PCTRL_TARGET, 4), (TH_PSTATE_RAILS, 63)]

theorem test_cycle : bankValid (schedSt 1 0 0) 0 = true ∧ bankValid (schedSt 1 0 0) 1 = true ∧ (3 : Nat) ≤ boundaryFrom (schedSt 1 0 0) 0 3 := by decide +kernel

theorem test_schedule : (schedSt 1 0 0).Canon ∧ flag (schedSt 1 0 0) LS_CTRL_EN = true ∧ bankValid (schedSt 1 0 0) (lsBank (schedSt 1 0 0)) = true
    ∧ timeValid (schedSt 1 0 0) = true ∧ flag (schedSt 1 0 0) LS_CTRL_RUN = false ∧ flag (schedSt 1 0 0) FC_STATUS_FATAL = false ∧ pstate (schedSt 1 0 0) = 3
    ∧ serviceWanted (schedSt 1 0 0) = true ∧ railsGood (schedSt 1 0 0) 6 = true ∧ (schedSt 1 0 0).pw.moving = none
    ∧ railsGood (setF (schedSt 1 0 0) TH_PSTATE_RAILS 31) 6 = false ∧ serviceWanted (setF (schedSt 1 0 0) TH_PSTATE_RAILS 31) = true ∧ Granted (schedSt 1 1 0) (wrt 0 5) aLS_CTRL ∧ (5 : BitVec 32).getLsbD 2 = true ∧ (0 : BitVec 32).getLsbD 2 = false
    ∧ flag (swapWritten (storeWrite (atGrant (schedSt 1 1 0) (wrt 0 5)) aLS_CTRL 5)) LS_CTRL_EN = true
    ∧ flag (storeWrite (atGrant (schedSt 1 1 0) (wrt 0 0)) aLS_CTRL 0) LS_CTRL_EN = false
    ∧ bankValid State.reset (1 - lsBank State.reset) = false ∧ bankValid (schedSt 1 1 0) (1 - lsBank (schedSt 1 1 0)) = true ∧ (schedSt 1 1 0).nt.swapAt = none
    ∧ cycleOf (schedSt 1 1 0) (lsBank (schedSt 1 1 0)) ≠ 0 ∧ flag (schedSt 0 1 0) LS_CTRL_EN = false
    ∧ ({ schedSt 1 1 0 with clock := 8000 * 2 ^ 42, nt := { NetTime.init with swapAt := some (8000, 8000) } } : State).nt.swapAt = some (8000, 8000) := by
  simp only [State.Canon, Granted]; decide +kernel

theorem test_windows : (schedSt 1 1 2).Canon ∧ flag (schedSt 1 1 2) LS_CTRL_RUN = true ∧ (schedSt 1 1 2).nt.nextStart ≤ netNs (schedSt 1 1 2)
    ∧ (schedSt 1 1 2).nt.decision = none ∧ 2 ≤ entryClass (schedSt 1 1 2) (lsBank (schedSt 1 1 2)) (schedSt 1 1 2).nt.nextEntry ∧ (schedSt 1 1 2).nt.nextEntry < 256
    ∧ windowOccurs (schedSt 1 1 0) (schedSt 1 1 0).nt.nextStart = true
    ∧ ({ schedSt 1 1 0 with dr := { Drive.init with withheld := some 0 } } : State).dr.withheld = some (schedSt 1 1 0).nt.nextStart
    ∧ windowOccurs { schedSt 1 1 0 with nt := { NetTime.init with swapAt := some (8000, 8000), nextStart := 8000 } } 8000 = false := by
  simp only [State.Canon]; decide +kernel

/-! ### Keystone -/

/-- A GROUP request with Keystone, of some group records. -/
def groupReq (ws : List Word) : Request := { req 1 0 0 .routing with typ := 3, words := ws }

/-- The state with that request before Keystone. -/
def keySt (ws : List Word) : State :=
  { admSt (query 1) with ks := { Keystone.init with map := some (mapOf 2), queue := [1] }, ad := { (admSt (query 1)).ad with inflight := [groupReq ws], lanes := [(0, { lane0 with route := some way })] } }

theorem test_routing : LanesWf (keySt []) ∧ (keySt []).ks.map = some (mapOf 2) ∧ routing (keySt []) = some (groupReq []) ∧ QueuesWf (keySt []) ∧ (keySt []).dr.routed.any (passesLeft (keySt [])) = false
    ∧ routing (keySt [0xC0000000, 0]) = some (groupReq [0xC0000000, 0]) ∧ (laneOf (keySt []) 0).route.isSome = true := by
  simp only [LanesWf, QueuesWf]; decide +kernel

theorem test_routing_results (k : Nat) : routeRequest (routeStart (keySt []) (groupReq [])).2 (mapOf 2) (groupReq []) false k = RouteResult.staged [] [] [] []
    ∧ routeRequest (routeStart (keySt [0xC0000000, 0]) (groupReq [0xC0000000, 0])).2 (mapOf 2) (groupReq [0xC0000000, 0]) false k = RouteResult.cancel 0x43 wholeIndex 0 := by
  constructor <;> rfl

theorem test_routing_verdict : verdict (routeStart (keySt []) (groupReq [])).2 (mapOf 2) [] [] [] false (.staged [] [] [] []) (.staged [] [] [] []) = true := by
  rfl

theorem test_failed : State.reset.Canon ∧ Granted State.reset (wrt 0 1) (aKS_FAILMAP 575) ∧ Granted State.reset (wrt 0 18431) aKS_FAIL_CLR
    ∧ bitsOf (18431 : BitVec 32) 14 0 = 18431 := by
  simp only [State.Canon, Granted]; decide +kernel

/-- The first of the big-endian bytes of a value, and the others. -/
theorem beBytes_succ (n v : Nat) : beBytes (n + 1) v = BitVec.ofNat 8 (v / 256 ^ n) :: beBytes n v := by
  simp [beBytes, List.range_succ_eq_map, Function.comp_def, Nat.sub_sub, Nat.add_comm]

/-- Bytes read after others, big-endian. -/
theorem foldl_beBytes (n acc v : Nat) : (beBytes n v).foldl (fun a b => a * 256 + b.toNat) acc = acc * 256 ^ n + v % 256 ^ n := by
  induction n generalizing acc with
  | zero => simp [beBytes, Nat.mod_one]
  | succ n ih =>
    have h8 : (2 : Nat) ^ 8 = 256 := rfl
    rw [beBytes_succ, List.foldl_cons, ih, BitVec.toNat_ofNat, h8, Nat.pow_succ, Nat.mod_mul]
    generalize v / 256 ^ n % 256 = q
    generalize v % 256 ^ n = r
    ring

/-- A Delay_Resp to this device's own request. -/
def respMsg : PtpMsg :=
  ⟨way, 10, [9, 2] ++ List.replicate 42 0 ++ beBytes 10 (Config.clockIdentity % 2 ^ 64 * 65536 + 0 + 1)⟩

/-- The state that awaits it. -/
def respSt : State :=
  { ptpSt respMsg with nt := { (ptpSt respMsg).nt with dreqT3 := some 5, syncDelta := some 7 } }

theorem test_delay_resp : nextPtp respSt ptpDelayResp = some respMsg ∧ 54 ≤ respMsg.bytes.length ∧ fromSelected (takePtp respSt) respMsg = true
    ∧ ptpSeq respMsg.bytes = respSt.nt.dreqSeq ∧ beAt respMsg.bytes 44 10 = Config.clockIdentity % 2 ^ 64 * 65536 + respMsg.route.port + 1
    ∧ respSt.nt.dreqT3 = some 5 ∧ respSt.nt.syncDelta = some 7 := by
  refine ⟨rfl, by simp [respMsg, beBytes], by decide +kernel, by decide +kernel, ?_, rfl, rfl⟩
  have h : slice respMsg.bytes 44 10 = beBytes 10 (Config.clockIdentity % 2 ^ 64 * 65536 + 0 + 1) := rfl
  have hv : beAt respMsg.bytes 44 10 = beVal (slice respMsg.bytes 44 10) := rfl
  have hb : ∀ c : Nat, c < 2 ^ 64 → beVal (beBytes 10 (c * 65536 + 0 + 1)) = c * 65536 + 0 + 1 := fun c hc => by
    have := foldl_beBytes 10 0 (c * 65536 + 0 + 1)
    have h256 : (256 : Nat) ^ 10 = 2 ^ 80 := by norm_num
    rw [h256, Nat.mod_eq_of_lt (by omega)] at this
    simpa [beVal] using this
  have hp : respMsg.route.port = 0 := rfl
  rw [hp, hv, h]
  exact hb (Config.clockIdentity % 2 ^ 64) (Nat.mod_lt _ (by norm_num))

/-! ### Spans, monitors, calibration, decks -/

/-- Span 35 with both decks healthy, some fields set besides. -/
def spanSt (fs : List (Fld × Nat)) : State :=
  tst ([(DK_CTRL_NOM, 0x80), (DK_CLAIM_CLAIM_A 35, 0x80), (DK_CLAIM_CLAIM_B 35, 0x80), (DK_CLAIM_STATE_A 35, 0), (DK_CLAIM_STATE_B 35, 0), (LZ_STATUS_CLAMPED 35, 0)] ++ fs)

/-- A routed request with one target of a pier of span 35. -/
def routed (g : Nat) (done : List Nat) : Routed := ⟨1, 8000, some [(512 * 35 + 511, g)], some [(512 * 35 + 511, g)], done⟩

/-- The span with that request and a time. -/
def stageSt (g ns : Nat) (done : List Nat) : State := { spanSt [] with dr := { Drive.init with routed := [routed g done] }, clock := ns * 2 ^ 42 }

theorem test_staging : (stageSt tgtHold 0 []).dr.routed.find? (fun r => ! passDone r 35 1 && decide (some r.tW = stagingWindow (stageSt tgtHold 0 []))) = some (routed tgtHold [])
    ∧ (targetsFor (routed tgtHold []) 1).filter (fun e => decide (e.1 / 512 = 35)) = [(512 * 35 + 511, tgtHold)] ∧ (stageSt tgtHold 0 []).Canon
    ∧ (5 : Nat) ≠ tgtHold ∧ (stageSt 5 0 []).dr.routed.find? (fun r => ! passDone r 35 0 && decide (some r.tW = stagingWindow (stageSt 5 0 []))) = some (routed 5 []) ∧ getM (stageSt 5 0 []) (calRec 35 511) cVALID = 0
    ∧ getM (putM (stageSt 5 0 []) (calRec 35 511) cVALID 1) (calRec 35 511) cVALID ≠ 0 := by
  simp only [State.Canon]; decide +kernel

theorem test_lateness : stagingWindow (stageSt 5 7960 []) = some 8000 ∧ 8000 ≤ netNs (stageSt 5 7960 []) + 40 ∧ QueuesWf (stageSt 5 7960 []) ∧ (stageSt 5 7960 []).Canon
    ∧ healthy (stageSt 5 7960 []) 35 0 = true ∧ stageReady (stageSt 5 7960 []) 35 0 8000 = false ∧ healthy (stageSt 5 7960 []) 35 1 = true
    ∧ stageReady (stageSt 5 7960 []) 35 1 8000 = false
    ∧ (healthy (stageSt 5 7960 [71]) 35 1 && ! stageReady (stageSt 5 7960 [71]) 35 1 8000) = false ∧ stageReady (stageSt 5 7960 [71]) 35 0 8000 = false
    ∧ (healthy (stageSt 5 7960 [70]) 35 0 && ! stageReady (stageSt 5 7960 [70]) 35 0 8000) = false ∧ stageReady (stageSt 5 7960 [70]) 35 1 8000 = false
    ∧ stageReady (stageSt 5 7960 [70, 71]) 35 0 8000 = true ∧ stageReady (stageSt 5 7960 [70, 71]) 35 1 8000 = true := by
  simp only [State.Canon, QueuesWf]; decide +kernel

/-- The span with refresh on, its period passed. -/
def refreshSt : State := { spanSt [(TH_PSTATE_STATE, 3), (LZ_CTRL_REFRESH_EN 35, 1)] with elapsed := 4000 * 65535 }

theorem test_refresh : refreshSt.Canon ∧ cellWf (fun _ => 0) refreshSt.dr.refreshed = true ∧ loopsRun refreshSt = true ∧ flag refreshSt (LZ_CTRL_REFRESH_EN 35) = true
    ∧ cellGet (fun _ => 0) refreshSt.dr.refreshed 71 + 4000 * getF refreshSt (LZ_CTRL_REFRESH_US 35) ≤ refreshSt.elapsed := by
  simp only [State.Canon]; decide +kernel

theorem test_strobes : clamped (tst [(LZ_STATUS_CLAMPED 35, 1)]) 35 = true ∧ clamped (spanSt []) 35 = false ∧ (spanSt []).Canon
    ∧ (pierOf { spanSt [] with dr := { Drive.init with piers := [(pierIx 35 511, { Pier.init with step := true })] } } (pierIx 35 511)).step = true
    ∧ excluded (spanSt [(⟨aDK_PEXCL_A 575, 31, 31⟩, 1), (⟨aDK_PEXCL_B 575, 31, 31⟩, 1)]) (pierIx 35 511) 0 = true
    ∧ excluded (spanSt [(⟨aDK_PEXCL_A 575, 31, 31⟩, 1), (⟨aDK_PEXCL_B 575, 31, 31⟩, 1)]) (pierIx 35 511) 1 = true
    ∧ excluded (spanSt [(⟨aDK_PEXCL_A 575, 31, 31⟩, 1)]) (pierIx 35 511) 1 = false ∧ excluded (spanSt [(⟨aDK_PEXCL_B 575, 31, 31⟩, 1)]) (pierIx 35 511) 0 = false
    ∧ cellWf (fun _ => 0) (spanSt []).dr.power = true ∧ getM (spanSt []) (thermalRec + 32 * 47) ⟨0, 19, 16⟩ = 0 := by
  simp only [State.Canon]; decide +kernel

/-- The last pier at park, in a ramp of both channels or of the trim channel alone. -/
def rampSt (both : Bool) : State :=
  { spanSt [(PR_OUT_PARKED 35 511, 1)] with dr := { Drive.init with piers := [(pierIx 35 511, { Pier.init with ramp := some ⟨both, 0, 0, 0, 9, 9, 1, 1⟩ })] } }

theorem test_parking : Granted (spanSt []) (wrt 0 1) (aPR_CTRL 35 511)
    ∧ flag (storeWrite (atGrant (spanSt []) (wrt 0 1)) (aPR_CTRL 35 511) 1) (PR_CTRL_FORCE_PARK 35 511) = true
    ∧ flag (storeWrite (atGrant (spanSt []) (wrt 0 0)) (aPR_CTRL 35 511) 0) (PR_CTRL_FORCE_PARK 35 511) = false
    ∧ flag (spanSt [(PR_OUT_PARKED 35 511, 0)]) (PR_OUT_PARKED 35 511) = false ∧ clamped (spanSt [(PR_OUT_PARKED 35 511, 0)]) 35 = false
    ∧ spanParked (spanSt []) 35 = false ∧ spanParked { spanSt [] with dr := { Drive.init with parked := [35] } } 35 = true
    ∧ due { spanSt [] with timers := [(.ramp 35, 0)] } (.ramp 35) = true ∧ due (spanSt []) (.ramp 35) = false
    ∧ getF (endRamp { spanSt [] with timers := [(.ramp 35, 0)] } 35) NV_STATUS_STAGE ≠ 6
    ∧ parkMoves (spanSt [(PR_OUT_PARKED 35 511, 0)]) 35 511 = true ∧ parkMoves (rampSt true) 35 511 = true ∧ parkMoves (rampSt false) 35 511 = false
    ∧ mapNames { spanSt [] with ks := { Keystone.init with map := some { mapOf 2 with ports := [(18431, 0x7FFF)] } } } (pierIx 35 511) = true
    ∧ mapNames (spanSt []) (pierIx 35 511) = false := by
  simp only [Granted]; decide +kernel

/-- The last pier's monitors. -/
def monSt (m : Mon) (fs : List (Fld × Nat)) : State := { spanSt fs with te := { Truss.init with mons := [(pierIx 35 511, m)] }, elapsed := 100000 }

theorem test_monitors : (windowAt (monSt Mon.init [(TE_LOOP_PERIOD 35, 100), (TE_MON_WIN 35 511, 4000)]) 35 511 100000 false).isSome = true
    ∧ (monSt Mon.init []).Canon ∧ MonsWf (monSt { Mon.init with opened := true } []) ∧ (monOf (monSt Mon.init []) (pierIx 35 511)).opened = false
    ∧ (monOf (monSt { Mon.init with opened := true } []) (pierIx 35 511)).opened = true ∧ (monOf (monSt { Mon.init with opened := true } []) (pierIx 35 511)).lead = none
    ∧ (monOf (monSt { Mon.init with opened := true } []) (pierIx 35 511)).start + 10 * leadIn 0 ≤ (monSt { Mon.init with opened := true } []).elapsed
    ∧ (monOf (monSt { Mon.init with opened := true, lead := some (1, 2), loop := false } []) (pierIx 35 511)).lead = some (1, 2)
    ∧ (monOf (monSt { Mon.init with opened := true, lead := some (1, 2), loop := false } []) (pierIx 35 511)).stop ≤ 100000
    ∧ loopsRun (monSt Mon.init [(TH_PSTATE_STATE, 3)]) = true
    ∧ (windowAt (monSt Mon.init [(TH_PSTATE_STATE, 3), (TE_LOOP_PERIOD 35, 100), (TE_MON_WIN 35 511, 4000)]) 35 511 100000 false).isSome = true
    ∧ periodOf { monSt Mon.init [] with te := { Truss.init with period := [(35, 100)] } } 35 ≠ 0 := by
  simp only [State.Canon, MonsWf]; decide +kernel

theorem test_loops : Granted (spanSt []) (wrt 0 0x400) (aTE_PSEL 35) ∧ bitsOf (0x400 : BitVec 32) 11 10 = 1 ∧ bitsOf (0x800 : BitVec 32) 11 10 = 2
    ∧ MonsWf (spanSt []) ∧ Granted (spanSt [(TE_LOOP_PERIOD 35, 100)]) (wrt 0 5) (aTE_LOOP 35) ∧ (spanSt [(TE_LOOP_PERIOD 35, 100)]).Canon
    ∧ cellWf (fun _ => 0) (spanSt [(TE_LOOP_PERIOD 35, 100)]).te.period = true
    ∧ getF (atGrant (spanSt [(TE_LOOP_PERIOD 35, 100)]) (wrt 0 5)) (TE_LOOP_PERIOD 35) ≠ 0 ∧ Granted (spanSt []) (wrt 0 5) (aTE_FILT 35)
    ∧ getM (putM (spanSt []) (loopRec 35 511 1) lLMODE 1) (loopRec 35 511 1) lLMODE = 1 ∧ (putM (spanSt []) (loopRec 35 511 1) lLMODE 1).Canon
    ∧ pierIx 35 511 ∉ (putM (spanSt []) (loopRec 35 511 1) lLMODE 1).te.falling := by
  simp only [State.Canon, MonsWf, Granted]; decide +kernel

/-- The last span's sequencer. -/
def seqSt (q : CalSeq) (fs : List (Fld × Nat)) : State :=
  { spanSt fs with cal := { Cal.init with seqs := [(35, q)] }, elapsed := 4000000000, timers := [(.extRun 35, 0)] }

theorem test_cal_steps : SeqsWf (seqSt ⟨none, 0, none, some ⟨[.bandwidth 3], 0⟩, none⟩ [])
    ∧ (seqOf (seqSt ⟨none, 0, none, some ⟨[.bandwidth 3], 0⟩, none⟩ []) 35).running = none
    ∧ calRuns { seqSt ⟨none, 0, none, some ⟨[.bandwidth 3], 0⟩, none⟩ [(TH_PSTATE_STATE, 2), (LZ_STATUS_CLAMPED 35, 1)] with pw := { Power.init with moving := some ⟨.readyHold, 1, 0, 0⟩ } } 35 = true
    ∧ chooseStep { seqSt ⟨none, 0, none, some ⟨[.bandwidth 3], 0⟩, none⟩ [(TH_PSTATE_STATE, 2), (LZ_STATUS_CLAMPED 35, 1)] with pw := { Power.init with moving := some ⟨.readyHold, 1, 0, 0⟩ } } 35
        = some (1, .bandwidth 3, [])
    ∧ (seqOf (seqSt ⟨some (.bandwidth 3), 0, none, some ⟨[], 0⟩, none⟩ []) 35).running = some (.bandwidth 3) ∧ (seqSt CalSeq.init []).Canon ∧ QueuesWf (seqSt CalSeq.init [])
    ∧ due (seqSt ⟨none, 0, none, none, some ⟨[], 0⟩⟩ []) (.extRun 35) = true ∧ (seqOf (seqSt ⟨none, 0, none, none, some ⟨[], 0⟩⟩ []) 35).ext.isSome = true
    ∧ runOf (seqOf (seqSt ⟨none, 0, none, some ⟨[.bandwidth 3], 0⟩, none⟩ []) 35) 1 = some ⟨[.bandwidth 3], 0⟩
    ∧ (0 : Nat) + 4000000000 ≤ (seqSt CalSeq.init []).elapsed
    ∧ runOf (seqOf (seqSt ⟨none, 0, some ⟨[], 0⟩, none, none⟩ []) 35) 0 = some ⟨[], 0⟩ ∧ ((15 : Int) - 14).natAbs ≤ 1 ∧ (((15 : Int) + 14 + 1) / 2).natAbs ≤ 15 := by
  simp only [State.Canon, SeqsWf, QueuesWf]; decide +kernel

theorem test_cal_commands : Granted (spanSt []) (wrt 0 0x80) aCAL_CMD ∧ (0x80 : BitVec 32).getLsbD 7 = true ∧ (0x80 : BitVec 32).getLsbD 8 = false
    ∧ (0x100 : BitVec 32).getLsbD 7 = false ∧ (0x100 : BitVec 32).getLsbD 8 = true ∧ (spanSt [(CAL_CMD_SPAN, 35), (TH_PSTATE_STATE, 3)]).Canon
    ∧ flag (spanSt [(CAL_CMD_SPAN, 35), (TH_PSTATE_STATE, 3)]) CAL_CMD_ALL = false ∧ getF (spanSt [(CAL_CMD_SPAN, 35), (TH_PSTATE_STATE, 3)]) CAL_CMD_SPAN < 36
    ∧ pstate (spanSt [(CAL_CMD_SPAN, 35), (TH_PSTATE_STATE, 3)]) = 3 ∧ flag (spanSt [(CAL_CMD_SPAN, 35), (TH_PSTATE_STATE, 3)]) LS_CTRL_RUN = false
    ∧ (seqOf (spanSt [(CAL_CMD_SPAN, 35), (TH_PSTATE_STATE, 3)]) 35).running = none ∧ pstate (spanSt [(CAL_CMD_SPAN, 35)]) ≠ 3
    ∧ ({ spanSt [] with cal := { Cal.init with sweep := some (35, [34]) } } : State).cal.sweep = some (35, [34])
    ∧ canStore (spanSt [(CAL_CTRL_STORE_EN, 1), (CAL_STATUS_PENDING, 1)]) = true ∧ canStore (spanSt []) = false := by
  simp only [State.Canon, Granted]; decide +kernel

theorem test_claims : (spanSt []).Canon ∧ resyncing (spanSt []) 35 1 = false ∧ resyncing (spanSt [(DK_CLAIM_STATE_B 35, 2)]) 35 1 = true
    ∧ resyncing (spanSt [(DK_CLAIM_STATE_B 35, 3)]) 35 1 = true ∧ getF (spanSt []) (stateFld 35 1) = 0 ∧ getF (spanSt [(DK_CLAIM_STATE_B 35, 1)]) (stateFld 35 1) ≠ 0 ∧ healthy (spanSt []) 35 (1 - 1) = true ∧ healthy (spanSt []) 35 (1 - 0) = true
    ∧ getM (putM (spanSt []) (loopRec 35 511 1) lRESID 1) (loopRec 35 511 1) lRESID = 1 ∧ getM (putM (spanSt []) (loopRec 35 511 1) lRESID 1) (loopRec 35 511 0) lRESID = 0
    ∧ due { spanSt [] with timers := [(.watchdog 1, 0)] } (.watchdog 1) = true ∧ due (spanSt []) (.watchdog 1) = false
    ∧ Granted (spanSt []) (wrt 1 0x10000) aDK_WDOG_B ∧ (0x10000 : BitVec 32).getLsbD 16 = true ∧ flag (spanSt []) NV_STATUS_FOOT_OK = false
    ∧ flag (spanSt [(NV_STATUS_FOOT_OK, 1)]) NV_STATUS_FOOT_OK = true ∧ Granted (spanSt []) (wrt 0 0x90) aDK_CTRL
    ∧ (storeWrite (atGrant (spanSt []) (wrt 0 0x90)) aDK_CTRL 0x90).dk.handing = []
    ∧ ({ spanSt [] with dk := { Decks.init with handing := [(35, (0, [511]))] } } : State).dk.handing ≠ [] := by
  simp only [State.Canon, Granted]; decide +kernel

/-- Span 35 with a mismatch. -/
def mismSt (covered : Bool) (rep : List (Nat × Nat)) : State :=
  { spanSt [] with dk := { Decks.init with mism := [(35, [⟨511, false, 0, 0, covered⟩])], replay := rep }, timers := [(.misWait 35, 0)] }

theorem test_mismatches : (spanSt []).Canon ∧ MismWf (mismSt false []) ∧ (0x100 : BitVec 14).toNat ≠ requestedFast (spanSt []) 35 511 1 ∧ cellWf (fun _ => Path.init) (spanSt []).dr.paths = true ∧ mismOf (spanSt []) 35 = []
    ∧ due (mismSt false []) (.misWait 35) = true ∧ healthy (mismSt false []) 35 0 = true ∧ healthy (mismSt false []) 35 1 = true ∧ replaying (mismSt false []) 35 = false
    ∧ mismOf (mismSt false []) 35 ≠ [] ∧ (mismSt false []).Canon ∧ (mismSt true [(35, 0)]).Canon ∧ MismWf (mismSt true [(35, 0)]) ∧ replaying (mismSt true [(35, 0)]) 35 = true
    ∧ replaying { spanSt [] with dk := { Decks.init with replay := [(35, 0)] } } 35 = true := by
  simp only [State.Canon, MismWf]; decide +kernel

theorem test_handovers : Granted (spanSt []) (wrt 0 0x123) aDK_CMD ∧ (0x123 : BitVec 32).getLsbD 8 = true ∧ (0x123 : BitVec 32).getLsbD 9 = false
    ∧ (0x223 : BitVec 32).getLsbD 8 = false ∧ (0x223 : BitVec 32).getLsbD 9 = true ∧ (spanSt [(DK_CMD_SPAN, 35)]).Canon ∧ flag (spanSt [(DK_CMD_SPAN, 35)]) DK_CMD_ALL = false
    ∧ getF (spanSt [(DK_CMD_SPAN, 35)]) DK_CMD_SPAN = 35 ∧ 1 ≤ getF (spanSt [(DK_CMD_SPAN, 35)]) DK_CTRL_NOM ∧ mismOf (spanSt []) 35 = [] ∧ replaying (spanSt []) 35 = false
    ∧ passPending (spanSt []) 35 = false ∧ passPending (stageSt 5 0 []) 35 = true
    ∧ getF (spanSt [(DK_CMD_SPAN, 35), (DK_CMD_DECK, 1), (DK_CLAIM_STATE_B 35, 1), (DK_STATUS_RUN_B, 1)]) DK_CMD_DECK = 1
    ∧ canResync (spanSt [(DK_CMD_SPAN, 35), (DK_CMD_DECK, 1), (DK_CLAIM_STATE_B 35, 1), (DK_STATUS_RUN_B, 1)]) 35 1 = true
    ∧ deckIn (spanSt [(DK_CLAIM_STATE_B 35, 2)]) 35 2 = some 1 ∧ due { spanSt [(DK_CLAIM_STATE_B 35, 2)] with timers := [(.copy 35, 0)] } (.copy 35) = true
    ∧ deckIn (spanSt [(DK_CLAIM_STATE_B 35, 3)]) 35 3 = some 1 ∧ due { spanSt [(DK_CLAIM_STATE_B 35, 3)] with timers := [(.probation 35, 0)] } (.probation 35) = true
    ∧ Granted (spanSt []) (wrt 0 0xC7FF) aDK_PEXCL_CLR ∧ bitsOf (0xC7FF : BitVec 32) 14 0 = 18431 ∧ bitsOf (0xC7FF : BitVec 32) 15 15 = 1
    ∧ ({ spanSt [] with dk := { Decks.init with resid := [(pierIx 35 511, 0)] } } : State).dk.resid.find? (fun e => decide (e.1 = pierIx 35 511)) = some (pierIx 35 511, 0)
    ∧ flag (spanSt [(DK_CTRL_AUTOFAIL, 1)]) DK_CTRL_AUTOFAIL = true ∧ 0 + 4000000 * getF (spanSt []) DK_TIMING_FAIL_MS ≤ 4000000 * 16384 := by
  simp only [State.Canon, Granted]; decide +kernel

/-! ### Power, boot and flash -/

/-- A power state with some rails good, some fields set besides. -/
def pwrSt (st rails : Nat) (fs : List (Fld × Nat)) : State := tst ([(TH_PSTATE_STATE, st), (TH_PSTATE_RAILS, rails)] ++ fs)

/-- A state in which a transition stands at a step since the beginning. -/
def movingSt (st : Nat) (m : Move) (k : Nat) (fs : List (Fld × Nat)) (now : Nat) : State :=
  { pwrSt st 63 fs with pw := { Power.init with moving := some ⟨m, k, 0, 0⟩ }, elapsed := now }

theorem test_begin : (pwrSt 0 63 []).Canon ∧ mayMove (pwrSt 0 63 []) 0 = true ∧ 1 ≤ getF (pwrSt 0 63 []) TH_PCTRL_TARGET
    ∧ flag (pwrSt 0 63 []) TH_STATUS_TSD_PEND = false ∧ flag (pwrSt 0 63 []) TH_STATUS_TSD_LATCH = false ∧ railsGood (pwrSt 0 63 []) 2 = true
    ∧ railsGood (pwrSt 0 1 []) 2 = false ∧ mayMove (pwrSt 0 1 []) 0 = true ∧ mayMove (pwrSt 1 7 []) 1 = true ∧ 2 ≤ getF (pwrSt 1 7 []) TH_PCTRL_TARGET
    ∧ railsGood (pwrSt 1 7 []) 3 = true ∧ cellWf (fun _ => none) (pwrSt 1 7 []).pw.tries = true ∧ (∀ i < 45, ∀ x, triesOf (pwrSt 1 7 []) i = some x → x.1 < 3)
    ∧ mayMove (pwrSt 2 63 [(NV_STATUS_FOOT_OK, 1)]) 2 = true ∧ 3 ≤ getF (pwrSt 2 63 [(NV_STATUS_FOOT_OK, 1)]) TH_PCTRL_TARGET
    ∧ flag (pwrSt 2 63 [(NV_STATUS_FOOT_OK, 1)]) NV_STATUS_FOOT_OK = true ∧ getF (pwrSt 2 63 [(NV_STATUS_FOOT_OK, 1)]) NV_STATUS_STAGE ≠ 6
    ∧ railsGood (pwrSt 2 63 [(NV_STATUS_FOOT_OK, 1)]) 6 = true := by
  simp only [State.Canon]; decide +kernel

/-- Every span with both decks healthy, and its clamp open or closed. -/
def spansSt (c : Nat) : State :=
  pwrSt 2 63 ((DK_CTRL_NOM, 0x80) :: (List.range 36).flatMap (fun n => [(DK_CLAIM_CLAIM_A n, 0x80), (DK_CLAIM_STATE_A n, 0), (LZ_STATUS_CLAMPED n, c)]))

theorem test_begin_spans : everySpanHealthy (spansSt 1) = true ∧ clampedSpans (spansSt 0) = [] := by decide +kernel

theorem test_begin_down : mayMove (schedSt 1 1 0) 3 = true ∧ railsGood (schedSt 1 1 0) 6 = true ∧ railsGood (setF (schedSt 1 1 0) TH_PSTATE_RAILS 31) 6 = false
    ∧ mayMove (setF (schedSt 1 1 0) TH_PSTATE_RAILS 31) 3 = true ∧ (pwrSt 3 63 [(TH_PCTRL_TARGET, 2)]).ad.inflight = []
    ∧ getF (pwrSt 2 63 [(TH_PCTRL_TARGET, 1)]) NV_STATUS_STAGE ≠ 6 ∧ getF (pwrSt 2 63 [(NV_STATUS_STAGE, 6)]) NV_STATUS_STAGE = 6
    ∧ (pwrSt 2 63 [(TH_PCTRL_TARGET, 1)]).bt.host = none ∧ flag (schedSt 1 1 0) LS_CTRL_RUN = true ∧ (schedSt 1 1 0).nt.winFrom ≤ netNs (schedSt 1 1 0)
    ∧ mayMove (pwrSt 4 63 []) 4 = true ∧ flag (pwrSt 4 63 []) LS_CTRL_RUN = false ∧ (pwrSt 4 63 []).nt.lastWin = none
    ∧ mayMove (pwrSt 3 63 [(TH_PCTRL_TARGET, 2)]) 3 = true ∧ getF (pwrSt 3 63 [(TH_PCTRL_TARGET, 2)]) TH_PCTRL_TARGET < 3 ∧ flag (pwrSt 3 63 [(TH_PCTRL_TARGET, 2)]) LS_CTRL_RUN = false
    ∧ mayMove (pwrSt 2 63 [(TH_PCTRL_TARGET, 1)]) 2 = true ∧ getF (pwrSt 2 63 [(TH_PCTRL_TARGET, 1)]) TH_PCTRL_TARGET < 2 ∧ (pwrSt 2 63 [(TH_PCTRL_TARGET, 1)]).th.op = none
    ∧ (∀ n < 36, flag (pwrSt 2 63 [(TH_PCTRL_TARGET, 1)]) (LZ_STATUS_RAMPING n) = false)
    ∧ mayMove (pwrSt 1 63 [(TH_PCTRL_TARGET, 0)]) 1 = true ∧ getF (pwrSt 1 63 [(TH_PCTRL_TARGET, 0)]) TH_PCTRL_TARGET = 0 := by decide +kernel

theorem test_end : (movingSt 0 .sleepStandby 1 [(TH_STATUS_XTAL_VALID, 1)] 0).Canon ∧ State.reset.pw.moving = none
    ∧ (movingSt 0 .sleepStandby 1 [(TH_STATUS_XTAL_VALID, 1)] 0).pw.moving = some ⟨.sleepStandby, 1, 0, 0⟩ ∧ flag (movingSt 0 .sleepStandby 1 [(TH_STATUS_XTAL_VALID, 1)] 0) TH_STATUS_XTAL_VALID = true
    ∧ flag (movingSt 0 .sleepStandby 1 [] 0) TH_STATUS_XTAL_VALID = false
    ∧ allLocked (movingSt 1 .standbyReady 1 ((List.range 45).map (fun i => (TH_PLL_LOCK i, 1))) 0) = true ∧ allLocked (movingSt 1 .standbyReady 1 [] 0) = false
    ∧ 0 + 8 * longestT (movingSt 2 .readyHold 4 [] 100000000000) ≤ (movingSt 2 .readyHold 4 [] 100000000000).elapsed ∧ breaksOff (movingSt 2 .readyHold 4 [] 100000000000) = false
    ∧ 0 + 4 * longestT (movingSt 3 .holdReady 1 [] 100000000000) + 4000 ≤ (movingSt 3 .holdReady 1 [] 100000000000).elapsed
    ∧ allHeld (movingSt 3 .holdReady 1 [] 100000000000) 0 = true ∧ allHeld (movingSt 3 .holdReady 1 [(LZ_STATUS_CLAMPED 35, 0)] 0) 0 = false := by
  simp only [State.Canon]; decide +kernel

theorem test_rails : State.reset.Canon ∧ State.reset.pw.rstLow = false ∧ ({ pwrSt 1 63 [] with pw := { Power.init with rstLow := true } } : State).pw.rstLow = true
    ∧ railRequired (pwrSt 3 63 []) 0 = true ∧ railGood State.reset 0 = false ∧ railGood (pwrSt 3 63 []) 0 = true ∧ railGood (pwrSt 3 63 []) (railNum .vpd) = true
    ∧ railRequired (pwrSt 3 63 []) (railNum .vpd) = true ∧ railRequired (pwrSt 3 63 []) (railNum .vhtr) = true ∧ Rail.vpd ≠ Rail.vdd
    ∧ State.reset.pw.request ≤ 2 * min 5500 (max 1200 (wantedMv (tst [(TH_HTRK_MODE, 2), (TH_HTRK_FIXED, 5500)])))
    ∧ 2 * min 5500 (max 1200 (wantedMv (tst [(TH_HTRK_MODE, 2), (TH_HTRK_FIXED, 1200)]))) < 2401 := by
  simp only [State.Canon]; decide +kernel

/-- PLL 38 in its `k`-th attempt. -/
def pllSt (k now : Nat) (fs : List (Fld × Nat)) : State := { pwrSt 2 63 fs with pw := { Power.init with tries := [(38, some (k, 0))] }, elapsed := now }

theorem test_plls : (pllSt 1 0 []).Canon ∧ cellWf (fun _ => none) (pllSt 1 0 []).pw.tries = true ∧ triesOf (pllSt 1 0 []) 38 = some (1, 0) ∧ triesOf (pllSt 2 400000 []) 38 = some (2, 0) ∧ triesOf (pllSt 1 400000 []) 38 = some (1, 0)
    ∧ 0 + 400000 ≤ (pllSt 2 400000 []).elapsed ∧ (pllSt 1 399999 []).elapsed < 0 + 400000 ∧ flag (pllSt 1 0 []) (TH_PLL_LOCK 38) = false
    ∧ flag (pllSt 1 0 [(TH_PLL_LOCK 38, 1)]) (TH_PLL_LOCK 38) = true ∧ QueuesWf (pllSt 1 0 []) ∧ flag (pllSt 1 0 [(TH_PLL_LOCK 0, 1)]) (TH_PLL_LOCK 0) = true
    ∧ 2 ≤ pstate (pllSt 1 0 [(TH_PLL_LOCK 0, 1)]) := by
  simp only [State.Canon, QueuesWf]; decide +kernel

theorem test_resets : State.reset.Canon ∧ railGood State.reset 0 = false ∧ railGood (pwrSt 1 1 []) 0 = true ∧ flag (tst [(HK_STATUS_BUSY, 1)]) HK_STATUS_BUSY = true
    ∧ flag (tst [(TH_PSTATE_STATE, 1), (HK_STATUS_BUSY, 1)]) TH_STATUS_XTAL_VALID = false ∧ pstate (tst [(TH_PSTATE_STATE, 1), (HK_STATUS_BUSY, 1)]) ≠ 0 ∧ pstate State.reset ≤ 1 ∧ flag State.reset TH_STATUS_TSD_PEND = false ∧ flag State.reset TH_STATUS_TSD_LATCH = false
    ∧ 2 ≤ pstate (pwrSt 2 63 []) ∧ due { State.reset with timers := [(.wake, 0)] } .wake = true ∧ flag State.reset TH_STATUS_XTAL_VALID = false
    ∧ pstate (pwrSt 1 63 []) ≠ 0 ∧ State.reset.th.op = none ∧ State.reset.bt.host = none ∧ Granted State.reset (wrt 0 4) aTH_PCTRL := by
  simp only [State.Canon, Granted]; decide +kernel

/-- What the device requires of its flash. -/
def sfdp : Sfdp := ⟨25, 8, true, true⟩

/-- A boot at a step, with a flash. -/
def bootSt (k reason : Nat) (fl : List (Nat × Byte)) : State := { pwrSt 2 63 [] with bt := { Boot.init with step := k, reason := reason }, flash := fl }

/-- A header of firmware slot A: magic, format 1, length 360, version 7, LOAD 0. -/
def fwFlash : List (Nat × Byte) :=
  ([0x46, 0x57, 0x49, 0x4D, 1, 0, 0, 0, 0x68, 1, 0, 0, 7, 0, 0, 0, 0, 0, 0, 0] : List Byte).zipIdx.map (fun e => (e.2, e.1))

/-- A footing whose header says that it has no byte. -/
def footFlash : List (Nat × Byte) := (List.range 4).map (fun k => (footAddr + 8 + k, 0))

/-- A recovery's boot with every PLL locked. -/
def lockedSt (fl : List (Nat × Byte)) : State := { tst ((TH_PSTATE_STATE, 5) :: (List.range 45).map (fun i => (TH_PLL_LOCK i, 1))) with bt := { Boot.init with step := 1, reason := 2 }, flash := fl }

/-- Joining the islands leaves the flash. -/
theorem joinAll_flash (s : State) : (joinAll s).flash = s.flash := by
  have one : ∀ (s : State) (j : Nat), (jointUp s j).flash = s.flash := fun s j => by unfold jointUp; split <;> simp only [bumpBy_flash, bump_flash, setF_flash]
  have all : ∀ (js : List Nat) (s : State), (js.foldl (fun s j => jointUp s j) s).flash = s.flash := fun js => by
    induction js with
    | nil => exact fun _ => rfl
    | cons j js ih => exact fun s => (ih _).trans (one s j)
  unfold joinAll
  exact all _ s

/-- The candidates are what the flash holds. -/
theorem fwCandidates_flash (s t : State) (h : s.flash = t.flash) : fwCandidates s = fwCandidates t := by
  have hw : fwHeader s = fwHeader t := by funext k; simp [fwHeader, flashBytes, h]
  have hc : fwCandidate s = fwCandidate t := by funext k; simp [fwCandidate, hw]
  unfold fwCandidates fwVersion
  rw [hw, hc]

/-- What step 1 reads leaves the flash. -/
theorem joined_flash (s : State) (x : Sfdp) : (sfdpRead (setF (joinAll s) TH_PSTATE_WARM 0) x).flash = s.flash := by
  simp only [sfdpRead, setFlag_flash, setF_flash, joinAll_flash]

theorem test_boot_candidates : fwCandidates (sfdpRead (setF (joinAll (lockedSt fwFlash)) TH_PSTATE_WARM 0) sfdp) = [0]
    ∧ fwCandidates (sfdpRead (setF (joinAll (lockedSt [])) TH_PSTATE_WARM 0) sfdp) = [] :=
  ⟨(fwCandidates_flash _ { State.reset with flash := fwFlash } (joined_flash (lockedSt fwFlash) sfdp)).trans (by decide +kernel),
    (fwCandidates_flash _ State.reset (joined_flash (lockedSt []) sfdp)).trans (by decide +kernel)⟩

theorem test_boot : (bootSt 1 2 fwFlash).Canon ∧ (bootSt 1 2 fwFlash).bt.step = 1 ∧ (bootSt 1 2 fwFlash).bt.reason = 2 ∧ sfdp.complete = true ∧ 25 ≤ sfdp.density ∧ sfdp.density ≤ 28
    ∧ sfdp.page < 16
    ∧ readyToBoot (bootSt 1 0 fwFlash) = true ∧ allLocked (lockedSt fwFlash) = true ∧ (lockedSt fwFlash).bt.step = 1 ∧ (lockedSt fwFlash).bt.reason = 2 ∧ (lockedSt fwFlash).Canon
    ∧ sfdpOk sfdp = true ∧ sfdpOk ⟨24, 8, true, true⟩ = false
    ∧ footImage (bootSt 5 0 footFlash) = [] ∧ (footError (bootSt 5 0 footFlash) [] 0).isSome = true
    ∧ imageSigned (setF (bootSt 2 0 []) FU_STATUS_CRC_ERR 1) [] 0 = false
    ∧ flag (pwrSt 2 63 [(NV_STATUS_STAGE, 3), (TH_PLL_LOCK 2, 1)]) (runFld (deckNum .b)) = false ∧ 2 ≤ pstate (pwrSt 2 63 [(NV_STATUS_STAGE, 3), (TH_PLL_LOCK 2, 1)])
    ∧ firmwareStands (pwrSt 2 63 [(NV_STATUS_STAGE, 3), (TH_PLL_LOCK 2, 1)]) = true ∧ firmwareStands (pwrSt 2 63 [(NV_STATUS_STAGE, 6), (NV_STATUS_FOOT_ERR, 1)]) = true
    ∧ flag (pwrSt 2 63 [(NV_STATUS_STAGE, 3), (TH_PLL_LOCK 2, 1)]) (TH_PLL_LOCK (1 + deckNum .b)) = true := by
  simp only [State.Canon]; decide +kernel

/-- A valid signature is what the hash and the curve say: where they agree with the fuses, an image is signed. -/
theorem test_signed (s : State) (b : List Byte) (idx : Nat) (h0 : flag s FU_STATUS_CRC_ERR = false) (h1 : 296 ≤ b.length)
    (h2 : beAt (b.drop (b.length - 296)) 0 4 = 0x53494731) (h3 : beAt (b.drop (b.length - 296)) 4 1 = idx)
    (h4 : Config.sha384 (slice (b.drop (b.length - 296)) 8 192) = keyDigest s)
    (h5 : Config.ecdsaP384 (slice (b.drop (b.length - 296)) (8 + 96 * idx) 96) (Config.sha384 (b.take (b.length - 96)))
      (slice (b.drop (b.length - 296)) 200 96) = true) : imageSigned s b idx = true := by
  simp [imageSigned, h0, h1, h2, h3, h4, h5]

theorem test_retention : retentionOk (sfdpRead (bootSt 8 1 []) sfdp) true = false ∧ retentionOk { bootSt 8 1 [] with bt := { Boot.init with step := 8, retained := some (0, imageSig (bootSt 8 1 []) (fwAddr 0), imageSig (bootSt 8 1 []) footAddr) } } true = true
    ∧ retentionOk (bootSt 8 1 []) true = false := by decide +kernel

/-- A host operation on the flash. -/
def hostSt (op : Nat) (data : List Byte) : State := { bootSt 0 0 [] with bt := { Boot.init with host := some ⟨op, 0x1FFFFFF, data, 1, false⟩ } }

/-- Ready with a flash of 32 MiB and an operation's address and length. -/
def nvSt (addr : Nat) (fs : List (Fld × Nat)) : State := pwrSt 2 63 ([(NV_FLASH_DENSITY, 25), (NV_FLASH_PAGE, 8), (NV_ADDR_ADDR, addr), (NV_LEN_LEN, 4), (NV_STATUS_STAGE, 5)] ++ fs)

theorem test_flash_admits : FlashAdmits (nvSt 0x4000FC []) 2 ∧ FlashAdmits (nvSt 0x7FFFFF []) 3 ∧ FlashAdmits (nvSt 0x7FFFFF []) 4 ∧ ¬ FlashAdmits (nvSt 0x4000FD []) 2
    ∧ ¬ FlashAdmits (nvSt 0x3FFFFF []) 3 ∧ ¬ FlashAdmits (nvSt 0x01800000 []) 4 := by
  refine ⟨?_, ?_, ?_, ?_, ?_, ?_⟩ <;> simp only [FlashAdmits] <;> decide +kernel

theorem test_flash_refuses : Granted (nvSt 0x4000FC []) (wrt 0 2) aNV_CMD ∧ mayFlash (nvSt 0x4000FC []) 0 = true
    ∧ (nvSt 0x4000FC []).bt.host = none ∧ writeProtected (nvSt 0 [(FU_WP_EN 3, 1)]) (opRange (nvSt 0 [(FU_WP_EN 3, 1)]) 2).1 (opRange (nvSt 0 [(FU_WP_EN 3, 1)]) 2).2 = true
    ∧ writeProtected (hostSt 2 [5]) (opRange (hostSt 2 [5]) 2).1 (opRange (hostSt 2 [5]) 2).2 = false ∧ flashDriven (hostSt 2 [5]) = true
    ∧ flashDriven (setF (hostSt 2 [5]) TH_PSTATE_RAILS 1) = false ∧ (setF (hostSt 2 [5]) TH_PSTATE_RAILS 1).Canon := by
  simp only [Granted, State.Canon]; decide +kernel

theorem test_flash : Granted (bootSt 0 0 []) (wrt 0 1) aNV_CMD ∧ bitsOf (1 : BitVec 32) 2 0 = 1 ∧ bitsOf (2 : BitVec 32) 2 0 = 2 ∧ bitsOf (3 : BitVec 32) 2 0 = 3
    ∧ bitsOf (4 : BitVec 32) 2 0 = 4 ∧ (bootSt 0 0 []).Canon ∧ (bootSt 0 0 []).bt.host = none ∧ (hostSt 2 [5]).bt.host.isSome = true ∧ (hostSt 2 [5]).Canon
    ∧ (hostSt 1 []).bt.host = some ⟨1, 0x1FFFFFF, [], 1, false⟩ ∧ (hostSt 2 [5]).bt.host = some ⟨2, 0x1FFFFFF, [5], 1, false⟩
    ∧ (hostSt 4 []).bt.host = some ⟨4, 0x1FFFFFF, [], 1, false⟩ ∧ Granted (bootSt 0 0 []) (wrt 0 1) aNV_REMAP := by
  simp only [State.Canon, Granted]; decide +kernel

/-- A Tollhouse with a job waiting or running. -/
def jobSt (ws : List Job) (j : Option Job) (op : Option FlashOp) : State := { bootSt 0 0 [] with th := { Toll.init with jobs := ws, job := j, op := op } }

/-- A job of a kind. -/
def aJob (k : JobKind) (ops : List FlashOp) (begun : Bool) : Job := ⟨k, [], 0, begun, ops⟩

theorem test_jobs : (jobSt [aJob .checkpoint [] false, aJob .epoch [] false] none none).Canon ∧ flashDriven (jobSt [aJob .checkpoint [] false, aJob .epoch [] false] none none) = true
    ∧ flag (jobSt [] none none) TH_STATUS_TSD_PEND = false
    ∧ writeProtected (jobSt [] none none) 0 1 = false ∧ opProtected (setF (jobSt [] none none) (FU_WP_EN 0) 1) (.program 0 [1]) = true
    ∧ ((jobSt [aJob .checkpoint [] false, aJob .epoch [] false] none none).th.jobs.find? (fun j => decide (j.kind = JobKind.epoch))).or
        (jobSt [aJob .checkpoint [] false, aJob .epoch [] false] none none).th.jobs.head? = some (aJob .epoch [] false)
    ∧ (jobSt [] (some (aJob .epoch [.program 9 [1]] true)) (some (.program 0 [1]))).th.op = some (.program 0 [1])
    ∧ (aJob .epoch [.program 9 [1]] true).ops ≠ [] ∧ (jobSt [] (some (aJob .record [] true)) none).th.job = some (aJob .record [] true)
    ∧ (aJob .record [] true).begun = true ∧ (jobSt [] (some (aJob .record [] true)) none).th.op = none
    ∧ (jobSt [] (some (aJob .epoch [.program 9 [1]] true)) (some (.program 0 [1]))).Canon := by
  simp only [State.Canon]; decide +kernel

/-- 15_faults_alive.md R465: MEM_UE_TOLL is 0x06, contained, of source 0x400, with the byte offset; the job in progress is abandoned. -/
theorem test_toll_ue : (match exec (.tollhousePageDone true (some 5)) (jobSt [] (some (aJob .record [.program 9 [1]] true)) (some (.program 0 [1]))) with
    | .next t => (t.th.job, (queueOf t 0x400).map (fun m => (msgClass m, msgKind m, msgAddress m)))
    | _ => (none, [])) = (none, [(2, 6, 5)]) := by decide +kernel

/-! ### Tollhouse, faults, Tally and capture -/

/-- Housekeeping with an entry, an urgent request and a cycle begun. -/
def hkSt (cycle : Option Nat) (cycling : Bool) (u : Option Urgent) (now : Nat) : State :=
  { tst [(HK_CTRL_EN, 1)] with th := { Toll.init with cycle := cycle, cycling := cycling, urgent := u }, elapsed := now }

theorem test_hk : flag (hkSt none false none 0) HK_CTRL_EN = true ∧ (hkSt none false none 0).th.cycling = false ∧ (hkSt none true none 0).th.cycling = true
    ∧ 0 + 4000000 * hkInterval (hkSt (some 0) false none 4000000000000) ≤ 4000000000000 ∧ (hkSt (some 1) false none 0).elapsed < 1 + 4000000 * hkInterval (hkSt (some 1) false none 0)
    ∧ (hkSt none false none 0).Canon ∧ Granted (hkSt none false none 0) (wrt 0 0x1000) aHK_URG ∧ (0x1000 : BitVec 32).getLsbD 12 = true
    ∧ (hkSt none false (some ⟨3, 2, 0, true, false⟩) 0).Canon ∧ (hkSt none false (some ⟨3, 2, 0, true, false⟩) 0).th.urgent = some ⟨3, 2, 0, true, false⟩
    ∧ converted (hkSt none false (some ⟨3, 2, 0, true, false⟩) 0) 3 0 true ⟨false, 0, 0⟩ = false
    ∧ converted (hkSt none false (some ⟨3, 2, 0, true, false⟩) 164000000) 3 0 true ⟨false, 0, 0⟩ = true ∧ (hkSt none false none 0).th.urgent = none
    ∧ (hkSt none false (some ⟨3, 2, 0, true, false⟩) 0).th.calQueue = [] ∧ cellWf (fun _ => HkEntry.init) (hkSt none false none 0).th.entries = true
    ∧ (∀ k < 3, testActions (hkSt none false none 0) 15 k = 0) ∧ (⟨none, false, true, false, false, 1⟩ : HkResult).valid = false := by
  simp only [State.Canon, Granted]; decide +kernel

/-- A sensor at 125 °C, one that fails, and one at 25 °C. -/
def jsHot : JsReading := ⟨2000, true⟩

/-- A sensor that fails its check. -/
def jsBad : JsReading := ⟨0, false⟩

/-- A sensor at 25 °C. -/
def jsCool : JsReading := ⟨400, true⟩

theorem test_shutdown : hottest ((([jsBad] : List JsReading).take 12).zipIdx.foldl sensorRead (pwrSt 1 0 [])) = none
    ∧ hottest ((([jsBad, jsCool] : List JsReading).take 12).zipIdx.foldl sensorRead (pwrSt 1 0 [])) = some (1, 400)
    ∧ (400 : Int) < (getF (pwrSt 1 0 [(TH_TSD_LIMIT, 2000)]) TH_TSD_LIMIT : Int) ∧ (pwrSt 1 0 [(TH_TSD_LIMIT, 2000)]).Canon ∧ pstate (pwrSt 1 0 [(TH_TSD_LIMIT, 2000)]) ≠ 0
    ∧ hottest ((([jsCool, jsHot] : List JsReading).take 12).zipIdx.foldl sensorRead (pwrSt 1 0 [(TH_TSD_LIMIT, 2000)])) = some (1, 2000)
    ∧ (getF (pwrSt 1 0 [(TH_TSD_LIMIT, 2000)]) TH_TSD_LIMIT : Int) ≤ 2000 ∧ flag (pwrSt 1 0 [(TH_TSD_LIMIT, 2000)]) TH_STATUS_TSD_PEND = false
    ∧ QueuesWf (pwrSt 1 0 []) ∧ jsHot.ok = true ∧ -880 ≤ tempOf jsHot.temp.toNat ∧ jsBad.ok = false ∧ (queueOf (pwrSt 1 0 []) 0x401).length < 3
    ∧ pstate State.reset = 0 ∧ flag State.reset TH_STATUS_TSD_LATCH = false := by
  simp only [State.Canon, QueuesWf]; decide +kernel

/-- A shutdown decided, with its timer due. -/
def pendSt (op : Option FlashOp) (ts : List (Timer × Nat)) : State :=
  { pwrSt 3 63 [(TH_STATUS_TSD_PEND, 1)] with th := { Toll.init with op := op }, timers := ts }

theorem test_clamp : (∀ i < 12, flag (pwrSt 1 0 []) (TH_JS_VALID i) = false) ∧ (pwrSt 1 0 []).th.jsSeen + 40000000 ≤ ({ pwrSt 1 0 [] with elapsed := 40000000 } : State).elapsed
    ∧ (pendSt none [(.tsd, 0)]).Canon ∧ flag (pendSt none [(.tsd, 0)]) TH_STATUS_TSD_PEND = true ∧ due (pendSt none [(.tsd, 0)]) .tsd = true
    ∧ (pendSt none [(.tsd, 0)]).th.op = none ∧ pstate (pendSt none [(.tsd, 0)]) ≠ 0 ∧ due (pendSt none []) .tsd = false
    ∧ (pendSt (some (.program 0 [1])) [(.tsd, 0)]).th.op.isSome = true := by
  simp only [State.Canon]; decide +kernel

/-- A corrected message of a collector source. -/
def corrMsg : BitVec 64 := faultMsg 0x401 0x53 clsCorrected false 3

/-- A fatal message of that source. -/
def fatalMsg : BitVec 64 := faultMsg 0x401 0x53 clsFatal false 3

theorem test_fatal_first : queueOf (setQueue State.reset 0x401 [corrMsg, fatalMsg, corrMsg]) 0x401 = [corrMsg] ++ fatalMsg :: [corrMsg] ∧ msgClass fatalMsg = 3
    ∧ (∀ k ∈ [corrMsg], msgClass k ≠ 3) := by
  refine ⟨by decide +kernel, by decide +kernel, fun k hk => ?_⟩
  rw [List.mem_singleton.1 hk]
  decide +kernel

theorem test_collector : queueOf (setQueue State.reset 0x401 [corrMsg]) 0x401 = corrMsg :: [] ∧ collectorRuns (pwrSt 2 63 [(TH_PLL_LOCK 0, 1)]) = true
    ∧ queueOf State.reset 0x401 = [] ∧ msgClass corrMsg = 1 ∧ msgKind corrMsg < 113 ∧ State.reset.Canon ∧ QueuesWf State.reset
    ∧ msgSource corrMsg = 0x401 ∧ 3 ≤ (queueOf (setQueue State.reset 0x401 [corrMsg, corrMsg, corrMsg]) (msgSource corrMsg)).length
    ∧ QueuesWf (setQueue State.reset 0x401 [corrMsg, corrMsg, corrMsg]) ∧ (queueOf State.reset (msgSource corrMsg)).length < 3
    ∧ cellWf (fun _ => (0 : Nat)) State.reset.fc.windows = true ∧ freeSlot State.reset = some 0 ∧ freeSlot (tst ((List.range 15).map (fun i => (FC_OPEN_w3_VALID i, 1)))) = some 15
    ∧ freeSlot (tst ((List.range 16).map (fun i => (FC_OPEN_w3_VALID i, 1)))) = none ∧ (pwrSt 1 1 [(FC_OPEN_w3_VALID 15, 1)]).Canon
    ∧ flag (pwrSt 1 1 [(FC_OPEN_w3_VALID 15, 1)]) (FC_OPEN_w3_VALID 15) = true ∧ windowOver (pwrSt 1 1 [(FC_OPEN_w3_VALID 15, 1)]) 15 = true := by
  simp only [State.Canon, QueuesWf]; decide +kernel

/-- The quiet period is over. -/
def quietSt (rcv : Nat) : State := { pwrSt 5 63 [(FC_CTRL_RCV_EN, rcv), (FC_STATUS_FATAL, 1), (FC_STATUS_QUIET, 1)] with timers := [(.quiet, 0)] }

theorem test_clears : Granted (pwrSt 2 63 []) (wrt 0 15) aFC_CLR ∧ bitsOf (15 : BitVec 32) 3 0 = 15 ∧ (wrt 1 15).master.val ≠ lead (pwrSt 2 63 [])
    ∧ Granted (pwrSt 2 63 []) (wrt 1 15) aFC_CLR
    ∧ (wrt 0 15).master.val = lead (pwrSt 2 63 []) ∧ windowOver { pwrSt 2 63 [] with fc := { (pwrSt 2 63 []).fc with windows := [(15, 9)] } } 15 = false
    ∧ (quietSt 0).Canon ∧ due (quietSt 0) .quiet = true ∧ mayRecover (quietSt 0) = false ∧ (quietSt 1).Canon ∧ due (quietSt 1) .quiet = true ∧ mayRecover (quietSt 1) = true := by
  simp only [State.Canon, Granted]; decide +kernel

/-- Tally with a timer. -/
def tallySt (fs : List (Fld × Nat)) (ts : List (Timer × Nat)) : State :=
  { pwrSt 2 63 fs with timers := ts, th := { Toll.init with logRead := true } }

theorem test_tally : (tallySt [(TY_CTRL_SNAP_EN, 1)] []).Canon ∧ flag (tallySt [(TY_CTRL_SNAP_EN, 1)] []) TY_CTRL_SNAP_EN = true ∧ armed (tallySt [(TY_CTRL_SNAP_EN, 1)] []) .snapshot = false
    ∧ due (tallySt [(TY_CTRL_SNAP_EN, 1)] [(.snapshot, 0)]) .snapshot = true ∧ (tallySt [] [(.checkpoint, 0)]).Canon ∧ railGood (tallySt [] [(.checkpoint, 0)]) 0 = true
    ∧ 2 ≤ pstate (tallySt [] [(.checkpoint, 0)]) ∧ (tallySt [] [(.checkpoint, 0)]).th.logRead = true ∧ due (tallySt [] [(.checkpoint, 0)]) .checkpoint = true
    ∧ zoneTemp (tallySt [(TH_ZONE_VALID 8, 1), (TH_ZONE_TEMP 8, 4095)] []) 8 = some (-1) ∧ zoneTemp (tallySt [(TH_ZONE_VALID 0, 1), (TH_ZONE_TEMP 0, 400)] []) 0 = some 400
    ∧ State.reset.Canon ∧ (rd (wr State.reset (aTY_LT 127) 0xFFFFFFFE) (aTY_LT 127)).toNat < 0xFFFFFFFF ∧ (wr State.reset (aTY_LT 127) 0xFFFFFFFE).Canon
    ∧ 0xFFFFFFFF ≤ (rd (wr State.reset (aTY_LT 127) 0xFFFFFFFE) (aTY_LT 127)).toNat + 1 ∧ (rd (wr State.reset (aTY_LT 127) 0xFFFFFFFF) (aTY_LT 127)).toNat = 0xFFFFFFFF
    ∧ (rd State.reset (aTY_LT 127)).toNat + 1 < 0xFFFFFFFF := by
  simp only [State.Canon]; decide +kernel

/-- The capture in a state, with trigger sources and queued samples. -/
def tcSt (st src : Nat) (q : List (Nat × Nat × Nat × Nat × Nat)) (fs : List (Fld × Nat)) : State :=
  { tst ([(TC_STATUS_STATE, st), (TC_TRIG_SRC, src)] ++ fs) with tc := { Capture.init with queue := q } }

theorem test_capture : Granted (pwrSt 2 63 []) (wrt 0 1) aTC_CTRL ∧ (1 : BitVec 32).getLsbD 0 = true ∧ (6 : BitVec 32).getLsbD 0 = false ∧ (6 : BitVec 32).getLsbD 1 = true
    ∧ (4 : BitVec 32).getLsbD 1 = false ∧ (4 : BitVec 32).getLsbD 2 = true ∧ (tcSt 3 0 [] []).Canon ∧ tcState (tcSt 3 0 [] []) = 3 ∧ flag (tcSt 3 0 [] []) TC_CTRL_REARM = false
    ∧ getF (tcSt 3 0 [] [(TC_CTRL_REARM, 1)]) TC_CTRL_SEGS ≤ getF (tcSt 3 0 [] [(TC_STATUS_SEG, 63)]) TC_STATUS_SEG ∧ tcState State.reset ≠ 3
    ∧ (tcSt 2 0xFF [] []).Canon ∧ (getF (tcSt 2 0xFF [] []) TC_TRIG_SRC).testBit 6 = true ∧ (tcSt 2 0xFF [] []).tc.lastTrig ≠ some ((tcSt 2 0xFF [] []).elapsed / 5)
    ∧ tcState (tcSt 2 0xFF [] []) = 2 ∧ tcState (tcSt 1 0xFF [] []) = 1 ∧ (getF (tcSt 2 0x3F [] []) TC_TRIG_SRC).testBit 6 = false ∧ State.reset.tc.queue = []
    ∧ (tcSt 2 0 [(0, 0, 0, 0, 0)] []).tc.queue ≠ [] ∧ (tcSt 2 0 [(0, 0, 0, 0, 0)] []).Canon ∧ (getF (tcSt 2 0xFF [] []) TC_TRIG_SRC).testBit (4 + (1 : Fin 2).val) = true
    ∧ (tst [(TC_CTRL_CSYNC_EN, 1)]).Canon ∧ flag (tst [(TC_CTRL_CSYNC_EN, 1)]) TC_CTRL_CSYNC_EN = true
    ∧ due { State.reset with timers := [(.trigDrive 1, 0)] } (.trigDrive 1) = true := by
  simp only [State.Canon, Granted]; decide +kernel

/-! ### Worked examples of the spec -/

/-- S09.257 of the worked example of "Linearizer and pier drive". -/
def s09257 : State :=
  let s := [(cFT_START, (-512 : Int)), (cFT_STEP, 64), (cPHI_F0, 300), (cD1, 4121), (cPE_GAIN, 16), (cPE_TIME, 6), (cTT_STEP, 160), (cRH, 17500), (cPM_SCALE, 64)].foldl
    (fun s e => putMI s (calRec 9 257) e.1 e.2) (tst [(LZ_VHCFG_VHNOM 9, 3300), (LZ_VHCFG_VHR 9, 350)])
  let t := [(12, 1642), (13, 1760), (34, 4212), (35, 4329), (76, 9757), (77, 9874), (78, 9991)].foldl (fun s e => wrMem s (calRec 9 257 + 2 * e.1) 2 e.2) s
  [(15, 1588), (16, 1641)].foldl (fun s e => wrMem s (calRec 9 257 + 0x100 + 2 * e.1) 2 e.2) t

/-- 07_linearizer_drive.md: D_l 1,723, D_s 9,883, and 4,228 for the split at LEVEL 3,072 (δ 1,373); after recalibration 9,872 (09_calibration.md). -/
theorem test_example_fast : (fastCode s09257 9 257 0 0).1 = 1723 ∧ (fastCode s09257 9 257 4121 0).1 = 9883 ∧ deltaOf 4121 (tgtLevel 3072) = 1373
    ∧ (fastCode s09257 9 257 1373 0).1 = 4228 ∧ (fastCode s09257 9 257 4115 0).1 = 9872 ∧ angle 3072 = 1365 := by decide +kernel

/-- 07_linearizer_drive.md: TC 1,622 at 3,300 mV, limited to 1,536 at 1,400 mV; 08_monitor_truss_loops.md: 1,620 at 2,497. -/
theorem test_example_trim : (trimCode s09257 9 257 2504 3300).1 = ⟨1622, 0, false⟩ ∧ (trimCode s09257 9 257 2504 1400).1 = ⟨1536, 1, true⟩
    ∧ (trimCode s09257 9 257 2497 3300).1 = ⟨1620, 0, false⟩ := by decide +kernel

/-- 15_faults_alive.md: Deck B's claim of S09 falls to a mismatch: message 0x0000_0005_04E2_1226. -/
theorem test_example_fault : faultMsg 0x226 0x21 2 true 0xA09 = 0x0000000504E21226 := by decide +kernel

/-- 18_address_map.md: the addresses of S09.257, and the place of TE counter 0 of S09 among the counters. -/
theorem test_example_addresses : aPR_OUT 9 257 = 0x49012038 ∧ aTE_MON 9 257 = 0x49005404 ∧ aTE_SAMPLE_w0 9 257 = 0x49020808 ∧ calRec 9 257 = 0x49128280
    ∧ loopRec 9 257 0 = 0x49204040 ∧ aCAL_OTRIM_w0 9 257 = 0x49009808 ∧ aKS_FAILMAP 152 = 0xE0031260 ∧ counterAddrs.getD 841 0 = 0x49004200 := by decide +kernel

/-- The loop record of the worked example of "Monitors and truss loops": before the second sample of a pair, and in ratio mode at LEVEL 3,072. -/
def loop257 (mlive : Int) : State :=
  [(lRRAT, (4096 : Int)), (lKSCALE, 256), (lINTEG, -196608), (lUN, -12), (lU, -12), (lMLIVE, mlive), (lLLIVE, 3072), (lFPREV, 21816), (lSPREV, 1), (lPVALID, 1)].foldl
    (fun s e => putMI s (loopRec 9 257 0) e.1 e.2)
    (setF (setF (setF s09257 (TE_DITHER_D 9) 8) (TE_GAIN_KP 9) 64) (TE_GAIN_KI 9) 1024)

/-- Window k4: COUNT_A 184 over the whole window at GAIN 3, COUNT_B 96 over the lead-in at GAIN 1. -/
def k4 : Sample := ⟨BitVec.ofNat 32 (184 + 65536 * 96), BitVec.ofNat 32 (2 + 3 * 8 + 1 * 32 + 3200 * 65536), false, false, 0, false, false, false⟩

/-- Window k3: COUNT_A 200. -/
def k3 : Sample := { k4 with w0 := BitVec.ofNat 32 (200 + 65536 * 96) }

/-- The ratio sample: 2,731 and 1,365 over a whole window of 6,400 cycles at GAIN 1. -/
def kRatio : Sample := ⟨BitVec.ofNat 32 (2731 + 65536 * 1365), BitVec.ofNat 32 (6 + 8 + 32 + 6400 * 65536), false, false, 0, true, false, false⟩

/-- 08_monitor_truss_loops.md: F 21,816 and 20,073, e = 22, INTEG −219,136, UN −19; the ratio error is 241. -/
theorem test_example_loop : fractionF k3.w0 k3.w1 0 4096 = some 21816 ∧ fractionF k4.w0 k4.w1 0 4096 = some 20073 ∧ barError (loop257 1) 9 257 (loopRec 9 257 0) k4 (-8) = some 22
    ∧ getMI (computedUpdate (loop257 1) 9 257 0 (loopRec 9 257 0) k4 22) (loopRec 9 257 0) lINTEG = -219136
    ∧ getMI (computedUpdate (loop257 1) 9 257 0 (loopRec 9 257 0) k4 22) (loopRec 9 257 0) lUN = -19
    ∧ ratioError (loop257 2) 9 257 (loopRec 9 257 0) kRatio = some 241 := by decide +kernel

/-- Configuration E1 in Service, with lane 17 of the worked example of "Ainambe Link Protocol" and its DELTA first in admission's queue, arrived at an instant of the second. -/
def e1 (arrival : Nat) : State :=
  let t := 1712000000 * 1000000000 + arrival
  let s := wr (tst [(AD_CTRL_EN, 1), (AD_PIPE_P, 2600), (AD_PIPE_C, 880), (AD_PART_w0_SIZE 0, 98304), (TH_PSTATE_STATE, 4), (TH_PCTRL_TARGET, 4),
    (NT_STATE_SERVO, 2), (LS_CTRL_EN, 1), (LS_CTRL_RUN, 1), (LS_BANK_w0_CYCLE 0, 10000), (LS_BANK_w2_COUNT 0, 4), (LS_ENTRY_DURATION 0, 2000), (LS_ENTRY_CLASS 0, 0),
    (LS_ENTRY_DURATION 1, 2000), (LS_ENTRY_CLASS 1, 1), (LS_ENTRY_DURATION 2, 2000), (LS_ENTRY_CLASS 2, 1),
    (LS_ENTRY_DURATION 3, 4000), (LS_ENTRY_CLASS 3, 2), (CP_CTRL_ENABLE 0, 1), (CP_STATUS_LINK 0, 1)]) aFU_ROLE 0x3FFFFFFF
  let m : Msg := ⟨way, t, 0, 0, 4096, 0xF, [0x10, 0x02, 0, 0x20, 0, 0x11, 0, 0, 0, 0, 0x2A, 0x41, 0x5E, 0xED, 0, 7, 0, 0, 0, 0, 0, 0, 0, 0,
    0, 0, 0x95, 0x92, 0x40, 0x07, 0xFC, 0], zeros 60⟩
  { s with
    clock := t * 2 ^ 42, epoch := 3, ks := { Keystone.init with map := some (mapOf 512) }
    tg := { s.tg with inbox := [m] }
    ad := { s.ad with lanes := [(17, { Lane.init with cfg := ⟨0x00010CC0#32, 24#32, 20#32⟩, expSeq := 0x2A41, c := 0x1A2C })] } }

/-- What partner 0 is sent for the DELTA. -/
def answer (arrival : Nat) : List Byte :=
  match exec (.delta noUpsets) (e1 arrival) with
  | .next s => match exec (.egressSend 0) s with
    | .next t => (t.ad.tx.map (fun f => f.payload)).getD []
    | _ => []
  | _ => []

/-- 02_alp_protocol.md: the ACCEPT of the DELTA on lane 17, byte by byte. -/
theorem test_example_accept : answer 53190900 =
    [0x10, 0x81, 0, 0x24, 0, 0x11, 0x1A, 0x44, 0, 0, 0x2A, 0x41, 0x5E, 0xED, 0, 7, 0x66, 0x0B, 0x0C, 0, 3, 0x2B, 0xAD, 0x60, 2, 1, 4, 0, 0, 1, 0, 3, 0, 0, 0, 0] := by
  decide +kernel

/-! ### Commands that are not well formed -/

/-- A write of a value. -/
def val (v : BitVec 32) : RegWrite := wrt 0 v

/-- A burst with more beats done than it has. -/
def badBurst : Option Burst := some ⟨true, 3, 4⟩

theorem test_ill_formed_writes :
    [Instr.portDmaReset 0 (val 1) none, .portDmaReset 0 (val 0) badBurst, .engineReturn (val 0x10000), .genCommit (val 2), .ruleRead (val 0x1000), .ruleWrite (val 0x800),
     .ruleCopy (val 0x1000), .fwqPop (val 0), .laneLoad (val 0x20000), .laneWrite (val 0x10000), .scheduleSwap (val 3), .scheduleDisable (val 1), .forcePark 0 0 (val 0),
     .forceParkRelease 0 0 (val 1), .loopRecordLoad 0 (val 0x800), .loopRecordWrite 0 (val 0x400), .sweep (val 0), .storeNow (val 0), .handover (val 0x200), .resync (val 0x100),
     .remapSet (val 4), .flashRead (val 2), .flashProgram (val 1), .flashErase4k (val 4), .flashErase64k (val 3), .urgentConversion (val 0), .captureArm (val 2),
     .captureStop (val 1), .captureForce (val 1), .captureForce (val 0)].all (fun c => ! c.wf) = true := by decide +kernel

theorem test_ill_formed_events :
    [Instr.pfcFrame 0 0 [0], .pfcFrame 0 0 [65536, 0, 0, 0, 0, 0, 0, 0], .routeDone 0 (.upset [(18432, 0)] []) .asComputed none none [],
     .routeDone 0 .asComputed (.upset [] [(0, 1024)]) none none [], .routeDone 0 (.cancel 256) .asComputed none none [], .claimLower .a (.ramUe badBurst), .watchdogExpiry .a badBurst,
     .pllLoss 0 badBurst, .coldStart ⟨33, 8, true, true⟩, .coldStart ⟨25, 17, true, true⟩, .jsUpdate [], .correctedDrop 0, .tapDebugReset badBurst,
     .warmStart ⟨33, 8, true, true⟩ true].all (fun c => ! c.wf) = true := by decide +kernel

theorem test_well_formed :
    [Instr.portDmaReset 0 (val 0) (some ⟨true, 3, 3⟩), .ruleRead (val 0x800), .ruleWrite (val 0x1000), .ruleCopy (val 0x1800), .scheduleSwap (val 5), .flashErase64k (val 4),
     .pfcFrame 5 255 (List.replicate 8 65535), .routeDone 0 (.upset [(18431, 16383)] [(1023, 1023)]) (.cancel 255) none none [], .coldStart ⟨32, 16, true, true⟩,
     .jsUpdate (List.replicate 12 jsCool), .correctedDrop corrMsg, .registerWrite 0xFFFFFFFE (val 0), .counterLatchRead 2 ⟨0, 0, .none, 1⟩].all Instr.wf = true := by decide +kernel


/-! ### Times and levels -/

/-- 02_alp_protocol.md R530: a time in the header is its seconds and its nanoseconds. -/
theorem test_alp_time : alpTime 1000000007 = [0, 0, 0, 1, 0, 0, 0, 7] := by decide +kernel

/-- 07_linearizer_drive.md R239, R240: V_FS × D / 16,384 with V_FS 3.6 V, and 16 mA × TC / 4,096. -/
theorem test_levels : stringMv 0 = 0 ∧ stringMv 9883 = 3600 * 9883 / 16384 ∧ stringMv 16383 = 3600 * 16383 / 16384 ∧ trimMa 1024 = 4 := by
  norm_num [stringMv, tapMv, trimMa]

/-- 07_linearizer_drive.md R233: at a release the previous output stands for 2.5 ns. -/
theorem test_deglitch : outputFast (deglitch (spanSt [(PR_OUT_FAST 35 511, 100)]) 35 511) 35 511 = 100
    ∧ outputFast (setF (deglitch (spanSt [(PR_OUT_FAST 35 511, 100)]) 35 511) (PR_OUT_FAST 35 511) 200) 35 511 = 100
    ∧ outputFast { setF (deglitch (spanSt [(PR_OUT_FAST 35 511, 100)]) 35 511) (PR_OUT_FAST 35 511) 200 with elapsed := 10 } 35 511 = 200 := by decide +kernel

/-- 14_tollhouse.md R439: TH_WAKE.TIMER counts from the entry to the state, a second for each unit. -/
theorem test_wake_counts : timerAt .wake (armWake { tst [(TH_WAKE_TIMER, 3)] with pw := { Power.init with restAt := 7 }, elapsed := 9 }).timers = some 12000000007 := by decide +kernel

/-- 14_tollhouse.md R423: an external input that is not found open takes two integrations of one mains cycle, 20 ms each at 50 Hz, after 1 ms of the open-wire check. -/
theorem test_conversion_time : conversionTime (tst [(TH_STATUS_CLK, 1)]) 3 0 true false = 164000000 ∧ conversionTime (tst [(TH_STATUS_CLK, 1)]) 3 0 true true = 4000000 := by decide +kernel

/-- 08_monitor_truss_loops.md R268: a loop record that nothing has written holds KSCALE 256 and RRAT 4,096. -/
theorem test_fresh_record : getMI State.reset (loopRec 35 511 1) lKSCALE = 256 ∧ getMI State.reset (loopRec 0 0 0) lRRAT = 4096 ∧ getMI State.reset (loopRec 0 0 0) lU = 0 := by decide +kernel

/-- 17_internal_fabric_joints.md R497: a write of a register at an address that is no multiple of 4 is refused and stores nothing. -/
theorem test_refused_kind : (match exec (.registerWrite (BitVec.ofNat 32 (aTY_CTRL + 2)) (wrt 0 1)) State.reset with
    | .next t => (rd t aTY_CTRL, flag t BM_INT_ERR, getF t BM_ERR_INFO_KIND) | _ => (0, false, 0)) = (rd State.reset aTY_CTRL, true, 2) := by decide +kernel

end Sys2Proof.Tests
end

namespace Sys2Proof.Machine

/-!
Proofs about single accesses to registers. A write and the clearing of RC fields are both a fold over the register's fields in which each step keeps
what lies outside its own field (`KeepsOutside`); what a field holds afterwards is then decided by its own step alone (`bitsOf_foldl_field`).
-/

/-! ### The access codes of a register's fields (R10) -/

/-- The bits of a conjunction are the conjunction of the bits. -/
theorem bitsOf_and (x y : Word) (hi lo : Nat) : bitsOf (x &&& y) hi lo = bitsOf x hi lo &&& bitsOf y hi lo := by
  simp [bitsOf, Nat.and_div_two_pow, Nat.and_mod_two_pow]

/-- The bits of a disjunction are the disjunction of the bits. -/
theorem bitsOf_or (x y : Word) (hi lo : Nat) : bitsOf (x ||| y) hi lo = bitsOf x hi lo ||| bitsOf y hi lo := by
  simp [bitsOf, Nat.or_div_two_pow, Nat.or_mod_two_pow]

/-- A field of a word fits the field. -/
theorem bitsOf_mod_width (w : Word) (hi lo : Nat) : bitsOf w hi lo % 2 ^ width hi lo = bitsOf w hi lo :=
  Nat.mod_eq_of_lt (bitsOf_lt w hi lo)

/-- A step over the fields of a register that changes no bit outside the field it is at. -/
def KeepsOutside (g : Word → FieldRow → Word) : Prop :=
  ∀ (w : Word) (f : FieldRow) (hi lo : Nat), hi < 32 → (hi < f.lo ∨ f.hi < lo) → bitsOf (g w f) hi lo = bitsOf w hi lo

section Fields
variable {g : Word → FieldRow → Word} (hg : KeepsOutside g)
include hg

/-- Bits that lie in none of the fields stand after all steps as before. -/
theorem bitsOf_foldl_outside (fs : List FieldRow) (w : Word) (hi lo : Nat) (h32 : hi < 32) (hd : ∀ f ∈ fs, hi < f.lo ∨ f.hi < lo) :
    bitsOf (fs.foldl g w) hi lo = bitsOf w hi lo := by
  induction fs generalizing w with
  | nil => rfl
  | cons f fs ih =>
    rw [List.foldl_cons, ih _ (fun k hk => hd k (List.mem_cons_of_mem _ hk)), hg w f hi lo h32 (hd f List.mem_cons_self)]

/-- Of fields that share no bit each is decided by its own step, which finds it as it was at first. -/
theorem bitsOf_foldl_field (fs : List FieldRow) (w : Word) (ha : FieldsApart fs) (f : FieldRow) (hf : f ∈ fs) :
    f.hi < 32 ∧ ∃ x, bitsOf x f.hi f.lo = bitsOf w f.hi f.lo ∧ bitsOf (fs.foldl g w) f.hi f.lo = bitsOf (g x f) f.hi f.lo := by
  induction fs generalizing w with
  | nil => cases hf
  | cons k fs ih =>
    obtain ⟨-, hk32, hapart, hrest⟩ := ha
    rcases List.mem_cons.mp hf with rfl | hmem
    · exact ⟨hk32, w, rfl, bitsOf_foldl_outside hg fs _ _ _ hk32 (fun j hj => (hapart j hj).symm)⟩
    · obtain ⟨hf32, x, hx, hfold⟩ := ih (g w k) hrest hmem
      exact ⟨hf32, x, hx.trans (hg w k _ _ hf32 (hapart f hmem)), hfold⟩

end Fields

/-- What a field holds after a write of `v` to a register that held `old` (R10). -/
def fieldAfter (old v : Word) (f : FieldRow) : Nat :=
  match f.acc with
  | .rw => (match f.norm.apply (bitsOf v f.hi f.lo) with | some x => x % 2 ^ width f.hi f.lo | none => bitsOf old f.hi f.lo)
  | .w1c => bitsOf (old &&& ~~~ v) f.hi f.lo
  | .w1s => bitsOf (old ||| v) f.hi f.lo
  | _ => bitsOf old f.hi f.lo

/-- What a field comes to depends on no other bit of the old word. -/
theorem fieldAfter_congr {w old : Word} (v : Word) (f : FieldRow) (h : bitsOf w f.hi f.lo = bitsOf old f.hi f.lo) :
    fieldAfter w v f = fieldAfter old v f := by
  unfold fieldAfter
  simp only [bitsOf_and, bitsOf_or, h]

/-- The write of a field leaves in it what its access code says. -/
theorem bitsOf_fieldWrite_same (v w : Word) (f : FieldRow) (h32 : f.hi < 32) : bitsOf (fieldWrite v w f) f.hi f.lo = fieldAfter w v f := by
  unfold fieldWrite fieldAfter
  cases f.acc with
  | rw =>
    cases f.norm.apply (bitsOf v f.hi f.lo) with
    | some x => exact bitsOf_withBits_same _ _ _ _ h32
    | none => rfl
  | w1c => simp only [bitsOf_withBits_same _ _ _ _ h32, bitsOf_mod_width]
  | w1s => simp only [bitsOf_withBits_same _ _ _ _ h32, bitsOf_mod_width]
  | ro => rfl
  | rc => rfl
  | wo => rfl

/-- The write of a field changes no bit outside it. -/
theorem fieldWrite_keepsOutside (v : Word) : KeepsOutside (fieldWrite v) := by
  intro w f hi lo h32 hd
  unfold fieldWrite
  cases f.acc with
  | rw =>
    cases f.norm.apply (bitsOf v f.hi f.lo) with
    | some x => exact bitsOf_withBits_other _ _ _ _ _ _ h32 hd
    | none => rfl
  | w1c => exact bitsOf_withBits_other _ _ _ _ _ _ h32 hd
  | w1s => exact bitsOf_withBits_other _ _ _ _ _ _ h32 hd
  | ro => rfl
  | rc => rfl
  | wo => rfl

/-- After a write each field of a register holds what its access code says. -/
theorem bitsOf_storedWord (fs : List FieldRow) (old v : Word) (ha : FieldsApart fs) (f : FieldRow) (hf : f ∈ fs) :
    bitsOf (storedWord fs old v) f.hi f.lo = fieldAfter old v f := by
  obtain ⟨h32, x, hx, hfold⟩ := bitsOf_foldl_field (fieldWrite_keepsOutside v) fs old ha f hf
  calc bitsOf (storedWord fs old v) f.hi f.lo
      _ = bitsOf (fieldWrite v x f) f.hi f.lo := hfold
      _ = fieldAfter x v f := bitsOf_fieldWrite_same v x f h32
      _ = fieldAfter old v f := fieldAfter_congr v f hx

/-- A bit is a field of one bit. -/
theorem getLsbD_eq_testBit_bitsOf (w : Word) (i : Nat) : w.getLsbD i = (bitsOf w i i).testBit 0 := by
  rw [testBit_bitsOf]
  simp [width]

/-- After a write the bits of no field stand as before. -/
theorem getLsbD_storedWord_outside (fs : List FieldRow) (old v : Word) (i : Nat) (hi : i < 32) (hd : ∀ f ∈ fs, i < f.lo ∨ f.hi < i) :
    (storedWord fs old v).getLsbD i = old.getLsbD i := by
  rw [getLsbD_eq_testBit_bitsOf, getLsbD_eq_testBit_bitsOf old, storedWord, bitsOf_foldl_outside (fieldWrite_keepsOutside v) fs old i i hi hd]

/-! ### Writes over the matrix (R10, R497) -/

@[simp] theorem storeWrite_mem (s : State) (a : Nat) (v : Word) : (storeWrite s a v).mem = s.mem := by
  unfold storeWrite; split <;> rfl

@[simp] theorem storeWrite_flash (s : State) (a : Nat) (v : Word) : (storeWrite s a v).flash = s.flash := by
  unfold storeWrite; split <;> rfl

/-- What a write stores changes no other register. -/
theorem rd_storeWrite_other (s : State) (a b : Nat) (v : Word) (h : b ≠ a) : rd (storeWrite s a v) b = rd s b := by
  unfold storeWrite
  split
  · exact rd_wr_other _ _ _ _ h
  · rfl

@[simp] theorem noteWait_mem (s : State) (m ns : Nat) : (noteWait s m ns).mem = s.mem := rfl
@[simp] theorem noteWait_flash (s : State) (m ns : Nat) : (noteWait s m ns).flash = s.flash := rfl
@[simp] theorem noteWait_bm (s : State) (m ns : Nat) : (noteWait s m ns).bm = s.bm := rfl

/-- A write to Tally's window has the access codes alone. -/
theorem regWritten_ty (s : State) (m : Nat) (f : Bool) (a : Nat) (v : Word) (h : tyBase ≤ a ∧ a < tcBase) :
    regWritten s m f a v = (storeWrite s a v, false) := by
  have h : 0xE0060000 ≤ a ∧ a < 0xE0070000 := h
  simp (disch := omega) only [regWritten_windows, above_window, in_window]

/-- A write to the bus matrix's window has the access codes alone. -/
theorem regWritten_bm (s : State) (m : Nat) (f : Bool) (a : Nat) (v : Word) (h : bmBase ≤ a ∧ a < nvBase) :
    regWritten s m f a v = (storeWrite s a v, false) := by
  have h : 0xE0080000 ≤ a ∧ a < 0xE0090000 := h
  simp (disch := omega) only [regWritten_windows, above_window, in_window]

/-- A granted write to Tally's window or the bus matrix's stores by the access codes. -/
theorem rowWrite_store_windows (s : State) (a : Nat) (w : RegWrite) (hg : Granted s w a)
    (ha : (tyBase ≤ a ∧ a < tcBase) ∨ (bmBase ≤ a ∧ a < nvBase)) : rowWrite s a w = storeWrite (atGrant s w) a w.value := by
  rw [rowWrite_granted s a w hg]
  rcases ha with ha | ha
  · rw [regWritten_ty _ _ _ _ _ ha]
  · rw [regWritten_bm _ _ _ _ _ ha]

/-- The debug lock does not hold the access back. -/
theorem not_debugHeld {s : State} {m : Nat} (h : m = 11 → debugLocked s = false) : ¬ (m = 11 ∧ debugLocked s = true) :=
  fun ⟨hm, hl⟩ => Bool.false_ne_true ((h hm).symm.trans hl)

/-- With no lock in force and none asked for an access is granted at once. -/
theorem arbitrate_free (s : State) (m target : Nat) (h : s.bm.lock = none) : arbitrate s m target LockUse.none = .granted s := by
  simp only [arbitrate, h, true_or, if_true]

/-- An access of a register window that is of no whole aligned word meets WIDTH (R497). -/
theorem accessError_partial (s : State) (m a : Nat) (write : Bool) (e : BitVec 4) (hp : placeOf s (deckOf s m) a = Place.register)
    (hw : a % 4 ≠ 0 ∨ e ≠ 15) : accessError s m a write e = some 2 := by
  simp only [accessError, hp, hw, decide_true, if_true]

/-- A write of no whole aligned word to a register window is refused with WIDTH (R497). -/
theorem rowWrite_partial (s : State) (a : Nat) (w : RegWrite) (hl : s.bm.lock = none) (hu : w.lock = LockUse.none)
    (hd : w.master.val = 11 → debugLocked s = false) (hp : placeOf (atGrant s w) (deckOf (atGrant s w) w.master.val) a = Place.register)
    (hw : a % 4 ≠ 0 ∨ w.enables ≠ 15) : rowWrite s a w = busError (atGrant s w) w.master.val a 2 true := by
  simp only [atGrant] at hp ⊢
  simp only [rowWrite, busWrite, not_debugHeld hd, if_false, hu, arbitrate_free s _ _ hl, accessError_partial _ _ _ _ _ hp hw]

/-- One byte of a word, taken from the written word where it is enabled. -/
def mergeByte (w : Word) (e : BitVec 4) (x : Word) (j : Nat) : Word :=
  if e.getLsbD j then withBits x (8 * j + 7) (8 * j) (bitsOf w (8 * j + 7) (8 * j)) else x

/-- A byte that is taken over changes its own bits alone. -/
theorem getLsbD_mergeByte (w : Word) (e : BitVec 4) (x : Word) (j i : Nat) (hi : i < 32) :
    (mergeByte w e x j).getLsbD i = if i / 8 = j ∧ e.getLsbD j then w.getLsbD i else x.getLsbD i := by
  unfold mergeByte
  by_cases he : e.getLsbD j = true
  · have hw : (8 * j ≤ i ∧ i - 8 * j < width (8 * j + 7) (8 * j)) ↔ i / 8 = j := by unfold width; omega
    rw [if_pos he, getLsbD_withBits _ _ _ _ _ hi]
    simp only [hw, he, and_true]
    split
    case isTrue hj =>
      have hin : i - 8 * j < width (8 * j + 7) (8 * j) := (hw.mpr hj).2
      have hat : 8 * j + (i - 8 * j) = i := by omega
      simp only [testBit_bitsOf, hin, hat, decide_true, Bool.true_and]
    case isFalse => rfl
  · simp only [he, Bool.false_eq_true, if_false, and_false]

/-- After some bytes were taken over, a bit is the written word's where its byte is among them and enabled. -/
theorem getLsbD_mergeByte_foldl (w : Word) (e : BitVec 4) (js : List Nat) (x : Word) (i : Nat) (hi : i < 32) :
    (js.foldl (mergeByte w e) x).getLsbD i = if i / 8 ∈ js ∧ e.getLsbD (i / 8) then w.getLsbD i else x.getLsbD i := by
  induction js generalizing x with
  | nil => simp
  | cons j js ih =>
    rw [List.foldl_cons, ih, getLsbD_mergeByte _ _ _ _ _ hi]
    by_cases hj : i / 8 = j
    · subst hj
      by_cases he : e.getLsbD (i / 8) = true <;> simp [he]
    · simp [hj]

/-- A memory takes the bytes that are enabled (R497). -/
theorem getLsbD_mergeBytes (old w : Word) (e : BitVec 4) (i : Nat) (hi : i < 32) :
    (mergeBytes old w e).getLsbD i = if e.getLsbD (i / 8) then w.getLsbD i else old.getLsbD i := by
  have hbyte : i / 8 ∈ List.range 4 := List.mem_range.mpr (by omega)
  have hfold : mergeBytes old w e = (List.range 4).foldl (mergeByte w e) old := rfl
  rw [hfold, getLsbD_mergeByte_foldl w e _ _ _ hi]
  simp only [hbyte, true_and]

/-- Settles O8: field by field through the fold of the access codes, then the matrix's grant and its refusal. -/
theorem registerWrites : Obligations.RegisterWrites := by
  unfold Obligations.RegisterWrites
  refine ⟨?_, ?_, ?_, getLsbD_mergeBytes⟩
  · intro fs old v ha
    exact ⟨fun f hf => bitsOf_storedWord fs old v ha f hf, fun i hi hd => getLsbD_storedWord_outside fs old v i hi hd⟩
  · intro s addr w hg ha
    have hrow : rowWrite s addr.toNat w = storeWrite (atGrant s w) addr.toNat w.value := rowWrite_store_windows s _ w hg ha
    exact ⟨_, congrArg Host.Outcome.next hrow, rfl, fun b hb => rd_storeWrite_other _ _ _ _ hb, storeWrite_mem _ _ _, storeWrite_flash _ _ _⟩
  · intro s addr w hl hu hd hp hw
    exact congrArg Host.Outcome.next (rowWrite_partial s addr.toNat w hl hu hd hp hw)

/-! ### Reads that act (R10, R468) -/

/-- A master's latch reads as it was set. -/
theorem latchOf_setLatch_same (s : State) (m : Nat) (x : Option (Nat × Nat)) (h : cellWf (fun _ => none) s.bm.latches = true) :
    latchOf (setLatch s m x) m = x := cellGet_cellPut_same _ _ _ _ h

/-- Another master's latch stands as it was. -/
theorem latchOf_setLatch_other (s : State) (m k : Nat) (x : Option (Nat × Nat)) (h : k ≠ m) : latchOf (setLatch s m x) k = latchOf s k :=
  cellGet_cellPut_other _ _ _ _ _ h

/-- A read of word 0 shows it and latches the high bits of that moment. -/
theorem counterRead_low (s : State) (m a : Nat) (hlow : isCounterHigh a = false) (hhigh : isCounterHigh (a + 4) = true) :
    counterRead s m a = (viewWord s a, setLatch s m (some (a, bitsOf (rd s (a + 4)) 15 0))) := by
  simp only [counterRead, hlow, hhigh, Bool.false_eq_true, if_false, if_true]

/-- A read of word 1 shows the bits latched for that counter, and uses the latch up. -/
theorem counterRead_high_latched (s : State) (m a v : Nat) (hhigh : isCounterHigh (a + 4) = true) (hl : latchOf s m = some (a, v)) :
    counterRead s m (a + 4) = (withBits (viewWord s (a + 4)) 15 0 v, setLatch s m none) := by
  simp only [counterRead, hhigh, hl, if_true]

/-- A read of word 1 with nothing latched shows the word of that moment. -/
theorem counterRead_high_unlatched (s : State) (m a : Nat) (hhigh : isCounterHigh a = true) (hl : latchOf s m = none) :
    counterRead s m a = (viewWord s a, s) := by
  simp only [counterRead, hhigh, hl, if_true]

/-- A counter read changes nothing but, at most, the reading master's latch. -/
theorem counterRead_state (s : State) (m a : Nat) : (counterRead s m a).2 = s ∨ ∃ x, (counterRead s m a).2 = setLatch s m x := by
  unfold counterRead
  split
  · split
    · split
      · exact .inr ⟨none, rfl⟩
      · exact .inl rfl
    · exact .inl rfl
  · split
    · exact .inr ⟨_, rfl⟩
    · exact .inl rfl

@[simp] theorem counterRead_mem (s : State) (m a : Nat) : (counterRead s m a).2.mem = s.mem := by
  obtain h | ⟨x, h⟩ := counterRead_state s m a <;> rw [h]
  rfl

@[simp] theorem counterRead_flash (s : State) (m a : Nat) : (counterRead s m a).2.flash = s.flash := by
  obtain h | ⟨x, h⟩ := counterRead_state s m a <;> rw [h]
  rfl

/-- One field of a word after the read: RC fields clear. -/
def clearRc (w : Word) (f : FieldRow) : Word := if f.acc = Acc.rc then withBits w f.hi f.lo 0 else w

/-- The clearing of a field changes no bit outside it. -/
theorem clearRc_keepsOutside : KeepsOutside clearRc := by
  intro w f hi lo h32 hd
  unfold clearRc
  split
  · exact bitsOf_withBits_other _ _ _ _ _ _ h32 hd
  · rfl

/-- An RC field is 0 after its clearing, any other as before. -/
theorem bitsOf_clearRc_same (w : Word) (f : FieldRow) (h32 : f.hi < 32) :
    bitsOf (clearRc w f) f.hi f.lo = if f.acc = Acc.rc then 0 else bitsOf w f.hi f.lo := by
  unfold clearRc
  split
  · rw [bitsOf_withBits_same _ _ _ _ h32, Nat.zero_mod]
  · rfl

/-- What a read clears, by the register's row: its fields one by one, where one of them is RC. -/
theorem clearOnRead_row (s : State) (a : Nat) (r : RegRow) (h : rowAt a = some r) : clearOnRead s a =
    if r.fields.any (fun f => decide (f.acc = Acc.rc)) then wr s a (r.fields.foldl clearRc (rd s a)) else s := by
  simp only [clearOnRead, h]
  rfl

/-- A read of a register clears its RC fields and no other (R10). -/
theorem bitsOf_clearOnRead (s : State) (a : Nat) (r : RegRow) (hs : s.RegsWf) (hr : rowAt a = some r) (ha : FieldsApart r.fields)
    (f : FieldRow) (hf : f ∈ r.fields) :
    bitsOf (rd (clearOnRead s a) a) f.hi f.lo = if f.acc = Acc.rc then 0 else bitsOf (rd s a) f.hi f.lo := by
  rw [clearOnRead_row s a r hr]
  split
  case isTrue =>
    obtain ⟨h32, x, hx, hfold⟩ := bitsOf_foldl_field clearRc_keepsOutside r.fields (rd s a) ha f hf
    rw [rd_wr_same _ _ _ hs, hfold, bitsOf_clearRc_same x f h32, hx]
  case isFalse hnone =>
    have hrc : f.acc ≠ Acc.rc := fun h => hnone (List.any_eq_true.mpr ⟨f, hf, decide_eq_true h⟩)
    rw [if_neg hrc]

/-- A read clears nothing in any other register. -/
theorem rd_clearOnRead_other (s : State) (a b : Nat) (h : b ≠ a) : rd (clearOnRead s a) b = rd s b := by
  unfold clearOnRead
  split
  · split
    · exact rd_wr_other _ _ _ _ h
    · rfl
  · rfl

@[simp] theorem clearOnRead_mem (s : State) (a : Nat) : (clearOnRead s a).mem = s.mem := by
  unfold clearOnRead
  split
  · split <;> rfl
  · rfl

@[simp] theorem clearOnRead_flash (s : State) (a : Nat) : (clearOnRead s a).flash = s.flash := by
  unfold clearOnRead
  split
  · split <;> rfl
  · rfl

@[simp] theorem registerRead_mem (s : State) (m a : Nat) : (registerRead s m a).2.mem = s.mem := by
  simp only [registerRead]
  split <;> simp only [clearOnRead_mem, counterRead_mem]

@[simp] theorem registerRead_flash (s : State) (m a : Nat) : (registerRead s m a).2.flash = s.flash := by
  simp only [registerRead]
  split <;> simp only [clearOnRead_flash, counterRead_flash]

/-- The state after a read whose word is `w` and whose effects led to `s`: the access's own wait is recorded (R11), and the word stands in the read data. -/
def afterRead (s : State) (m wait : Nat) (w : Word) : State :=
  { noteWait s m wait with bm := { s.bm with readData := w } }

/-- A read of a register that the matrix grants takes the word, does what the read does, and records the wait last (R11). -/
theorem busRead_register (s : State) (m a wait : Nat) (e : BitVec 4) (hl : s.bm.lock = none) (hd : m = 11 → debugLocked s = false)
    (he : accessError s m a false e = none) (hp : placeOf s (deckOf s m) a = Place.register) :
    busRead s m a wait LockUse.none e = (afterRead (registerRead s m a).2 m wait (registerRead s m a).1, 0) := by
  simp only [busRead, not_debugHeld hd, if_false, arbitrate_free s _ _ hl, he, placeRead, hp]
  rfl

/-- Settles O9: the latches through the cases of a counter read, the grant through the matrix's read, and RC fields through the fold over the register's fields. -/
theorem readEffects : Obligations.ReadEffects := by
  unfold Obligations.ReadEffects
  refine ⟨?_, ?_, ?_⟩
  · intro s m a hhigh hlow hwf
    refine ⟨?_, fun k hk => ?_, fun t ht => ?_, fun t ht => ?_⟩
    · rw [counterRead_low s m a hlow hhigh, latchOf_setLatch_same s m _ hwf]
    · rw [counterRead_low s m a hlow hhigh, latchOf_setLatch_other s m k _ hk]
    · rw [counterRead_high_latched t m a _ hhigh ht, bitsOf_withBits_same _ _ _ _ (by decide), bitsOf_mod_width]
    · rw [counterRead_high_unlatched t m (a + 4) hhigh ht]
  · intro s addr r hl hu hd he hp w s1 hread
    have hbus : busRead s r.master.val addr.toNat r.wait r.lock r.enables = (afterRead s1 r.master.val r.wait w, 0) := by
      rw [hu, busRead_register s _ _ _ _ hl hd he hp, hread]
    have hnext : (.next (busRead s r.master.val addr.toNat r.wait r.lock r.enables).1 : Out) = .next (afterRead s1 r.master.val r.wait w) := by
      rw [hbus]
    have hmem : s1.mem = s.mem := by rw [← registerRead_mem s r.master.val addr.toNat, hread]
    have hflash : s1.flash = s.flash := by rw [← registerRead_flash s r.master.val addr.toNat, hread]
    exact ⟨⟨_, hnext, rfl, rfl, rfl⟩, _, hnext, rfl, rfl, hmem, hflash⟩
  · intro s a r hs hr ha
    exact ⟨fun f hf => bitsOf_clearOnRead s a r hs.1 hr ha f hf, fun b hb => rd_clearOnRead_other s a b hb⟩

end Sys2Proof.Machine

namespace Sys2Proof.Machine

/-!
Proofs about the path of a request from admission to the spans (spec/01_reconfiguration_path.md).
-/

/-! ### The dispatcher's choice (R134, R135) -/

/-- Of two requests the first does not stand after the second: its finish tag is smaller, or equal on a lane that is not higher. -/
def NotAfter (r q : Request) : Prop := r.tag < q.tag ∨ (r.tag = q.tag ∧ r.lane ≤ q.lane)

/-- The request so far chosen against the next that waits. -/
def earlier (x r : Request) : Request :=
  if tagBefore r.tag x.tag || (decide (r.tag = x.tag) && decide (r.lane < x.lane)) then r else x

theorem NotAfter.refl (r : Request) : NotAfter r r := .inr ⟨rfl, le_refl _⟩

theorem NotAfter.trans {a b c : Request} (hab : NotAfter a b) (hbc : NotAfter b c) : NotAfter a c := by
  unfold NotAfter at *
  omega

/-- Tags in the lower half of their range stand in the order of their values. -/
theorem tagBefore_of_lt {a b : Nat} (ha : a < 2 ^ 31) (hb : b < 2 ^ 31) : tagBefore a b = decide (a < b) := by
  unfold tagBefore
  rw [decide_eq_decide]
  omega

theorem earlier_eq_or (x r : Request) : earlier x r = r ∨ earlier x r = x := by
  unfold earlier
  split
  · exact .inl rfl
  · exact .inr rfl

/-- Where tags have not wrapped, the one of two that is chosen stands after neither. -/
theorem earlier_notAfter {x r : Request} (hx : x.tag < 2 ^ 31) (hr : r.tag < 2 ^ 31) :
    NotAfter (earlier x r) x ∧ NotAfter (earlier x r) r := by
  unfold earlier NotAfter
  simp only [tagBefore_of_lt hr hx, Bool.or_eq_true, Bool.and_eq_true, decide_eq_true_eq]
  split <;> omega

/-- Of requests the one that is chosen is one of them; where tags have not wrapped it stands after none. -/
theorem foldl_earlier (l : List Request) (x : Request) :
    (l.foldl earlier x = x ∨ l.foldl earlier x ∈ l) ∧
      (x.tag < 2 ^ 31 → (∀ q ∈ l, q.tag < 2 ^ 31) → NotAfter (l.foldl earlier x) x ∧ ∀ q ∈ l, NotAfter (l.foldl earlier x) q) := by
  induction l generalizing x with
  | nil => exact ⟨.inl rfl, fun _ _ => ⟨.refl x, fun q hq => absurd hq List.not_mem_nil⟩⟩
  | cons r l ih =>
    obtain ⟨hmem, hfirst⟩ := ih (earlier x r)
    rw [List.foldl_cons]
    refine ⟨?_, fun hx hl => ?_⟩
    · rcases hmem with h | h
      · rcases earlier_eq_or x r with he | he
        · exact .inr (by rw [h, he]; exact List.mem_cons_self)
        · exact .inl (h.trans he)
      · exact .inr (List.mem_cons_of_mem _ h)
    · have hr : r.tag < 2 ^ 31 := hl r List.mem_cons_self
      have hlow : (earlier x r).tag < 2 ^ 31 := by rcases earlier_eq_or x r with he | he <;> rwa [he]
      obtain ⟨hchosen, hrest⟩ := hfirst hlow (fun q hq => hl q (List.mem_cons_of_mem _ hq))
      obtain ⟨hex, her⟩ := earlier_notAfter hx hr
      exact ⟨hchosen.trans hex, List.forall_mem_cons.mpr ⟨hchosen.trans her, hrest⟩⟩

/-- The choice goes through the waiting requests one by one. -/
theorem dispatchChoice_of_cons {s : State} {t : Nat} {x : Request} {l : List Request} (h : waiting s t = x :: l) :
    dispatchChoice s t = some (l.foldl earlier x) := by
  have hfold : ∀ (l : List Request) (x : Request), l.foldl (fun b r => match b with
      | none => some r
      | some x => if tagBefore r.tag x.tag || (decide (r.tag = x.tag) && decide (r.lane < x.lane)) then some r else some x) (some x)
      = some (l.foldl earlier x) := by
    intro l
    induction l with
    | nil => intro x; rfl
    | cons r l ih =>
      intro x
      rw [List.foldl_cons, List.foldl_cons, ← ih]
      simp only [earlier]
      split <;> rfl
  unfold dispatchChoice
  rw [h]
  exact hfold l x

/-- What the dispatcher chooses waits for the window; where tags have not wrapped it stands after no other request that does. -/
theorem dispatchChoice_spec {s : State} {t : Nat} {r : Request} (h : dispatchChoice s t = some r) :
    r ∈ waiting s t ∧ ((∀ q ∈ waiting s t, q.tag < 2 ^ 31) → ∀ q ∈ waiting s t, NotAfter r q) := by
  cases hw : waiting s t with
  | nil => simp [dispatchChoice, hw] at h
  | cons x l =>
    rw [dispatchChoice_of_cons hw] at h
    obtain rfl := Option.some.inj h
    obtain ⟨hmem, hfirst⟩ := foldl_earlier l x
    refine ⟨List.mem_cons.mpr hmem, fun hlow => ?_⟩
    obtain ⟨hx, hl⟩ := List.forall_mem_cons.mp hlow
    exact List.forall_mem_cons.mpr (hfirst hx hl)

/-- The state with a due slot used up; with its window already classified it is forgotten (R135). -/
def slotUsed (s : State) (x : Slot) : State :=
  let used := s.ad.slots.map (fun y => if y = x then { y with taken := true } else y)
  { s with ad := { s.ad with slots := used.filter (fun y => ! (y.taken && decide (y.tW ≤ s.ad.closed))) } }

/-- A request goes to Keystone: its phase, V and KS_STATUS.BUSY (R135). -/
def toKeystone (s : State) (r : Request) : State :=
  let s2 := setF (updateRequest s r.id (fun q => { q with phase := .routing })) AD_VT_V r.tag
  setFlag { s2 with ks := { s2.ks with queue := s2.ks.queue ++ [r.id] } } KS_STATUS_BUSY true

/-- A dispatch at a due slot with a request to take (R135). -/
theorem exec_dispatch {s : State} {x : Slot} {r : Request} (hx : dueSlot s = some x) (hp : inPipe s < 2) (hr : dispatchChoice s x.tW = some r) :
    exec (.dispatch []) s = .next (toKeystone (slotUsed s x) r) := by
  simp only [exec, execDispatch, hx, Nat.not_le.mpr hp, if_false, meetEcc, List.foldl_nil, hr]
  rfl

/-- V shows the tag of the request that went to Keystone. -/
theorem getF_vt_toKeystone (s : State) (r : Request) (h : s.RegsWf) : getF (toKeystone s r) AD_VT_V = r.tag % 2 ^ 32 := by
  have hother : AD_VT_V.addr ≠ KS_STATUS_BUSY.addr := by decide
  exact (getF_setF_addr _ _ _ _ hother).trans (getF_setF_same _ _ _ h (by decide))

/-- Keystone shows BUSY once a request has gone to it. -/
theorem flag_busy_toKeystone (s : State) (r : Request) (h : s.RegsWf) : flag (toKeystone s r) KS_STATUS_BUSY = true :=
  flag_setFlag_same _ _ _ (regsWf_setF _ _ _ h) (by decide) (by decide)

/-- Every request in flight under the changed request's id has changed. -/
theorem mem_updateRequest {s : State} {id : Nat} {f : Request → Request} {q : Request}
    (hq : q ∈ (updateRequest s id f).ad.inflight) (hid : q.id = id) : ∃ r ∈ s.ad.inflight, q = f r := by
  obtain ⟨r, hr, rfl⟩ := List.mem_map.mp hq
  by_cases h : r.id = id
  · exact ⟨r, hr, if_pos h⟩
  · rw [if_neg h] at hid
    exact absurd hid h

/-- Settles O23: the fold over the waiting requests keeps one that stands after none, and the dispatch does to it what the rule says. -/
theorem dispatchOrder : Obligations.DispatchOrder := by
  unfold Obligations.DispatchOrder
  intro s x r hc hx hp hr
  obtain ⟨hmem, hfirst⟩ := dispatchChoice_spec hr
  refine ⟨_, exec_dispatch hx hp hr, rfl, getF_vt_toKeystone _ r hc.1, flag_busy_toKeystone _ r hc.1, fun q hq hid => ?_, List.length_map _, hmem, hfirst, rfl, rfl⟩
  obtain ⟨p, -, rfl⟩ := mem_updateRequest (s := slotUsed s x) (f := fun q => { q with phase := .routing }) hq hid
  rfl

end Sys2Proof.Machine

namespace Sys2Proof.Machine

/-! ### What a report leaves alone (R448 to R450) -/

/-- A message enters its source's queue, or is dropped and the drop counted. -/
theorem report_cases (s : State) (x : BitVec 64) : report s x = bump (event s FC_INT_OVERFLOW) (cFC_CNT 5)
    ∨ report s x = setQueue s (msgSource x) (queueOf s (msgSource x) ++ [x]) := by
  unfold report
  dsimp only
  split
  · exact .inl rfl
  · exact .inr rfl

/-- A message that enters a queue of the collector touches registers and the collector alone. -/
theorem report_rest (s : State) (x : BitVec 64) : ∃ r f, report s x = { s with regs := r, fc := f } := by
  rcases report_cases s x with h | h <;> exact ⟨_, _, h⟩

section Raise
variable (s : State) (source kind cls : Nat) (b : Bool) (addr : Nat)

/-- A fault that is reported touches registers and the collector alone. -/
theorem raise_rest : ∃ r f, raise s source kind cls b addr = { s with regs := r, fc := f } := report_rest _ _

@[simp] theorem raise_epoch : (raise s source kind cls b addr).epoch = s.epoch := by
  obtain ⟨r, f, h⟩ := raise_rest s source kind cls b addr; rw [h]
@[simp] theorem raise_mem : (raise s source kind cls b addr).mem = s.mem := by
  obtain ⟨r, f, h⟩ := raise_rest s source kind cls b addr; rw [h]
@[simp] theorem raise_tg : (raise s source kind cls b addr).tg = s.tg := by
  obtain ⟨r, f, h⟩ := raise_rest s source kind cls b addr; rw [h]
@[simp] theorem raise_ad : (raise s source kind cls b addr).ad = s.ad := by
  obtain ⟨r, f, h⟩ := raise_rest s source kind cls b addr; rw [h]
@[simp] theorem raise_ks : (raise s source kind cls b addr).ks = s.ks := by
  obtain ⟨r, f, h⟩ := raise_rest s source kind cls b addr; rw [h]
@[simp] theorem raise_dr : (raise s source kind cls b addr).dr = s.dr := by
  obtain ⟨r, f, h⟩ := raise_rest s source kind cls b addr; rw [h]
@[simp] theorem raise_bm : (raise s source kind cls b addr).bm = s.bm := by
  obtain ⟨r, f, h⟩ := raise_rest s source kind cls b addr; rw [h]

/-- The registers a report can write: the overflow flag and its counter (R450). -/
def reportRegs : List Nat := [aFC_INT, cFC_CNT 5, cFC_CNT 5 + 4]

/-- A fault that is reported leaves the other registers as they were. -/
theorem rd_raise_other (a : Nat) (h : a ∉ reportRegs) : rd (raise s source kind cls b addr) a = rd s a := by
  simp only [reportRegs, List.mem_cons, List.not_mem_nil, or_false, not_or] at h
  obtain ⟨hint, hlow, hhigh⟩ := h
  rcases report_cases s (faultMsg source kind cls b addr) with h | h
  · exact (congrArg (rd · a) h).trans ((rd_bumpBy_other _ _ _ _ hlow hhigh).trans (rd_setF_other _ _ _ _ hint))
  · exact (congrArg (rd · a) h).trans rfl

end Raise

/-! ### Lanes and shapers -/

theorem laneOf_setLane_same {s : State} (h : LanesWf s) (l : Nat) (x : Lane) : laneOf (setLane s l x) l = x :=
  cellGet_cellPut_same _ _ _ _ h.1

theorem laneOf_setLane_other (s : State) (l k : Nat) (x : Lane) (h : k ≠ l) : laneOf (setLane s l x) k = laneOf s k :=
  cellGet_cellPut_other _ _ _ _ _ h

theorem shaperOf_setShaper_same {s : State} (h : LanesWf s) (p : Nat) (x : Shaper) : shaperOf (setShaper s p x) p = x :=
  cellGet_cellPut_same _ _ _ _ h.2

@[simp] theorem laneOf_setShaper (s : State) (p : Nat) (x : Shaper) (l : Nat) : laneOf (setShaper s p x) l = laneOf s l := (rfl)
@[simp] theorem setShaper_inflight (s : State) (p : Nat) (x : Shaper) : (setShaper s p x).ad.inflight = s.ad.inflight := (rfl)
@[simp] theorem setLane_inflight (s : State) (l : Nat) (x : Lane) : (setLane s l x).ad.inflight = s.ad.inflight := (rfl)

theorem lanesWf_setLane {s : State} (h : LanesWf s) (l : Nat) (x : Lane) : LanesWf (setLane s l x) :=
  ⟨cellWf_cellPut _ _ _ _ h.1, h.2⟩

theorem lanesWf_setShaper {s : State} (h : LanesWf s) (p : Nat) (x : Shaper) : LanesWf (setShaper s p x) :=
  ⟨h.1, cellWf_cellPut _ _ _ _ h.2⟩

/-- States whose admission block is the same have well-formed lanes alike. -/
theorem lanesWf_congr {s t : State} (h : t.ad = s.ad) (hs : LanesWf s) : LanesWf t := by
  unfold LanesWf
  rwa [h]

theorem laneOf_congr {s t : State} (h : t.ad = s.ad) (l : Nat) : laneOf t l = laneOf s l := by
  unfold laneOf
  rw [h]

theorem shaperOf_congr {s t : State} (h : t.ad = s.ad) (p : Nat) : shaperOf t p = shaperOf s p := by
  unfold shaperOf
  rw [h]

/-- A lane that is replaced with a part of it kept keeps that part, and every other lane is as it was. -/
theorem laneOf_setLane_keeps {α : Type} (π : Lane → α) {s : State} (h : LanesWf s) (l : Nat) (x : Lane) (hx : π x = π (laneOf s l)) (k : Nat) :
    π (laneOf (setLane s l x) k) = π (laneOf s k) := by
  by_cases hk : k = l
  · subst hk
    rw [laneOf_setLane_same h, hx]
  · rw [laneOf_setLane_other _ _ _ _ hk]

/-! ### A message that is queued (R138) -/

section QueueReply
variable (s : State) (p l typ seq echo time : Nat) (body : List Byte) (r : Route) (counts : Bool)

@[simp] theorem queueReply_mem : (queueReply s p l typ seq echo time body r counts).mem = s.mem := (rfl)
@[simp] theorem queueReply_tg : (queueReply s p l typ seq echo time body r counts).tg = s.tg := (rfl)
@[simp] theorem queueReply_inflight : (queueReply s p l typ seq echo time body r counts).ad.inflight = s.ad.inflight := (rfl)

/-- The partner's reply queue gains the message. -/
theorem replies_queueReply (h : LanesWf s) : (shaperOf (queueReply s p l typ seq echo time body r counts) p).replies =
    (shaperOf s p).replies ++ [⟨l, typ, seq, echo, time, laneL s l, body, r, counts, true, none⟩] :=
  congrArg Shaper.replies (shaperOf_setShaper_same h p _)

/-- A reply to a message that is queued has the message's SEQ and ECHO. -/
theorem replied_queueReply {s0 : State} (m : Msg) (h : LanesWf s) (hs : shaperOf s m.partner = shaperOf s0 m.partner) :
    Replied s0 (queueReply s m.partner (msgLane m) typ (msgSeq m) (msgEcho m) time body r counts) m typ time body :=
  ⟨_, by rw [replies_queueReply _ _ _ _ _ _ _ _ _ _ h, hs], rfl, rfl, rfl, rfl, rfl, rfl⟩

/-- The lane's partner has been shown L; nothing else of a lane changes. -/
theorem expSeq_queueReply (h : LanesWf s) (k : Nat) : (laneOf (queueReply s p l typ seq echo time body r counts) k).expSeq = (laneOf s k).expSeq :=
  laneOf_setLane_keeps Lane.expSeq (lanesWf_setShaper h p _) l { laneOf s l with shownL := laneL s l } rfl k

end QueueReply

/-! ### Lockstep mismatches (R18, R131) -/

/-- The registers that the report of a lockstep mismatch can write. -/
def mismatchRegs : List Nat := [cAD_CNT 19, cAD_CNT 19 + 4] ++ reportRegs

section ReportMismatch
variable (s : State) (m : Msg) (mm : Upsets)

theorem rd_reportMismatch_other (a : Nat) (h : a ∉ mismatchRegs) : rd (reportMismatch s m mm) a = rd s a := by
  simp only [mismatchRegs, List.cons_append, List.nil_append, List.mem_cons, not_or] at h
  obtain ⟨hlow, hhigh, hreport⟩ := h
  unfold reportMismatch
  split
  · rfl
  · rw [rd_raise_other _ _ _ _ _ _ _ hreport]
    exact rd_bumpBy_other _ _ _ _ hlow hhigh

theorem getF_reportMismatch_other (f : Fld) (h : f.addr ∉ mismatchRegs) : getF (reportMismatch s m mm) f = getF s f := by
  unfold getF
  rw [rd_reportMismatch_other s m mm _ h]

@[simp] theorem reportMismatch_epoch : (reportMismatch s m mm).epoch = s.epoch := by
  unfold reportMismatch; split <;> simp
@[simp] theorem reportMismatch_mem : (reportMismatch s m mm).mem = s.mem := by
  unfold reportMismatch; split <;> simp
@[simp] theorem reportMismatch_tg : (reportMismatch s m mm).tg = s.tg := by
  unfold reportMismatch; split <;> simp
@[simp] theorem reportMismatch_ad : (reportMismatch s m mm).ad = s.ad := by
  unfold reportMismatch; split <;> simp
@[simp] theorem reportMismatch_bm : (reportMismatch s m mm).bm = s.bm := by
  unfold reportMismatch; split <;> simp

@[simp] theorem flag_en_reportMismatch : flag (reportMismatch s m mm) AD_CTRL_EN = flag s AD_CTRL_EN := by
  unfold flag
  rw [getF_reportMismatch_other s m mm _ (by decide)]

@[simp] theorem recovering_reportMismatch : recovering (reportMismatch s m mm) = recovering s := by
  unfold recovering
  rw [getF_reportMismatch_other s m mm _ (by decide)]

@[simp] theorem fusedRole_reportMismatch (p : Nat) : fusedRole (reportMismatch s m mm) p = fusedRole s p := by
  unfold fusedRole flag
  rw [getF_reportMismatch_other s m mm _ (by decide), rd_reportMismatch_other s m mm _ (by decide)]

@[simp] theorem ownsLane_reportMismatch (x : Msg) : ownsLane (reportMismatch s m mm) x = ownsLane s x := by
  unfold ownsLane
  simp only [recovering_reportMismatch, laneOf_congr (reportMismatch_ad s m mm)]

@[simp] theorem accessWaits_reportMismatch (x : Msg) : accessWaits (reportMismatch s m mm) x = accessWaits s x := by
  unfold accessWaits
  rw [reportMismatch_bm]

/-- A mismatch is reported alike before and after the message leaves admission's queue. -/
theorem reportMismatch_takeMsg : reportMismatch (takeMsg s) m mm = takeMsg (reportMismatch s m mm) := by
  unfold reportMismatch
  split
  · rfl
  · unfold raise report
    have hqueue : ∀ k, queueOf (bump (takeMsg s) (cAD_CNT 19)) k = queueOf (bump s (cAD_CNT 19)) k := fun _ => rfl
    simp only [hqueue]
    split <;> rfl

end ReportMismatch

@[simp] theorem takeMsg_epoch (s : State) : (takeMsg s).epoch = s.epoch := (rfl)
@[simp] theorem takeMsg_mem (s : State) : (takeMsg s).mem = s.mem := (rfl)
@[simp] theorem takeMsg_ad (s : State) : (takeMsg s).ad = s.ad := (rfl)
@[simp] theorem takeMsg_inbox (s : State) : (takeMsg s).tg.inbox = s.tg.inbox.drop 1 := (rfl)

/-- A message that meets no upset is judged as it stands. -/
theorem reportMismatch_none (s : State) (m : Msg) : reportMismatch s m noUpsets = s := rfl

/-- The first mismatch is reported, and the message is judged as without it. -/
theorem process_firstMismatch (s : State) (m : Msg) (run : State → State) (hen : flag s AD_CTRL_EN = true ∨ recovering s = true)
    (hans : unanswerable m = false) : process s m ⟨1, []⟩ run = process (reportMismatch s m ⟨1, []⟩) m noUpsets run := by
  have hnot : ¬ ((flag s AD_CTRL_EN = false ∧ recovering s = false) ∨ unanswerable m = true) := by
    rcases hen with h | h <;> simp [h, hans]
  have hone : ¬ ((⟨1, []⟩ : Upsets).mismatches = 2) := by decide
  have hnone : ¬ (noUpsets.mismatches = 2) := by decide
  unfold process
  simp only [flag_en_reportMismatch, recovering_reportMismatch, ownsLane_reportMismatch, fusedRole_reportMismatch, hnot, hone, hnone, if_false,
    reportMismatch_none, meetEcc, List.foldl_nil, reportMismatch_takeMsg]
  rfl

/-- Step 2 of R131: the way of a message on a lane of the partner becomes the lane's. -/
def withWay (s : State) (m : Msg) (owned : Bool) : State :=
  if owned then setLane s (msgLane m) { laneOf s (msgLane m) with route := some m.route } else s

/-- A second mismatch refuses a message that can be answered, before any other test. -/
theorem process_secondMismatch (s : State) (m : Msg) (run : State → State) (hen : flag s AD_CTRL_EN = true ∨ recovering s = true)
    (hans : unanswerable m = false) : process s m ⟨2, []⟩ run =
      refuseAdmitFault (withWay (takeMsg (reportMismatch s m ⟨2, []⟩)) m (ownsLane s m)) m (ownsLane s m) := by
  have hnot : ¬ ((flag s AD_CTRL_EN = false ∧ recovering s = false) ∨ unanswerable m = true) := by
    rcases hen with h | h <;> simp [h, hans]
  unfold process
  simp only [hnot, if_false, if_true, meetEcc, List.foldl_nil, reportMismatch_takeMsg, withWay]

/-- A refusal that is counted touches registers alone. -/
theorem countRefusal_rest (s : State) (code : Nat) : ∃ r, countRefusal s code = { s with regs := r } := by
  unfold countRefusal
  split_ifs <;> exact ⟨_, rfl⟩

@[simp] theorem countRefusal_mem (s : State) (code : Nat) : (countRefusal s code).mem = s.mem := by
  obtain ⟨r, h⟩ := countRefusal_rest s code; rw [h]
@[simp] theorem countRefusal_tg (s : State) (code : Nat) : (countRefusal s code).tg = s.tg := by
  obtain ⟨r, h⟩ := countRefusal_rest s code; rw [h]
@[simp] theorem countRefusal_ad (s : State) (code : Nat) : (countRefusal s code).ad = s.ad := by
  obtain ⟨r, h⟩ := countRefusal_rest s code; rw [h]

/-- What a refusal with ADMIT_FAULT does and leaves alone. -/
theorem refuseAdmitFault_spec (s : State) (m : Msg) (owned : Bool) (h : LanesWf s) :
    (refuseAdmitFault s m owned).tg = s.tg ∧ (refuseAdmitFault s m owned).ad.inflight = s.ad.inflight
      ∧ (refuseAdmitFault s m owned).mem = s.mem ∧ (∀ l, (laneOf (refuseAdmitFault s m owned) l).expSeq = (laneOf s l).expSeq)
      ∧ Replied s (refuseAdmitFault s m owned) m 0x82 0 (refuseBody s 0x10 0) := by
  have had : (countRefusal (raise s 0x001 0x12 clsContained false (msgLane m)) 0x10).ad = s.ad := by simp
  have hwf := lanesWf_congr had h
  have hbody : refuseBody (raise s 0x001 0x12 clsContained false (msgLane m)) 0x10 0 = refuseBody s 0x10 0 := by
    simp only [refuseBody, epochBytes, raise_epoch]
  cases owned with
  | true =>
    simp only [refuseAdmitFault, refuse, if_true, Bool.false_eq_true, if_false]
    refine ⟨by simp, by simp, by simp, fun l => ?_, ?_⟩
    · rw [expSeq_queueReply _ _ _ _ _ _ _ _ _ _ hwf, laneOf_congr had]
    · rw [← hbody]
      exact replied_queueReply _ _ _ _ _ _ m hwf (shaperOf_congr had _)
  | false =>
    simp only [refuseAdmitFault, Bool.false_eq_true, if_false]
    refine ⟨by rw [setShaper_tg, countRefusal_tg, raise_tg], by rw [setShaper_inflight, had], by rw [setShaper_mem, countRefusal_mem, raise_mem], fun l => ?_,
      ⟨msgLane m, 0x82, msgSeq m, msgEcho m, 0, 0, refuseBody s 0x10 0, m.route, false, false, none⟩, ?_, rfl, rfl, rfl, rfl, rfl, rfl⟩
    · rw [laneOf_setShaper, laneOf_congr had]
    · rw [shaperOf_setShaper_same hwf, shaperOf_congr had]

/-- The way of a message is no part of what a lane expects or a shaper holds. -/
theorem withWay_spec (s : State) (m : Msg) (owned : Bool) (h : LanesWf s) :
    LanesWf (withWay s m owned) ∧ (withWay s m owned).tg = s.tg ∧ (withWay s m owned).mem = s.mem ∧ (withWay s m owned).epoch = s.epoch
      ∧ (withWay s m owned).ad.inflight = s.ad.inflight ∧ (withWay s m owned).ad.shapers = s.ad.shapers
      ∧ ∀ l, (laneOf (withWay s m owned) l).expSeq = (laneOf s l).expSeq := by
  unfold withWay
  split
  · exact ⟨lanesWf_setLane h _ _, rfl, rfl, rfl, rfl, rfl, laneOf_setLane_keeps Lane.expSeq h _ _ rfl⟩
  · exact ⟨h, rfl, rfl, rfl, rfl, rfl, fun _ => rfl⟩

/-! ### The rows of messages -/

/-- The message at the head of admission's queue is taken by a row that it suits. -/
theorem nextMsg_head {s : State} {m : Msg} {p : Msg → Bool} (h : s.tg.inbox.head? = some m) (hp : p m = true) : nextMsg s p = some m := by
  obtain ⟨l, hl⟩ := List.head?_eq_some_iff.mp h
  simp only [nextMsg, hl, hp, if_true]

section Head
variable {s : State} {m : Msg} {mm : Upsets} (h : s.tg.inbox.head? = some m)
include h

theorem admitRequest_head {typ : Nat} (ht : msgType m = typ) : admitRequest typ mm s = process s m mm (requestStep m) := by
  unfold admitRequest
  rw [nextMsg_head h (by simp [ht])]

theorem answerQuery_head {kind : Nat} (reply : Msg → State → State) (ht : msgType m = 0x10) (hk : queryKind m = kind) :
    answerQuery kind reply mm s = process s m mm (queryStep m (reply m)) := by
  unfold answerQuery
  rw [nextMsg_head h (by simp [ht, hk])]

theorem execQueryLaneStatus_head (ht : msgType m = 0x10) (hk : queryKind m = 1) :
    execQueryLaneStatus mm s = .next (process s m mm (queryStep m (laneStatus m))) := by
  unfold execQueryLaneStatus
  rw [nextMsg_head h (by simp [ht, hk])]

theorem regMessage_head {typ : Nat} (step : Msg → State → State) (ht : msgType m = typ) (hw : accessWaits s m = false) :
    regMessage typ step mm s = process s m mm (step m) := by
  unfold regMessage
  rw [nextMsg_head h (by simp [ht])]
  exact if_neg (Bool.eq_false_iff.mp hw)

theorem execSubscribe_head (ht : msgType m = 0x30) : execSubscribe mm s = .next (process s m mm (subscribeStep m)) := by
  unfold execSubscribe
  rw [nextMsg_head h (by simp [ht])]

theorem execTimeStep_head (ht : msgType m = 0x40) : execTimeStep mm s = .next (process s m mm (timeStepStep m)) := by
  unfold execTimeStep
  rw [nextMsg_head h (by simp [ht])]

end Head

/-- The row that takes a message carries it through steps 1 to 5 of R131 to what the row itself does. -/
theorem exec_rowTakes {c : Upsets → Instr} {m : Msg} (hc : RowTakes c m) : ∃ run : State → State, ∀ (s : State) (k : Fin 3),
    s.tg.inbox.head? = some m → accessWaits s m = false → exec (c ⟨k, []⟩) s = .next (process s m ⟨k, []⟩ run) := by
  rcases hc with ⟨rfl, ht⟩ | ⟨rfl, ht⟩ | ⟨rfl, ht⟩ | ⟨rfl, ht, hk⟩ | ⟨rfl, ht, hk⟩ | ⟨rfl, ht, hk⟩ | ⟨rfl, ht, hk⟩ | ⟨rfl, ht⟩ | ⟨rfl, ht⟩ | ⟨rfl, ht⟩ | ⟨rfl, ht⟩
  · exact ⟨requestStep m, fun _ _ h _ => congrArg Host.Outcome.next (admitRequest_head h ht)⟩
  · exact ⟨requestStep m, fun _ _ h _ => congrArg Host.Outcome.next (admitRequest_head h ht)⟩
  · exact ⟨requestStep m, fun _ _ h _ => congrArg Host.Outcome.next (admitRequest_head h ht)⟩
  · exact ⟨_, fun _ _ h _ => execQueryLaneStatus_head h ht hk⟩
  · exact ⟨_, fun _ _ h _ => congrArg Host.Outcome.next (answerQuery_head h requestStatusReply ht hk)⟩
  · exact ⟨_, fun _ _ h _ => congrArg Host.Outcome.next (answerQuery_head h deviceState ht hk)⟩
  · exact ⟨_, fun _ _ h _ => congrArg Host.Outcome.next (answerQuery_head h networkTime ht hk)⟩
  · exact ⟨_, fun _ _ h hw => congrArg Host.Outcome.next (regMessage_head h (regReadStep []) ht hw)⟩
  · exact ⟨_, fun _ _ h hw => congrArg Host.Outcome.next (regMessage_head h regWriteStep ht hw)⟩
  · exact ⟨_, fun _ _ h _ => execSubscribe_head h ht⟩
  · exact ⟨_, fun _ _ h _ => execTimeStep_head h ht⟩

/-- Settles O19: every row goes through `process`, which reports the first mismatch and goes on, and refuses at the second before any other test. -/
theorem lockstepUpsets : Obligations.LockstepUpsets := by
  unfold Obligations.LockstepUpsets
  intro s m c _ hl hc hm hen hans hw
  obtain ⟨run, hrun⟩ := exec_rowTakes hc
  refine ⟨?_, ?_⟩
  · have hm' : (reportMismatch s m ⟨1, []⟩).tg.inbox.head? = some m := by rw [reportMismatch_tg, hm]
    have hw' : accessWaits (reportMismatch s m ⟨1, []⟩) m = false := by rw [accessWaits_reportMismatch, hw]
    rw [hrun s 1 hm hw, process_firstMismatch s m run hen hans]
    exact (hrun _ 0 hm' hw').symm
  · have had : (takeMsg (reportMismatch s m ⟨2, []⟩)).ad = s.ad := by rw [takeMsg_ad, reportMismatch_ad]
    obtain ⟨hwf, htg, hmem, hepoch, hflight, hshapers, hseq⟩ := withWay_spec _ m (ownsLane s m) (lanesWf_congr had hl)
    obtain ⟨htg2, hflight2, hmem2, hseq2, o, ho, hfields⟩ := refuseAdmitFault_spec _ m (ownsLane s m) hwf
    refine ⟨_, (hrun s 2 hm hw).trans (by rw [process_secondMismatch s m run hen hans]), ?_, ?_, ?_, fun l => ?_, o, ?_, ?_⟩
    · rw [htg2, htg, takeMsg_inbox, reportMismatch_tg, List.drop_one]
    · rw [hflight2, hflight, had]
    · rw [hmem2, hmem, takeMsg_mem, reportMismatch_mem]
    · rw [hseq2, hseq, laneOf_congr had]
    · rw [ho]
      simp only [shaperOf, hshapers, had]
    · simpa only [refuseBody, epochBytes, hepoch, takeMsg_epoch, reportMismatch_epoch] using hfields

end Sys2Proof.Machine

namespace Sys2Proof.Machine

/-! ### Fault messages in their queues (R448, R450) -/

/-- SOURCE reads back from a message. -/
theorem msgSource_faultMsg (source kind cls : Nat) (b : Bool) (addr : Nat) : msgSource (faultMsg source kind cls b addr) = source % 2 ^ 12 := by
  unfold msgSource faultMsg
  rw [BitVec.toNat_ofNat]
  cases b <;> simp only [Bool.false_eq_true, if_false, if_true] <;> omega

/-- CLASS reads back from a message. -/
theorem msgClass_faultMsg (source kind cls : Nat) (b : Bool) (addr : Nat) : msgClass (faultMsg source kind cls b addr) = cls % 4 := by
  unfold msgClass faultMsg
  rw [BitVec.toNat_ofNat]
  cases b <;> simp only [Bool.false_eq_true, if_false, if_true] <;> omega

theorem queueOf_setQueue_same {s : State} (h : QueuesWf s) (k : Nat) (q : List (BitVec 64)) : queueOf (setQueue s k q) k = q :=
  cellGet_cellPut_same _ _ _ _ h

theorem queueOf_setQueue_other (s : State) (k j : Nat) (q : List (BitVec 64)) (h : j ≠ k) : queueOf (setQueue s k q) j = queueOf s j :=
  cellGet_cellPut_other _ _ _ _ _ h

/-- States whose collector is the same have the same queues. -/
theorem queueOf_congr {s t : State} (h : t.fc = s.fc) (k : Nat) : queueOf t k = queueOf s k := by
  unfold queueOf
  rw [h]

theorem queuesWf_congr {s t : State} (h : t.fc = s.fc) (hs : QueuesWf s) : QueuesWf t := by
  unfold QueuesWf
  rwa [h]

theorem queuesWf_setQueue {s : State} (h : QueuesWf s) (k : Nat) (q : List (BitVec 64)) : QueuesWf (setQueue s k q) :=
  cellWf_cellPut _ _ _ _ h

section RaiseQueues
variable (s : State) (source kind cls : Nat) (b : Bool) (addr : Nat)

/-- A fatal fault always enters its source's queue. -/
theorem queueOf_raise_fatal (h : QueuesWf s) {k : Nat} (hk : source % 2 ^ 12 = k) : queueOf (raise s source kind clsFatal b addr) k =
    queueOf s k ++ [faultMsg source kind clsFatal b addr] := by
  have hcls : ¬ (msgClass (faultMsg source kind clsFatal b addr) = 1 ∧
      3 ≤ (queueOf s (msgSource (faultMsg source kind clsFatal b addr))).length) := by
    rw [msgClass_faultMsg]
    exact fun h => absurd h.1 (by decide)
  unfold raise report
  rw [if_neg hcls, msgSource_faultMsg, hk]
  exact queueOf_setQueue_same h _ _

/-- A report leaves the queues of other sources as they were. -/
theorem queueOf_raise_other (j : Nat) (h : j ≠ source % 2 ^ 12) : queueOf (raise s source kind cls b addr) j = queueOf s j := by
  unfold raise
  rcases report_cases s (faultMsg source kind cls b addr) with hr | hr
  · rw [hr]; rfl
  · rw [hr, msgSource_faultMsg]
    exact queueOf_setQueue_other _ _ _ _ h

theorem queuesWf_raise (h : QueuesWf s) : QueuesWf (raise s source kind cls b addr) := by
  unfold raise
  rcases report_cases s (faultMsg source kind cls b addr) with hr | hr
  · rw [hr]; exact h
  · rw [hr]; exact queuesWf_setQueue h _ _

end RaiseQueues

/-! ### What a deck's fault leaves alone (R314 to R317) -/

/-- What every change that a deck's fault brings leaves alone: admission, Keystone and its fault queue, the routed requests, and the event flags
LZ_INT of the spans. -/
structure FaultFrame (s t : State) : Prop where
  ad : t.ad = s.ad
  ks : t.ks = s.ks
  routed : t.dr.routed = s.dr.routed
  queuesWf : QueuesWf s → QueuesWf t
  keystoneQueue : queueOf t 3 = queueOf s 3
  spanInts : ∀ k < 36, rd t (aLZ_INT k) = rd s (aLZ_INT k)

/-- The address is that of no span's LZ_INT. -/
def NoSpanInt (a : Nat) : Prop := ∀ k < 36, a ≠ aLZ_INT k

theorem noSpanInt_of_mod {a : Nat} (h : a % 32 ≠ 0) : NoSpanInt a := by
  intro k _
  unfold aLZ_INT spBase
  omega

theorem noSpanInt_of_high {a : Nat} (h : 0x64000000 ≤ a) : NoSpanInt a := by
  intro k hk
  unfold aLZ_INT spBase
  omega

namespace FaultFrame
variable {s t u : State}

theorem refl (s : State) : FaultFrame s s := ⟨rfl, rfl, rfl, id, rfl, fun _ _ => rfl⟩

theorem trans (h : FaultFrame s t) (k : FaultFrame t u) : FaultFrame s u :=
  ⟨k.ad.trans h.ad, k.ks.trans h.ks, k.routed.trans h.routed, fun hs => k.queuesWf (h.queuesWf hs), k.keystoneQueue.trans h.keystoneQueue,
    fun n hn => (k.spanInts n hn).trans (h.spanInts n hn)⟩

/-- A chain of changes over a list. -/
theorem foldl {α : Type} {f : State → α → State} (hf : ∀ s a, FaultFrame s (f s a)) (l : List α) (s : State) : FaultFrame s (l.foldl f s) := by
  induction l generalizing s with
  | nil => exact refl s
  | cons a l ih => exact (hf s a).trans (ih (f s a))

theorem ite {c : Prop} [Decidable c] (ht : c → FaultFrame s t) (hu : ¬ c → FaultFrame s u) : FaultFrame s (if c then t else u) := by
  split
  · exact ht ‹_›
  · exact hu ‹_›

theorem wr (s : State) {a : Nat} (v : Word) (h : NoSpanInt a) : FaultFrame s (wr s a v) :=
  ⟨rfl, rfl, rfl, id, rfl, fun k hk => rd_wr_other _ _ _ _ (h k hk).symm⟩

theorem setF (s : State) {f : Fld} (v : Nat) (h : NoSpanInt f.addr) : FaultFrame s (setF s f v) := wr s _ h

theorem setFlag (s : State) {f : Fld} (b : Bool) (h : NoSpanInt f.addr) : FaultFrame s (setFlag s f b) := wr s _ h

theorem event (s : State) {f : Fld} (h : NoSpanInt f.addr) : FaultFrame s (event s f) := wr s _ h

theorem bumpBy (s : State) {a : Nat} (n : Nat) (h : NoSpanInt a) (h4 : NoSpanInt (a + 4)) : FaultFrame s (bumpBy s a n) :=
  (wr s _ h).trans (wr _ _ h4)

/-- A counter of a block outside the spans' windows. -/
theorem bump (s : State) {a : Nat} (h : 0x64000000 ≤ a) : FaultFrame s (bump s a) :=
  bumpBy s 1 (noSpanInt_of_high h) (noSpanInt_of_high (by omega))

theorem setTally (s : State) (x : TallyState) : FaultFrame s { s with ty := x } := ⟨rfl, rfl, rfl, id, rfl, fun _ _ => rfl⟩

theorem life (s : State) (i : Nat) : FaultFrame s (life s i) := by
  have hlt : ∀ v, FaultFrame s (Machine.wr s (aTY_LT i) v) := fun v => wr s v (noSpanInt_of_high (by unfold aTY_LT tyBase; omega))
  have hsat : ∀ u, FaultFrame u (Machine.setFlag (Machine.event u TY_INT_LT_SAT) TY_STATUS_LT_SAT true) := fun u =>
    (event u (noSpanInt_of_high (by decide))).trans (setFlag _ true (noSpanInt_of_high (by decide)))
  exact ite (fun _ => ((hlt _).trans (setTally _ _)).trans (hsat _)) (fun _ => hlt _)

theorem disarm (s : State) (x : Timer) : FaultFrame s (disarm s x) := ⟨rfl, rfl, rfl, id, rfl, fun _ _ => rfl⟩

theorem armIn (s : State) (x : Timer) (n : Nat) : FaultFrame s (armIn s x n) := ⟨rfl, rfl, rfl, id, rfl, fun _ _ => rfl⟩

theorem setPier (s : State) (g : Nat) (x : Pier) : FaultFrame s (setPier s g x) := ⟨rfl, rfl, rfl, id, rfl, fun _ _ => rfl⟩

theorem setDecks (s : State) (d : Decks) : FaultFrame s { s with dk := d } := ⟨rfl, rfl, rfl, id, rfl, fun _ _ => rfl⟩

/-- A change of the drive that leaves its routed requests alone. -/
theorem setDrive (s : State) (d : Drive) (h : d.routed = s.dr.routed) : FaultFrame s { s with dr := d } :=
  ⟨rfl, rfl, h, id, rfl, fun _ _ => rfl⟩

theorem setParked (s : State) (l : List Nat) : FaultFrame s { s with dr := { s.dr with parked := l } } := setDrive s _ rfl

/-- A fault that another source than Keystone reports. -/
theorem raise (s : State) (source kind cls : Nat) (b : Bool) (addr : Nat) (h : source % 2 ^ 12 ≠ 3) :
    FaultFrame s (raise s source kind cls b addr) where
  ad := raise_ad s source kind cls b addr
  ks := raise_ks s source kind cls b addr
  routed := by rw [raise_dr]
  queuesWf := queuesWf_raise s source kind cls b addr
  keystoneQueue := queueOf_raise_other s source kind cls b addr 3 h.symm
  spanInts k hk := by
    refine rd_raise_other s source kind cls b addr _ fun hmem => ?_
    have hhigh : ∀ a ∈ reportRegs, NoSpanInt a := fun a ha => noSpanInt_of_high (by revert a; decide)
    exact hhigh _ hmem k hk rfl

end FaultFrame

/-! The fields that a deck's fault writes lie in no span's LZ_INT. -/

theorem noSpanInt_live (n l d : Nat) : NoSpanInt (liveWord n l d) := by
  refine noSpanInt_of_mod ?_
  unfold liveWord
  split <;> simp only [aPR_LIVE_A, aPR_LIVE_B, spBase] <;> omega

theorem noSpanInt_staged (n l d : Nat) : NoSpanInt (stagedWord n l d) := by
  refine noSpanInt_of_mod ?_
  unfold stagedWord
  split <;> simp only [aPR_STAGED_A, aPR_STAGED_B, spBase] <;> omega

theorem noSpanInt_out (n l : Nat) : NoSpanInt (aPR_OUT n l) := noSpanInt_of_mod (by unfold aPR_OUT spBase; omega)

theorem noSpanInt_status (n : Nat) : NoSpanInt (aLZ_STATUS n) := noSpanInt_of_mod (by unfold aLZ_STATUS spBase; omega)

theorem noSpanInt_claim (n : Nat) : NoSpanInt (aDK_CLAIM n) := noSpanInt_of_high (by unfold aDK_CLAIM dkBase; omega)

theorem claimFld_addr (n d : Nat) : (claimFld n d).addr = aDK_CLAIM n := by unfold claimFld; split <;> rfl
theorem causeFld_addr (n d : Nat) : (causeFld n d).addr = aDK_CLAIM n := by unfold causeFld; split <;> rfl
theorem stateFld_addr (n d : Nat) : (stateFld n d).addr = aDK_CLAIM n := by unfold stateFld; split <;> rfl

theorem noSpanInt_claimFld (n d : Nat) : NoSpanInt (claimFld n d).addr := claimFld_addr n d ▸ noSpanInt_claim n
theorem noSpanInt_causeFld (n d : Nat) : NoSpanInt (causeFld n d).addr := causeFld_addr n d ▸ noSpanInt_claim n
theorem noSpanInt_stateFld (n d : Nat) : NoSpanInt (stateFld n d).addr := stateFld_addr n d ▸ noSpanInt_claim n

theorem noSpanInt_ownerFld (n : Nat) : NoSpanInt (ownerFld n).addr := by
  unfold ownerFld
  split
  · exact noSpanInt_of_high (a := aDK_OWNER_LO) (by decide)
  · exact noSpanInt_of_high (a := aDK_OWNER_HI) (by decide)

/-- The decks' counters lie above the spans' windows. -/
theorem dkCnt_high (i : Nat) : 0x64000000 ≤ cDK_CNT i := by unfold cDK_CNT dkBase; omega

namespace FaultFrame

theorem setLiveF (s : State) (n l d v : Nat) : FaultFrame s (setLiveF s n l d v) := by
  have hlive : FaultFrame s (Machine.setF s (liveF n l d) v) := setF s v (noSpanInt_live n l d)
  unfold Machine.setLiveF
  exact ite (fun _ => hlive) (fun _ => hlive.trans (setDrive _ _ rfl))

theorem unfreeze (s : State) (n l : Nat) : FaultFrame s (unfreeze s n l) := by
  unfold Machine.unfreeze
  dsimp only
  split
  · exact refl s
  · exact ((setLiveF s _ _ _ _).trans (setF _ _ (noSpanInt_live _ _ _))).trans (setPier _ _ _)

theorem discardStaged (s : State) (n l : Nat) : FaultFrame s (discardStaged s n l) :=
  (setF s _ (noSpanInt_staged n l 0)).trans (setF _ _ (noSpanInt_staged n l 1))

theorem parkPier (s : State) (n l : Nat) : FaultFrame s (parkPier s n l) := by
  unfold Machine.parkPier
  refine ite (fun _ => discardStaged s n l) (fun _ => ?_)
  exact (((discardStaged s n l).trans (unfreeze _ n l)).trans (setF _ _ (noSpanInt_out n l))).trans (setPier _ _ _)

theorem parkSpan (s : State) (n : Nat) : FaultFrame s (parkSpan s n) := by
  have hpiers : FaultFrame s ((List.range 512).foldl (fun s l => Machine.parkPier s n l) s) := foldl (fun s l => parkPier s n l) _ s
  unfold Machine.parkSpan
  refine ite (fun _ => refl s) (fun _ => ite (fun _ => ?_) (fun _ => hpiers.trans (setParked _ _)))
  exact (((hpiers.trans (setParked _ _)).trans (setF _ _ (noSpanInt_status n))).trans (setF _ _ (noSpanInt_status n))).trans (armIn _ _ _)

theorem setMism (s : State) (n : Nat) (l : List Mismatch) : FaultFrame s (setMism s n l) :=
  (setDecks s _).trans (setFlag _ _ (noSpanInt_claim n))

theorem abandonReplay (s : State) (n : Nat) (drop : Bool) : FaultFrame s (abandonReplay s n drop) := by
  have hpiers : FaultFrame s ((mismOf s n).foldl (fun s m => if drop then dropHold s n m.pier else Machine.unfreeze s n m.pier) s) :=
    foldl (fun s m => ite (fun _ => setPier s _ _) (fun _ => unfreeze s _ _)) _ s
  exact (((hpiers.trans (setDecks _ _)).trans (setMism _ n [])).trans (setFlag _ _ (noSpanInt_claim n))).trans (disarm _ _)

theorem reown (s : State) (n : Nat) : FaultFrame s (reown s n) := by
  unfold Machine.reown
  refine ite (fun _ => ?_) (fun _ => refl s)
  exact (((setF s _ (noSpanInt_ownerFld n)).trans (event _ (noSpanInt_of_high (by decide)))).trans (bump _ (dkCnt_high 0))).trans (life _ _)

theorem bothFaulted (s : State) (n : Nat) : FaultFrame s (bothFaulted s n) := by
  unfold Machine.bothFaulted
  exact ite (fun _ => (parkSpan s n).trans (raise _ _ _ _ _ _ (by omega))) (fun _ => refl s)

theorem showDecks (s : State) : FaultFrame s (showDecks s) := by
  have hstatus : NoSpanInt aDK_STATUS := noSpanInt_of_high (by decide)
  exact ((setFlag s _ hstatus).trans (setFlag _ _ hstatus)).trans (setFlag _ _ hstatus)

theorem failResync (s : State) (n d : Nat) (hd : d < 2) : FaultFrame s (failResync s n d) := by
  have hclaim : FaultFrame s (Machine.setF (Machine.setF s (stateFld n d) 1) (causeFld n d) 11) :=
    (setF s _ (noSpanInt_stateFld n d)).trans (setF _ _ (noSpanInt_causeFld n d))
  have hcount := (hclaim.trans (bump _ (dkCnt_high 11))).trans (bump _ (dkCnt_high 16))
  have hreport := (hcount.trans (event (f := DK_INT_RESYNC_FAIL) _ (noSpanInt_of_high (by decide)))).trans
    (raise _ (trussSource n d) 0x20 clsCorrected (decide (d = 1)) (n + 2 ^ 8 * 11) (by unfold trussSource; omega))
  exact (((hreport.trans (disarm _ _)).trans (disarm _ _)).trans (showDecks _)).trans (setDecks _ _)

theorem lowerSpan (s : State) (n d cause v : Nat) (hd : d < 2) : FaultFrame s (lowerSpan s n d cause v) := by
  have hclaim : FaultFrame s (if v ≤ claim s n d then
      Machine.bump (Machine.setF (Machine.setF s (claimFld n d) v) (causeFld n d) cause) (cDK_CNT cause) else s) :=
    ite (fun _ => ((setF s _ (noSpanInt_claimFld n d)).trans (setF _ _ (noSpanInt_causeFld n d))).trans (bump _ (dkCnt_high cause))) (fun _ => refl s)
  have howner := ((hclaim.trans (setF _ 1 (noSpanInt_stateFld n d))).trans (abandonReplay _ n (decide (d = owner s n)))).trans (reown _ n)
  unfold Machine.lowerSpan
  exact ite (fun _ => failResync s n d hd) (fun _ => ite (fun _ => howner.trans (bothFaulted _ n)) (fun _ => howner))

theorem lowerOne (s : State) (n d cause : Nat) (hd : d < 2) : FaultFrame s (lowerOne s n d cause) := by
  have hspan := lowerSpan s n d cause (causeClaim cause) hd
  have hsource : trussSource n d % 2 ^ 12 ≠ 3 := by unfold trussSource; omega
  have hreport : ∀ kind cls addr, FaultFrame s (Machine.raise (Machine.lowerSpan s n d cause (causeClaim cause)) (trussSource n d) kind cls
      (decide (d = 1)) addr) := fun kind cls addr => hspan.trans (raise _ _ _ _ _ _ hsource)
  unfold Machine.lowerOne
  exact (ite (fun _ => hspan) (fun _ => ite (fun _ => hreport _ _ _) (fun _ => hreport _ _ _))).trans (showDecks _)

/-- A deck that faults in every span for a cause that leaves its cluster running. -/
theorem lowerAll (s : State) (d cause : Nat) (hd : d < 2) (hc : 2 < cause) : FaultFrame s (lowerAll s d cause) := by
  have hspans : FaultFrame s ((List.range 36).foldl (fun s n => Machine.lowerSpan s n d cause (causeClaim cause)) s) :=
    foldl (fun s n => lowerSpan s n d cause _ hd) _ s
  unfold Machine.lowerAll
  simp only [Nat.not_le.mpr hc, if_false]
  exact (hspans.trans (raise _ (0x300 + d) _ _ _ _ (by omega))).trans (showDecks _)

end FaultFrame

end Sys2Proof.Machine

namespace Sys2Proof.Machine

/-! ### Updates of registers alone -/

/-- The second state is the first with other registers. -/
def RegsOnly (s t : State) : Prop := ∃ r, t = { s with regs := r }

namespace RegsOnly
variable {s t u : State}

theorem refl (s : State) : RegsOnly s s := ⟨_, rfl⟩

theorem trans (h : RegsOnly s t) (k : RegsOnly t u) : RegsOnly s u := by
  obtain ⟨r, rfl⟩ := h
  obtain ⟨x, rfl⟩ := k
  exact ⟨x, rfl⟩

theorem foldl {α : Type} {f : State → α → State} (hf : ∀ s a, RegsOnly s (f s a)) (l : List α) (s : State) : RegsOnly s (l.foldl f s) := by
  induction l generalizing s with
  | nil => exact refl s
  | cons a l ih => exact (hf s a).trans (ih (f s a))

theorem setF (s : State) (f : Fld) (v : Nat) : RegsOnly s (setF s f v) := ⟨_, rfl⟩
theorem setFlag (s : State) (f : Fld) (b : Bool) : RegsOnly s (setFlag s f b) := ⟨_, rfl⟩
theorem event (s : State) (f : Fld) : RegsOnly s (event s f) := ⟨_, rfl⟩
theorem bumpBy (s : State) (a n : Nat) : RegsOnly s (bumpBy s a n) := ⟨_, rfl⟩
theorem bump (s : State) (a : Nat) : RegsOnly s (bump s a) := ⟨_, rfl⟩
theorem histogram (s : State) (h b : Nat) : RegsOnly s (histogram s h b) := ⟨_, rfl⟩

theorem ad (h : RegsOnly s t) : t.ad = s.ad := by obtain ⟨r, rfl⟩ := h; rfl
theorem ks (h : RegsOnly s t) : t.ks = s.ks := by obtain ⟨r, rfl⟩ := h; rfl
theorem dr (h : RegsOnly s t) : t.dr = s.dr := by obtain ⟨r, rfl⟩ := h; rfl
theorem fc (h : RegsOnly s t) : t.fc = s.fc := by obtain ⟨r, rfl⟩ := h; rfl
theorem mem (h : RegsOnly s t) : t.mem = s.mem := by obtain ⟨r, rfl⟩ := h; rfl

end RegsOnly

/-- KS_GROUP and KS_STATUS are registers. -/
theorem showKeystone_regs (s : State) : RegsOnly s (showKeystone s) := by
  have hfour : ∀ (u : State) (a b c d : Fld) (v w x y : Nat), RegsOnly u (setF (setF (setF (setF u a v) b w) c x) d y) := fun u _ _ _ _ _ _ _ _ =>
    (((RegsOnly.setF u _ _).trans (.setF _ _ _)).trans (.setF _ _ _)).trans (.setF _ _ _)
  unfold showKeystone
  refine (((RegsOnly.foldl (fun u n => ?_) _ s).trans (.setFlag _ _ _)).trans (.setF _ _ _)).trans (.setFlag _ _ _)
  split <;> exact hfour _ _ _ _ _ _ _ _ _

/-- KS_TIME, the counters and the histogram of a route are registers (R187, R477). -/
theorem countRoute_regs (s : State) (m : EMap) (q : Request) (ns : Nat) : RegsOnly s (countRoute s m q ns) := by
  unfold countRoute
  dsimp only
  split
  · exact (((RegsOnly.bump s _).trans (.setF _ _ _)).trans (.setF _ _ _)).trans (.bump _ _)
  · exact ((((RegsOnly.bump s _).trans (.setF _ _ _)).trans (.setF _ _ _)).trans (.bump _ _)).trans (.histogram _ _ _)
  · exact (((RegsOnly.bump s _).trans (.setF _ _ _)).trans (.setF _ _ _)).trans (.bump _ _)

/-! ### What the decks make of a computed route (R206, R207) -/

/-- The computed result as the checkers of both decks judge it, `ca` and `cb` being what an upset made of a checker's verdicts. -/
def judgedRoute (u : State) (m : EMap) (q : Request) (r : RouteResult) (ca cb : CheckerUpset) : Judged :=
  let c := resulting u q.typ (opsOf q.words)
  let v := verdict u m c.1 c.2 ((opsOf q.words).groups.map (fun r => grGroup r.1)) (decide (q.typ = 2) && ! q.dposs) r r
  ⟨r, r, ca.getD v, ca.getD v, cb.getD v, cb.getD v⟩

/-- What follows a judged result: nothing is staged, or the request is cancelled, or it is staged. -/
def routeOutcome (u : State) (m : EMap) (q : Request) (ns : Nat) (j : Judged) : Out :=
  let s2 := routeFaults (countRoute u m q ns) q j
  let of := fun (x : Option Nat) => x.map (fun h => resultTargets (j.half h))
  match stagedHalf u j with
  | none => .next (showKeystone { s2 with ks := { s2.ks with queue := s2.ks.queue.filter (fun i => decide (i ≠ q.id)) } })
  | some h =>
    match j.half h with
    | .cancel c i d => .next (showKeystone (routeCancelled s2 q c i d))
    | .staged cs gs ts dl =>
      .next (routeStaged s2 q (resulting u q.typ (opsOf q.words)).1 cs gs ts dl (of (stagesHalf j.a0 j.a1)) (of (stagesHalf j.b0 j.b1)))

section RouteDone
variable {s : State} {m : EMap} {q : Request} (ns : Nat) (ca cb : CheckerUpset)

/-- ROUTE_DONE without an upset in either half: the computed result is judged. -/
theorem exec_routeDone (hm : s.ks.map = some m) (hq : routing s = some q) (hd : s.dr.routed.any (passesLeft s) = false) :
    exec (.routeDone ns .asComputed .asComputed ca cb []) s = routeOutcome (routeStart s q).2 m q ns
      (judgedRoute (routeStart s q).2 m q (routeRequest (routeStart s q).2 m q q.dposs (routeStart s q).1) ca cb) := by
  change execRouteDone ns .asComputed .asComputed ca cb [] s = _
  unfold execRouteDone
  split
  case h_1 q' m' hq' hm' =>
    obtain rfl := Option.some.inj (hq.symm.trans hq')
    obtain rfl := Option.some.inj (hm.symm.trans hm')
    rw [if_neg (Bool.eq_false_iff.mp hd)]
    rfl
  case h_2 hno => exact absurd hm (hno q m hq)

end RouteDone

/-- A result on whose halves both decks have the same verdict. -/
def judgedAlike (r : RouteResult) (v : Bool) : Judged := ⟨r, r, v, v, v, v⟩

theorem sameHalves_self (r : RouteResult) : sameHalves r r = true := by cases r <;> simp [sameHalves]

/-- Decks of one verdict do not diverge (R322). -/
theorem divergent_alike (u : State) (r : RouteResult) (v : Bool) : divergent u (judgedAlike r v) = none := by
  cases v <;> simp [divergent, judgedAlike, stagesHalf]

theorem stagedHalf_passed (u : State) (r : RouteResult) : stagedHalf u (judgedAlike r true) = some 0 := by
  simp only [stagedHalf, divergent_alike]
  rfl

theorem stagedHalf_rejected (u : State) (r : RouteResult) : stagedHalf u (judgedAlike r false) = none := rfl

/-- A result that passes on both decks is no fault. -/
theorem routeFaults_passed (u : State) (q : Request) (r : RouteResult) : routeFaults u q (judgedAlike r true) = u := by
  have hhalves : stagesHalf (judgedAlike r true).a0 (judgedAlike r true).a1 = some 0 ∧ stagesHalf (judgedAlike r true).b0 (judgedAlike r true).b1 = some 0 :=
    ⟨rfl, rfl⟩
  have hsame : sameHalves (judgedAlike r true).h0 (judgedAlike r true).h1 = true := sameHalves_self r
  simp [routeFaults, divergent_alike, hhalves, hsame]

/-- A result that both decks reject counts for each of them, lowers their claims with cause 8 and is a fatal fault (R206, R207). -/
theorem routeFaults_rejected (u : State) (q : Request) (r : RouteResult) : routeFaults u q (judgedAlike r false) =
    raise (lowerAll (lowerAll (bumpBy (event u KS_INT_CHECK_REJECT) (cKS_CNT 9) 2) 0 8) 1 8) 0x003 0x14 clsFatal false q.lane := by
  have hhalves : stagesHalf (judgedAlike r false).a0 (judgedAlike r false).a1 = none ∧ stagesHalf (judgedAlike r false).b0 (judgedAlike r false).b1 = none :=
    ⟨rfl, rfl⟩
  have hsame : sameHalves (judgedAlike r false).h0 (judgedAlike r false).h1 = true := sameHalves_self r
  simp [routeFaults, divergent_alike, hhalves, hsame]

section Outcome
variable (u : State) (m : EMap) (q : Request) (ns : Nat)

/-- Checkers pass a cancellation whose code both halves give. -/
theorem judgedRoute_cancel (c i d : Nat) : judgedRoute u m q (.cancel c i d) none none = judgedAlike (.cancel c i d) true := by
  simp [judgedRoute, judgedAlike, verdict, cancelCode]

theorem judgedRoute_passed (r : RouteResult)
    (h : verdict u m (resulting u q.typ (opsOf q.words)).1 (resulting u q.typ (opsOf q.words)).2 ((opsOf q.words).groups.map (fun r => grGroup r.1))
      (decide (q.typ = 2) && ! q.dposs) r r = true) : judgedRoute u m q r none none = judgedAlike r true := by
  simp only [judgedRoute, h, Option.getD_none, judgedAlike]

theorem judgedRoute_rejected (r : RouteResult) : judgedRoute u m q r (some false) (some false) = judgedAlike r false := rfl

theorem routeOutcome_cancel (c i d : Nat) : routeOutcome u m q ns (judgedAlike (.cancel c i d) true) =
    .next (showKeystone (routeCancelled (countRoute u m q ns) q c i d)) := by
  simp only [routeOutcome, stagedHalf_passed, routeFaults_passed]
  rfl

theorem routeOutcome_staged (cs : List Circuit) (gs : List Group) (ts dl : List (Nat × Nat)) :
    routeOutcome u m q ns (judgedAlike (.staged cs gs ts dl) true) =
      .next (routeStaged (countRoute u m q ns) q (resulting u q.typ (opsOf q.words)).1 cs gs ts dl (some ts) (some ts)) := by
  simp only [routeOutcome, stagedHalf_passed, routeFaults_passed]
  rfl

/-- The request leaves Keystone's queue. -/
def leaveKeystone (s : State) (id : Nat) : State := { s with ks := { s.ks with queue := s.ks.queue.filter (fun i => decide (i ≠ id)) } }

section LeaveKeystone
variable (s : State) (id : Nat)

theorem leaveKeystone_ad : (leaveKeystone s id).ad = s.ad := rfl
theorem leaveKeystone_dr : (leaveKeystone s id).dr = s.dr := rfl
theorem leaveKeystone_fc : (leaveKeystone s id).fc = s.fc := rfl
theorem leaveKeystone_circuits : (leaveKeystone s id).ks.circuits = s.ks.circuits := rfl

end LeaveKeystone

theorem routeOutcome_rejected (r : RouteResult) : routeOutcome u m q ns (judgedAlike r false) =
    .next (showKeystone (leaveKeystone (routeFaults (countRoute u m q ns) q (judgedAlike r false)) q.id)) := by
  simp only [routeOutcome, stagedHalf_rejected]
  rfl

end Outcome

/-! ### A cancellation (R68, R69) -/

/-- A lifetime counter touches registers and Tally alone. -/
theorem life_rest (s : State) (i : Nat) : ∃ r x, life s i = { s with regs := r, ty := x } := by
  unfold life lifeBy
  dsimp only
  split <;> exact ⟨_, _, rfl⟩

theorem life_ad (s : State) (i : Nat) : (life s i).ad = s.ad := by obtain ⟨r, x, h⟩ := life_rest s i; rw [h]
theorem life_ks (s : State) (i : Nat) : (life s i).ks = s.ks := by obtain ⟨r, x, h⟩ := life_rest s i; rw [h]
theorem life_dr (s : State) (i : Nat) : (life s i).dr = s.dr := by obtain ⟨r, x, h⟩ := life_rest s i; rw [h]

/-- The deadline of a CREDIT is a timer. -/
theorem creditMoved_rest (s : State) (l : Nat) : ∃ x, creditMoved s l = { s with timers := x } := by
  unfold creditMoved
  split_ifs <;> exact ⟨_, rfl⟩

theorem creditMoved_ad (s : State) (l : Nat) : (creditMoved s l).ad = s.ad := by obtain ⟨x, h⟩ := creditMoved_rest s l; rw [h]
theorem creditMoved_ks (s : State) (l : Nat) : (creditMoved s l).ks = s.ks := by obtain ⟨x, h⟩ := creditMoved_rest s l; rw [h]
theorem creditMoved_dr (s : State) (l : Nat) : (creditMoved s l).dr = s.dr := by obtain ⟨x, h⟩ := creditMoved_rest s l; rw [h]

section QueueReport
variable (s : State) (q : Request) (typ time : Nat) (body : List Byte)

/-- What no queued message changes, no report on a request changes. -/
theorem queueReport_keeps {α : Type} (π : State → α) (h : ∀ r, π (queueReply s q.partner q.lane typ q.seq q.echo time body r false) = π s) :
    π (queueReport s q typ time body) = π s := by
  unfold queueReport
  split
  · rfl
  · exact h _

theorem queueReport_inflight : (queueReport s q typ time body).ad.inflight = s.ad.inflight := queueReport_keeps s q typ time body (·.ad.inflight) fun _ => rfl
theorem queueReport_ks : (queueReport s q typ time body).ks = s.ks := queueReport_keeps s q typ time body (·.ks) fun _ => rfl
theorem queueReport_dr : (queueReport s q typ time body).dr = s.dr := queueReport_keeps s q typ time body (·.dr) fun _ => rfl
theorem queueReport_mem : (queueReport s q typ time body).mem = s.mem := queueReport_keeps s q typ time body (·.mem) fun _ => rfl

/-- On a lane that has a way the report is queued with the request's SEQ. -/
theorem replies_queueReport (h : LanesWf s) (hr : (laneOf s q.lane).route.isSome = true) : ∃ o : OutMsg,
    (shaperOf (queueReport s q typ time body) q.partner).replies = (shaperOf s q.partner).replies ++ [o]
      ∧ o.typ = typ ∧ o.seq = q.seq ∧ o.time = time ∧ o.body = body := by
  obtain ⟨r, hr⟩ := Option.isSome_iff_exists.mp hr
  refine ⟨⟨q.lane, typ, q.seq, q.echo, time, laneL s q.lane, body, r, false, true, none⟩, ?_, rfl, rfl, rfl, rfl⟩
  simp only [queueReport, hr]
  exact replies_queueReply _ _ _ _ _ _ _ _ _ _ h

end QueueReport

section Cancel
variable (s : State) (q : Request) (code index detail : Nat)

/-- The body of a CANCEL (R68). -/
def cancelBody (code index detail : Nat) : List Byte := beBytes 1 code ++ [0] ++ beBytes 2 index ++ beBytes 4 detail

/-- The request has left flight and its slot is counted as wasted. -/
def leftFlight (s : State) (q : Request) : State := life (bump (bump (dropRequest s q.id) (cAD_CNT 17)) (cTY_SLOT 1)) 13

/-- The state in which the CANCEL is queued: it is retained for the request's sequence number. -/
def cancelRetained (s : State) (q : Request) (body : List Byte) : State :=
  retainAgain (leftFlight s q) q.lane ⟨q.seq, 0x86, q.deliver, body, q.deliver, false, q.disturbed⟩

theorem cancelRequest_eq : cancelRequest s q code index detail =
    creditMoved (queueReport (cancelRetained s q (cancelBody code index detail)) q 0x86 q.deliver (cancelBody code index detail)) q.lane := rfl

theorem leftFlight_ad : (leftFlight s q).ad = (dropRequest s q.id).ad := by rw [leftFlight, life_ad, bump_ad, bump_ad]
theorem leftFlight_ks : (leftFlight s q).ks = (dropRequest s q.id).ks := by rw [leftFlight, life_ks, bump_ks, bump_ks]
theorem leftFlight_dr : (leftFlight s q).dr = s.dr := by rw [leftFlight, life_dr, bump_dr, bump_dr]; rfl

theorem retainAgain_inflight (l : Nat) (r : Retained) : (retainAgain s l r).ad.inflight = s.ad.inflight := rfl
theorem retainAgain_ks (l : Nat) (r : Retained) : (retainAgain s l r).ks = s.ks := rfl
theorem retainAgain_dr (l : Nat) (r : Retained) : (retainAgain s l r).dr = s.dr := rfl
theorem shaperOf_retainAgain (l : Nat) (r : Retained) (p : Nat) : shaperOf (retainAgain s l r) p = shaperOf s p := rfl

/-- A retained reply is no way of a lane. -/
theorem route_retainAgain (h : LanesWf s) (l k : Nat) (r : Retained) : (laneOf (retainAgain s l r) k).route = (laneOf s k).route :=
  laneOf_setLane_keeps Lane.route h l
    { laneOf s l with retained := (laneOf s l).retained.map (fun x => if x.seq = r.seq then r else x) } rfl k

theorem cancelRequest_inflight : (cancelRequest s q code index detail).ad.inflight = s.ad.inflight.filter (fun x => decide (x.id ≠ q.id)) := by
  rw [cancelRequest_eq, creditMoved_ad, queueReport_inflight, cancelRetained, retainAgain_inflight, leftFlight_ad]
  rfl

theorem cancelRequest_ks : (cancelRequest s q code index detail).ks = { s.ks with queue := s.ks.queue.filter (fun x => decide (x ≠ q.id)) } := by
  rw [cancelRequest_eq, creditMoved_ks, queueReport_ks, cancelRetained, retainAgain_ks, leftFlight_ks]
  rfl

theorem cancelRequest_dr : (cancelRequest s q code index detail).dr = s.dr := by
  rw [cancelRequest_eq, creditMoved_dr, queueReport_dr, cancelRetained, retainAgain_dr, leftFlight_dr]

/-- A CANCEL with the request's SEQ and delivery time is queued on a lane that has a way. -/
theorem replies_cancelRequest (h : LanesWf s) (hr : (laneOf s q.lane).route.isSome = true) : ∃ o : OutMsg,
    (shaperOf (cancelRequest s q code index detail) q.partner).replies = (shaperOf s q.partner).replies ++ [o]
      ∧ o.typ = 0x86 ∧ o.seq = q.seq ∧ o.time = q.deliver ∧ o.body = cancelBody code index detail := by
  have hwf : LanesWf (leftFlight s q) := lanesWf_congr (leftFlight_ad s q) h
  have hroute : (laneOf (leftFlight s q) q.lane).route = (laneOf s q.lane).route := congrArg Lane.route (laneOf_congr (leftFlight_ad s q) q.lane)
  have hshaper : shaperOf (leftFlight s q) q.partner = shaperOf s q.partner := shaperOf_congr (leftFlight_ad s q) q.partner
  obtain ⟨o, ho, hfields⟩ := replies_queueReport (cancelRetained s q (cancelBody code index detail)) q 0x86 q.deliver (cancelBody code index detail)
    (lanesWf_setLane hwf _ _) (by rw [cancelRetained, route_retainAgain _ hwf, hroute, hr])
  refine ⟨o, ?_, hfields⟩
  rw [cancelRequest_eq, shaperOf_congr (creditMoved_ad _ _), ho, cancelRetained, shaperOf_retainAgain, hshaper]

end Cancel

/-- A request that cannot be realised is counted by its code and cancelled. -/
theorem routeCancelled_eq (s : State) (q : Request) (c i d : Nat) : ∃ u, RegsOnly s u ∧ routeCancelled s q c i d = cancelRequest u q c i d := by
  unfold routeCancelled
  dsimp only
  split
  · exact ⟨_, (RegsOnly.event s _).trans (.bump _ _), rfl⟩
  · exact ⟨_, (RegsOnly.event s _).trans (.bump _ _), rfl⟩
  · exact ⟨_, RegsOnly.bump s _, rfl⟩

/-! ### A result that is staged (R185, R67) -/

/-- What follows a staged result, its report and the registers of Keystone, changes neither Keystone nor the drive nor what is in flight. -/
theorem reportStaged_spec (s : State) (q : Request) (body : List Byte) (n : Nat) :
    let t := showKeystone (if q.dposs then bumpBy (queueReport s q 0x85 q.deliver body) (cKS_CNT 7) n else s)
    t.ks = s.ks ∧ t.dr = s.dr ∧ t.ad.inflight = s.ad.inflight ∧ t.mem = s.mem := by
  intro t
  have hshow : RegsOnly _ t := showKeystone_regs _
  rw [hshow.ks, hshow.dr, hshow.ad, hshow.mem]
  split
  · rw [bumpBy_ks, bumpBy_dr, bumpBy_ad, bumpBy_mem]
    exact ⟨queueReport_ks _ _ _ _ _, queueReport_dr _ _ _ _ _, queueReport_inflight _ _ _ _ _, queueReport_mem _ _ _ _ _⟩
  · exact ⟨rfl, rfl, rfl, rfl⟩

/-- A staged result is the projected state, and goes to the spans; the request stays in flight. -/
theorem routeStaged_spec (s : State) (q : Request) (conns : List Conn) (cs : List Circuit) (gs : List Group) (ts dl : List (Nat × Nat))
    (a b : Option (List (Nat × Nat))) :
    let t := routeStaged s q conns cs gs ts dl a b
    t.ks.circuits = cs ∧ t.ks.groups = gs ∧ t.ks.queue = s.ks.queue.filter (fun x => decide (x ≠ q.id))
      ∧ t.dr.routed = s.dr.routed ++ [⟨q.id, q.tW, a, b, []⟩]
      ∧ t.ad.inflight = s.ad.inflight.map (fun x => if x.id = q.id then { x with phase := ReqPhase.staged, disturbed := dl.length } else x)
      ∧ t.mem = s.mem := by
  intro t
  obtain ⟨hks, hdr, hflight, hmem⟩ := reportStaged_spec _ q (reportBody dl) dl.length
  exact ⟨congrArg Keystone.circuits hks, congrArg Keystone.groups hks, congrArg Keystone.queue hks, congrArg Drive.routed hdr, hflight, hmem⟩

/-! ### The state in which Keystone routes -/

section RouteStart
variable (s : State) (q : Request)

/-- What Keystone notes before it routes leaves all else as it was, and of Keystone the map, the live circuits, the targets and the queue. -/
theorem routeStart_rest : ∃ w b n f, (routeStart s q).2 = { s with ks := { s.ks with win := w, base := b, named := n }, free := f } := by
  unfold routeStart
  split <;> exact ⟨_, _, _, _, rfl⟩

theorem routeStart_ad : (routeStart s q).2.ad = s.ad := by obtain ⟨w, b, n, f, h⟩ := routeStart_rest s q; rw [h]
theorem routeStart_dr : (routeStart s q).2.dr = s.dr := by obtain ⟨w, b, n, f, h⟩ := routeStart_rest s q; rw [h]
theorem routeStart_fc : (routeStart s q).2.fc = s.fc := by obtain ⟨w, b, n, f, h⟩ := routeStart_rest s q; rw [h]
theorem routeStart_mem : (routeStart s q).2.mem = s.mem := by obtain ⟨w, b, n, f, h⟩ := routeStart_rest s q; rw [h]
theorem routeStart_circuits : (routeStart s q).2.ks.circuits = s.ks.circuits := by obtain ⟨w, b, n, f, h⟩ := routeStart_rest s q; rw [h]
theorem routeStart_targets : (routeStart s q).2.ks.targets = s.ks.targets := by obtain ⟨w, b, n, f, h⟩ := routeStart_rest s q; rw [h]
theorem routeStart_queue : (routeStart s q).2.ks.queue = s.ks.queue := by obtain ⟨w, b, n, f, h⟩ := routeStart_rest s q; rw [h]

end RouteStart

/-! ### The three ends of a route -/

section Ends
variable (u : State) (m : EMap) (q : Request) (ns : Nat)

/-- A route that is cancelled: the request leaves flight, the projected state stays, and a CANCEL is queued. -/
theorem cancelled_end (c i d : Nat) (h : LanesWf u) :
    let t := showKeystone (routeCancelled (countRoute u m q ns) q c i d)
    t.ad.inflight = u.ad.inflight.filter (fun x => decide (x.id ≠ q.id)) ∧ t.ks = { u.ks with queue := u.ks.queue.filter (fun x => decide (x ≠ q.id)) }
      ∧ t.dr = u.dr ∧ ((laneOf u q.lane).route.isSome = true →
        ∃ o : OutMsg, (shaperOf t q.partner).replies = (shaperOf u q.partner).replies ++ [o] ∧ o.typ = 0x86 ∧ o.seq = q.seq ∧ o.time = q.deliver
          ∧ o.body = cancelBody c i d) := by
  intro t
  obtain ⟨v, hcount, hv⟩ := routeCancelled_eq (countRoute u m q ns) q c i d
  have hregs : RegsOnly u v := (countRoute_regs u m q ns).trans hcount
  have hshow : RegsOnly (cancelRequest v q c i d) t := hv ▸ showKeystone_regs _
  refine ⟨?_, ?_, ?_, fun hr => ?_⟩
  · rw [hshow.ad, cancelRequest_inflight, hregs.ad]
  · rw [hshow.ks, cancelRequest_ks, hregs.ks]
  · rw [hshow.dr, cancelRequest_dr, hregs.dr]
  · rw [shaperOf_congr hshow.ad, ← shaperOf_congr hregs.ad]
    exact replies_cancelRequest v q c i d (lanesWf_congr hregs.ad h) (by rw [laneOf_congr hregs.ad, hr])

/-- A route that both decks reject: nothing is staged, and Keystone's queue ends with the fatal fault. -/
theorem rejected_end (r : RouteResult) :
    let t := showKeystone (leaveKeystone (routeFaults (countRoute u m q ns) q (judgedAlike r false)) q.id)
    t.dr.routed = u.dr.routed ∧ t.ks.circuits = u.ks.circuits ∧ t.ad = u.ad
      ∧ (QueuesWf u → queueOf t 3 = queueOf u 3 ++ [faultMsg 3 0x14 clsFatal false q.lane]) := by
  intro t
  have hregs : RegsOnly u (bumpBy (event (countRoute u m q ns) KS_INT_CHECK_REJECT) (cKS_CNT 9) 2) :=
    ((countRoute_regs u m q ns).trans (.event _ _)).trans (.bumpBy _ _ _)
  have hframe := (FaultFrame.lowerAll (bumpBy (event (countRoute u m q ns) KS_INT_CHECK_REJECT) (cKS_CNT 9) 2) 0 8 (by omega) (by omega)).trans
    (FaultFrame.lowerAll _ 1 8 (by omega) (by omega))
  have hshow : RegsOnly (leaveKeystone (routeFaults (countRoute u m q ns) q (judgedAlike r false)) q.id) t := showKeystone_regs _
  rw [routeFaults_rejected] at hshow
  have hsource : 3 % 2 ^ 12 = 3 := rfl
  refine ⟨?_, ?_, ?_, fun hwf => ?_⟩
  · rw [hshow.dr, leaveKeystone_dr, raise_dr, hframe.routed, hregs.dr]
  · rw [hshow.ks, leaveKeystone_circuits, raise_ks, hframe.ks, hregs.ks]
  · rw [hshow.ad, leaveKeystone_ad, raise_ad, hframe.ad, hregs.ad]
  · rw [queueOf_congr hshow.fc, queueOf_congr (leaveKeystone_fc _ _), queueOf_raise_fatal _ _ _ _ _ (hframe.queuesWf (queuesWf_congr hregs.fc hwf)) hsource,
      hframe.keystoneQueue, queueOf_congr hregs.fc]

end Ends

/-- Settles O35: both halves are the computed result, so the decks' verdicts agree; a cancellation and a staged result are followed through their updates, and
a rejection through what the fall of both decks' claims leaves alone. (`routing` is the model's own name.) -/
theorem requestRouting : Obligations.Routing := by
  unfold Obligations.Routing
  intro s m q ns hl hm hq hd u r hu hr
  have hexec := fun ca cb => exec_routeDone (s := s) ns ca cb hm hq hd
  rw [← hu, ← hr] at hexec
  have had : u.ad = s.ad := by rw [hu, routeStart_ad]
  have hdr : u.dr = s.dr := by rw [hu, routeStart_dr]
  have hqueue : u.ks.queue = s.ks.queue := by rw [hu, routeStart_queue]
  have hcircuits : u.ks.circuits = s.ks.circuits := by rw [hu, routeStart_circuits]
  refine ⟨fun c i d hc => ?_, fun cs gs ts dl hs hv => ?_, fun hwf => ?_⟩
  · obtain ⟨hflight, hks, hdr', hreply⟩ := cancelled_end u m q ns c i d (lanesWf_congr had hl)
    have htargets : u.ks.targets = s.ks.targets := by rw [hu, routeStart_targets]
    refine ⟨showKeystone (routeCancelled (countRoute u m q ns) q c i d), ?_, ?_, ?_, ?_, ?_, ?_, ?_⟩
    · rw [hexec, hc, judgedRoute_cancel, routeOutcome_cancel]
    · rw [hflight, had]
    · rw [hks, ← hqueue]
    · rw [hks, ← hcircuits]
    · rw [hks, ← htargets]
    · rw [hdr', hdr]
    · rw [← laneOf_congr had, ← shaperOf_congr had]
      exact hreply
  · obtain ⟨hcs, hgs, hks, hrouted, hflight, hmem⟩ := routeStaged_spec (countRoute u m q ns) q (resulting u q.typ (opsOf q.words)).1 cs gs ts dl (some ts) (some ts)
    have hcount : RegsOnly u (countRoute u m q ns) := countRoute_regs u m q ns
    refine ⟨routeStaged (countRoute u m q ns) q (resulting u q.typ (opsOf q.words)).1 cs gs ts dl (some ts) (some ts), ?_, hcs, hgs, ?_, ?_, ?_, ?_⟩
    · rw [hexec, judgedRoute_passed _ _ _ _ hv, hs, routeOutcome_staged]
    · rw [hks, hcount.ks, hqueue]
    · rw [hrouted, hcount.dr, hdr]
    · rw [hflight, hcount.ad, had]
    · rw [hmem, hcount.mem, hu, routeStart_mem]
  · obtain ⟨hrouted, hks, had', hfault⟩ := rejected_end u m q ns r
    have hfc : u.fc = s.fc := by rw [hu, routeStart_fc]
    refine ⟨showKeystone (leaveKeystone (routeFaults (countRoute u m q ns) q (judgedAlike r false)) q.id), ?_, ?_, ?_, ?_, ?_⟩
    · rw [hexec, judgedRoute_rejected, routeOutcome_rejected]
    · rw [hrouted, hdr]
    · rw [hks, hcircuits]
    · rw [had', had]
    · rw [hfault (queuesWf_congr hfc hwf), queueOf_congr hfc]

end Sys2Proof.Machine

namespace Sys2Proof.Machine

/-! ### Fields of a register that stands as it was -/

theorem getF_of_rd {s t : State} {f : Fld} (h : rd t f.addr = rd s f.addr) : getF t f = getF s f := by
  unfold getF
  rw [h]

theorem flag_of_rd {s t : State} {f : Fld} (h : rd t f.addr = rd s f.addr) : flag t f = flag s f := by
  unfold flag
  rw [getF_of_rd h]

theorem rd_of_regs {s t : State} (h : t.regs = s.regs) (a : Nat) : rd t a = rd s a := by
  unfold rd
  rw [h]

theorem regsWf_of_regs {s t : State} (h : t.regs = s.regs) (hs : s.RegsWf) : t.RegsWf := by
  show cellWf resetWord t.regs = true
  rwa [h]

/-! ### What a pass of the linearizer touches (R222, R224) -/

/-- The second state is the first with other memories and free values. -/
def MemOnly (s t : State) : Prop := ∃ m f, t = { s with mem := m, free := f }

/-- The second state is the first with other registers, memories, free values and paths of the piers. -/
def PassOnly (s t : State) : Prop := ∃ r m f p, t = { s with regs := r, mem := m, free := f, dr := { s.dr with paths := p } }

namespace MemOnly
variable {s t u : State}

theorem refl (s : State) : MemOnly s s := ⟨_, _, rfl⟩

theorem trans (h : MemOnly s t) (k : MemOnly t u) : MemOnly s u := by
  obtain ⟨m, f, rfl⟩ := h
  obtain ⟨m', f', rfl⟩ := k
  exact ⟨m', f', rfl⟩

theorem foldl {α : Type} {f : State → α → State} (hf : ∀ s a, MemOnly s (f s a)) (l : List α) (s : State) : MemOnly s (l.foldl f s) := by
  induction l generalizing s with
  | nil => exact refl s
  | cons a l ih => exact (hf s a).trans (ih (f s a))

theorem wrBytes (bs : List Byte) (s : State) (a : Nat) : MemOnly s (wrBytes s a bs) := by
  induction bs generalizing s a with
  | nil => exact refl s
  | cons b bs ih => exact trans (t := wrByte s a b) ⟨_, _, rfl⟩ (ih _ _)

theorem putM (s : State) (a : Nat) (f : MFld) (v : Nat) : MemOnly s (putM s a f v) := wrBytes _ _ _

theorem putMI (s : State) (a : Nat) (f : MFld) (v : Int) : MemOnly s (putMI s a f v) := putM s a f _

theorem fresh (s : State) (n : Nat) : MemOnly s (fresh s n).2 := ⟨_, _, rfl⟩

theorem phase18 (s : State) (v : Int) : MemOnly s (phase18 s v).2 := by
  unfold Machine.phase18 fitInt
  split
  · exact refl s
  · exact ⟨_, _, rfl⟩

theorem divFree (s : State) (a : Int) (d : Nat) : MemOnly s (divFree s a d).2 := by
  unfold Machine.divFree
  split_ifs
  · exact ⟨_, _, rfl⟩
  · exact refl s
  · exact ⟨_, _, rfl⟩

theorem regs (h : MemOnly s t) : t.regs = s.regs := by obtain ⟨m, f, rfl⟩ := h; rfl
theorem ad (h : MemOnly s t) : t.ad = s.ad := by obtain ⟨m, f, rfl⟩ := h; rfl
theorem te (h : MemOnly s t) : t.te = s.te := by obtain ⟨m, f, rfl⟩ := h; rfl
theorem dr (h : MemOnly s t) : t.dr = s.dr := by obtain ⟨m, f, rfl⟩ := h; rfl
theorem flash (h : MemOnly s t) : t.flash = s.flash := by obtain ⟨m, f, rfl⟩ := h; rfl
theorem elapsed (h : MemOnly s t) : t.elapsed = s.elapsed := by obtain ⟨m, f, rfl⟩ := h; rfl

end MemOnly

namespace PassOnly
variable {s t u : State}

theorem refl (s : State) : PassOnly s s := ⟨_, _, _, _, rfl⟩

theorem trans (h : PassOnly s t) (k : PassOnly t u) : PassOnly s u := by
  obtain ⟨r, m, f, p, rfl⟩ := h
  obtain ⟨r', m', f', p', rfl⟩ := k
  exact ⟨r', m', f', p', rfl⟩

theorem foldl {α : Type} {f : State → α → State} (hf : ∀ s a, PassOnly s (f s a)) (l : List α) (s : State) : PassOnly s (l.foldl f s) := by
  induction l generalizing s with
  | nil => exact refl s
  | cons a l ih => exact (hf s a).trans (ih (f s a))

theorem of_mem (h : MemOnly s t) : PassOnly s t := by
  obtain ⟨m, f, rfl⟩ := h
  exact ⟨_, m, f, _, rfl⟩

theorem of_regs (h : RegsOnly s t) : PassOnly s t := by
  obtain ⟨r, rfl⟩ := h
  exact ⟨r, _, _, _, rfl⟩

theorem setPath (s : State) (g d : Nat) (x : Path) : PassOnly s (setPath s g d x) := ⟨_, _, _, _, rfl⟩

theorem ad (h : PassOnly s t) : t.ad = s.ad := by obtain ⟨r, m, f, p, rfl⟩ := h; rfl
theorem flash (h : PassOnly s t) : t.flash = s.flash := by obtain ⟨r, m, f, p, rfl⟩ := h; rfl
theorem routed (h : PassOnly s t) : t.dr.routed = s.dr.routed := by obtain ⟨r, m, f, p, rfl⟩ := h; rfl

end PassOnly

/-! ### The fast code of a pier (R210, R221) -/

/-- An interpolation leaves the state as it is, flags its range, or takes a free value. -/
theorem interp_state (s : State) (n : Nat) (t : Nat → Nat) (start : Int) (step top : Nat) (phi : Int) :
    (interp s n t start step top phi).2 = s ∨ (∃ low, (interp s n t start step top phi).2 = rangeFlag s n low)
      ∨ (interp s n t start step top phi).2 = (fresh s top).2 := by
  unfold interp
  dsimp only
  split_ifs
  · exact .inr (.inl ⟨true, rfl⟩)
  · exact .inr (.inr rfl)
  · exact .inr (.inl ⟨false, rfl⟩)
  · exact .inl rfl

section FastCode
variable (s : State) (n l : Nat) (delta v : Int)

/-- The fast code of a pier takes free values and, out of range, flags that. -/
theorem fastCode_state : ∃ u, MemOnly s u ∧ ((fastCode s n l delta v).2 = u ∨ ∃ low, (fastCode s n l delta v).2 = rangeFlag u n low) := by
  obtain h | ⟨low, h⟩ | h := interp_state (phase18 s (getMI s (calRec n l) cPHI_F0 + delta + v)).2 n (ftAt s (calRec n l))
    (getMI s (calRec n l) cFT_START) (getM s (calRec n l) cFT_STEP) 16384 (phase18 s (getMI s (calRec n l) cPHI_F0 + delta + v)).1
  · exact ⟨_, .phase18 s _, .inl h⟩
  · exact ⟨_, .phase18 s _, .inr ⟨low, h⟩⟩
  · exact ⟨_, (MemOnly.phase18 s _).trans (.fresh _ _), .inl h⟩

theorem fastCode_pass : PassOnly s (fastCode s n l delta v).2 := by
  obtain ⟨u, hu, h | ⟨low, h⟩⟩ := fastCode_state s n l delta v
  · exact h ▸ .of_mem hu
  · exact h ▸ (PassOnly.of_mem hu).trans (.of_regs ((RegsOnly.event _ _).trans (.bump _ _)))

/-- The registers of the table stay in canonical form. -/
theorem regsWf_fastCode (h : s.RegsWf) : (fastCode s n l delta v).2.RegsWf := by
  obtain ⟨u, hu, hs | ⟨low, hs⟩⟩ := fastCode_state s n l delta v
  · exact hs ▸ regsWf_of_regs hu.regs h
  · exact hs ▸ regsWf_bumpBy _ _ _ (regsWf_setF _ _ _ (regsWf_of_regs hu.regs h))

/-- Only the span's range flags and their counter can change (R221). -/
theorem rd_fastCode_other (a : Nat) (hint : a ≠ aLZ_INT n) (hlow : a ≠ cLZ_CNT n 4) (hhigh : a ≠ cLZ_CNT n 4 + 4) :
    rd (fastCode s n l delta v).2 a = rd s a := by
  obtain ⟨u, hu, hs | ⟨low, hs⟩⟩ := fastCode_state s n l delta v
  · rw [hs, rd_of_regs hu.regs]
  · have hrange : (if low then LZ_INT_RANGE_LOW n else LZ_INT_RANGE_HIGH n).addr = aLZ_INT n := by cases low <;> rfl
    calc rd (fastCode s n l delta v).2 a
        _ = rd (rangeFlag u n low) a := by rw [hs]
        _ = rd (event u (if low then LZ_INT_RANGE_LOW n else LZ_INT_RANGE_HIGH n)) a := rd_bumpBy_other _ _ _ _ hlow hhigh
        _ = rd u a := rd_setF_other _ _ _ _ (hrange ▸ hint)
        _ = rd s a := rd_of_regs hu.regs a

end FastCode

/-! ### One pier of a request pass (R222) -/

/-- The registers of a pier lie above the span's own. -/
theorem stagedWord_above (n l d i : Nat) (hi : i < 32) : stagedWord n l d ≠ aLZ_INT n ∧ stagedWord n l d ≠ cLZ_CNT n i ∧ stagedWord n l d ≠ cLZ_CNT n i + 4 := by
  unfold stagedWord
  split <;> simp only [aPR_STAGED_A, aPR_STAGED_B, aLZ_INT, cLZ_CNT] <;> omega

theorem targetWord_above (n l i : Nat) (hi : i < 32) : aPR_TARGET n l ≠ aLZ_INT n ∧ aPR_TARGET n l ≠ cLZ_CNT n i ∧ aPR_TARGET n l ≠ cLZ_CNT n i + 4 := by
  simp only [aPR_TARGET, aLZ_INT, cLZ_CNT]
  omega

/-- A pier's staged word and its target are two registers. -/
theorem stagedWord_ne_target (n l d : Nat) : stagedWord n l d ≠ aPR_TARGET n l := by
  unfold stagedWord
  split <;> simp only [aPR_STAGED_A, aPR_STAGED_B, aPR_TARGET] <;> omega

theorem lzInt_apart (n i : Nat) : aLZ_INT n ≠ cLZ_CNT n i ∧ aLZ_INT n ≠ cLZ_CNT n i + 4 := by
  simp only [aLZ_INT, cLZ_CNT]
  omega

section StagePier
variable (s : State) (n l d g : Nat)

/-- A target to hold changes nothing. -/
theorem stagePier_hold (fs : List CalUpset) (k : Nat) : stagePier fs n d s (k, tgtHold) = s := by
  simp only [stagePier, if_true]

theorem stagePier_pass (fs : List CalUpset) (e : Nat × Nat) : PassOnly s (stagePier fs n d s e) := by
  have htarget : PassOnly s (setF s (PR_TARGET_TARGET n (e.1 % 512)) e.2) := .of_regs (.setF _ _ _)
  unfold stagePier
  dsimp only
  split_ifs
  · exact .refl s
  · exact htarget
  · exact htarget.trans (.of_regs ((RegsOnly.event _ _).trans (.bump _ _)))
  · have hstaged : ∀ (u : State) (f b : Fld) (c : Nat), PassOnly u (setF (setF u f c) b 1) := fun u f b c => .of_regs ((RegsOnly.setF u f c).trans (.setF _ b 1))
    have hrecord : ∀ (u : State) (a : Nat) (x y z : MFld) (i : Int) (v w : Nat), PassOnly u (putM (putM (putMI u a x i) a y v) a z w) :=
      fun u a x y z i v w => .of_mem (((MemOnly.putMI u a x i).trans (.putM _ a y v)).trans (.putM _ a z w))
    exact (((htarget.trans (fastCode_pass _ _ _ _ _)).trans (hstaged _ _ _ _)).trans (.setPath _ _ _ _)).trans (hrecord _ _ _ _ _ _ _ _)

/-- The code a deck stages for a target, and the state after its interpolation. -/
def stagedCode (s : State) (n l d g : Nat) : Nat × State :=
  fastCode (setF s (PR_TARGET_TARGET n l) g) n l (deltaOf (getMI s (calRec n l) cD1) g) (getMI s (loopRec n l d) lV)

theorem regsWf_stagedCode (h : s.RegsWf) : (stagedCode s n l d g).2.RegsWf := regsWf_fastCode _ _ _ _ _ (regsWf_setF _ _ _ h)

/-- The interpolation leaves the target that was noted before it. -/
theorem getF_target_stagedCode (h : s.RegsWf) : getF (stagedCode s n l d g).2 (PR_TARGET_TARGET n l) = g % 2 ^ 16 := by
  obtain ⟨hint, hlow, hhigh⟩ := targetWord_above n l 4 (by omega)
  have hword : rd (stagedCode s n l d g).2 (aPR_TARGET n l) = rd (setF s (PR_TARGET_TARGET n l) g) (aPR_TARGET n l) :=
    rd_fastCode_other _ _ _ _ _ _ hint hlow hhigh
  exact (getF_of_rd (f := PR_TARGET_TARGET n l) hword).trans (getF_setF_same s (PR_TARGET_TARGET n l) g h (show 15 < 32 by decide))

variable (hl : l < 512) (hg : g ≠ tgtHold)
include hl hg

/-- A record without VALID sets CAL_UE and counts; the target is noted. -/
theorem stagePier_invalid (hv : getM s (calRec n l) cVALID = 0) :
    stagePier [] n d s (512 * n + l, g) = bump (event (setF s (PR_TARGET_TARGET n l) g) (LZ_INT_CAL_UE n)) (cLZ_CNT n 9) := by
  have hlocal : (512 * n + l) % 512 = l := by omega
  have hvalid : getM (setF s (PR_TARGET_TARGET n l) g) (calRec n l) cVALID = 0 := hv
  simp only [stagePier, hg, if_false, hlocal, upsetAt, List.any_nil, Bool.false_eq_true, hvalid, if_true]

/-- The registers of a pier whose target is staged: after the interpolation the staged code and its STAGED bit. -/
theorem regs_stagePier_valid (hv : getM s (calRec n l) cVALID ≠ 0) : (stagePier [] n d s (512 * n + l, g)).regs =
    (setF (setF (stagedCode s n l d g).2 (stagedF n l d) (stagedCode s n l d g).1) (stagedBit n l d) 1).regs := by
  have hlocal : (512 * n + l) % 512 = l := by omega
  have hvalid : ¬ getM (setF s (PR_TARGET_TARGET n l) g) (calRec n l) cVALID = 0 := hv
  have hrecord : ∀ (u : State) (a : Nat) (x y z : MFld) (i : Int) (v w : Nat), (putM (putM (putMI u a x i) a y v) a z w).regs = u.regs :=
    fun u a x y z i v w => (((MemOnly.putMI u a x i).trans (.putM _ a y v)).trans (.putM _ a z w)).regs
  simp only [stagePier, hg, if_false, hlocal, upsetAt, List.any_nil, Bool.false_eq_true, hvalid, hrecord]
  rfl

end StagePier

/-! ### Request passes (R222, R29) -/

/-- The targets of a routed request that a deck stages in a span. -/
def passTargets (r : Routed) (n d : Nat) : List (Nat × Nat) := (targetsFor r d).filter (fun e => decide (e.1 / 512 = n))

/-- The end of a pass: the window staged for is noted, the request marked, the pass counted. -/
def passEnd (s : State) (r : Routed) (n d : Nat) : State :=
  bump (markDone { s with dr := { s.dr with stagedWin := some r.tW } } r.id n d) (cLZ_CNT n d)

theorem exec_requestPass {s : State} {n : Span} {d : Deck} {r : Routed}
    (h : s.dr.routed.find? (fun r => ! passDone r n (deckNum d) && decide (some r.tW = stagingWindow s)) = some r) :
    exec (.requestPass n d []) s = .next (passEnd ((passTargets r n (deckNum d)).foldl (stagePier [] n (deckNum d)) s) r n (deckNum d)) := by
  change execRequestPass n d [] s = _
  unfold execRequestPass
  rw [h]
  rfl

section PassEnd
variable (s : State) (r : Routed) (n d : Nat)

theorem passEnd_ad : (passEnd s r n d).ad = s.ad := rfl
theorem passEnd_flash : (passEnd s r n d).flash = s.flash := rfl
theorem passEnd_stagedWin : (passEnd s r n d).dr.stagedWin = some r.tW := rfl
theorem passEnd_routed : (passEnd s r n d).dr.routed =
    s.dr.routed.map (fun x => if x.id = r.id then { x with done := (2 * n + d) :: x.done } else x) := rfl

/-- The end of a pass counts, and leaves all registers but the counter. -/
theorem rd_passEnd_other (a : Nat) (hlow : a ≠ cLZ_CNT n d) (hhigh : a ≠ cLZ_CNT n d + 4) : rd (passEnd s r n d) a = rd s a :=
  rd_bumpBy_other _ _ _ _ hlow hhigh

end PassEnd

theorem deckNum_lt (d : Deck) : deckNum d < 2 := by cases d <;> decide

section PassPier
variable {s : State} {r : Routed} {n l d g : Nat} (hd : d < 2) (hl : l < 512) (hg : g ≠ tgtHold)
include hd

/-- A target to hold leaves the staged word of its pier. -/
theorem passEnd_hold : rd (passEnd (stagePier [] n d s (512 * n + l, tgtHold)) r n d) (stagedWord n l d) = rd s (stagedWord n l d) := by
  obtain ⟨-, hlow, hhigh⟩ := stagedWord_above n l d d (by omega)
  rw [rd_passEnd_other _ _ _ _ _ hlow hhigh, stagePier_hold]

include hl hg

/-- Without VALID in the pier's record CAL_UE is set, and the staged word is left. -/
theorem passEnd_invalid (hs : s.RegsWf) (hv : getM s (calRec n l) cVALID = 0) :
    flag (passEnd (stagePier [] n d s (512 * n + l, g)) r n d) (LZ_INT_CAL_UE n) = true
      ∧ rd (passEnd (stagePier [] n d s (512 * n + l, g)) r n d) (stagedWord n l d) = rd s (stagedWord n l d) := by
  rw [stagePier_invalid s n l d g hl hg hv]
  refine ⟨?_, ?_⟩
  · have hint : rd (passEnd (bump (event (setF s (PR_TARGET_TARGET n l) g) (LZ_INT_CAL_UE n)) (cLZ_CNT n 9)) r n d) (aLZ_INT n) =
        rd (event (setF s (PR_TARGET_TARGET n l) g) (LZ_INT_CAL_UE n)) (aLZ_INT n) :=
      (rd_passEnd_other _ _ _ _ _ (lzInt_apart n d).1 (lzInt_apart n d).2).trans (rd_bumpBy_other _ _ _ _ (lzInt_apart n 9).1 (lzInt_apart n 9).2)
    rw [flag_of_rd (f := LZ_INT_CAL_UE n) hint]
    exact flag_event_same _ _ (regsWf_setF _ _ _ hs) (show 4 < 32 by decide) (le_refl 4)
  · obtain ⟨hint, hlow, hhigh⟩ := stagedWord_above n l d d (by omega)
    obtain ⟨-, hlow9, hhigh9⟩ := stagedWord_above n l d 9 (by omega)
    rw [rd_passEnd_other _ _ _ _ _ hlow hhigh]
    calc rd (bump (event (setF s (PR_TARGET_TARGET n l) g) (LZ_INT_CAL_UE n)) (cLZ_CNT n 9)) (stagedWord n l d)
        _ = rd (event (setF s (PR_TARGET_TARGET n l) g) (LZ_INT_CAL_UE n)) (stagedWord n l d) := rd_bumpBy_other _ _ _ _ hlow9 hhigh9
        _ = rd (setF s (PR_TARGET_TARGET n l) g) (stagedWord n l d) := rd_setF_other _ _ _ _ hint
        _ = rd s (stagedWord n l d) := rd_setF_other _ _ _ _ (stagedWord_ne_target n l d)

/-- With a valid record the pier's code is staged and its target shown. -/
theorem passEnd_valid (hs : s.RegsWf) (hv : getM s (calRec n l) cVALID ≠ 0) :
    flag (passEnd (stagePier [] n d s (512 * n + l, g)) r n d) (stagedBit n l d) = true
      ∧ getF (passEnd (stagePier [] n d s (512 * n + l, g)) r n d) (PR_TARGET_TARGET n l) = g % 2 ^ 16 := by
  have hcode := regsWf_stagedCode s n l d g hs
  have hregs := rd_of_regs (regs_stagePier_valid s n l d g hl hg hv)
  obtain ⟨-, hlow, hhigh⟩ := stagedWord_above n l d d (by omega)
  obtain ⟨-, htlow, hthigh⟩ := targetWord_above n l d (by omega)
  have hapart : aPR_TARGET n l ≠ stagedWord n l d := (stagedWord_ne_target n l d).symm
  refine ⟨?_, ?_⟩
  · rw [flag_of_rd (f := stagedBit n l d) ((rd_passEnd_other _ _ _ _ _ hlow hhigh).trans (hregs _))]
    exact flag_event_same _ (stagedBit n l d) (regsWf_setF _ _ _ hcode) (show 31 < 32 by decide) (le_refl 31)
  · have hword : rd (passEnd (stagePier [] n d s (512 * n + l, g)) r n d) (aPR_TARGET n l) = rd (stagedCode s n l d g).2 (aPR_TARGET n l) := by
      rw [rd_passEnd_other _ _ _ _ _ htlow hthigh, hregs]
      exact (rd_setF_other _ (stagedBit n l d) _ _ hapart).trans (rd_setF_other _ (stagedF n l d) _ _ hapart)
    rw [getF_of_rd (f := PR_TARGET_TARGET n l) hword]
    exact getF_target_stagedCode s n l d g hs

end PassPier

/-! ### The stage-ready test (R230, R238) -/

theorem exec_stageReadyTest {s : State} {n : Span} {w : Nat} (h : stagingWindow s = some w) (hw : w ≤ netNs s + 40) :
    exec (.stageReadyTest n) s = .next (stageTest w s n) := by
  change execStageReadyTest n s = _
  unfold execStageReadyTest
  rw [h]
  exact if_neg (Nat.not_lt.mpr hw)

/-- NOT_READY is set and counted. -/
def notReadySeen (s : State) (n : Nat) : State := bump (event s (LZ_INT_NOT_READY n)) (cLZ_CNT n 7)

/-- The strobe of a window is withheld. -/
def withholdStrobe (s : State) (w : Nat) : State := { s with dr := { s.dr with withheld := some w } }

theorem withholdStrobe_ad (s : State) (w : Nat) : (withholdStrobe s w).ad = s.ad := rfl
theorem rd_withholdStrobe (s : State) (w a : Nat) : rd (withholdStrobe s w) a = rd s a := rfl
theorem queuesWf_withholdStrobe {s : State} (w : Nat) (h : QueuesWf s) : QueuesWf (withholdStrobe s w) := queuesWf_congr rfl h

/-- The state that withholds a strobe: both decks of the span have yielded it. -/
def strobeWithheld (s : State) (n w : Nat) : State :=
  raise (withholdStrobe (lateDeck (lateDeck (notReadySeen s n) n 0 w) n 1 w) w) (0x200 + 4 * n) 0x25 clsFatal false n

section StageTest
variable (s : State) (n w : Nat)

theorem stageTest_both (h0 : (healthy s n 0 && ! stageReady s n 0 w) = true) (h1 : (healthy s n 1 && ! stageReady s n 1 w) = true) :
    stageTest w s n = strobeWithheld s n w := if_pos ⟨h0, h1⟩

theorem stageTest_first (h0 : (healthy s n 0 && ! stageReady s n 0 w) = true) (h1 : (healthy s n 1 && ! stageReady s n 1 w) = false) :
    stageTest w s n = lateDeck (notReadySeen s n) n 0 w := by
  simp only [stageTest, h0, h1, Bool.false_eq_true, and_false, if_false, if_true]
  rfl

theorem stageTest_second (h0 : (healthy s n 0 && ! stageReady s n 0 w) = false) (h1 : (healthy s n 1 && ! stageReady s n 1 w) = true) :
    stageTest w s n = lateDeck (notReadySeen s n) n 1 w := by
  simp only [stageTest, h0, h1, Bool.false_eq_true, false_and, if_false, if_true]
  rfl

theorem stageTest_neither (h0 : (healthy s n 0 && ! stageReady s n 0 w) = false) (h1 : (healthy s n 1 && ! stageReady s n 1 w) = false) :
    stageTest w s n = s := by
  simp only [stageTest, h0, h1, Bool.false_eq_true, and_false, if_false]

end StageTest

theorem healthy_and_late {a b : Bool} (ha : a = true) (hb : b = false) : (a && ! b) = true := by rw [ha, hb]; rfl

section LateDeck
variable (s : State) (n d w : Nat) (hd : d < 2)
include hd

/-- A late deck's passes are abandoned and its claim falls in the span; nothing else that the frame of a deck's fault names changes. -/
theorem lateDeck_frame : FaultFrame (abandonPasses s n d w) (lateDeck s n d w) := FaultFrame.lowerOne _ n d 6 hd

theorem lateDeck_ad : (lateDeck s n d w).ad = s.ad := (lateDeck_frame s n d w hd).ad.trans rfl

theorem rd_lzInt_lateDeck (k : Nat) (hk : k < 36) : rd (lateDeck s n d w) (aLZ_INT k) = rd s (aLZ_INT k) :=
  ((lateDeck_frame s n d w hd).spanInts k hk).trans rfl

theorem queuesWf_lateDeck (h : QueuesWf s) : QueuesWf (lateDeck s n d w) := (lateDeck_frame s n d w hd).queuesWf h

end LateDeck

section Withheld
variable (s : State) (n w : Nat)

theorem strobeWithheld_withheld : (strobeWithheld s n w).dr.withheld = some w := by
  rw [strobeWithheld, raise_dr]
  rfl

theorem strobeWithheld_ad : (strobeWithheld s n w).ad = s.ad := by
  rw [strobeWithheld, raise_ad, withholdStrobe_ad, lateDeck_ad _ _ _ _ (by omega), lateDeck_ad _ _ _ _ (by omega)]
  rfl

/-- NOT_READY stays set under all that the two decks' fall brings. -/
theorem flag_notReady_strobeWithheld (hs : s.RegsWf) (hn : n < 36) : flag (strobeWithheld s n w) (LZ_INT_NOT_READY n) = true := by
  have hreport : aLZ_INT n ∉ reportRegs := fun hmem =>
    noSpanInt_of_high (a := aLZ_INT n) (by revert hmem; generalize aLZ_INT n = a; revert a; decide) n hn rfl
  have hword : rd (strobeWithheld s n w) (aLZ_INT n) = rd (event s (LZ_INT_NOT_READY n)) (aLZ_INT n) := by
    rw [strobeWithheld, rd_raise_other _ _ _ _ _ _ _ hreport, rd_withholdStrobe]
    calc rd (lateDeck (lateDeck (notReadySeen s n) n 0 w) n 1 w) (aLZ_INT n)
        _ = rd (lateDeck (notReadySeen s n) n 0 w) (aLZ_INT n) := rd_lzInt_lateDeck _ _ _ _ (by omega) n hn
        _ = rd (notReadySeen s n) (aLZ_INT n) := rd_lzInt_lateDeck _ _ _ _ (by omega) n hn
        _ = rd (event s (LZ_INT_NOT_READY n)) (aLZ_INT n) := rd_bumpBy_other _ _ _ _ (lzInt_apart n 7).1 (lzInt_apart n 7).2
  rw [flag_of_rd (f := LZ_INT_NOT_READY n) hword]
  exact flag_event_same _ _ hs (show 3 < 32 by decide) (le_refl 3)

/-- The fatal fault stands last in the span's queue. -/
theorem queue_strobeWithheld (h : QueuesWf s) (hn : n < 36) :
    (queueOf (strobeWithheld s n w) (0x200 + 4 * n)).getLast? = some (faultMsg (0x200 + 4 * n) 0x25 clsFatal false n) := by
  have hwf : QueuesWf (lateDeck (lateDeck (notReadySeen s n) n 0 w) n 1 w) :=
    queuesWf_lateDeck _ _ _ _ (by omega) (queuesWf_lateDeck _ _ _ _ (by omega) h)
  have hsource : (0x200 + 4 * n) % 2 ^ 12 = 0x200 + 4 * n := by omega
  rw [strobeWithheld, queueOf_raise_fatal _ _ _ _ _ (queuesWf_withholdStrobe w hwf) hsource, List.getLast?_concat]

end Withheld

/-! ### The refresh pass (R224, R373) -/

/-- A pier of a refresh pass takes a new Φ_TFF, or keeps it. -/
theorem refreshPier_mem (s : State) (fs : List CalUpset) (n d l : Nat) : MemOnly s (refreshPier fs n d s l) := by
  unfold refreshPier
  dsimp only
  split_ifs
  · exact .refl s
  · exact (MemOnly.phase18 s _).trans (.putMI _ _ _ _)

/-- The time of the pass and the driver power are noted, the latter shown by deck 0. -/
def refreshNoted (s : State) (mw : Int) (n d : Nat) : State :=
  let s3 := { s with dr := { s.dr with refreshed := cellPut (fun _ => 0) s.dr.refreshed (2 * n + d) s.elapsed,
                                       drvMw := cellPut (fun _ => 0) s.dr.drvMw (2 * n + d) (min mw.toNat 65535) } }
  if d = 0 then setF s3 (LZ_PM_DRV_MW n) (min mw.toNat 65535) else s3

/-- The end of a refresh pass: the pass is counted, and its lateness flagged. -/
def refreshEnd (s : State) (mw : Int) (n d : Nat) (late : Bool) : State :=
  if late then event (bump (refreshNoted s mw n d) (cLZ_CNT n (2 + d))) (LZ_INT_REFRESH_LATE n)
  else bump (refreshNoted s mw n d) (cLZ_CNT n (2 + d))

/-- The state after the piers of a refresh pass. -/
def refreshPiers (s : State) (n d : Nat) : State := (List.range 512).foldl (refreshPier [] n d) s

/-- The driver power that a refresh pass finds (R226), rounded, and the state after the rounding. -/
def refreshPower (s : State) (n d : Nat) : Int × State :=
  divFree (refreshPiers s n d) (driverPower (refreshPiers s n d) n d) 1677721600000

theorem refreshPower_mem (s : State) (n d : Nat) : MemOnly s (refreshPower s n d).2 :=
  (MemOnly.foldl (fun u l => refreshPier_mem u [] n d l) _ s).trans (.divFree _ _ _)

/-- A pass that is due ends on the power it found. The pair is named before anything is compared: the kernel would otherwise compute it. -/
theorem exec_refreshPass {s : State} {n : Span} {d : Deck} (late : Bool)
    (h : loopsRun s = true ∧ flag s (LZ_CTRL_REFRESH_EN n) = true ∧
      cellGet (fun _ => 0) s.dr.refreshed (2 * n.val + deckNum d) + 4000 * getF s (LZ_CTRL_REFRESH_US n) ≤ s.elapsed) :
    exec (.refreshPass n d [] late) s = .next (refreshEnd (refreshPower s n (deckNum d)).2 (refreshPower s n (deckNum d)).1 n (deckNum d) late) := by
  change execRefreshPass n d [] late s = _
  unfold execRefreshPass
  extract_lets k lastRun s1
  refine (if_pos h).trans ?_
  have hpiers : refreshPiers s n (deckNum d) = s1 := rfl
  rw [refreshPower, hpiers]
  generalize divFree s1 _ _ = p
  obtain ⟨mw, u⟩ := p
  unfold refreshEnd refreshNoted
  rfl

section RefreshEnd
variable (s : State) (mw : Int) (n d : Nat) (late : Bool)

/-- Only registers follow the noting of the pass. -/
theorem refreshNoted_rest : ∃ r, refreshNoted s mw n d =
    { s with regs := r, dr := { s.dr with refreshed := cellPut (fun _ => 0) s.dr.refreshed (2 * n + d) s.elapsed,
                                          drvMw := cellPut (fun _ => 0) s.dr.drvMw (2 * n + d) (min mw.toNat 65535) } } := by
  unfold refreshNoted
  dsimp only
  split_ifs
  · exact ⟨_, rfl⟩
  · exact ⟨_, rfl⟩

theorem refreshEnd_regs : RegsOnly (refreshNoted s mw n d) (refreshEnd s mw n d late) := by
  unfold refreshEnd
  split_ifs
  · exact (RegsOnly.bump _ _).trans (.event _ _)
  · exact .bump _ _

theorem refreshEnd_refreshed : (refreshEnd s mw n d late).dr.refreshed = cellPut (fun _ => 0) s.dr.refreshed (2 * n + d) s.elapsed := by
  obtain ⟨r, hr⟩ := refreshNoted_rest s mw n d
  obtain ⟨r', hr'⟩ := refreshEnd_regs s mw n d late
  rw [hr', hr]

theorem refreshEnd_kept : (refreshEnd s mw n d late).ad = s.ad ∧ (refreshEnd s mw n d late).te = s.te ∧ (refreshEnd s mw n d late).flash = s.flash := by
  obtain ⟨r, hr⟩ := refreshNoted_rest s mw n d
  obtain ⟨r', hr'⟩ := refreshEnd_regs s mw n d late
  rw [hr', hr]
  exact ⟨rfl, rfl, rfl⟩

theorem regsWf_refreshNoted (h : s.RegsWf) : (refreshNoted s mw n d).RegsWf := by
  unfold refreshNoted
  dsimp only
  split_ifs
  · exact regsWf_setF _ _ _ h
  · exact h

/-- The registers of the driver power and the flags are not those of the counters. -/
theorem lzCnt_apart (i : Nat) : cLZ_CNT n i ≠ aLZ_PM n ∧ cLZ_CNT n i + 4 ≠ aLZ_PM n ∧ cLZ_CNT n i ≠ aLZ_INT n ∧ cLZ_CNT n i + 4 ≠ aLZ_INT n := by
  simp only [cLZ_CNT, aLZ_PM, aLZ_INT]
  omega

theorem count_of_rd {s t : State} {a : Nat} (hlow : rd t a = rd s a) (hhigh : rd t (a + 4) = rd s (a + 4)) : count t a = count s a := by
  unfold count
  rw [hlow, hhigh]

theorem count_setF_other (f : Fld) (v a : Nat) (hlow : a ≠ f.addr) (hhigh : a + 4 ≠ f.addr) : count (setF s f v) a = count s a :=
  count_of_rd (rd_setF_other _ _ _ _ hlow) (rd_setF_other _ _ _ _ hhigh)

theorem count_refreshNoted (i : Nat) : count (refreshNoted s mw n d) (cLZ_CNT n i) = count s (cLZ_CNT n i) := by
  obtain ⟨hpm, hpm4, -, -⟩ := lzCnt_apart n i
  unfold refreshNoted
  dsimp only
  split_ifs
  · exact count_setF_other _ (LZ_PM_DRV_MW n) _ _ hpm hpm4
  · rfl

/-- The pass is counted once. -/
theorem count_refreshEnd (h : s.RegsWf) : count (refreshEnd s mw n d late) (cLZ_CNT n (2 + d)) = (count s (cLZ_CNT n (2 + d)) + 1) % 2 ^ 48 := by
  have hpass : count (bump (refreshNoted s mw n d) (cLZ_CNT n (2 + d))) (cLZ_CNT n (2 + d)) = (count s (cLZ_CNT n (2 + d)) + 1) % 2 ^ 48 :=
    (count_bumpBy _ _ 1 (regsWf_refreshNoted s mw n d h)).trans (by rw [count_refreshNoted])
  obtain ⟨-, -, hint, hint4⟩ := lzCnt_apart n (2 + d)
  cases late with
  | false => exact hpass
  | true => exact (count_setF_other _ (LZ_INT_REFRESH_LATE n) _ _ hint hint4).trans hpass

theorem flag_refreshLate (h : s.RegsWf) : flag (refreshEnd s mw n d true) (LZ_INT_REFRESH_LATE n) = true :=
  flag_event_same _ _ (regsWf_bumpBy _ _ _ (regsWf_refreshNoted s mw n d h)) (show 5 < 32 by decide) (le_refl 5)

end RefreshEnd

/-! ### The obligation -/

section Staging
variable {s : State} (n : Span) (d : Deck)

/-- What a request pass leaves, and what it notes of the request it served. -/
theorem requestPass_notes (r : Routed) (u : State) (hu : u = passEnd ((passTargets r n (deckNum d)).foldl (stagePier [] n (deckNum d)) s) r n (deckNum d)) :
    u.ad = s.ad ∧ u.flash = s.flash ∧ u.dr.stagedWin = some r.tW ∧
      u.dr.routed = s.dr.routed.map (fun x => if x.id = r.id then { x with done := (2 * n.val + deckNum d) :: x.done } else x) := by
  have hpiers := PassOnly.foldl (f := stagePier [] n (deckNum d)) (fun u e => stagePier_pass u n (deckNum d) [] e) (passTargets r n (deckNum d)) s
  subst hu
  refine ⟨?_, ?_, ?_, ?_⟩
  · rw [passEnd_ad, hpiers.ad]
  · rw [passEnd_flash, hpiers.flash]
  · rw [passEnd_stagedWin]
  · rw [passEnd_routed, hpiers.routed]

/-- A pass with one target is that of its pier. -/
theorem foldl_passTargets_one {r : Routed} {e : Nat × Nat} (h : passTargets r n (deckNum d) = [e]) :
    (passTargets r n (deckNum d)).foldl (stagePier [] n (deckNum d)) s = stagePier [] n (deckNum d) s e := by
  rw [h, List.foldl_cons, List.foldl_nil]

end Staging

/-- Settles O37: a request pass is one step per pier of the span's target, each characterised by its target and its record; the stage-ready test splits on which decks are late;
a refresh pass that is due ends in its notes, its count and its flag. -/
theorem staging : Obligations.Staging := by
  refine ⟨fun s n d r hr => ?_, fun s n w hw hdue hq hc => ⟨fun h0 l0 h1 l1 => ?_, fun h0 l0 h1 => ?_, fun h0 h1 l1 => ?_, fun h0 h1 => ?_⟩,
    fun s n d late hc hcells hloops hen hdue => ?_⟩
  · obtain ⟨had, hflash, hwin, hrouted⟩ := requestPass_notes n d r _ rfl
    refine ⟨_, exec_requestPass hr, had, hflash, hwin, hrouted, fun hc l g hone hl => ?_⟩
    rw [foldl_passTargets_one n d hone]
    refine ⟨?_, fun hg hv => passEnd_invalid (deckNum_lt d) hl hg hc.1 hv, fun hg hv => passEnd_valid (deckNum_lt d) hl hg hc.1 hv⟩
    rintro rfl
    exact passEnd_hold (deckNum_lt d)
  · refine ⟨_, exec_stageReadyTest hw hdue, ?_⟩
    rw [stageTest_both s n w (healthy_and_late h0 l0) (healthy_and_late h1 l1)]
    exact ⟨strobeWithheld_withheld s n w, flag_notReady_strobeWithheld s n w hc.1 n.isLt, queue_strobeWithheld s n w hq n.isLt, strobeWithheld_ad s n w⟩
  · rw [exec_stageReadyTest hw hdue, stageTest_first s n w (healthy_and_late h0 l0) h1, notReadySeen]
  · rw [exec_stageReadyTest hw hdue, stageTest_second s n w h0 (healthy_and_late h1 l1), notReadySeen]
  · rw [exec_stageReadyTest hw hdue, stageTest_neither s n w h0 h1]
  · have hexec := exec_refreshPass late ⟨hloops, hen, hdue⟩
    have hu := refreshPower_mem s n (deckNum d)
    generalize refreshPower s n (deckNum d) = p at hexec hu
    obtain ⟨mw, u⟩ := p
    have hwf : u.RegsWf := regsWf_of_regs hu.regs hc.1
    obtain ⟨had, hte, hflash⟩ := refreshEnd_kept u mw n (deckNum d) late
    refine ⟨_, hexec, ?_, ?_, ?_, had.trans hu.ad, hte.trans hu.te, hflash.trans hu.flash⟩
    · rw [refreshEnd_refreshed, hu.dr, hu.elapsed, cellGet_cellPut_same _ _ _ _ hcells]
    · rw [count_refreshEnd _ _ _ _ _ hwf, count_of_rd (rd_of_regs hu.regs _) (rd_of_regs hu.regs _)]
    · rintro rfl
      exact flag_refreshLate u mw n (deckNum d) hwf

end Sys2Proof.Machine

namespace Sys2Proof.Machine

/-! ### A message that passes steps 1 to 5 of R131 -/

/-- The lane of a message that passed: its way is the message's, and the sequence number and the cells are consumed. -/
def passedLane (x : Lane) (m : Msg) : Lane :=
  { x with route := some m.route, expSeq := if msgOOS m then x.expSeq else (x.expSeq + 1) % 2 ^ 32, c := (x.c + msgCells m) % 65536 }

section AtStep6
variable {s : State} {m : Msg}

/-- Up to step 6 only admission's queue and the message's lane change. -/
theorem atStep6_rest (s : State) (m : Msg) : ∃ l, atStep6 s m = { s with tg := (takeMsg s).tg, ad := { s.ad with lanes := l } } := ⟨_, rfl⟩

@[simp] theorem atStep6_regs : (atStep6 s m).regs = s.regs := (rfl)
@[simp] theorem atStep6_mem : (atStep6 s m).mem = s.mem := (rfl)
@[simp] theorem atStep6_flash : (atStep6 s m).flash = s.flash := (rfl)
@[simp] theorem atStep6_inbox : (atStep6 s m).tg.inbox = s.tg.inbox.drop 1 := (rfl)
@[simp] theorem atStep6_inflight : (atStep6 s m).ad.inflight = s.ad.inflight := (rfl)
@[simp] theorem atStep6_slots : (atStep6 s m).ad.slots = s.ad.slots := (rfl)
@[simp] theorem shaperOf_atStep6 (p : Nat) : shaperOf (atStep6 s m) p = shaperOf s p := (rfl)

theorem lanesWf_atStep6 (h : LanesWf s) : LanesWf (atStep6 s m) := lanesWf_setLane (lanesWf_setLane h _ _) _ _

theorem laneOf_atStep6_same (h : LanesWf s) : laneOf (atStep6 s m) (msgLane m) = passedLane (laneOf s (msgLane m)) m := by
  have hway : laneOf (setLane (takeMsg s) (msgLane m) { laneOf s (msgLane m) with route := some m.route }) (msgLane m) =
      { laneOf s (msgLane m) with route := some m.route } := laneOf_setLane_same (s := takeMsg s) h _ _
  unfold atStep6 consume
  rw [laneOf_setLane_same (lanesWf_setLane (s := takeMsg s) h _ _), hway]
  rfl

theorem laneOf_atStep6_other (k : Nat) (hk : k ≠ msgLane m) : laneOf (atStep6 s m) k = laneOf s k :=
  (laneOf_setLane_other _ _ _ _ hk).trans (laneOf_setLane_other (takeMsg s) _ _ _ hk)

/-- A message that passes comes to step 6 with its sequence number consumed. -/
theorem process_passes (h : LanesWf s) (hp : Passes s m) (run : State → State) : process s m noUpsets run = run (atStep6 s m) := by
  obtain ⟨-, hen, hans, hown, hunsent, hseq, hperm⟩ := hp
  have hnot : ¬ ((flag s AD_CTRL_EN = false ∧ recovering s = false) ∨ unanswerable m = true) := by
    rcases hen with h | h <;> simp [h, hans]
  have hway : laneOf (setLane (takeMsg s) (msgLane m) { laneOf s (msgLane m) with route := some m.route }) (msgLane m) =
      { laneOf s (msgLane m) with route := some m.route } := laneOf_setLane_same (s := takeMsg s) h _ _
  have hseq' : seqTest (setLane (takeMsg s) (msgLane m) { laneOf s (msgLane m) with route := some m.route }) m = .process := by
    rw [← hseq]
    unfold seqTest
    rw [hway]
  have hperm' : permitted (setLane (takeMsg s) (msgLane m) { laneOf s (msgLane m) with route := some m.route }) m = true := by
    rw [← hperm]
    unfold permitted
    rw [hway]
    rfl
  have hnone : ¬ (noUpsets.mismatches = 2) := by decide
  have hfew : ¬ (4 ≤ unsent (setLane (takeMsg s) (msgLane m) { laneOf s (msgLane m) with route := some m.route }) (msgLane m)) := Nat.not_le.mpr hunsent
  have hecc : noUpsets.ecc = [] := rfl
  have hlane : laneOf (takeMsg s) (msgLane m) = laneOf s (msgLane m) := rfl
  unfold process
  simp only [hnot, if_false, if_true, hecc, meetEcc, List.foldl_nil, reportMismatch_none, hown, hnone, hlane, hfew, hseq', hperm', Bool.true_eq_false]
  rfl

/-- A message that passes is in sequence, so its sequence number is consumed. -/
theorem msgOOS_of_passes (hp : Passes s m) : msgOOS m = false := by
  obtain ⟨-, -, -, -, -, hseq, -⟩ := hp
  by_contra h
  rw [seqTest, if_pos (by simpa using h)] at hseq
  split at hseq <;> cases hseq

end AtStep6

/-! ### Answers (R45, R63, R64) -/

section Answer
variable (s : State) (m : Msg) (typ time : Nat) (body : List Byte)

/-- What neither a lane nor a shaper nor a timer is, an answer leaves as it is. -/
theorem answer_rest : ∃ l p t, answer s m typ time body = { s with timers := t, ad := { s.ad with lanes := l, shapers := p } } := by
  unfold answer
  split <;> exact ⟨_, _, _, rfl⟩

theorem answer_regs : (answer s m typ time body).regs = s.regs := by obtain ⟨l, p, t, h⟩ := answer_rest s m typ time body; rw [h]
theorem answer_mem : (answer s m typ time body).mem = s.mem := by obtain ⟨l, p, t, h⟩ := answer_rest s m typ time body; rw [h]
theorem answer_clock : (answer s m typ time body).clock = s.clock := by obtain ⟨l, p, t, h⟩ := answer_rest s m typ time body; rw [h]
theorem answer_inflight : (answer s m typ time body).ad.inflight = s.ad.inflight := by obtain ⟨l, p, t, h⟩ := answer_rest s m typ time body; rw [h]
theorem subOf_answer (p k : Nat) : subOf (answer s m typ time body) p k = subOf s p k := by
  obtain ⟨l, q, t, h⟩ := answer_rest s m typ time body
  rw [h]
  rfl

/-- Of the timers an answer touches its lane's CREDIT alone. -/
theorem timerAt_answer (x : Timer) (hx : x ≠ .credit (msgLane m)) : timerAt x (answer s m typ time body).timers = timerAt x s.timers := by
  have hcredit : (answer s m typ time body).timers = s.timers.filter (fun e => decide (e.1 ≠ .credit (msgLane m))) := by
    unfold answer
    split <;> rfl
  rw [hcredit, timerAt_filter, if_neg hx]

/-- The partner's reply queue gains the answer. -/
theorem replied_answer {s0 : State} (h : LanesWf s) (hs : shaperOf s m.partner = shaperOf s0 m.partner) :
    Replied s0 (answer s m typ time body) m typ time body := by
  unfold answer
  split
  · exact replied_queueReply _ _ _ _ _ _ m h hs
  · exact replied_queueReply _ _ _ _ _ _ m (lanesWf_setLane h _ _) hs

end Answer

/-- A body of the size that is asked for passes R532. -/
theorem sizeCheck_exact {m : Msg} {n : Nat} (h : (msgBody m).length = n) : sizeCheck m n = none := by
  simp only [sizeCheck, h, lt_irrefl, if_false]

/-! ### Queries (R73) -/

section Query
variable {s : State} {m : Msg} (h : LanesWf s)
include h

/-- A query's message has no cells, so the lane's L is the one before it was judged. -/
theorem laneL_atStep6 (ht : 3 < msgType m) : laneL (atStep6 s m) (msgLane m) = laneL s (msgLane m) := by
  have hcells : msgCells m = 0 := if_neg (Nat.not_le.mpr ht)
  have hO : laneO (atStep6 s m) (msgLane m) = laneO s (msgLane m) := rfl
  have hQ : laneQ (passedLane (laneOf s (msgLane m)) m) = laneQ (laneOf s (msgLane m)) := rfl
  unfold laneL
  simp only [hO, laneOf_atStep6_same h, hQ]
  simp only [passedLane, hcells]
  omega

/-- What a request status is read from stands as before the query was judged. -/
theorem requestStatus_atStep6 (seq : Nat) : requestStatus (atStep6 s m) (msgLane m) seq = requestStatus s (msgLane m) seq := by
  unfold requestStatus
  rw [laneOf_atStep6_same h]
  rfl

end Query

/-- A query of a known kind and of its size goes to its answer. -/
theorem queryStep_known {m : Msg} {k : Nat} (reply : State → State) (s : State) (hlen : (msgBody m).length = 8) (hk : queryKind m = k)
    (h1 : 1 ≤ k) (h4 : k ≤ 4) : queryStep m reply s = reply s := by
  subst hk
  simp only [queryStep, sizeCheck_exact hlen, h1, h4, and_self, if_true]

/-- What an answer in the state of step 6 leaves and queues. -/
theorem answered {s : State} {m : Msg} (h : LanesWf s) (typ time : Nat) (body : List Byte) :
    (answer (atStep6 s m) m typ time body).ad.inflight = s.ad.inflight ∧ (answer (atStep6 s m) m typ time body).mem = s.mem
      ∧ Replied s (answer (atStep6 s m) m typ time body) m typ time body :=
  ⟨answer_inflight _ _ _ _ _, answer_mem _ _ _ _ _, replied_answer _ _ _ _ _ (lanesWf_atStep6 h) rfl⟩

/-- A query that passes is answered in the state of step 6. -/
theorem answerQuery_passes {s : State} {m : Msg} {k : Nat} (h : LanesWf s) (hp : Passes s m) (ht : msgType m = 0x10) (hlen : (msgBody m).length = 8)
    (reply : Msg → State → State) (hk : queryKind m = k) (h1 : 1 ≤ k) (h4 : k ≤ 4) : answerQuery k reply noUpsets s = reply m (atStep6 s m) := by
  rw [answerQuery_head hp.1 reply ht hk, process_passes h hp, queryStep_known _ _ hlen hk h1 h4]

theorem execQueryLaneStatus_passes {s : State} {m : Msg} (h : LanesWf s) (hp : Passes s m) (ht : msgType m = 0x10) (hlen : (msgBody m).length = 8)
    (hk : queryKind m = 1) : execQueryLaneStatus noUpsets s = .next (laneStatus m (atStep6 s m)) := by
  rw [execQueryLaneStatus_head hp.1 ht hk, process_passes h hp, queryStep_known _ _ hlen hk (by decide) (by decide)]

/-! ### Subscriptions (R77) -/

/-- The stream that a SUBSCRIBE names, and the state after it was named: a STREAM above 3 is a free value. -/
def namedStream (s : State) (m : Msg) : Nat × State :=
  if beAt (msgBody m) 0 1 < 4 then (beAt (msgBody m) 0 1, s) else fresh s 4

/-- The stream of a partner is replaced and its period starts, or it ends (R77, R79). -/
def subscribed (s : State) (m : Msg) (k : Nat) : State :=
  if beAt (msgBody m) 2 2 = 0 then disarm (setSub s m.partner k none) (.telemetry m.partner k)
  else armIn (setSub s m.partner k (some ⟨msgLane m, beAt (msgBody m) 1 1 % 16, beAt (msgBody m) 2 2, statBase s m.partner⟩))
    (.telemetry m.partner k) (beAt (msgBody m) 2 2 * 1000000)

theorem namedStream_spec (s : State) (m : Msg) : (namedStream s m).1 < 4 ∧ (beAt (msgBody m) 0 1 < 4 → (namedStream s m).1 = beAt (msgBody m) 0 1)
    ∧ ∃ f, (namedStream s m).2 = { s with free := f } := by
  unfold namedStream
  split
  · exact ⟨‹_›, fun _ => rfl, _, rfl⟩
  · exact ⟨Nat.mod_lt _ (by decide), fun h => absurd h ‹_›, _, rfl⟩

/-- A SUBSCRIBE of its size that asks for nothing it may not read takes effect and is answered. -/
theorem subscribeStep_allowed {m : Msg} (s : State) (hlen : (msgBody m).length = 8)
    (hc : (beAt (msgBody m) 1 1 % 16).testBit 1 = false ∨ counterReads s = true) :
    subscribeStep m s = answer (subscribed (namedStream s m).2 m (namedStream s m).1) m 0xA1 0 (beBytes 8 0) := by
  obtain ⟨-, -, f, hf⟩ := namedStream_spec s m
  have hreads : counterReads (namedStream s m).2 = counterReads s := by rw [hf]; rfl
  have hnot : ¬ ((beAt (msgBody m) 1 1 % 16).testBit 1 = true ∧ counterReads (namedStream s m).2 = false) := by
    rw [hreads]
    rcases hc with h | h <;> simp [h]
  simp only [subscribeStep, sizeCheck_exact hlen]
  exact if_neg hnot

section Subscribed
variable (s : State) (m : Msg) (k : Nat)

theorem subscribed_rest : ∃ t x, subscribed s m k = { s with timers := t, ad := { s.ad with subs := x } } := by
  unfold subscribed
  split <;> exact ⟨_, _, rfl⟩

theorem subOf_setSub_same (p : Nat) (x : Option Sub) (h : cellWf (fun _ => none) s.ad.subs = true) : subOf (setSub s p k x) p k = x :=
  cellGet_cellPut_same _ _ _ _ h

theorem subOf_subscribed_ends (h : cellWf (fun _ => none) s.ad.subs = true) (h0 : beAt (msgBody m) 2 2 = 0) : subOf (subscribed s m k) m.partner k = none := by
  rw [subscribed, if_pos h0]
  exact subOf_setSub_same s k m.partner none h

theorem subOf_subscribed_starts (h : cellWf (fun _ => none) s.ad.subs = true) (h0 : beAt (msgBody m) 2 2 ≠ 0) :
    subOf (subscribed s m k) m.partner k = some ⟨msgLane m, beAt (msgBody m) 1 1 % 16, beAt (msgBody m) 2 2, statBase s m.partner⟩ := by
  rw [subscribed, if_neg h0]
  exact subOf_setSub_same s k m.partner _ h

theorem timerAt_subscribed (h0 : beAt (msgBody m) 2 2 ≠ 0) :
    timerAt (.telemetry m.partner k) (subscribed s m k).timers = some (s.elapsed + 4 * (beAt (msgBody m) 2 2 * 1000000)) := by
  rw [subscribed, if_neg h0]
  exact timerAt_armAt_same _ _ _

end Subscribed

/-- Settles O20: a message that passes comes to its row's step in the state of step 6; each answer is one queued reply, and what its body reads stands as before. -/
theorem queries : Obligations.Queries := by
  unfold Obligations.Queries
  refine ⟨fun s m hl hp ht hlen => ⟨fun hk => ?_, fun hk => ?_, fun hk => ?_, fun hk => ?_⟩, fun s m hl hsubs hp ht hlen hc => ?_⟩
  · obtain ⟨hflight, hmem, hreply⟩ := answered (s := s) (m := m) hl 0x90 0 _
    have hQ : laneQ (laneOf (atStep6 s m) (msgLane m)) = laneQ (laneOf s (msgLane m)) := by rw [laneOf_atStep6_same hl]; rfl
    refine ⟨_, execQueryLaneStatus_passes hl hp ht hlen hk, hflight, hmem, ?_⟩
    rw [← laneL_atStep6 hl (by rw [ht]; decide), ← hQ]
    exact hreply
  · obtain ⟨hflight, hmem, hreply⟩ := answered (s := s) (m := m) hl 0x90 0 _
    refine ⟨_, congrArg Host.Outcome.next (answerQuery_passes hl hp ht hlen requestStatusReply hk (by decide) (by decide)), hflight, hmem, fun x hx => ?_⟩
    rw [hx, ← requestStatus_atStep6 hl]
    exact hreply
  · obtain ⟨hflight, hmem, hreply⟩ := answered (s := s) (m := m) hl 0x90 0 _
    exact ⟨_, congrArg Host.Outcome.next (answerQuery_passes hl hp ht hlen deviceState hk (by decide) (by decide)), hflight, hmem, hreply⟩
  · obtain ⟨hflight, hmem, hreply⟩ := answered (s := s) (m := m) hl 0x90 0 _
    exact ⟨_, congrArg Host.Outcome.next (answerQuery_passes hl hp ht hlen networkTime hk (by decide) (by decide)), hflight, hmem, hreply⟩
  · have hexec : exec (.subscribe noUpsets) s = .next _ :=
      (execSubscribe_head hp.1 ht).trans (by rw [process_passes hl hp, subscribeStep_allowed (atStep6 s m) hlen hc])
    obtain ⟨hk, hnamed, f, hf⟩ := namedStream_spec (atStep6 s m) m
    generalize namedStream (atStep6 s m) m = p at hexec hk hnamed hf
    obtain ⟨k, u⟩ := p
    obtain rfl : u = { atStep6 s m with free := f } := hf
    obtain ⟨x, y, hxy⟩ := subscribed_rest { atStep6 s m with free := f } m k
    have hwf : LanesWf (subscribed { atStep6 s m with free := f } m k) := by rw [hxy]; exact lanesWf_atStep6 hl
    refine ⟨_, k, hexec, hk, hnamed, ?_, ?_, replied_answer _ _ _ _ _ hwf (by rw [hxy]; rfl), fun h0 => ?_, fun h0 => ⟨?_, ?_⟩⟩
    · rw [answer_inflight, hxy]
      rfl
    · rw [answer_mem, hxy]
      rfl
    · rw [subOf_answer]
      exact subOf_subscribed_ends _ m k hsubs h0
    · rw [timerAt_answer _ _ _ _ _ _ (by simp), timerAt_subscribed _ m k h0]
      rfl
    · rw [subOf_answer]
      exact ⟨_, subOf_subscribed_starts _ m k hsubs h0, rfl, rfl, rfl⟩

end Sys2Proof.Machine

namespace Sys2Proof.Machine

/-! ### Register access over ALP (R74 to R76) -/

/-- A big-endian field fits its bytes. -/
theorem beAt_lt (bs : List Byte) (off n : Nat) : beAt bs off n < 256 ^ n := by
  have hfold : ∀ (l : List Byte) (a : Nat), l.foldl (fun a b => a * 256 + b.toNat) a < (a + 1) * 256 ^ l.length := by
    intro l
    induction l with
    | nil => intro a; simp
    | cons b l ih =>
      intro a
      have hb : b.toNat < 256 := b.isLt
      calc l.foldl (fun a b => a * 256 + b.toNat) (a * 256 + b.toNat)
          _ < (a * 256 + b.toNat + 1) * 256 ^ l.length := ih _
          _ ≤ ((a + 1) * 256) * 256 ^ l.length := Nat.mul_le_mul_right _ (by omega)
          _ = (a + 1) * 256 ^ (l.length + 1) := by rw [pow_succ', mul_assoc]
  have hlen : (slice bs off n).length ≤ n := List.length_take_le _ _
  calc beAt bs off n
      _ < (0 + 1) * 256 ^ (slice bs off n).length := hfold _ 0
      _ ≤ 256 ^ n := by rw [zero_add, one_mul]; exact Nat.pow_le_pow_right (by decide) hlen

section RegMessage
variable {m : Msg}

/-- Word 0 of an access stands at its ADDR. -/
theorem wordAddr_zero (m : Msg) : wordAddr m 0 = regAddr m :=
  Nat.mod_eq_of_lt (beAt_lt _ _ _)

/-- An access of one aligned word is that word's. -/
theorem regRun_one (one : RegRun → Nat → RegRun) (s : State) (hn : regCount m = 1) (ha : regAddr m % 4 = 0) :
    regRun m one s = regReply m (one ⟨0, 0, [], s⟩ 0) := by
  simp [regRun, hn, ha]

/-- A REG_READ of one aligned word. -/
theorem regReadStep_one (s : State) (hlen : (msgBody m).length = 8) (hn : regCount m = 1) (ha : regAddr m % 4 = 0) :
    regReadStep [] m s = regReply m (readWord [] m ⟨0, 0, [], s⟩ 0) := by
  simp only [regReadStep, sizeCheck_exact hlen, regRun_one _ s hn ha]

/-- A REG_WRITE of one aligned word. -/
theorem regWriteStep_one (s : State) (hlen : (msgBody m).length = 12) (hn : regCount m = 1) (ha : regAddr m % 4 = 0) :
    regWriteStep m s = regReply m (writeWord m ⟨0, 0, [], s⟩ 0) := by
  have hsize : writeSize m = none := by
    simp only [writeSize, hlen, hn]
    exact sizeCheck_exact hlen
  simp only [regWriteStep, hsize, regRun_one _ s hn ha]

variable {s s1 : State} {st : Status} (hb : behindLock s (regAddr m) = false)
include hb

/-- A word that the bus gives is read; no entry of the capture memory fails its check. -/
theorem readWord_granted (hr : busRead s (dmaOf m.route.port) (regAddr m) 0 .none = (s1, 0)) :
    readWord [] m ⟨0, 0, [], s⟩ 0 = ⟨0, 1, [s1.bm.readData], s1⟩ := by
  simp only [readWord, wordAddr_zero, hb, hr, ne_eq, not_true, if_false, if_true, Bool.false_eq_true]
  rfl

/-- A read that the bus refuses ends with its status. -/
theorem readWord_refused (hst : st ≠ 0) (hr : busRead s (dmaOf m.route.port) (regAddr m) 0 .none = (s1, st)) :
    readWord [] m ⟨0, 0, [], s⟩ 0 = ⟨st, 0, [], s1⟩ := by
  simp only [readWord, wordAddr_zero, hb, hr, hst, ne_eq, not_true, if_false, Bool.false_eq_true]

/-- A write ends with the bus's status, and is done where that is 0. -/
theorem writeWord_first (hw : busWrite s (dmaOf m.route.port) (mayFlash s (dmaOf m.route.port)) (regAddr m) (BitVec.ofNat 32 (beAt (msgBody m) 8 4)) 0 .none
    = (s1, st)) : writeWord m ⟨0, 0, [], s⟩ 0 = ⟨st, if st = 0 then 1 else 0, [], s1⟩ := by
  simp only [writeWord, wordAddr_zero, hb, hw, ne_eq, not_true, if_false, Bool.false_eq_true, Nat.mul_zero, Nat.add_zero]
  split
  case isTrue hst => rw [hst]
  case isFalse => rfl

end RegMessage

/-- Settles O22: the message comes to its access in the state of step 6, where the one word is done or refused by the bus. -/
theorem registerMessages : Obligations.RegisterMessages := by
  unfold Obligations.RegisterMessages
  intro s m hl hp hwait hn ha hb
  have hb6 : behindLock (atStep6 s m) (regAddr m) = false := hb
  refine ⟨fun ht hlen s1 st hr => ?_, fun ht hlen s1 st hw => ?_⟩
  · have hexec : exec (.regRead noUpsets) s = .next (regReply m (readWord [] m ⟨0, 0, [], atStep6 s m⟩ 0)) :=
      congrArg Host.Outcome.next ((regMessage_head hp.1 (regReadStep []) ht hwait).trans (by rw [process_passes hl hp, regReadStep_one _ hlen hn ha]))
    refine ⟨fun hst => ?_, fun hst => ?_⟩
    · subst hst
      rw [hexec, readWord_granted hb6 hr]
      simp only [regReply, List.flatMap_cons, List.flatMap_nil, List.append_nil]
    · rw [hexec, readWord_refused hb6 hst hr]
      simp only [regReply, List.flatMap_nil, List.append_nil]
  · have hexec : exec (.regWrite noUpsets) s = .next (regReply m (writeWord m ⟨0, 0, [], atStep6 s m⟩ 0)) :=
      congrArg Host.Outcome.next ((regMessage_head hp.1 regWriteStep ht hwait).trans (by rw [process_passes hl hp, regWriteStep_one _ hlen hn ha]))
    rw [hexec, writeWord_first hb6 hw]
    simp only [regReply, List.flatMap_nil, List.append_nil]

/-! ### TIME_STEP (R81, R159) -/

/-- Fields are set one after the other. -/
def setFields (s : State) (l : List (Fld × Nat)) : State := l.foldl (fun s e => setF s e.1 e.2) s

theorem setFields_regs (s : State) (l : List (Fld × Nat)) : RegsOnly s (setFields s l) :=
  RegsOnly.foldl (f := fun s (e : Fld × Nat) => setF s e.1 e.2) (fun s e => .setF s e.1 e.2) l s

/-- A field of a register that none of them is in reads as before. -/
theorem getF_setFields_other (l : List (Fld × Nat)) (s : State) (f : Fld) (h : ∀ e ∈ l, f.addr ≠ e.1.addr) : getF (setFields s l) f = getF s f := by
  induction l generalizing s with
  | nil => rfl
  | cons e l ih =>
    exact (ih _ fun x hx => h x (List.mem_cons_of_mem _ hx)).trans (getF_setF_addr _ _ _ _ (h e List.mem_cons_self))

/-- Of fields in registers of their own each reads as it was set. -/
theorem getF_setFields (l : List (Fld × Nat)) (s : State) (f : Fld) (v : Nat) (hs : s.RegsWf) (hl : (l.map fun e => e.1.addr).Nodup) (he : (f, v) ∈ l)
    (hf : f.hi < 32) : getF (setFields s l) f = v % 2 ^ width f.hi f.lo := by
  induction l generalizing s with
  | nil => cases he
  | cons e l ih =>
    obtain ⟨hapart, hrest⟩ := List.nodup_cons.mp hl
    rcases List.mem_cons.mp he with rfl | hmem
    · have hother : ∀ x ∈ l, f.addr ≠ x.1.addr := fun x hx h => hapart (List.mem_map.mpr ⟨x, hx, h.symm⟩)
      exact (getF_setFields_other l _ f hother).trans (getF_setF_same _ _ _ hs hf)
    · exact ih _ (regsWf_setF _ _ _ hs) hrest hmem

/-- The words of a permission (R159). -/
def permitFields (gm maxStep sec nano : Nat) : List (Fld × Nat) :=
  [(NT_PERMIT_w0_GMID, gm), (NT_PERMIT_w1_GMID, gm / 2 ^ 32), (NT_PERMIT_w2_MAXSTEP, maxStep), (NT_PERMIT_w3_MAXSTEP, maxStep / 2 ^ 32),
    (NT_PERMIT_w4_VALID_UNTIL, sec), (NT_PERMIT_w5_VALID_UNTIL, nano), (NT_PERMIT_w6_VALID, 1)]

section StorePermit
variable (s : State) (gm maxStep sec nano : Nat)

theorem storePermit_eq : storePermit s gm maxStep sec nano = setFields s (permitFields gm maxStep sec nano) := by
  simp only [storePermit, setFlag, if_true, setFields, permitFields, List.foldl_cons, List.foldl_nil]

theorem storePermit_regs : RegsOnly s (storePermit s gm maxStep sec nano) := storePermit_eq s gm maxStep sec nano ▸ setFields_regs s _

/-- A word of a permission reads as it was stored. -/
theorem getF_storePermit {s : State} {gm maxStep sec nano v : Nat} {f : Fld} (h : s.RegsWf) (he : (f, v) ∈ permitFields gm maxStep sec nano)
    (hf : f.hi < 32) : getF (storePermit s gm maxStep sec nano) f = v % 2 ^ width f.hi f.lo := by
  have hwords : ((permitFields 0 0 0 0).map fun e => e.1.addr).Nodup := by decide
  rw [storePermit_eq]
  exact getF_setFields _ s f v h hwords he hf

variable {s gm maxStep sec nano}

/-- A permission that fits its words reads as it was stored. -/
theorem storePermit_spec (h : s.RegsWf) (hgm : gm < 2 ^ 64) (hmax : maxStep < 2 ^ 64) (hsec : sec < 2 ^ 32) (hnano : nano < 2 ^ 32) :
    permitStored (storePermit s gm maxStep sec nano) = true ∧ permitGm (storePermit s gm maxStep sec nano) = gm
      ∧ permitMax (storePermit s gm maxStep sec nano) = maxStep
      ∧ permitUntil (storePermit s gm maxStep sec nano) = extendSec s sec * 1000000000 + nano := by
  have hword : ∀ f v, (f, v) ∈ permitFields gm maxStep sec nano → f.hi = 31 → f.lo = 0 → getF (storePermit s gm maxStep sec nano) f = v % 2 ^ 32 :=
    fun f v he hhi hlo => by rw [getF_storePermit h he (by omega), hhi, hlo, width]
  have hext : ∀ x, extendSec (storePermit s gm maxStep sec nano) x = extendSec s x := fun x => by
    obtain ⟨r, hr⟩ := storePermit_regs s gm maxStep sec nano
    rw [hr]
    rfl
  refine ⟨?_, ?_, ?_, ?_⟩
  · simp only [permitStored, flag, getF_storePermit h (f := NT_PERMIT_w6_VALID) (v := 1) (by simp [permitFields]) (by decide)]
    decide
  · simp only [permitGm, hword NT_PERMIT_w1_GMID (gm / 2 ^ 32) (by simp [permitFields]) rfl rfl, hword NT_PERMIT_w0_GMID gm (by simp [permitFields]) rfl rfl]
    omega
  · simp only [permitMax, hword NT_PERMIT_w3_MAXSTEP (maxStep / 2 ^ 32) (by simp [permitFields]) rfl rfl,
      hword NT_PERMIT_w2_MAXSTEP maxStep (by simp [permitFields]) rfl rfl]
    omega
  · simp only [permitUntil, hext, hword NT_PERMIT_w4_VALID_UNTIL sec (by simp [permitFields]) rfl rfl,
      hword NT_PERMIT_w5_VALID_UNTIL nano (by simp [permitFields]) rfl rfl]
    rw [Nat.mod_eq_of_lt hsec, Nat.mod_eq_of_lt hnano]

end StorePermit

/-- What a step decision leaves alone (R160): all but registers, network time and free values. -/
theorem decideStep_rest (s : State) (x : Refused) : ∃ r n f, decideStep s x = { s with regs := r, nt := n, free := f } := by
  have hbound : ∀ u : State, ∃ f, (stepBound u).2 = { u with free := f } := fun u => by
    unfold stepBound
    dsimp only
    split_ifs <;> exact ⟨_, rfl⟩
  obtain ⟨f, hf⟩ := hbound (dropPermit s)
  unfold decideStep
  generalize stepBound (dropPermit s) = p at hf
  obtain ⟨b, u⟩ := p
  obtain rfl : u = { dropPermit s with free := f } := hf
  exact ⟨_, _, _, rfl⟩

/-- A RESULT is no permission. -/
theorem permit_result (s : State) (m : Msg) (status value time : Nat) : permitStored (result s m status value time) = permitStored s
    ∧ permitGm (result s m status value time) = permitGm s ∧ permitMax (result s m status value time) = permitMax s
    ∧ permitUntil (result s m status value time) = permitUntil s := by
  obtain ⟨l, p, t, h⟩ := answer_rest s m 0xA1 time (beBytes 1 status ++ beBytes 3 0 ++ beBytes 4 value)
  rw [result, h]
  exact ⟨rfl, rfl, rfl, rfl⟩

/-! The rows of R159. -/

section TimeStep
variable {s : State} {m : Msg}

/-- VALID_UNTIL of a TIME_STEP. -/
def validUntil (s : State) (m : Msg) : Nat := extendSec s (beAt (msgBody m) 16 4) * 1000000000 + beAt (msgBody m) 20 4

/-- The state in which a TIME_STEP's permission is stored. -/
def permitTaken (s : State) (m : Msg) : State :=
  storePermit s (beAt (msgBody m) 0 8) (beAt (msgBody m) 8 8) (beAt (msgBody m) 16 4) (beAt (msgBody m) 20 4)

variable (hlen : (msgBody m).length = 24)
include hlen

theorem timeStepStep_malformed (h : 999999999 < beAt (msgBody m) 20 4) : timeStepStep m s = refuseStep6 s m 0x0B 44 := by
  simp only [timeStepStep, sizeCheck_exact hlen, h, if_true]

variable (hnano : beAt (msgBody m) 20 4 ≤ 999999999)
include hnano

/-- Of a TIME_STEP that is not malformed every row ends in a RESULT. -/
theorem timeStepStep_result : ∃ r n f status value time, timeStepStep m s = result { s with regs := r, nt := n, free := f } m status value time := by
  have hsame : ∀ status value time, ∃ r n f st v t, result s m status value time = result { s with regs := r, nt := n, free := f } m st v t :=
    fun status value time => ⟨s.regs, s.nt, s.free, status, value, time, rfl⟩
  simp only [timeStepStep, sizeCheck_exact hlen, Nat.not_lt.mpr hnano, if_false]
  split
  · exact hsame _ _ _
  split
  case h_1 => split <;> exact hsame _ _ _
  case h_2 =>
    split
    case h_1 x _ =>
      obtain ⟨r, n, f, hdec⟩ := decideStep_rest s x
      split
      · exact hsame _ _ _
      split
      · exact hsame _ _ _
      · exact ⟨r, n, f, _, _, _, by rw [hdec]⟩
    case h_2 =>
      split
      · exact hsame _ _ _
      · obtain ⟨r, hr⟩ : RegsOnly s (permitTaken s m) := storePermit_regs _ _ _ _ _
        rw [permitTaken] at hr
        exact ⟨r, s.nt, s.free, _, _, _, by rw [hr]⟩

theorem timeStepStep_past (h : validUntil s m < netNs s) : timeStepStep m s = result s m 0x26 0 0 := by
  simp only [timeStepStep, sizeCheck_exact hlen, Nat.not_lt.mpr hnano, if_false]
  exact if_pos h

/-- With nothing to permit yet only the grandmaster is judged. -/
theorem timeStepStep_open (hnow : netNs s ≤ validUntil s m) (hdec : s.nt.decision = none) (hservo : getF s NT_STATE_SERVO ≠ 4 ∨ s.nt.persist = none) :
    timeStepStep m s = if flag s NT_STATE_GM_VALID ∧ beAt (msgBody m) 0 8 ≠ gmId s then result s m 0x25 0 0
      else result (permitTaken s m) m 1 0 (validUntil s m) := by
  have hpersist : (if getF s NT_STATE_SERVO = 4 then s.nt.persist else none) = none := by
    rcases hservo with h | h <;> simp [h]
  have hnot : ¬ (extendSec s (beAt (msgBody m) 16 4) * 1000000000 + beAt (msgBody m) 20 4 < netNs s) := Nat.not_lt.mpr hnow
  simp only [timeStepStep, sizeCheck_exact hlen, Nat.not_lt.mpr hnano, hnot, if_false, hdec, hpersist]
  rfl

end TimeStep

/-- Settles O21: the row of R159 that applies is read off in the state of step 6, and a permission that is stored reads back. -/
theorem timeStepMessage : Obligations.TimeStepMessage := by
  unfold Obligations.TimeStepMessage
  intro s m until_ hc hl hp ht hlen huntil
  obtain rfl : until_ = validUntil (atStep6 s m) m := huntil
  have hexec : exec (.timeStep noUpsets) s = .next (timeStepStep m (atStep6 s m)) := (execTimeStep_head hp.1 ht).trans (by rw [process_passes hl hp])
  have hwf : LanesWf (atStep6 s m) := lanesWf_atStep6 hl
  refine ⟨fun hbad => ?_, fun hnano => ⟨timeStepStep m (atStep6 s m), hexec, ?_, ?_, fun hpast => ?_, fun hnow hdec hservo hgm hother => ?_,
    fun hnow hdec hservo hgm => ?_⟩⟩
  · rw [hexec, timeStepStep_malformed hlen hbad]
  · obtain ⟨r, n, f, st, v, t, h⟩ := timeStepStep_result (s := atStep6 s m) hlen hnano
    rw [h]
    exact answer_mem _ _ _ _ _
  · obtain ⟨r, n, f, st, v, t, h⟩ := timeStepStep_result (s := atStep6 s m) hlen hnano
    rw [h]
    exact answer_inflight _ _ _ _ _
  · rw [timeStepStep_past hlen hnano hpast]
    exact ⟨answer_regs _ _ _ _ _, replied_answer _ _ _ _ _ hwf rfl⟩
  · rw [timeStepStep_open (s := atStep6 s m) hlen hnano hnow hdec hservo, if_pos ⟨hgm, hother⟩]
    exact ⟨answer_regs _ _ _ _ _, replied_answer _ _ _ _ _ hwf rfl⟩
  · have hpermit : ¬ (flag (atStep6 s m) NT_STATE_GM_VALID = true ∧ beAt (msgBody m) 0 8 ≠ gmId (atStep6 s m)) := fun ⟨hv, hne⟩ => hne (hgm hv)
    rw [timeStepStep_open (s := atStep6 s m) hlen hnano hnow hdec hservo, if_neg hpermit]
    obtain ⟨hst, hid, hmax, huntil⟩ := storePermit_spec (s := atStep6 s m) hc.1 (beAt_lt (msgBody m) 0 8) (beAt_lt (msgBody m) 8 8)
      (beAt_lt (msgBody m) 16 4) (beAt_lt (msgBody m) 20 4)
    obtain ⟨hst', hid', hmax', huntil'⟩ := permit_result (permitTaken (atStep6 s m) m) m 1 0 (validUntil (atStep6 s m) m)
    have had : (permitTaken (atStep6 s m) m).ad = (atStep6 s m).ad := (storePermit_regs _ _ _ _ _).ad
    exact ⟨hst'.trans hst, hid'.trans hid, hmax'.trans hmax, huntil'.trans huntil, replied_answer _ _ _ _ _ (lanesWf_congr had hwf) (shaperOf_congr had _)⟩

end Sys2Proof.Machine

namespace Sys2Proof.Machine

/-! ### What a message's own lane alone sees -/

/-- Between the states admission's queue, the memories and the flash are the same; of the lanes only `l` may differ, and not in the sequence number it expects. -/
structure LaneFrame (l : Nat) (s t : State) : Prop where
  tg : t.tg = s.tg
  mem : t.mem = s.mem
  flash : t.flash = s.flash
  expSeq : (laneOf t l).expSeq = (laneOf s l).expSeq
  others : ∀ k, k ≠ l → laneOf t k = laneOf s k

namespace LaneFrame
variable {l : Nat} {s t u : State}

theorem trans (h : LaneFrame l s t) (k : LaneFrame l t u) : LaneFrame l s u :=
  ⟨k.tg.trans h.tg, k.mem.trans h.mem, k.flash.trans h.flash, k.expSeq.trans h.expSeq, fun j hj => (k.others j hj).trans (h.others j hj)⟩

/-- A change that leaves the lanes alone. -/
theorem of_lanes (hl : t.ad.lanes = s.ad.lanes) (htg : t.tg = s.tg) (hmem : t.mem = s.mem) (hflash : t.flash = s.flash) : LaneFrame l s t := by
  have hlane : ∀ k, laneOf t k = laneOf s k := fun k => by unfold laneOf; rw [hl]
  exact ⟨htg, hmem, hflash, congrArg Lane.expSeq (hlane l), fun k _ => hlane k⟩

theorem of_regs (h : RegsOnly s t) : LaneFrame l s t := by
  obtain ⟨r, rfl⟩ := h
  exact of_lanes rfl rfl rfl rfl

theorem setLane (h : LanesWf s) (x : Lane) (hx : x.expSeq = (laneOf s l).expSeq) : LaneFrame l s (setLane s l x) :=
  ⟨rfl, rfl, rfl, by rw [laneOf_setLane_same h, hx], fun k hk => laneOf_setLane_other s l k x hk⟩

theorem queueReply (h : LanesWf s) (p typ seq echo time : Nat) (body : List Byte) (r : Route) (counts : Bool) :
    LaneFrame l s (queueReply s p l typ seq echo time body r counts) :=
  ⟨rfl, rfl, rfl, expSeq_queueReply s p l typ seq echo time body r counts h l, fun k hk => laneOf_setLane_other _ l k _ hk⟩

theorem retainNew (h : LanesWf s) (r : Retained) : LaneFrame l s (retainNew s l r) :=
  setLane h { laneOf s l with retained := (r :: (laneOf s l).retained).take 4 } rfl

end LaneFrame

theorem lanesWf_retainNew {s : State} (h : LanesWf s) (l : Nat) (r : Retained) : LanesWf (retainNew s l r) := lanesWf_setLane h _ _

/-! ### A request that is refused (R64, R65) -/

theorem countRefusal_regs (s : State) (code : Nat) : RegsOnly s (countRefusal s code) := countRefusal_rest s code

/-- The lane on which a refusal is retained: it counts where the message is a request. -/
def refusedLane (x : Lane) (m : Msg) : Lane := { x with refused := x.refused + (if msgType m ≤ 3 then 1 else 0) }

section Refuse
variable {s : State} (m : Msg) (code time detail : Nat) (h : LanesWf s)

/-- The state in which a REFUSE of a message that consumed its sequence number is queued. -/
def refusalRetained (s : State) (m : Msg) (code time detail : Nat) : State :=
  retainNew (setLane (countRefusal s code) (msgLane m) (refusedLane (laneOf (countRefusal s code) (msgLane m)) m)) (msgLane m)
    ⟨msgSeq m, 0x82, time, refuseBody s code detail, 0, false, 0⟩

theorem refuse_eq : refuse s m code time detail true = queueReply (refusalRetained s m code time detail) m.partner (msgLane m) 0x82 (msgSeq m) (msgEcho m)
    time (refuseBody s code detail) m.route true := rfl

theorem refuse_admission : (refuse s m code time detail true).ad.inflight = s.ad.inflight ∧ (refuse s m code time detail true).ad.slots = s.ad.slots := by
  obtain ⟨r, hr⟩ := countRefusal_regs s code
  rw [refuse_eq, refusalRetained, hr]
  exact ⟨rfl, rfl⟩

include h

theorem refuse_frame : LaneFrame (msgLane m) s (refuse s m code time detail true) := by
  have hcount : LanesWf (countRefusal s code) := lanesWf_congr (countRefusal_ad s code) h
  have hlane := lanesWf_setLane hcount (msgLane m) (refusedLane (laneOf (countRefusal s code) (msgLane m)) m)
  exact (((LaneFrame.of_regs (countRefusal_regs s code)).trans (.setLane hcount (refusedLane _ m) rfl)).trans (.retainNew hlane _)).trans
    (.queueReply (lanesWf_retainNew hlane _ _) _ _ _ _ _ _ _ _)

theorem replied_refuse {s0 : State} (hs : shaperOf s m.partner = shaperOf s0 m.partner) :
    Replied s0 (refuse s m code time detail true) m 0x82 time (refuseBody s code detail) := by
  have hcount : LanesWf (countRefusal s code) := lanesWf_congr (countRefusal_ad s code) h
  rw [refuse_eq]
  exact replied_queueReply _ _ _ _ _ _ m (lanesWf_retainNew (lanesWf_setLane hcount _ _) _ _) ((shaperOf_congr (countRefusal_ad s code) _).trans hs)

end Refuse

/-! ### A request that is accepted (R63, R119, R120, R134) -/

section Accept
variable (s : State) (m : Msg) (a : Ask) (r : ReqWin) (d : Nat)

/-- The request that an acceptance brings into flight. -/
def acceptedRequest : Request :=
  ⟨s.ad.nextId, msgLane m, m.partner, a.typ, msgSeq m, msgEcho m, wordsOf (msgBody m), a.cells, m.arrival, r.win.start, r.win.entry, winClass s r.win, d,
    r.win.start + 80, finishTag (getF s AD_VT_V) (laneOf s (msgLane m)).tag (laneWeight (laneOf s (msgLane m))), laneCrep (laneOf s (msgLane m)),
    decide (a.typ = 2) && a.disturb, 0, .queued⟩

/-- The request is in flight and its slot is booked. -/
def booked : State :=
  { s with ad := { s.ad with inflight := s.ad.inflight ++ [acceptedRequest s m a r d], slots := s.ad.slots ++ [⟨r.win.start, d, m.partner, false⟩],
                             nextId := s.ad.nextId + 1 } }

/-- The lane's finish tag and count of acceptances move on. -/
def acceptedLane : Lane :=
  { laneOf s (msgLane m) with tag := finishTag (getF s AD_VT_V) (laneOf s (msgLane m)).tag (laneWeight (laneOf s (msgLane m))),
                              accepted := (laneOf s (msgLane m)).accepted + 1 }

/-- The acceptance is counted, and every 1,024th sampled in its histogram (R476, R477). -/
def acceptCounted (deliver : Nat) : State :=
  let s3 := lifeRemainder (bump s (cAD_CNT 0)) 11 (2 ^ 20) 1
  let s4 := { s3 with ty := { s3.ty with sampled := (s3.ty.sampled + 1) % 1024 } }
  if (s3.ty.sampled + 1) % 1024 = 0 then histogram s4 9 ((deliver - m.arrival) / 1000) else s4

/-- The body of an ACCEPT (R63). -/
def acceptBody : List Byte :=
  beBytes 1 r.win.entry ++ beBytes 1 (winClass s r.win)
    ++ beBytes 1 ((if decide (a.typ = 2) && a.disturb then 3 else 0) + (if laneCrep (laneOf s (msgLane m)) then 4 else 0)) ++ [0] ++ beBytes 2 a.cells
    ++ epochBytes s ++ beBytes 4 (laneFlight s (msgLane m)).length

/-- The state in which the ACCEPT is queued. -/
def acceptRetained : State :=
  retainNew (acceptCounted (setLane (booked s m a r d) (msgLane m) (acceptedLane s m)) m (r.win.start + 80)) (msgLane m)
    ⟨msgSeq m, 0x81, r.win.start + 80, acceptBody s m a r, r.win.start + 80, false, 0⟩

theorem accept_eq : accept s m a r d = queueReply (acceptRetained s m a r d) m.partner (msgLane m) 0x81 (msgSeq m) (msgEcho m) (r.win.start + 80)
    (acceptBody s m a r) m.route true := rfl

/-- A lifetime counter kept in units touches registers and Tally alone. -/
theorem lifeRemainder_rest (u : State) (i unit n : Nat) : ∃ r x, lifeRemainder u i unit n = { u with regs := r, ty := x } := by
  unfold lifeRemainder
  dsimp only
  split_ifs
  · exact ⟨_, _, rfl⟩
  · unfold lifeBy
    dsimp only
    split_ifs <;> exact ⟨_, _, rfl⟩

theorem acceptCounted_rest (u : State) (n : Nat) : ∃ r x, acceptCounted u m n = { u with regs := r, ty := x } := by
  obtain ⟨r, x, h⟩ := lifeRemainder_rest (bump u (cAD_CNT 0)) 11 (2 ^ 20) 1
  unfold acceptCounted
  rw [h]
  dsimp only
  split_ifs <;> exact ⟨_, _, rfl⟩

theorem acceptCounted_ad (u : State) (n : Nat) : (acceptCounted u m n).ad = u.ad := by obtain ⟨r, x, h⟩ := acceptCounted_rest m u n; rw [h]

theorem acceptCounted_frame (u : State) (n l : Nat) : LaneFrame l u (acceptCounted u m n) := by
  obtain ⟨r, x, h⟩ := acceptCounted_rest m u n
  rw [h]
  exact .of_lanes rfl rfl rfl rfl

theorem accept_admission : (accept s m a r d).ad.inflight = s.ad.inflight ++ [acceptedRequest s m a r d]
    ∧ (accept s m a r d).ad.slots = s.ad.slots ++ [⟨r.win.start, d, m.partner, false⟩] := by
  obtain ⟨x, y, h⟩ := acceptCounted_rest m (setLane (booked s m a r d) (msgLane m) (acceptedLane s m)) (r.win.start + 80)
  rw [accept_eq, acceptRetained, h]
  exact ⟨rfl, rfl⟩

variable {s} (h : LanesWf s)
include h

theorem accept_spec {s0 : State} (hs : shaperOf s m.partner = shaperOf s0 m.partner) :
    LaneFrame (msgLane m) s (accept s m a r d) ∧ Replied s0 (accept s m a r d) m 0x81 (r.win.start + 80) (acceptBody s m a r) := by
  have hbooked : LanesWf (booked s m a r d) := h
  have hset : LaneFrame (msgLane m) (booked s m a r d) (setLane (booked s m a r d) (msgLane m) (acceptedLane s m)) := .setLane hbooked _ rfl
  have hbook : LaneFrame (msgLane m) s (booked s m a r d) := .of_lanes rfl rfl rfl rfl
  have hcount := acceptCounted_frame m (setLane (booked s m a r d) (msgLane m) (acceptedLane s m)) (r.win.start + 80) (msgLane m)
  have had := acceptCounted_ad m (setLane (booked s m a r d) (msgLane m) (acceptedLane s m)) (r.win.start + 80)
  have hwf := lanesWf_congr had (lanesWf_setLane hbooked _ _)
  rw [accept_eq, acceptRetained]
  exact ⟨((((hbook.trans hset).trans hcount).trans (.retainNew hwf _)).trans (.queueReply (lanesWf_retainNew hwf _ _) _ _ _ _ _ _ _ _)),
    replied_queueReply _ _ _ _ _ _ m (lanesWf_retainNew hwf _ _) ((shaperOf_congr had _).trans hs)⟩

end Accept

/-! ### The decision on a request (R131) -/

section RequestStep
variable {s : State} {m : Msg}

/-- The windows that a decision leaves starved are noted (R473). -/
def withStarved (s : State) (l : List Nat) : State := { s with ad := { s.ad with starved := l } }

theorem requestStep_refused {code d : Nat} (h : timeCheck s m = some (code, d) ∨
    (timeCheck s m = none ∧ contentCheck (msgType m) (portCount s) (msgBody m) = some (code, d))) : requestStep m s = refuse s m code 0 d true := by
  unfold requestStep
  rcases h with h | ⟨h, hc⟩
  · simp only [h]
  · simp only [h, hc]

variable (htime : timeCheck s m = none) (hcontent : contentCheck (msgType m) (portCount s) (msgBody m) = none)
include htime hcontent

theorem requestStep_decided_refuse {code time d : Nat} (hd : decision s (askOf s m) = .refuse code time d) :
    ∃ l, requestStep m s = refuse (withStarved s l) m code time d true := by
  unfold askOf at hd
  have hstarved : ∃ l, markStarved s = withStarved s l := by
    unfold markStarved
    split <;> exact ⟨_, rfl⟩
  obtain ⟨l, hl⟩ := hstarved
  simp only [requestStep, htime, hcontent, hd, hl]
  split_ifs <;> exact ⟨_, rfl⟩

theorem requestStep_accepted {r : ReqWin} {d : Nat} (hd : decision s (askOf s m) = .accept r d) :
    ∃ l, requestStep m s = accept (withStarved s l) m (askOf s m) r d := by
  unfold askOf at hd
  simp only [requestStep, htime, hcontent, hd]
  exact ⟨_, rfl⟩

end RequestStep

/-- The row of the request's type takes it to the state of step 6. -/
theorem exec_request {s : State} {m : Msg} {c : Instr} (hl : LanesWf s) (hp : Passes s m)
    (hc : (c = .full noUpsets ∧ msgType m = 1) ∨ (c = .delta noUpsets ∧ msgType m = 2) ∨ (c = .group noUpsets ∧ msgType m = 3)) :
    exec c s = .next (requestStep m (atStep6 s m)) := by
  rw [← process_passes hl hp (requestStep m)]
  rcases hc with ⟨rfl, ht⟩ | ⟨rfl, ht⟩ | ⟨rfl, ht⟩ <;> exact congrArg Host.Outcome.next (admitRequest_head hp.1 ht)

/-- What a request leaves of its message's queue, of the memories and of the lanes, whatever becomes of it. -/
theorem request_frame {s t : State} {m : Msg} (hl : LanesWf s) (h : LaneFrame (msgLane m) (atStep6 s m) t) :
    t.tg.inbox = s.tg.inbox.tail ∧ t.mem = s.mem ∧ t.flash = s.flash
      ∧ (laneOf t (msgLane m)).expSeq = (if msgOOS m then (laneOf s (msgLane m)).expSeq else ((laneOf s (msgLane m)).expSeq + 1) % 2 ^ 32)
      ∧ ∀ k, k ≠ msgLane m → laneOf t k = laneOf s k := by
  refine ⟨?_, h.mem, h.flash, ?_, fun k hk => (h.others k hk).trans (laneOf_atStep6_other k hk)⟩
  · rw [h.tg, atStep6_inbox, List.drop_one]
  · rw [h.expSeq, laneOf_atStep6_same hl]
    rfl

/-- What a refusal of a message in the state of step 6 does, and what it leaves alone. -/
theorem refused_spec {s : State} {m : Msg} (hl : LanesWf s) (l : List Nat) (code time d : Nat) :
    LaneFrame (msgLane m) (atStep6 s m) (refuse (withStarved (atStep6 s m) l) m code time d true)
      ∧ (refuse (withStarved (atStep6 s m) l) m code time d true).ad.inflight = s.ad.inflight
      ∧ (refuse (withStarved (atStep6 s m) l) m code time d true).ad.slots = s.ad.slots
      ∧ Replied s (refuse (withStarved (atStep6 s m) l) m code time d true) m 0x82 time (refuseBody s code d) := by
  have hwf : LanesWf (withStarved (atStep6 s m) l) := lanesWf_atStep6 (m := m) hl
  have hstarved : LaneFrame (msgLane m) (atStep6 s m) (withStarved (atStep6 s m) l) := .of_lanes rfl rfl rfl rfl
  obtain ⟨hflight, hslots⟩ := refuse_admission (s := withStarved (atStep6 s m) l) m code time d
  exact ⟨hstarved.trans (refuse_frame m code time d hwf), hflight, hslots, replied_refuse m code time d hwf rfl⟩

/-- Whatever becomes of a request, of the lanes only its own changes. -/
theorem requestStep_frame {s : State} {m : Msg} (hl : LanesWf s) : LaneFrame (msgLane m) (atStep6 s m) (requestStep m (atStep6 s m)) := by
  have hwf : LanesWf (atStep6 s m) := lanesWf_atStep6 hl
  cases htime : timeCheck (atStep6 s m) m with
  | some x => exact requestStep_refused (.inl htime) ▸ refuse_frame m _ 0 _ hwf
  | none =>
    cases hcontent : contentCheck (msgType m) (portCount (atStep6 s m)) (msgBody m) with
    | some x => exact requestStep_refused (.inr ⟨htime, hcontent⟩) ▸ refuse_frame m _ 0 _ hwf
    | none =>
      cases hd : decision (atStep6 s m) (askOf (atStep6 s m) m) with
      | refuse code time d =>
        obtain ⟨l, h⟩ := requestStep_decided_refuse htime hcontent hd
        exact h ▸ (refused_spec hl l code time d).1
      | accept r d =>
        obtain ⟨l, h⟩ := requestStep_accepted htime hcontent hd
        have hstarved : LaneFrame (msgLane m) (atStep6 s m) (withStarved (atStep6 s m) l) := .of_lanes rfl rfl rfl rfl
        exact h ▸ hstarved.trans (accept_spec m _ r d (s := withStarved (atStep6 s m) l) hwf (s0 := s) rfl).1

/-- Settles O18: a request comes to step 6 of R131, where it is refused by its checks or its decision, or accepted. -/
theorem requests : Obligations.Requests := by
  unfold Obligations.Requests
  intro s m c hl hp hc
  obtain ⟨hinbox, hmem, hflash, hseq, hothers⟩ := request_frame hl (requestStep_frame (m := m) hl)
  refine ⟨_, exec_request hl hp hc, hinbox, hmem, hflash, hseq, hothers, fun code d htime => ?_, fun code d htime hcontent => ?_,
    fun code time d htime hcontent hd => ?_, fun r d htime hcontent hd => ?_⟩
  · rw [requestStep_refused (s := atStep6 s m) (.inl htime)]
    exact (refused_spec hl (atStep6 s m).ad.starved code 0 d).2
  · rw [requestStep_refused (s := atStep6 s m) (.inr ⟨htime, hcontent⟩)]
    exact (refused_spec hl (atStep6 s m).ad.starved code 0 d).2
  · obtain ⟨l, h⟩ := requestStep_decided_refuse (s := atStep6 s m) htime hcontent hd
    rw [h]
    exact (refused_spec hl l code time d).2
  · obtain ⟨l, h⟩ := requestStep_accepted (s := atStep6 s m) htime hcontent hd
    have hwf : LanesWf (withStarved (atStep6 s m) l) := lanesWf_atStep6 (m := m) hl
    obtain ⟨hflight, hslots⟩ := accept_admission (withStarved (atStep6 s m) l) m (askOf (atStep6 s m) m) r d
    rw [h]
    exact ⟨⟨_, hflight, rfl, rfl, rfl, rfl, rfl, rfl, rfl, rfl, rfl⟩, hslots, _, (accept_spec m (askOf (atStep6 s m) m) r d hwf rfl).2⟩

end Sys2Proof.Machine

namespace Sys2Proof.Machine

/-! ### Telemetry that replaces (R80) -/

/-- A message of a stream. -/
def ofStream (k : Nat) (x : OutMsg) : Bool := decide (x.stream = some k)

/-- The telemetry queue with the messages of a stream in place of those that wait of it: where the first of them stood, else at the end. -/
def replaced (q : List OutMsg) (k : Nat) (msgs : List OutMsg) : List OutMsg :=
  q.takeWhile (fun x => ! ofStream k x) ++ msgs ++ (q.dropWhile (fun x => ! ofStream k x)).filter (fun x => ! ofStream k x)

section Replaced
variable (q msgs : List OutMsg) (k : Nat) (h : ∀ x ∈ msgs, x.stream = some k)

/-- With none of the stream waiting the messages join the end. -/
theorem replaced_none (hq : q.any (ofStream k) = false) : replaced q k msgs = q ++ msgs := by
  have hall : ∀ x ∈ q, (! ofStream k x) = true := by simpa using hq
  rw [replaced, List.takeWhile_eq_self_iff.mpr hall, List.dropWhile_eq_nil_iff.mpr hall, List.filter_nil, List.append_nil]

include h

/-- Of the stream only the new messages wait. -/
theorem filter_replaced_same : (replaced q k msgs).filter (ofStream k) = msgs := by
  have hbefore : (q.takeWhile (fun x => ! ofStream k x)).filter (ofStream k) = [] :=
    List.filter_eq_nil_iff.mpr fun x hx => by simpa using List.mem_takeWhile_imp hx
  have hmsgs : msgs.filter (ofStream k) = msgs := List.filter_eq_self.mpr fun x hx => decide_eq_true (h x hx)
  rw [replaced, List.filter_append, List.filter_append, List.filter_filter, hbefore, hmsgs]
  simp

/-- Of the other streams everything still waits, in its order. -/
theorem filter_replaced_other : (replaced q k msgs).filter (fun x => ! ofStream k x) = q.filter (fun x => ! ofStream k x) := by
  have hmsgs : msgs.filter (fun x => ! ofStream k x) = [] := List.filter_eq_nil_iff.mpr fun x hx => by simp [ofStream, h x hx]
  rw [replaced, List.filter_append, List.filter_append, hmsgs, List.append_nil, List.filter_filter]
  simp only [Bool.and_self]
  rw [← List.filter_append, List.takeWhile_append_dropWhile]

end Replaced

section QueueTelemetry
variable (s : State) (p k : Nat) (msgs : List OutMsg)

/-- The partner's shaper with the stream's messages replaced. -/
def telemetryReplaced : State := setShaper s p { shaperOf s p with telemetry := replaced (shaperOf s p).telemetry k msgs }

/-- What waits of a stream is replaced, which is counted where something waited. -/
theorem queueTelemetry_eq : queueTelemetry s p k msgs =
    if (shaperOf s p).telemetry.any (ofStream k) then bump (telemetryReplaced s p k msgs) (cLN_CNT (4 * p + 2)) else telemetryReplaced s p k msgs := by
  cases hany : (shaperOf s p).telemetry.any (ofStream k) with
  | true => exact if_pos hany
  | false =>
    rw [telemetryReplaced, replaced_none _ _ _ hany]
    exact if_neg (Bool.eq_false_iff.mp hany)

theorem queueTelemetry_regs : RegsOnly (telemetryReplaced s p k msgs) (queueTelemetry s p k msgs) := by
  rw [queueTelemetry_eq]
  split
  · exact .bump _ _
  · exact .refl _

theorem shaperOf_queueTelemetry (h : LanesWf s) :
    shaperOf (queueTelemetry s p k msgs) p = { shaperOf s p with telemetry := replaced (shaperOf s p).telemetry k msgs } :=
  (shaperOf_congr (queueTelemetry_regs s p k msgs).ad p).trans (shaperOf_setShaper_same h p _)

end QueueTelemetry

/-- Settles O27: the new messages stand between what preceded the first of the stream and what followed it of other streams. -/
theorem telemetryReplaces : Obligations.TelemetryReplaces := by
  unfold Obligations.TelemetryReplaces
  intro s p k msgs hc hl hm
  have hshaper := shaperOf_queueTelemetry s p k msgs hl
  have hother : (fun x : OutMsg => decide (x.stream ≠ some k)) = fun x => ! ofStream k x := funext fun x => decide_not
  rw [hshaper, hother]
  refine ⟨filter_replaced_same _ _ _ hm, filter_replaced_other _ _ _ hm, rfl, fun ⟨x, hx, hk⟩ => ?_, fun hnone => ?_⟩
  · have hany : (shaperOf s p).telemetry.any (ofStream k) = true := List.any_eq_true.mpr ⟨x, hx, decide_eq_true hk⟩
    rw [queueTelemetry_eq, if_pos hany]
    exact count_bumpBy (telemetryReplaced s p k msgs) _ 1 hc.1
  · exact replaced_none _ _ _ (List.any_eq_false.mpr fun x hx => by simpa [ofStream] using hnone x hx)

end Sys2Proof.Machine

namespace Sys2Proof.Machine

/-! ### A message that starts (R138, R139) -/

section StartMsg
variable (s : State) (n : Nat) (m : OutMsg)

/-- The frame of a message is on its way. -/
def frameSent : State := { s with ad := { s.ad with tx := some (frameFor s m (wayOf s m)) } }

/-- A message that starts changes, beside registers, the frame sent and the level of its partner's shaper. -/
theorem startMsg_eq : RegsOnly (frameSent s m) (startMsg s n m)
    ∨ ∃ b, RegsOnly (setShaper (frameSent s m) n { shaperOf s n with bucket := b }) (startMsg s n m) := by
  have hsent : RegsOnly (frameSent s m) (bump (sendFrame s (frameFor s m (wayOf s m))) (cLN_CNT (4 * n))) := ⟨_, rfl⟩
  have hcharged : ∀ (u : State) (a c : Nat) (b : Bucket), RegsOnly (frameSent s m) u →
      RegsOnly (setShaper (frameSent s m) n { shaperOf s n with bucket := b }) (setShaper (bumpBy u a c) n { shaperOf u n with bucket := b }) := by
    rintro u a c b ⟨r, rfl⟩
    exact ⟨_, rfl⟩
  unfold startMsg
  dsimp only
  split
  · exact .inl hsent
  split
  · exact .inr ⟨_, (hcharged _ _ _ _ hsent).trans (.bump _ _)⟩
  · exact .inr ⟨_, hcharged _ _ _ _ hsent⟩

theorem startMsg_spec (h : LanesWf s) : (startMsg s n m).ad.tx = some (frameFor s m (wayOf s m)) ∧ (startMsg s n m).ad.lanes = s.ad.lanes
    ∧ (startMsg s n m).mem = s.mem ∧ (shaperOf (startMsg s n m) n).replies = (shaperOf s n).replies
    ∧ (shaperOf (startMsg s n m) n).telemetry = (shaperOf s n).telemetry := by
  rcases startMsg_eq s n m with hr | ⟨b, hr⟩
  · rw [shaperOf_congr hr.ad, hr.ad, hr.mem]
    exact ⟨rfl, rfl, rfl, rfl, rfl⟩
  · have hshaper := shaperOf_setShaper_same (s := frameSent s m) h n { shaperOf s n with bucket := b }
    rw [shaperOf_congr hr.ad, hr.ad, hr.mem, hshaper]
    exact ⟨rfl, rfl, rfl, rfl, rfl⟩

end StartMsg

section EgressSend
variable {s : State} {n : Partner} {m : OutMsg} {rest : List OutMsg} (hopen : shaperOpen s n = true ∨ 0 ≤ shaperLevel s n)
include hopen

/-- A shaper that passes messages: it is open, or its level is at least 0. -/
theorem shaper_passes : ¬ (shaperOpen s n = false ∧ shaperLevel s n < 0) := by
  rintro ⟨hshut, hlow⟩
  rcases hopen with h | h
  · exact Bool.false_ne_true (hshut.symm.trans h)
  · omega

theorem exec_egress_reply (ht : takeFirst s (shaperOf s n).replies = some (m, rest)) :
    exec (.egressSend n) s = .next (startMsg (setShaper s n { shaperOf s n with replies := rest }) n m) := by
  refine (if_neg (shaper_passes hopen)).trans ?_
  simp only [ht]

theorem exec_egress_telemetry (hr : takeFirst s (shaperOf s n).replies = none) (ht : takeFirst s (shaperOf s n).telemetry = some (m, rest)) :
    exec (.egressSend n) s = .next (startMsg (setShaper s n { shaperOf s n with telemetry := rest }) n m) := by
  refine (if_neg (shaper_passes hopen)).trans ?_
  simp only [hr, ht]

end EgressSend

/-! ### CREDIT (R53) -/

/-- The lane's count of device messages moves on (R47). -/
def deviceCounted (s : State) (l : Nat) : State := setLane s l { laneOf s l with devCnt := ((laneOf s l).devCnt + 1) % 2 ^ 32 }

theorem lanesWf_deviceCounted {s : State} (h : LanesWf s) (l : Nat) : LanesWf (deviceCounted s l) := lanesWf_setLane h _ _

/-- Of its lane a queued message changes only the L that was shown. -/
theorem laneOf_queueReply_keeps {α : Type} (π : Lane → α) {s : State} (h : LanesWf s) (hπ : ∀ x v, π { x with shownL := v } = π x)
    (p l typ seq echo time : Nat) (body : List Byte) (r : Route) (counts : Bool) (k : Nat) :
    π (laneOf (queueReply s p l typ seq echo time body r counts) k) = π (laneOf s k) :=
  laneOf_setLane_keeps π (lanesWf_setShaper h p _) l { laneOf s l with shownL := laneL s l } (hπ _ _) k

section Unsolicited
variable {s : State} {l typ time : Nat} {body : List Byte} {r : Route} (hr : (laneOf s l).route = some r)
include hr

theorem queueUnsolicited_eq : queueUnsolicited s l typ time body =
    queueReply (deviceCounted s l) (lanePartner (laneOf s l)) l typ (laneOf s l).devCnt 0 time body r false := by
  unfold queueUnsolicited
  rw [hr]
  rfl

variable (h : LanesWf s)
include h

/-- The partner's reply queue gains the message, with the lane's count in SEQ and its L in CREDIT. -/
theorem replies_queueUnsolicited : (shaperOf (queueUnsolicited s l typ time body) (lanePartner (laneOf s l))).replies =
    (shaperOf s (lanePartner (laneOf s l))).replies ++ [⟨l, typ, (laneOf s l).devCnt, 0, time, laneL s l, body, r, false, true, none⟩] := by
  have hlane : laneOf (deviceCounted s l) l = { laneOf s l with devCnt := ((laneOf s l).devCnt + 1) % 2 ^ 32 } := laneOf_setLane_same h _ _
  have hL : laneL (deviceCounted s l) l = laneL s l := by
    unfold laneL
    rw [hlane]
    rfl
  rw [queueUnsolicited_eq hr, replies_queueReply _ _ _ _ _ _ _ _ _ _ (lanesWf_deviceCounted h l), hL]
  rfl

theorem devCnt_queueUnsolicited : (laneOf (queueUnsolicited s l typ time body) l).devCnt = ((laneOf s l).devCnt + 1) % 2 ^ 32 := by
  rw [queueUnsolicited_eq hr, laneOf_queueReply_keeps Lane.devCnt (lanesWf_deviceCounted h l) (fun _ _ => rfl), deviceCounted, laneOf_setLane_same h]

end Unsolicited

/-- A CREDIT that is due goes out, its timer disarmed (R53). -/
theorem exec_creditTimer {s : State} {l : LaneIx} (h : due s (.credit l) = true) :
    exec (.creditTimer l) s = .next (queueUnsolicited (disarm s (.credit l)) l 0x84 0 []) := if_pos h

/-! ### Telemetry periods (R79) -/

section TelemetryPeriod
variable (s : State) (p k : Nat) (b : Sub)

/-- What a stream's messages change: registers, deadlines, lanes and shapers. -/
theorem sendTelemetry_rest : ∃ r t l x, sendTelemetry s p k b = { s with regs := r, timers := t, ad := { s.ad with lanes := l, shapers := x } } := by
  have hqueue : ∀ (x : Lane) (msgs : List OutMsg), ∃ r l y, queueTelemetry (setLane s b.lane x) p k msgs = { s with regs := r, ad := { s.ad with lanes := l, shapers := y } } := by
    intro x msgs
    obtain ⟨r, hr⟩ := queueTelemetry_regs (setLane s b.lane x) p k msgs
    exact ⟨r, _, _, hr⟩
  unfold sendTelemetry
  split
  · exact ⟨_, _, _, _, rfl⟩
  · dsimp only
    generalize telemetryMsgs s k b _ _ = msgs
    obtain ⟨r, l, y, h⟩ := hqueue { laneOf s b.lane with devCnt := ((laneOf s b.lane).devCnt + msgs.length) % 2 ^ 32, shownL := laneL s b.lane } msgs
    rw [h]
    exact ⟨_, _, _, _, rfl⟩

end TelemetryPeriod

/-- A period that has ended: the stream's messages are queued, its next period starts where this one ended, and lane statistics start again (R79, R472). -/
def nextPeriod (s : State) (n k : Nat) (b : Sub) (d : Nat) : State :=
  setSub (armAt (sendTelemetry s n k b) (.telemetry n k) (d + 4000000 * b.period)) n k (some { b with base := statBase s n })

theorem exec_telemetryPeriod {s : State} {n : Partner} {k : Fin 4} {b : Sub} {d : Nat} (hb : subOf s n k = some b)
    (hd : timerAt (.telemetry n k) s.timers = some d) (hdue : d ≤ s.elapsed) : exec (.telemetryPeriod n k) s = .next (nextPeriod s n k b d) := by
  change execTelemetryPeriod n k s = _
  unfold execTelemetryPeriod
  rw [hb, hd]
  exact if_pos hdue

/-- Settles O26: a shaper takes the first reply and only then telemetry; a CREDIT and a telemetry period are followed through their queues. -/
theorem egress : Obligations.Egress := by
  unfold Obligations.Egress
  refine ⟨fun s n m rest hl hopen ht => ?_, fun s n m rest hl hopen hr ht => ?_, fun s n hshut hlow => if_pos ⟨hshut, hlow⟩,
    fun s l r hl hdue hr => ?_, fun s n k b d hsubs hb hd hdue => ?_⟩
  · have hshaper := shaperOf_setShaper_same hl n { shaperOf s n with replies := rest }
    obtain ⟨htx, hlanes, hmem, hreplies, htelemetry⟩ := startMsg_spec (setShaper s n { shaperOf s n with replies := rest }) n m (lanesWf_setShaper hl _ _)
    rw [hshaper] at hreplies htelemetry
    exact ⟨_, exec_egress_reply hopen ht, hreplies, htelemetry, htx, hlanes, hmem⟩
  · have hshaper := shaperOf_setShaper_same hl n { shaperOf s n with telemetry := rest }
    obtain ⟨htx, -, hmem, hreplies, htelemetry⟩ := startMsg_spec (setShaper s n { shaperOf s n with telemetry := rest }) n m (lanesWf_setShaper hl _ _)
    rw [hshaper] at hreplies htelemetry
    exact ⟨_, exec_egress_telemetry hopen hr ht, htelemetry, hreplies, htx, hmem⟩
  · have hr' : (laneOf (disarm s (.credit l)) l).route = some r := hr
    have hl' : LanesWf (disarm s (.credit l)) := hl
    refine ⟨_, exec_creditTimer hdue, ?_, ⟨_, replies_queueUnsolicited hr' hl', rfl, rfl, rfl, rfl, rfl⟩, devCnt_queueUnsolicited hr' hl', ?_, ?_⟩
    · rw [queueUnsolicited_eq hr']
      exact timerAt_disarm_same _ _
    · rw [queueUnsolicited_eq hr']
      rfl
    · rw [queueUnsolicited_eq hr']
      rfl
  · obtain ⟨r, t, l, x, hsent⟩ := sendTelemetry_rest s n k b
    refine ⟨_, exec_telemetryPeriod hb hd hdue, ?_, ⟨{ b with base := statBase s n }, ?_, rfl, rfl, rfl⟩, ?_, ?_⟩
    · exact timerAt_armAt_same _ _ _
    · refine subOf_setSub_same _ k n _ ?_
      rw [armAt_ad, hsent]
      exact hsubs
    · rw [nextPeriod, hsent]
      rfl
    · rw [nextPeriod, hsent]
      rfl

end Sys2Proof.Machine

namespace Sys2Proof.Machine

/-! ### The due request (R126) -/

/-- The request found so far against the next one: the one that is delivered first, of two at one time the one found. -/
def sooner (x r : Request) : Request := if r.deliver < x.deliver then r else x

theorem sooner_eq_or (x r : Request) : sooner x r = r ∨ sooner x r = x := by
  unfold sooner
  split
  · exact .inl rfl
  · exact .inr rfl

theorem sooner_le (x r : Request) : (sooner x r).deliver ≤ x.deliver ∧ (sooner x r).deliver ≤ r.deliver := by
  unfold sooner
  split <;> omega

/-- Of requests the one that is found is one of them, and none is delivered before it. -/
theorem foldl_sooner (l : List Request) (x : Request) :
    l.foldl sooner x ∈ x :: l ∧ ∀ r ∈ x :: l, (l.foldl sooner x).deliver ≤ r.deliver := by
  induction l generalizing x with
  | nil => simp
  | cons r l ih =>
    obtain ⟨hmem, hfirst⟩ := ih (sooner x r)
    obtain ⟨hthis, hrest⟩ := List.forall_mem_cons.mp hfirst
    obtain ⟨hx, hr⟩ := sooner_le x r
    rw [List.foldl_cons]
    refine ⟨?_, List.forall_mem_cons.mpr ⟨hthis.trans hx, List.forall_mem_cons.mpr ⟨hthis.trans hr, hrest⟩⟩⟩
    rcases List.mem_cons.mp hmem with h | h
    · rcases sooner_eq_or x r with he | he <;> rw [h, he] <;> simp
    · simp [h]

/-- The search goes through the due requests one by one. -/
theorem dueDelivery_of_cons {s : State} {x : Request} {l : List Request} (h : s.ad.inflight.filter (fun r => decide (r.deliver ≤ netNs s)) = x :: l) :
    dueDelivery s = some (l.foldl sooner x) := by
  have hfold : ∀ (l : List Request) (x : Request), l.foldl (fun b r => match b with
      | none => some r
      | some x => if r.deliver < x.deliver then some r else some x) (some x) = some (l.foldl sooner x) := by
    intro l
    induction l with
    | nil => intro x; rfl
    | cons r l ih =>
      intro x
      rw [List.foldl_cons, List.foldl_cons, ← ih]
      simp only [sooner]
      split <;> rfl
  unfold dueDelivery
  rw [h]
  exact hfold l x

/-- The due request is in flight, its time has come, and none in flight is delivered before it. -/
theorem dueDelivery_spec {s : State} {q : Request} (h : dueDelivery s = some q) :
    q ∈ s.ad.inflight ∧ q.deliver ≤ netNs s ∧ ∀ r ∈ s.ad.inflight, q.deliver ≤ r.deliver := by
  cases hd : s.ad.inflight.filter (fun r => decide (r.deliver ≤ netNs s)) with
  | nil => simp [dueDelivery, hd] at h
  | cons x l =>
    obtain rfl := Option.some.inj ((dueDelivery_of_cons hd).symm.trans h)
    obtain ⟨hmem, hfirst⟩ := foldl_sooner l x
    rw [← hd] at hmem hfirst
    obtain ⟨hflight, hdue⟩ := List.mem_filter.mp hmem
    refine ⟨hflight, of_decide_eq_true hdue, fun r hr => ?_⟩
    by_cases hrdue : r.deliver ≤ netNs s
    · exact hfirst r (List.mem_filter.mpr ⟨hr, decide_eq_true hrdue⟩)
    · exact (of_decide_eq_true hdue).trans (Nat.le_of_not_le hrdue)

/-! ### A delivery (R71, R119, R120) -/

section Deliver
variable (s : State) (q : Request)

/-- The request has left flight, counted in Admission, in Tally and in its lifetime counter. -/
def deliveredCounted : State := lifeRemainder (bump (bump (dropRequest s q.id) (cAD_CNT 20)) (cTY_SLOT 0)) 12 (2 ^ 20) 1

/-- The body of a COMPLETE (R71). -/
def completeBody : List Byte := [0#8, 0#8] ++ epochBytes s

/-- The reply that is retained for a delivered request without a COMPLETE: the one that was, marked as delivered. -/
def deliveredRetained : Retained :=
  match (laneOf (deliveredCounted s q) q.lane).retained.find? (fun r => decide (r.seq = q.seq)) with
  | some r => { r with deliver := q.deliver, delivered := true, disturbed := q.disturbed }
  | none => ⟨q.seq, 0x83, q.deliver, completeBody s, q.deliver, true, q.disturbed⟩

/-- The state in which a COMPLETE is queued. -/
def completeRetained : State :=
  retainAgain (deliveredCounted s q) q.lane ⟨q.seq, 0x83, q.deliver, completeBody s, q.deliver, true, q.disturbed⟩

/-- What a delivery leaves for the partner: with CREP a COMPLETE, and otherwise the retained reply, marked (R71). -/
def deliveryReply : State :=
  if q.crep then queueReport (completeRetained s q) q 0x83 q.deliver (completeBody s) else retainAgain (deliveredCounted s q) q.lane (deliveredRetained s q)

theorem deliverRequest_eq : deliverRequest s q = creditMoved (deliveryReply s q) q.lane := rfl

theorem deliveredCounted_rest : ∃ r x, deliveredCounted s q = { dropRequest s q.id with regs := r, ty := x } :=
  lifeRemainder_rest (bump (bump (dropRequest s q.id) (cAD_CNT 20)) (cTY_SLOT 0)) 12 (2 ^ 20) 1

theorem deliveredCounted_ad : (deliveredCounted s q).ad = (dropRequest s q.id).ad := by obtain ⟨r, x, h⟩ := deliveredCounted_rest s q; rw [h]

theorem creditMoved_mem (l : Nat) : (creditMoved s l).mem = s.mem := by obtain ⟨x, h⟩ := creditMoved_rest s l; rw [h]
theorem creditMoved_flash (l : Nat) : (creditMoved s l).flash = s.flash := by obtain ⟨x, h⟩ := creditMoved_rest s l; rw [h]

theorem queueReport_flash (typ time : Nat) (body : List Byte) : (queueReport s q typ time body).flash = s.flash :=
  queueReport_keeps s q typ time body (·.flash) fun _ => rfl

theorem deliveryReply_spec : (deliveryReply s q).ad.inflight = s.ad.inflight.filter (fun r => decide (r.id ≠ q.id))
    ∧ (deliveryReply s q).mem = s.mem ∧ (deliveryReply s q).flash = s.flash := by
  obtain ⟨r, x, h⟩ := deliveredCounted_rest s q
  unfold deliveryReply
  split
  · rw [queueReport_inflight, queueReport_mem, queueReport_flash, completeRetained, h]
    exact ⟨rfl, rfl, rfl⟩
  · rw [h]
    exact ⟨rfl, rfl, rfl⟩

theorem deliverRequest_spec : (deliverRequest s q).ad.inflight = s.ad.inflight.filter (fun r => decide (r.id ≠ q.id))
    ∧ (deliverRequest s q).mem = s.mem ∧ (deliverRequest s q).flash = s.flash := by
  rw [deliverRequest_eq, creditMoved_ad, creditMoved_mem, creditMoved_flash]
  exact deliveryReply_spec s q

variable {s q}

/-- With CREP a COMPLETE is queued on the way of the lane's latest message. -/
theorem replies_deliverRequest (hl : LanesWf s) (hcrep : q.crep = true) (hr : (laneOf s q.lane).route.isSome = true) : ∃ o : OutMsg,
    (shaperOf (deliverRequest s q) q.partner).replies = (shaperOf s q.partner).replies ++ [o] ∧ o.typ = 0x83 ∧ o.seq = q.seq ∧ o.time = q.deliver := by
  have hwf : LanesWf (deliveredCounted s q) := by unfold LanesWf; rw [deliveredCounted_ad]; exact hl
  have hroute : (laneOf (deliveredCounted s q) q.lane).route = (laneOf s q.lane).route := by unfold laneOf; rw [deliveredCounted_ad]; rfl
  have hshaper : shaperOf (deliveredCounted s q) q.partner = shaperOf s q.partner := by unfold shaperOf; rw [deliveredCounted_ad]; rfl
  obtain ⟨o, ho, htyp, hseq, htime, -⟩ := replies_queueReport (completeRetained s q) q 0x83 q.deliver (completeBody s) (lanesWf_setLane hwf _ _)
    (by rw [completeRetained, route_retainAgain _ hwf, hroute, hr])
  refine ⟨o, ?_, htyp, hseq, htime⟩
  rw [deliverRequest_eq, deliveryReply, if_pos hcrep, shaperOf_congr (creditMoved_ad _ _), ho, completeRetained, shaperOf_retainAgain, hshaper]

/-- Without CREP nothing is queued. -/
theorem shapers_deliverRequest (hcrep : q.crep = false) : (deliverRequest s q).ad.shapers = s.ad.shapers := by
  obtain ⟨r, x, h⟩ := deliveredCounted_rest s q
  rw [deliverRequest_eq, deliveryReply, if_neg (Bool.eq_false_iff.mp hcrep), creditMoved_ad, h]
  rfl

end Deliver

theorem exec_delivery {s : State} {q : Request} (h : dueDelivery s = some q) : exec .delivery s = .next (deliverRequest s q) := by
  change execDelivery s = _
  unfold execDelivery
  rw [h]

/-! ### The slots of a window (R473) -/

section Classify
variable (s : State) (r : ReqWin)

/-- The starvation count that an unbooked slot of a window joins: back-starved where a request was refused for resources or passed over. -/
def starvedCount (r : ReqWin) : Nat := if s.ad.starved.any (fun w => decide (w = r.win.start)) then 3 else 2

/-- A window is classified: its unbooked slots are counted. -/
def slotsCounted : State :=
  bumpBy s (cTY_SLOT (starvedCount s r)) (slotsOf s r - (s.ad.slots.filter (fun x => decide (x.tW = r.win.start))).length)

theorem exec_slotClassify {s : State} {r : ReqWin} (hrun : flag s LS_CTRL_RUN = true) (hr : firstReq s (s.ad.closed + 1) = some r)
    (hclose : closeOf s r.win.start ≤ (netNs s : Int)) (hstep : beyondStep s r.win.start = false) : ∃ x y z,
    exec .slotClassify s = .next { slotsCounted s r with ad := { s.ad with closed := r.win.start, booked := x, starved := y, slots := z } } := by
  change ∃ x y z, execSlotClassify s = _
  have hnot : ¬ ((netNs s : Int) < closeOf s r.win.start ∨ beyondStep s r.win.start = true) := by
    rintro (h | h)
    · omega
    · exact Bool.false_ne_true (hstep.symm.trans h)
  unfold execSlotClassify
  simp only [hrun, hr, hnot, if_false, Bool.true_eq_false]
  exact ⟨_, _, _, rfl⟩

end Classify

/-- Settles O24: the search for the due request keeps one that is delivered first; the delivery and the classification are followed through what they count. -/
theorem deliveryAndSlots : Obligations.DeliveryAndSlots := by
  unfold Obligations.DeliveryAndSlots
  refine ⟨fun s q hl hq => ?_, fun s r hc hrun hr hclose hstep => ?_⟩
  · obtain ⟨hmem, hdue, hfirst⟩ := dueDelivery_spec hq
    obtain ⟨hflight, hmemory, hflash⟩ := deliverRequest_spec s q
    exact ⟨_, exec_delivery hq, hflight, hmem, hdue, hfirst, replies_deliverRequest hl, shapers_deliverRequest, hmemory, hflash⟩
  · obtain ⟨x, y, z, hexec⟩ := exec_slotClassify hrun hr hclose hstep
    exact ⟨_, hexec, rfl, rfl, count_bumpBy s (cTY_SLOT (starvedCount s r)) _ hc.1, rfl, rfl⟩

end Sys2Proof.Machine

namespace Sys2Proof.Machine

/-! ## The epoch over a step (R82, R408)

Each operation of the model, in the order of the model's files, leaves the epoch as it is; only the rows that write the
epoch record or read the log's newest do not. `simp` with `-implicitDefEqProofs` writes its rewrites out, where the kernel would
otherwise evaluate a definition's tests to see that they hold by unfolding. -/

@[simp] theorem epoch_ite (c : Prop) [Decidable c] (a b : State) : (if c then a else b).epoch = if c then a.epoch else b.epoch :=
  apply_ite _ _ _ _

@[simp] theorem foldl_epoch {α : Type} {f : State → α → State} (hf : ∀ s a, (f s a).epoch = s.epoch) (l : List α) (s : State) :
    (l.foldl f s).epoch = s.epoch := by
  induction l generalizing s with
  | nil => rfl
  | cons a l ih => exact (ih _).trans (hf s a)

/-- An outcome that, where it gives a next state, keeps the epoch. -/
def KeepsEpoch (s : State) (o : Out) : Prop := ∀ t, o = .next t → t.epoch = s.epoch

@[simp] theorem keepsEpoch_next (s t : State) : KeepsEpoch s (.next t) ↔ t.epoch = s.epoch :=
  ⟨fun h => h t rfl, fun h u hu => by cases hu; exact h⟩

@[simp] theorem keepsEpoch_ite (s : State) (c : Prop) [Decidable c] (a b : Out) :
    KeepsEpoch s (if c then a else b) ↔ (c → KeepsEpoch s a) ∧ (¬ c → KeepsEpoch s b) := by
  split <;> simp_all

section
variable (s : State)

/-! ### Ops -/

@[simp] theorem lifeBy_epoch (i n : Nat) : (lifeBy s i n).epoch = s.epoch := by simp [lifeBy]
@[simp] theorem life_epoch (i : Nat) : (life s i).epoch = s.epoch := by simp [life]
@[simp] theorem lifeRemainder_epoch (i unit n : Nat) : (lifeRemainder s i unit n).epoch = s.epoch := by simp [lifeRemainder]

@[simp] theorem wrBytes_epoch (a : Nat) (bs : List Byte) : (wrBytes s a bs).epoch = s.epoch := by
  induction bs generalizing s a with
  | nil => rfl
  | cons b bs ih => exact ih _ _

@[simp] theorem wrMem_epoch (a n v : Nat) : (wrMem s a n v).epoch = s.epoch := by simp [wrMem]

@[simp] theorem flashProgram_epoch (a : Nat) (bs : List Byte) : (flashProgram s a bs).epoch = s.epoch := by
  induction bs generalizing s a with
  | nil => rfl
  | cons b bs ih => exact ih _ _

@[simp] theorem flashErase_epoch (a n : Nat) : (flashErase s a n).epoch = s.epoch := rfl

@[simp] theorem divFree_epoch (a : Int) (d : Nat) : (divFree s a d).2.epoch = s.epoch := by
  unfold divFree
  split_ifs <;> rfl

@[simp] theorem report_epoch (m : BitVec 64) : (report s m).epoch = s.epoch := by simp [report]
@[simp] theorem meetUpset_epoch (u : MemUpset) : (meetUpset s u).epoch = s.epoch := by simp [meetUpset]
@[simp] theorem meetEcc_epoch (us : List MemUpset) : (meetEcc s us).epoch = s.epoch := by simp [meetEcc]

/-! ### Matrix -/

@[simp] theorem releaseLock_epoch (master : Nat) : (releaseLock s master).epoch = s.epoch := by
  unfold releaseLock
  split <;> simp
@[simp] theorem masterReset_epoch (master : Nat) (burst : Option Burst) : (masterReset s master burst).epoch = s.epoch := by simp [masterReset]
@[simp] theorem jointDown_epoch (j : Nat) : (jointDown s j).epoch = s.epoch := by simp [jointDown]

/-! ### Ports -/

@[simp] theorem sendFrame_epoch (f : OutFrame) : (sendFrame s f).epoch = s.epoch := rfl
@[simp] theorem sendPfc_epoch (p prio quanta : Nat) : (sendPfc s p prio quanta).epoch = s.epoch := by simp [sendPfc]
@[simp] theorem setXoff_epoch (p prio : Nat) (b : Bool) : (setXoff s p prio b).epoch = s.epoch := rfl
@[simp] theorem pfcRise_epoch (p prio : Nat) : (pfcRise s p prio).epoch = s.epoch := by simp [pfcRise]
@[simp] theorem pfcFall_epoch (p prio : Nat) : (pfcFall s p prio).epoch = s.epoch := by simp [pfcFall]
@[simp] theorem pfcFallAll_epoch (p : Nat) : (pfcFallAll s p).epoch = s.epoch := by simp [pfcFallAll]
@[simp] theorem pfcSettle_epoch : (pfcSettle s).epoch = s.epoch := by simp [pfcSettle]
@[simp] theorem keepsEpoch_execPfcXoffRepeat (p : Port) (prio : Prio) : KeepsEpoch s (execPfcXoffRepeat p prio s) := by simp [execPfcXoffRepeat]
@[simp] theorem startAttempt_epoch (p : Nat) (tenG : Bool) : (startAttempt s p tenG).epoch = s.epoch := rfl
@[simp] theorem setLink_epoch (p : Nat) (l : LinkStatus) : (setLink s p l).epoch = s.epoch := by simp [setLink]
@[simp] theorem keepsEpoch_execPortLinkChange (p : Port) (l : LinkStatus) : KeepsEpoch s (execPortLinkChange p l s) := by
  simp -implicitDefEqProofs [execPortLinkChange]
@[simp] theorem keepsEpoch_execRateFallbackTimer (p : Port) : KeepsEpoch s (execRateFallbackTimer p s) := by simp [execRateFallbackTimer]
@[simp] theorem cpCtrlEffect_epoch (p : Nat) : (cpCtrlEffect s p).epoch = s.epoch := by simp [cpCtrlEffect]
@[simp] theorem toFirmware_epoch (p : Nat) (f : Frame) : (toFirmware s p f).epoch = s.epoch := by simp [toFirmware]
@[simp] theorem defaultAction_epoch (p : Nat) (f : Frame) : (defaultAction s p f).epoch = s.epoch := by simp [defaultAction]
@[simp] theorem portLockLost_epoch (p : Nat) : (portLockLost s p).epoch = s.epoch := by simp -implicitDefEqProofs [portLockLost]
@[simp] theorem fwqPop_epoch : (fwqPop s).epoch = s.epoch := by simp [fwqPop]

/-! ### Ptp -/

@[simp] theorem ringSend_epoch (m : PtpMsg) (bytes : List Byte) : (ringSend s m bytes).epoch = s.epoch := by simp [ringSend]
@[simp] theorem residence_epoch (m : PtpMsg) : (residence s m).2.epoch = s.epoch := rfl
@[simp] theorem ringEgress_epoch (m : PtpMsg) : (ringEgress s m).epoch = s.epoch := by
  unfold ringEgress
  dsimp only
  (repeat' split) <;> simp
@[simp] theorem sendDelayReq_epoch (f : OutFrame) (seq frac : Nat) : (sendDelayReq s f seq frac).epoch = s.epoch := by simp [sendDelayReq]
@[simp] theorem holdPtp_epoch (p : Nat) (x : PtpOut) : (holdPtp s p x).epoch = s.epoch := rfl
@[simp] theorem releasePtp_epoch (x : PtpOut) : (releasePtp s x).epoch = s.epoch := by
  unfold releasePtp
  split <;> simp
@[simp] theorem drainPtp_epoch (p : Nat) : (drainPtp s p).epoch = s.epoch := by simp [drainPtp]
@[simp] theorem ringForward_epoch (m : PtpMsg) : (ringForward s m).epoch = s.epoch := by simp [ringForward]
@[simp] theorem ptpArrive_epoch (m : PtpMsg) : (ptpArrive s m).epoch = s.epoch := by simp [ptpArrive]
@[simp] theorem keepsEpoch_execRingFollowUpTimeout : KeepsEpoch s (execRingFollowUpTimeout s) := by
  unfold execRingFollowUpTimeout
  split <;> simp

/-! ### Receive -/

@[simp] theorem pausePrio_epoch (p prio quanta : Nat) : (pausePrio s p prio quanta).epoch = s.epoch := by simp [pausePrio]
@[simp] theorem pfcReceived_epoch (p enable : Nat) (quanta : List Nat) : (pfcReceived s p enable quanta).epoch = s.epoch := by simp [pfcReceived]
@[simp] theorem frameIn_epoch (p : Nat) (bytes : List Byte) (fcsOk : Bool) : (frameIn s p bytes fcsOk).epoch = s.epoch := by simp [frameIn]
@[simp] theorem keepsEpoch_execFrameReceived (p : Port) (bytes : List Byte) (fcsOk : Bool) (fec : FecCount) :
    KeepsEpoch s (execFrameReceived p bytes fcsOk fec s) := by
  simp [execFrameReceived]
@[simp] theorem keepsEpoch_execPfcFrame (p : Port) (enable : BitVec 8) (quanta : List Nat) : KeepsEpoch s (execPfcFrame p enable quanta s) := by
  simp [execPfcFrame]
@[simp] theorem keepsEpoch_execPfcPauseExpiry (p : Port) (prio : Prio) : KeepsEpoch s (execPfcPauseExpiry p prio s) := by simp [execPfcPauseExpiry]

/-! ### Tollgate -/

@[simp] theorem setRuleWord_epoch (bank i k : Nat) (w : Word) : (setRuleWord s bank i k w).epoch = s.epoch := rfl
@[simp] theorem setPolicer_epoch (n : Nat) (level : Int) : (setPolicer s n level).epoch = s.epoch := rfl
@[simp] theorem police_epoch (n len : Nat) : (police s n len).2.epoch = s.epoch := by
  unfold police
  dsimp only
  (repeat' split) <;> simp
@[simp] theorem policerWritten_epoch (n : Nat) : (policerWritten s n).epoch = s.epoch := rfl
@[simp] theorem setFrag_epoch (n : Nat) (e : Option FragEntry) : (setFrag s n e).epoch = s.epoch := rfl
@[simp] theorem retire_epoch : (retire s).epoch = s.epoch := by simp [retire]
@[simp] theorem freeFrag_epoch (n : Nat) : (freeFrag s n).epoch = s.epoch := by simp [freeFrag]
@[simp] theorem discardFrags_epoch (k : Nat) : (discardFrags s k).epoch = s.epoch := rfl
@[simp] theorem refuseFrag_epoch (q : Fragment) : (refuseFrag s q).epoch = s.epoch := by simp [refuseFrag]
@[simp] theorem poison_epoch (n : Nat) (e : FragEntry) (more : Nat) : (poison s n e more).epoch = s.epoch := by simp [poison]

theorem eq_epoch_of_police {n len : Nat} {ok : Bool} {s1 : State} (h : police s n len = (ok, s1)) : s1.epoch = s.epoch := by
  rw [← police_epoch s n len, h]
@[simp] theorem followDecision_epoch (n : Nat) (q : Fragment) : (followDecision s n q).epoch = s.epoch := by
  unfold followDecision
  split
  · rfl
  dsimp only
  split
  · rfl
  split
  · rfl
  · split <;> rename_i h <;> simp [eq_epoch_of_police s h]
  · split <;> rename_i h <;> simp [eq_epoch_of_police s h]
  · split <;> rename_i h <;> simp [eq_epoch_of_police s h]
  · simp

@[simp] theorem refuseDatagram_epoch (n : Nat) (e : FragEntry) (q : Fragment) (cause : Nat) : (refuseDatagram s n e q cause).epoch = s.epoch := by
  simp [refuseDatagram]
@[simp] theorem decideFrag_epoch (n : Nat) (r : Route) (w : Walk) (proto : Nat) (e : FragEntry) (q : Fragment) :
    (decideFrag s n r w proto e q).epoch = s.epoch := by
  unfold decideFrag
  dsimp only
  split <;> simp
@[simp] theorem joinFrag_epoch (n : Nat) (r : Route) (w : Walk) (proto : Nat) (e : FragEntry) (q : Fragment) :
    (joinFrag s n r w proto e q).epoch = s.epoch := by
  simp [joinFrag]
@[simp] theorem fragmentIn_epoch (r : Route) (w : Walk) (ident proto off : Nat) (more : Bool) (data : List Byte) (f : Frame) :
    (fragmentIn s r w ident proto off more data f).epoch = s.epoch := by
  unfold fragmentIn
  dsimp only
  (repeat' split) <;> simp
@[simp] theorem leaveBuffer_epoch (p : Nat) : (leaveBuffer s p).epoch = s.epoch := rfl

@[simp] theorem classify_epoch (bank : Nat) (r : Route) (msg : List Byte) (f : Frame) (charge : Bool) :
    (classify s bank r msg f charge).epoch = s.epoch := by
  have charged (n len : Nat) {ok : Bool} {s1 : State} (h : (if charge then police s n len else (true, s)) = (ok, s1)) :
      s1.epoch = s.epoch := by
    split at h
    · exact eq_epoch_of_police s h
    · cases h; rfl
  unfold classify
  split
  · simp
  · dsimp only
    split <;> rename_i h
    · exact charged _ _ h
    · split_ifs <;> simp [charged _ _ h]

@[simp] theorem recoveryMsg_epoch (r : Route) (msg : List Byte) (f : Frame) : (recoveryMsg s r msg f).epoch = s.epoch := by simp [recoveryMsg]
@[simp] theorem applyVerdict_epoch (p : Nat) (f : Frame) (v : Verdict) : (applyVerdict s p f v).epoch = s.epoch := by
  unfold applyVerdict
  split <;> simp
@[simp] theorem keepsEpoch_execParseWalk (p : Port) (e : Engine) (bufferUe : Bool) (ecc : List MemUpset) :
    KeepsEpoch s (execParseWalk p e bufferUe ecc s) := by
  unfold execParseWalk
  split <;> simp
@[simp] theorem keepsEpoch_execEngineFault (p : Port) (e : Engine) : KeepsEpoch s (execEngineFault p e s) := by simp [execEngineFault]
@[simp] theorem keepsEpoch_execFragmentTimeout (n : FragSlot) : KeepsEpoch s (execFragmentTimeout n s) := by
  unfold execFragmentTimeout
  split <;> simp
@[simp] theorem keepsEpoch_execReassemblyPass (n : FragSlot) (e : Engine) (ecc : List MemUpset) : KeepsEpoch s (execReassemblyPass n e ecc s) := by
  unfold execReassemblyPass
  dsimp only
  (repeat' split) <;> simp
@[simp] theorem commit_epoch : (commit s).epoch = s.epoch := by simp [commit]
@[simp] theorem ruleOp_epoch (op : Nat) : (ruleOp s op).epoch = s.epoch := by simp -implicitDefEqProofs [ruleOp]

/-! ### Lanes -/

@[simp] theorem creditMoved_epoch (l : Nat) : (creditMoved s l).epoch = s.epoch := by simp [creditMoved]
@[simp] theorem queueReply_epoch (p l typ seq echo time : Nat) (body : List Byte) (r : Route) (counts : Bool) :
    (queueReply s p l typ seq echo time body r counts).epoch = s.epoch :=
  rfl
@[simp] theorem retainAgain_epoch (l : Nat) (r : Retained) : (retainAgain s l r).epoch = s.epoch := rfl
@[simp] theorem retainNew_epoch (l : Nat) (r : Retained) : (retainNew s l r).epoch = s.epoch := rfl
@[simp] theorem queueUnsolicited_epoch (l typ time : Nat) (body : List Byte) : (queueUnsolicited s l typ time body).epoch = s.epoch := by
  unfold queueUnsolicited
  split <;> simp
@[simp] theorem queueReport_epoch (q : Request) (typ time : Nat) (body : List Byte) : (queueReport s q typ time body).epoch = s.epoch := by
  unfold queueReport
  split <;> simp
@[simp] theorem dropRequest_epoch (id : Nat) : (dropRequest s id).epoch = s.epoch := rfl
@[simp] theorem cancelRequest_epoch (q : Request) (code index detail : Nat) : (cancelRequest s q code index detail).epoch = s.epoch := by
  simp [cancelRequest]
@[simp] theorem discardRequests_epoch (p : Request → Bool) : (discardRequests s p).epoch = s.epoch := by simp [discardRequests]
@[simp] theorem deliverRequest_epoch (q : Request) : (deliverRequest s q).epoch = s.epoch := by simp [deliverRequest]
@[simp] theorem keepsEpoch_execDelivery : KeepsEpoch s (execDelivery s) := by
  unfold execDelivery
  split <;> simp
@[simp] theorem shaperWritten_epoch (p : Nat) : (shaperWritten s p).epoch = s.epoch := rfl
@[simp] theorem startMsg_epoch (p : Nat) (m : OutMsg) : (startMsg s p m).epoch = s.epoch := by simp [startMsg]
@[simp] theorem keepsEpoch_execEgressSend (n : Partner) : KeepsEpoch s (execEgressSend n s) := by
  unfold execEgressSend
  dsimp only
  (repeat' split) <;> simp
@[simp] theorem keepsEpoch_execCreditTimer (l : LaneIx) : KeepsEpoch s (execCreditTimer l s) := by simp [execCreditTimer]

/-! ### Ready -/

@[simp] theorem showState_epoch : (showState s).epoch = s.epoch := rfl
@[simp] theorem setReady_epoch (t : Nat) : (setReady s t).epoch = s.epoch := rfl
@[simp] theorem refreshReady_epoch : (refreshReady s).epoch = s.epoch := by simp [refreshReady]
@[simp] theorem railWait_epoch : (railWait s).epoch = s.epoch := by simp [railWait]
@[simp] theorem stepReady_epoch : (stepReady s).epoch = s.epoch := by simp [stepReady]
@[simp] theorem enterState_epoch (st : Nat) : (enterState s st).epoch = s.epoch := by simp [enterState]

/-! ### Admission -/

@[simp] theorem countRefusal_epoch (code : Nat) : (countRefusal s code).epoch = s.epoch := by simp [countRefusal]
@[simp] theorem markStarved_epoch : (markStarved s).epoch = s.epoch := by
  unfold markStarved
  split <;> simp
@[simp] theorem refuse_epoch (m : Msg) (code time detail : Nat) (retained : Bool) : (refuse s m code time detail retained).epoch = s.epoch := by
  simp [refuse]
@[simp] theorem refuseNotOwned_epoch (m : Msg) : (refuseNotOwned s m).epoch = s.epoch := rfl
@[simp] theorem refuseAdmitFault_epoch (m : Msg) (owned : Bool) : (refuseAdmitFault s m owned).epoch = s.epoch := by
  simp -implicitDefEqProofs [refuseAdmitFault]
@[simp] theorem consume_epoch (m : Msg) : (consume s m).epoch = s.epoch := rfl
@[simp] theorem resend_epoch (m : Msg) (r : Retained) : (resend s m r).epoch = s.epoch := rfl

/-- The tests of R131 keep the epoch, so a message keeps it where its own step does. -/
theorem process_epoch (m : Msg) (mm : Upsets) {run : State → State} (h : ∀ u, (run u).epoch = u.epoch) :
    (process s m mm run).epoch = s.epoch := by
  unfold process
  extract_lets s0 s1 owned _ s2 e s3
  have h2 : s2.epoch = s.epoch := by simp [s2, s1, s0]
  have h3 : s3.epoch = s.epoch := (consume_epoch s2 m).trans h2
  clear_value s2 s3
  split
  · simp [s0]
  split
  · simp [h2]
  split
  · simp [h2]
  split
  · simp [h2]
  split <;> simp [h, h2, h3]

@[simp] theorem accept_epoch (m : Msg) (a : Ask) (r : ReqWin) (d : Nat) : (accept s m a r d).epoch = s.epoch := by simp [accept]
@[simp] theorem requestStep_epoch (m : Msg) : (requestStep m s).epoch = s.epoch := by
  unfold requestStep
  dsimp only
  (repeat' split) <;> simp

@[simp] theorem admitRequest_epoch (typ : Nat) (mm : Upsets) : (admitRequest typ mm s).epoch = s.epoch := by
  unfold admitRequest
  split
  · rfl
  · exact process_epoch s _ mm (fun u => requestStep_epoch u _)

@[simp] theorem keepsEpoch_execFull (mm : Upsets) : KeepsEpoch s (execFull mm s) := by simp [execFull]
@[simp] theorem keepsEpoch_execDelta (mm : Upsets) : KeepsEpoch s (execDelta mm s) := by simp [execDelta]
@[simp] theorem keepsEpoch_execGroup (mm : Upsets) : KeepsEpoch s (execGroup mm s) := by simp [execGroup]
@[simp] theorem answer_epoch (m : Msg) (typ time : Nat) (body : List Byte) : (answer s m typ time body).epoch = s.epoch := by simp [answer]
@[simp] theorem refuseStep6_epoch (m : Msg) (c d : Nat) : (refuseStep6 s m c d).epoch = s.epoch := by simp [refuseStep6]
@[simp] theorem laneStatus_epoch (m : Msg) : (laneStatus m s).epoch = s.epoch := by simp [laneStatus]
@[simp] theorem requestStatusReply_epoch (m : Msg) : (requestStatusReply m s).epoch = s.epoch := by simp [requestStatusReply]
@[simp] theorem deviceState_epoch (m : Msg) : (deviceState m s).epoch = s.epoch := by simp [deviceState]
@[simp] theorem networkTime_epoch (m : Msg) : (networkTime m s).epoch = s.epoch := by simp [networkTime]

theorem queryStep_epoch (m : Msg) {reply : State → State} (h : ∀ u, (reply u).epoch = u.epoch) : (queryStep m reply s).epoch = s.epoch := by
  unfold queryStep
  split <;> simp [h]

theorem answerQuery_epoch (kind : Nat) {reply : Msg → State → State} (h : ∀ m u, (reply m u).epoch = u.epoch) (mm : Upsets) :
    (answerQuery kind reply mm s).epoch = s.epoch := by
  unfold answerQuery
  split
  · rfl
  · exact process_epoch s _ mm (fun u => queryStep_epoch u _ (h _))

@[simp] theorem keepsEpoch_execQueryLaneStatus (mm : Upsets) : KeepsEpoch s (execQueryLaneStatus mm s) := by
  unfold execQueryLaneStatus
  split <;> rw [keepsEpoch_next]
  exact process_epoch s _ mm (fun u => queryStep_epoch u _ (fun u => laneStatus_epoch u _))

@[simp] theorem keepsEpoch_execQueryRequestStatus (mm : Upsets) : KeepsEpoch s (execQueryRequestStatus mm s) :=
  (keepsEpoch_next _ _).2 (answerQuery_epoch s 2 (fun m u => requestStatusReply_epoch u m) mm)

@[simp] theorem keepsEpoch_execQueryDeviceState (mm : Upsets) : KeepsEpoch s (execQueryDeviceState mm s) :=
  (keepsEpoch_next _ _).2 (answerQuery_epoch s 3 (fun m u => deviceState_epoch u m) mm)

@[simp] theorem keepsEpoch_execQueryNetworkTime (mm : Upsets) : KeepsEpoch s (execQueryNetworkTime mm s) :=
  (keepsEpoch_next _ _).2 (answerQuery_epoch s 4 (fun m u => networkTime_epoch u m) mm)

@[simp] theorem subscribeStep_epoch (m : Msg) : (subscribeStep m s).epoch = s.epoch := by
  unfold subscribeStep
  dsimp only
  (repeat' split) <;> simp

@[simp] theorem keepsEpoch_execSubscribe (mm : Upsets) : KeepsEpoch s (execSubscribe mm s) := by
  unfold execSubscribe
  split <;> rw [keepsEpoch_next]
  exact process_epoch s _ mm (fun u => subscribeStep_epoch u _)

@[simp] theorem updateRequest_epoch (id : Nat) (f : Request → Request) : (updateRequest s id f).epoch = s.epoch := rfl
@[simp] theorem keepsEpoch_execDispatch (ecc : List MemUpset) : KeepsEpoch s (execDispatch ecc s) := by
  unfold execDispatch
  dsimp only
  (repeat' split) <;> simp
@[simp] theorem keepsEpoch_execSlotClassify : KeepsEpoch s (execSlotClassify s) := by
  unfold execSlotClassify
  dsimp only
  (repeat' split) <;> simp
@[simp] theorem laneLoad_epoch : (laneLoad s).epoch = s.epoch := by simp [laneLoad]
@[simp] theorem applyLaneCfg_epoch (l : Nat) (c : LaneCfg) : (applyLaneCfg s l c).epoch = s.epoch := by simp [applyLaneCfg]
@[simp] theorem laneWrite_epoch : (laneWrite s).epoch = s.epoch := by simp [laneWrite]
@[simp] theorem keepsEpoch_execLaneConfigApply (l : LaneIx) : KeepsEpoch s (execLaneConfigApply l s) := by
  unfold execLaneConfigApply
  split <;> simp

/-! ### Capture -/

@[simp] theorem enterArmed_epoch : (enterArmed s).epoch = s.epoch := by
  unfold enterArmed
  split <;> simp
@[simp] theorem enterPrefill_epoch (n : Nat) : (enterPrefill s n).epoch = s.epoch := by simp [enterPrefill]
@[simp] theorem endSegment_epoch : (endSegment s).epoch = s.epoch := by simp [endSegment]
@[simp] theorem captureArm_epoch : (captureArm s).epoch = s.epoch := by simp [captureArm]
@[simp] theorem captureStop_epoch : (captureStop s).epoch = s.epoch := by simp [captureStop]
@[simp] theorem driveLines_epoch (src : Nat) : (driveLines s src).epoch = s.epoch := by simp [driveLines]
@[simp] theorem markRing_epoch (t : Nat) : (markRing s t).epoch = s.epoch := by
  unfold markRing
  dsimp only
  split <;> simp
@[simp] theorem offerTrigger_epoch (src comp : Nat) : (offerTrigger s src comp).epoch = s.epoch := by simp [offerTrigger]
@[simp] theorem captureForce_epoch : (captureForce s).epoch = s.epoch := by simp [captureForce]
@[simp] theorem captureWindow_epoch (entry cls : Nat) : (captureWindow s entry cls).epoch = s.epoch := by simp [captureWindow]
@[simp] theorem captureFault_epoch : (captureFault s).epoch = s.epoch := by simp [captureFault]
@[simp] theorem settleBin_epoch (b : Nat) : (settleBin s b).epoch = s.epoch := rfl
@[simp] theorem awaitSettle_epoch (k : Nat) : (awaitSettle s k).epoch = s.epoch := by simp [awaitSettle]
@[simp] theorem captureRelease_epoch (g : Nat) : (captureRelease s g).epoch = s.epoch := by simp [captureRelease]
@[simp] theorem settleRecord_epoch (k : Nat) (w0 w1 : Word) : (settleRecord s k w0 w1).epoch = s.epoch := by
  unfold settleRecord
  dsimp only
  (repeat' split) <;> simp
@[simp] theorem mapRecord_epoch (k : Nat) (w0 w1 : Word) (rrat : Nat) : (mapRecord s k w0 w1 rrat).epoch = s.epoch := by
  unfold mapRecord
  split <;> simp
@[simp] theorem raiseD_epoch : (raiseD s).epoch = s.epoch := by simp [raiseD]
@[simp] theorem enqueueEntry_epoch (k : Nat) (w0 w1 : Word) : (enqueueEntry s k w0 w1).epoch = s.epoch := by simp [enqueueEntry]
@[simp] theorem levelTrigger_epoch (k : Nat) (w0 : Word) : (levelTrigger s k w0).epoch = s.epoch := by simp [levelTrigger]
@[simp] theorem streamRecord_epoch (k : Nat) (w0 w1 : Word) (rrat : Nat) : (streamRecord s k w0 w1 rrat).epoch = s.epoch := by simp [streamRecord]
@[simp] theorem sampleStreams_epoch (g : Nat) (w0 w1 : Word) (isLoop : Bool) (rrat : Nat) :
    (sampleStreams s g w0 w1 isLoop rrat).epoch = s.epoch := by
  simp [sampleStreams]
@[simp] theorem captureSample_epoch (g : Nat) (w0 w1 : Word) (isLoop : Bool) (rrat : Nat) :
    (captureSample s g w0 w1 isLoop rrat).epoch = s.epoch := by
  simp -implicitDefEqProofs [captureSample]
@[simp] theorem putEntry_epoch (i : Nat) (e : Nat × Nat × Nat × Nat × Nat) (trig : Bool) : (putEntry s i e trig).epoch = s.epoch := by simp [putEntry]
@[simp] theorem showFill_epoch (n : Nat) : (showFill s n).epoch = s.epoch := rfl
@[simp] theorem ringEntry_epoch (e : Nat × Nat × Nat × Nat × Nat) : (ringEntry s e).epoch = s.epoch := by simp [ringEntry]
@[simp] theorem postEntry_epoch (e : Nat × Nat × Nat × Nat × Nat) : (postEntry s e).epoch = s.epoch := by simp [postEntry]
@[simp] theorem keepsEpoch_execCaptureStore : KeepsEpoch s (execCaptureStore s) := by
  unfold execCaptureStore
  dsimp only
  (repeat' split) <;> simp
@[simp] theorem keepsEpoch_execTrigBusEdge (line : Fin 2) : KeepsEpoch s (execTrigBusEdge line s) := by simp [execTrigBusEdge]
@[simp] theorem keepsEpoch_execCsyncLost : KeepsEpoch s (execCsyncLost s) := by simp [execCsyncLost]
@[simp] theorem keepsEpoch_execTrigDriveEnd (line : Fin 2) : KeepsEpoch s (execTrigDriveEnd line s) := by simp [execTrigDriveEnd]

/-! ### NetTime -/

@[simp] theorem takePtp_epoch : (takePtp s).epoch = s.epoch := rfl
@[simp] theorem reselect_epoch : (reselect s).epoch = s.epoch := by
  unfold reselect
  split <;> simp
@[simp] theorem keepsEpoch_execAnnounce : KeepsEpoch s (execAnnounce s) := by
  unfold execAnnounce
  split <;> simp
@[simp] theorem keepsEpoch_execAnnounceReceiptTimeout : KeepsEpoch s (execAnnounceReceiptTimeout s) := by
  unfold execAnnounceReceiptTimeout
  split <;> simp
@[simp] theorem feed_epoch (o : Int) : (feed s o).epoch = s.epoch := by simp [feed]
@[simp] theorem setClock_epoch (o : Int) : (setClock s o).epoch = s.epoch := rfl
@[simp] theorem enterLocked_epoch : (enterLocked s).epoch = s.epoch := by simp [enterLocked]
@[simp] theorem showRefused_epoch : (showRefused s).epoch = s.epoch := rfl
@[simp] theorem forgetRefused_epoch : (forgetRefused s).epoch = s.epoch := rfl
@[simp] theorem dropPermit_epoch : (dropPermit s).epoch = s.epoch := rfl
@[simp] theorem stepBound_epoch : (stepBound s).2.epoch = s.epoch := by
  unfold stepBound
  dsimp only
  (repeat' split) <;> simp
@[simp] theorem decideStep_epoch (x : Refused) : (decideStep s x).epoch = s.epoch := by simp [decideStep]
@[simp] theorem considerStep_epoch : (considerStep s).epoch = s.epoch := by
  unfold considerStep
  split <;> simp
@[simp] theorem refuseMeasure_epoch (o : Int) : (refuseMeasure s o).epoch = s.epoch := by
  unfold refuseMeasure
  dsimp only
  split <;> simp
@[simp] theorem acceptMeasure_epoch (o : Int) : (acceptMeasure s o).epoch = s.epoch := by simp [acceptMeasure]
@[simp] theorem measure_epoch (o : Int) : (measure s o).epoch = s.epoch := by
  unfold measure
  dsimp only
  split <;> simp
@[simp] theorem pathDelay_epoch : (pathDelay s).2.epoch = s.epoch := by
  unfold pathDelay
  dsimp only
  split <;> simp
@[simp] theorem syncDone_epoch (p : Nat) (delta : Int) : (syncDone s p delta).epoch = s.epoch := by simp [syncDone]
@[simp] theorem keepsEpoch_execSync (frac : Fin 256) : KeepsEpoch s (execSync frac s) := by
  unfold execSync
  split <;> simp
@[simp] theorem keepsEpoch_execFollowUp : KeepsEpoch s (execFollowUp s) := by
  unfold execFollowUp
  dsimp only
  (repeat' split) <;> simp
@[simp] theorem keepsEpoch_execFollowUpTimeout : KeepsEpoch s (execFollowUpTimeout s) := by
  unfold execFollowUpTimeout
  split <;> simp
@[simp] theorem keepsEpoch_execDelayReqTimer (frac : Fin 256) : KeepsEpoch s (execDelayReqTimer frac s) := by
  unfold execDelayReqTimer
  dsimp only
  (repeat' split) <;> simp

@[simp] theorem keepsEpoch_execDelayResp : KeepsEpoch s (execDelayResp s) := by
  unfold execDelayResp
  split
  · simp
  · extract_lets b s1
    have h1 : s1.epoch = s.epoch := takePtp_epoch s
    clear_value s1
    split
    · simp [h1]
    split
    · extract_lets x s2
      have h2 : s2.epoch = s1.epoch := rfl
      clear_value s2
      split
      next mean s3 hd =>
      have h3 : s3.epoch = s2.epoch := by rw [← divFree_epoch s2 _ _, hd]
      simp [h3, h2, h1]
    · simp [h1]

@[simp] theorem keepsEpoch_execGmLossTimeout : KeepsEpoch s (execGmLossTimeout s) := by simp [execGmLossTimeout]
@[simp] theorem keepsEpoch_execPermitExpiry : KeepsEpoch s (execPermitExpiry s) := by simp [execPermitExpiry]
@[simp] theorem swapBanks_epoch (b n : Nat) : (swapBanks s b n).epoch = s.epoch := rfl

@[simp] theorem keepsEpoch_execTimeStepExecute : KeepsEpoch s (execTimeStepExecute s) := by
  unfold execTimeStepExecute
  split
  · simp
  split
  · simp
  extract_lets s0 landed n move s1 _ _ s2 s3 s4
  have h0 : s0.epoch = s.epoch := by
    unfold s0
    split
    · split <;> simp
    · rfl
  have h1 : s1.epoch = s0.epoch := by simp [s1]
  have h2 : s2.epoch = s1.epoch := rfl
  have h3 : s3.epoch = s2.epoch := forgetRefused_epoch s2
  have h4 : s4.epoch = s3.epoch := by simp [s4]
  clear_value s4
  simp [h4, h3, h2, h1, h0]

@[simp] theorem storePermit_epoch (gm maxStep sec nano : Nat) : (storePermit s gm maxStep sec nano).epoch = s.epoch := by simp [storePermit]
@[simp] theorem result_epoch (m : Msg) (status value time : Nat) : (result s m status value time).epoch = s.epoch := by simp [result]
@[simp] theorem timeStepStep_epoch (m : Msg) : (timeStepStep m s).epoch = s.epoch := by
  unfold timeStepStep
  dsimp only
  (repeat' split) <;> simp

@[simp] theorem keepsEpoch_execTimeStep (mm : Upsets) : KeepsEpoch s (execTimeStep mm s) := by
  unfold execTimeStep
  split <;> rw [keepsEpoch_next]
  exact process_epoch s _ mm (fun u => timeStepStep_epoch u _)

/-! ### Keystone -/

@[simp] theorem showKeystone_epoch : (showKeystone s).epoch = s.epoch := by
  simp -implicitDefEqProofs only [showKeystone, setFlag_epoch, setF_epoch]
  refine foldl_epoch (fun u n => ?_) _ _
  split <;> simp

@[simp] theorem showFailed_epoch : (showFailed s).epoch = s.epoch := by simp [showFailed]
@[simp] theorem markFailed_epoch (g : Nat) : (markFailed s g).epoch = s.epoch := by simp [markFailed]
@[simp] theorem clearFailed_epoch (g : Nat) : (clearFailed s g).epoch = s.epoch := by simp [clearFailed]
@[simp] theorem clearKeystone_epoch : (clearKeystone s).epoch = s.epoch := by simp [clearKeystone]

/-! ### Pier -/

@[simp] theorem setLiveF_epoch (n l d v : Nat) : (setLiveF s n l d v).epoch = s.epoch := by simp [setLiveF]
@[simp] theorem deglitch_epoch (n l : Nat) : (deglitch s n l).epoch = s.epoch := rfl
@[simp] theorem unfreeze_epoch (n l : Nat) : (unfreeze s n l).epoch = s.epoch := by
  unfold unfreeze
  dsimp only
  split <;> simp
@[simp] theorem dropHold_epoch (n l : Nat) : (dropHold s n l).epoch = s.epoch := rfl
@[simp] theorem putWord_epoch (a : Nat) (w : Word) : (putWord s a w).epoch = s.epoch := rfl
@[simp] theorem putM_epoch (a : Nat) (f : MFld) (v : Nat) : (putM s a f v).epoch = s.epoch := rfl
@[simp] theorem putMI_epoch (a : Nat) (f : MFld) (v : Int) : (putMI s a f v).epoch = s.epoch := rfl
@[simp] theorem fitInt_epoch (w : Nat) (v : Int) : (fitInt s w v).2.epoch = s.epoch := by
  unfold fitInt
  split <;> simp
@[simp] theorem phase18_epoch (v : Int) : (phase18 s v).2.epoch = s.epoch := by simp [phase18]
@[simp] theorem rangeFlag_epoch (n : Nat) (low : Bool) : (rangeFlag s n low).epoch = s.epoch := rfl
@[simp] theorem interp_epoch (n : Nat) (t : Nat → Nat) (start : Int) (step top : Nat) (phi : Int) :
    (interp s n t start step top phi).2.epoch = s.epoch := by
  unfold interp
  dsimp only
  (repeat' split) <;> simp
@[simp] theorem fastCode_epoch (n l : Nat) (delta v : Int) : (fastCode s n l delta v).2.epoch = s.epoch := by simp [fastCode]
@[simp] theorem trimCode_epoch (n l : Nat) (arg : Int) (vh : Nat) : (trimCode s n l arg vh).2.epoch = s.epoch := by
  unfold trimCode
  dsimp only
  (repeat' split) <;> simp
@[simp] theorem discardStaged_epoch (n l : Nat) : (discardStaged s n l).epoch = s.epoch := rfl
@[simp] theorem clampPier_epoch (n l : Nat) : (clampPier s n l).epoch = s.epoch := rfl
@[simp] theorem closeClamp_epoch (n : Nat) : (closeClamp s n).epoch = s.epoch := by simp -implicitDefEqProofs [closeClamp]
@[simp] theorem closeClamps_epoch : (closeClamps s).epoch = s.epoch := by simp [closeClamps]
@[simp] theorem parkPier_epoch (n l : Nat) : (parkPier s n l).epoch = s.epoch := by simp [parkPier]
@[simp] theorem parkSpan_epoch (n : Nat) : (parkSpan s n).epoch = s.epoch := by simp -implicitDefEqProofs [parkSpan]
@[simp] theorem parkAll_epoch : (parkAll s).epoch = s.epoch := by simp [parkAll]
@[simp] theorem openAndRamp_epoch (n : Nat) : (openAndRamp s n).epoch = s.epoch := by simp -implicitDefEqProofs [openAndRamp]
@[simp] theorem reachPark_epoch (n l : Nat) : (reachPark s n l).epoch = s.epoch := by
  unfold reachPark
  dsimp only
  split <;> simp
@[simp] theorem endRamp_epoch (n : Nat) : (endRamp s n).epoch = s.epoch := by simp [endRamp]

/-! ### Decks -/

@[simp] theorem showDecks_epoch : (showDecks s).epoch = s.epoch := rfl
@[simp] theorem abandonReplay_epoch (n : Nat) (drop : Bool) : (abandonReplay s n drop).epoch = s.epoch := by simp [abandonReplay]
@[simp] theorem reown_epoch (n : Nat) : (reown s n).epoch = s.epoch := by simp [reown]
@[simp] theorem bothFaulted_epoch (n : Nat) : (bothFaulted s n).epoch = s.epoch := by simp [bothFaulted]
@[simp] theorem failResync_epoch (n d : Nat) : (failResync s n d).epoch = s.epoch := by simp -implicitDefEqProofs [failResync]
@[simp] theorem lowerSpan_epoch (n d cause v : Nat) : (lowerSpan s n d cause v).epoch = s.epoch := by simp [lowerSpan]
@[simp] theorem lowerOne_epoch (n d cause : Nat) : (lowerOne s n d cause).epoch = s.epoch := by simp [lowerOne]
@[simp] theorem passLead_epoch (d : Nat) : (passLead s d).epoch = s.epoch := by simp [passLead]
@[simp] theorem lowerAll_epoch (d cause : Nat) : (lowerAll s d cause).epoch = s.epoch := by simp -implicitDefEqProofs [lowerAll]
@[simp] theorem keepsEpoch_execClaimLower (d : Deck) (f : SelfFault) : KeepsEpoch s (execClaimLower d f s) := by
  unfold execClaimLower
  split <;> simp
@[simp] theorem residDiffers_epoch (n l wasA wasB : Nat) : (residDiffers s n l wasA wasB).epoch = s.epoch := by simp [residDiffers]
@[simp] theorem kick_epoch (d : Nat) : (kick s d).epoch = s.epoch := rfl
@[simp] theorem keepsEpoch_execWatchdogExpiry (d : Deck) (burst : Option Burst) : KeepsEpoch s (execWatchdogExpiry d burst s) := by
  simp [execWatchdogExpiry]
@[simp] theorem keepsEpoch_execSpanLoadedReport (d : Deck) (n : Span) : KeepsEpoch s (execSpanLoadedReport d n s) := by simp [execSpanLoadedReport]
@[simp] theorem applyNom_epoch (old new : Nat) : (applyNom s old new).epoch = s.epoch := by simp [applyNom]
@[simp] theorem logMismatch_epoch (n l : Nat) (trim : Bool) (a b : Nat) : (logMismatch s n l trim a b).epoch = s.epoch := by simp [logMismatch]
@[simp] theorem logOutcome_epoch (i outcome : Nat) : (logOutcome s i outcome).epoch = s.epoch := by simp [logOutcome]
@[simp] theorem awaitReplay_epoch (n : Nat) : (awaitReplay s n).epoch = s.epoch := by
  unfold awaitReplay
  split <;> simp
@[simp] theorem startMismatch_epoch (n l : Nat) (trim : Bool) (a b : Nat) : (startMismatch s n l trim a b).epoch = s.epoch := by simp [startMismatch]
@[simp] theorem endMismatch_epoch (n l : Nat) (trim : Bool) : (endMismatch s n l trim).epoch = s.epoch := by simp [endMismatch]
@[simp] theorem compareCodes_epoch (n l : Nat) (trim : Bool) : (compareCodes s n l trim).epoch = s.epoch := by simp [compareCodes]
@[simp] theorem keepsEpoch_execAbutmentMismatch (n : Span) (l : Local) (u : CodeUpset) : KeepsEpoch s (execAbutmentMismatch n l u s) := by
  simp [execAbutmentMismatch]
@[simp] theorem keepsEpoch_execReplayStart (n : Span) : KeepsEpoch s (execReplayStart n s) := by simp [execReplayStart]
@[simp] theorem excludePath_epoch (g d : Nat) : (excludePath s g d).epoch = s.epoch := by simp [excludePath]
@[simp] theorem returnPath_epoch (g d : Nat) : (returnPath s g d).epoch = s.epoch := by simp [returnPath]
@[simp] theorem keepsEpoch_execAutofailTimeout (n : Span) (l : Local) : KeepsEpoch s (execAutofailTimeout n l s) := by
  unfold execAutofailTimeout
  split <;> simp
@[simp] theorem residMoved_epoch (n l : Nat) : (residMoved s n l).epoch = s.epoch := by simp [residMoved]
@[simp] theorem handSpan_epoch (n : Nat) : (handSpan s n).epoch = s.epoch := by simp [handSpan]
@[simp] theorem handover_epoch : (handover s).epoch = s.epoch := by simp [handover]
@[simp] theorem endHandover_epoch (n o : Nat) : (endHandover s n o).epoch = s.epoch := by
  unfold endHandover
  dsimp only
  split <;> simp
@[simp] theorem pierSwitched_epoch (n l : Nat) : (pierSwitched s n l).epoch = s.epoch := by
  unfold pierSwitched
  split <;> simp
@[simp] theorem startResync_epoch (n d : Nat) : (startResync s n d).epoch = s.epoch := rfl
@[simp] theorem resync_epoch : (resync s).epoch = s.epoch := by simp -implicitDefEqProofs [resync]
@[simp] theorem keepsEpoch_execResyncCopyEnd (n : Span) : KeepsEpoch s (execResyncCopyEnd n s) := by
  unfold execResyncCopyEnd
  split <;> simp -implicitDefEqProofs
@[simp] theorem clearOpenWhere_epoch (p : Nat → Nat → Bool) : (clearOpenWhere s p).epoch = s.epoch := by simp [clearOpenWhere]
@[simp] theorem keepsEpoch_execProbationEnd (n : Span) : KeepsEpoch s (execProbationEnd n s) := by
  unfold execProbationEnd
  split <;> simp
@[simp] theorem abandonResync_epoch (n : Nat) : (abandonResync s n).epoch = s.epoch := by simp [abandonResync]
@[simp] theorem connectDeckA_epoch : (connectDeckA s).epoch = s.epoch := by simp [connectDeckA]

/-! ### Drive -/

@[simp] theorem connectDeck_epoch (n l : Nat) : (connectDeck s n l).epoch = s.epoch := by simp [connectDeck]
@[simp] theorem showOut_epoch (n l : Nat) : (showOut s n l).epoch = s.epoch := by simp [showOut]
@[simp] theorem slewFast_epoch (n l d : Nat) : (slewFast s n l d).epoch = s.epoch := by simp [slewFast]
@[simp] theorem slewTrim_epoch (n l d : Nat) : (slewTrim s n l d).epoch = s.epoch := by simp [slewTrim]
@[simp] theorem sweepCodes_epoch (n l : Nat) : (sweepCodes s n l).epoch = s.epoch := by simp [sweepCodes]
@[simp] theorem endBoost_epoch (g d : Nat) : (endBoost s g d).epoch = s.epoch := rfl
@[simp] theorem fastCodes_epoch (n l : Nat) : (fastCodes s n l).epoch = s.epoch := by
  unfold fastCodes
  dsimp only
  (repeat' split) <;> simp
@[simp] theorem trimCodes_epoch (n l : Nat) : (trimCodes s n l).epoch = s.epoch := by
  unfold trimCodes
  dsimp only
  (repeat' split) <;> simp
@[simp] theorem keepsEpoch_execFastUpdateStrobe (n : Span) (l : Local) : KeepsEpoch s (execFastUpdateStrobe n l s) := by simp [execFastUpdateStrobe]
@[simp] theorem keepsEpoch_execTrimUpdateStrobe (n : Span) (l : Local) : KeepsEpoch s (execTrimUpdateStrobe n l s) := by simp [execTrimUpdateStrobe]
@[simp] theorem forcePark_epoch (n l : Nat) : (forcePark s n l).epoch = s.epoch := by simp [forcePark]
@[simp] theorem leavePark_epoch (n l : Nat) : (leavePark s n l).epoch = s.epoch := by simp [leavePark]
@[simp] theorem releasePark_epoch (n l : Nat) : (releasePark s n l).epoch = s.epoch := by simp [releasePark]
@[simp] theorem recoveryClamps_epoch : (recoveryClamps s).epoch = s.epoch := by simp -implicitDefEqProofs [recoveryClamps]
@[simp] theorem keepsEpoch_execParkRampEnd (n : Span) : KeepsEpoch s (execParkRampEnd n s) := by simp [execParkRampEnd]
@[simp] theorem calCorrected_epoch (n a : Nat) : (calCorrected s n a).epoch = s.epoch := by simp -implicitDefEqProofs [calCorrected]
@[simp] theorem calUncorrectable_epoch (n l : Nat) : (calUncorrectable s n l).epoch = s.epoch := by simp [calUncorrectable]
@[simp] theorem meetUpsets_epoch (n : Nat) (fs : List CalUpset) : (meetUpsets s n fs).epoch = s.epoch := by simp [meetUpsets]
@[simp] theorem refreshPier_epoch (fs : List CalUpset) (n d l : Nat) : (refreshPier fs n d s l).epoch = s.epoch := by simp [refreshPier]
@[simp] theorem keepsEpoch_execRefreshPass (n : Span) (d : Deck) (faults : List CalUpset) (late : Bool) :
    KeepsEpoch s (execRefreshPass n d faults late s) := by
  simp [execRefreshPass]
@[simp] theorem filterRegion_epoch (as : List Activity) (d r : Nat) : (filterRegion as d s r).epoch = s.epoch := by simp [filterRegion]
@[simp] theorem meetThermal_epoch (fs : List ThermalUpset) : (meetThermal s fs).epoch = s.epoch := by simp [meetThermal]
@[simp] theorem keepsEpoch_execPowerMapUpdate (as : List Activity) (faults : List ThermalUpset) : KeepsEpoch s (execPowerMapUpdate as faults s) := by
  simp [execPowerMapUpdate]
@[simp] theorem keepsEpoch_execVhtrMeasure (n : Span) (mv : BitVec 13) : KeepsEpoch s (execVhtrMeasure n mv s) := by simp [execVhtrMeasure]

/-! ### Truss -/

@[simp] theorem swapGains_epoch (n l : Nat) : (swapGains s n l).epoch = s.epoch := rfl
@[simp] theorem openWindow_epoch (n l start stop : Nat) (isLoop : Bool) : (openWindow s n l start stop isLoop).epoch = s.epoch := by simp [openWindow]
@[simp] theorem keepsEpoch_execMonitorWindowOpen (n : Span) (l : Local) : KeepsEpoch s (execMonitorWindowOpen n l s) := by
  unfold execMonitorWindowOpen
  dsimp only
  (repeat' split) <;> simp
@[simp] theorem keepsEpoch_execDiversityChoice (n : Span) (l : Local) (countA countB : BitVec 16) :
    KeepsEpoch s (execDiversityChoice n l countA countB s) := by
  simp [execDiversityChoice]
@[simp] theorem countMarks_epoch (n : Nat) (x : Sample) : (countMarks s n x).epoch = s.epoch := by simp [countMarks]
@[simp] theorem gainAutorange_epoch (n l : Nat) (m : Mon) (x : Sample) : (gainAutorange s n l m x).epoch = s.epoch := by simp [gainAutorange]
@[simp] theorem holdLoop_epoch (n l a : Nat) : (holdLoop s n l a).epoch = s.epoch := by simp [holdLoop]
@[simp] theorem darkHold_epoch (a : Nat) : (darkHold s a).epoch = s.epoch := by simp [darkHold]
@[simp] theorem residTest_epoch (n d a : Nat) (e : Int) : (residTest s n d a e).epoch = s.epoch := by simp [residTest]
@[simp] theorem history_epoch (n l d : Nat) (x : Sample) (e : Int) : (history s n l d x e).epoch = s.epoch := by simp [history]

@[simp] theorem computedUpdate_epoch (n l d a : Nat) (x : Sample) (e0 : Int) : (computedUpdate s n l d a x e0).epoch = s.epoch := by
  unfold computedUpdate
  extract_lets es s0 e integ0 integ dd un ulim
  have h0 : s0.epoch = s.epoch := residTest_epoch ..
  clear_value s0 integ un ulim e
  split
  next integW sA hA =>
  have hA : sA.epoch = s0.epoch := by rw [← fitInt_epoch s0 32 integ, hA]
  split
  next unW sB hB =>
  have hB : sB.epoch = sA.epoch := by rw [← fitInt_epoch sA 18 un, hB]
  extract_lets s1 s2 s3
  have h1 : s1.epoch = sB.epoch := by simp [s1]
  have h2 : s2.epoch = s1.epoch := by simp [s2]
  have h3 : s3.epoch = s2.epoch := by simp [s3]
  rw [bump_epoch, history_epoch, h3, h2, h1, hB, hA, h0]

@[simp] theorem refreshPrev_epoch (a : Nat) (x : Sample) (v : Int) : (refreshPrev s a x v).epoch = s.epoch := by
  unfold refreshPrev
  split
  · simp
  · split <;> simp

@[simp] theorem applyCodes_epoch (n l d a : Nat) (vOld : Int) : (applyCodes s n l d a vOld).epoch = s.epoch := by
  unfold applyCodes
  extract_lets g arg vh
  split
  next t s1 ht =>
  have h1 : s1.epoch = s.epoch := by rw [← trimCode_epoch s n l arg vh, ht]
  extract_lets s2 s3 _ s4
  have h2 : s2.epoch = s1.epoch := by simp [s2]
  have h3 : s3.epoch = s2.epoch := by simp [s3]
  have h4 : s4.epoch = s3.epoch := by simp [s4]
  clear_value s4
  split
  · rw [h4, h3, h2, h1]
  · split
    next f s5 hf =>
    have h5 : s5.epoch = s4.epoch := by rw [← fastCode_epoch s4 n l (getMI s a lDLIVE) (getMI s a lV), hf]
    rw [setPath_epoch, h5, h4, h3, h2, h1]

@[simp] theorem applyPcfg_epoch (a : Nat) (w : Word × Word × Word × Word) : (applyPcfg s a w).epoch = s.epoch := by simp [applyPcfg]
@[simp] theorem applyWaiting_epoch (a : Nat) (m : Mon) : (applyWaiting s a m).epoch = s.epoch := by
  unfold applyWaiting
  dsimp only
  (repeat' split) <;> simp

@[simp] theorem deckUpdate_epoch (n l d : Nat) (m : Mon) (x : Sample) : (deckUpdate s n l d m x).epoch = s.epoch := by
  unfold deckUpdate
  extract_lets a s0 v0 s1 mode sU s2 e s3
  have h0 : s0.epoch = s.epoch := applyWaiting_epoch ..
  have h1 : s1.epoch = s0.epoch := by simp [s1]
  have hU : sU.epoch = s1.epoch := by simp [sU]
  have h2 : s2.epoch = sU.epoch := by simp [s2]
  have h3 : s3.epoch = s2.epoch := by
    unfold s3
    clear_value s2 e mode
    split
    · simp
    split
    · simp
    split
    · simp
    split
    · simp
    split <;> simp
  rw [refreshPrev_epoch, h3, h2, hU, h1, h0]

@[simp] theorem observe_epoch (n l : Nat) : (observe s n l).epoch = s.epoch := by simp [observe]
@[simp] theorem periodStep_epoch (n l : Nat) : (periodStep s n l).epoch = s.epoch := by simp -implicitDefEqProofs [periodStep]
@[simp] theorem loopClose_epoch (n l : Nat) (m : Mon) (x : Sample) : (loopClose s n l m x).epoch = s.epoch := by simp [loopClose]
@[simp] theorem keepsEpoch_execMonitorWindowClose (n : Span) (l : Local) (countA countB : BitVec 16) :
    KeepsEpoch s (execMonitorWindowClose n l countA countB s) := by
  unfold execMonitorWindowClose
  dsimp only
  split <;> simp
@[simp] theorem releaseRecord_epoch (n l d : Nat) : (releaseRecord s n l d).epoch = s.epoch := by
  unfold releaseRecord
  dsimp only
  split <;> simp
@[simp] theorem pselOp_epoch (n op : Nat) : (pselOp s n op).epoch = s.epoch := by
  unfold pselOp
  split <;> simp
@[simp] theorem periodWritten_epoch (n old : Nat) : (periodWritten s n old).epoch = s.epoch := by simp [periodWritten]
@[simp] theorem ttWritten_epoch (n l : Nat) : (ttWritten s n l).epoch = s.epoch := by simp [ttWritten]

/-! ### Lift -/

@[simp] theorem markDone_epoch (id n d : Nat) : (markDone s id n d).epoch = s.epoch := rfl
@[simp] theorem stagePier_epoch (fs : List CalUpset) (n d : Nat) (e : Nat × Nat) : (stagePier fs n d s e).epoch = s.epoch := by simp [stagePier]
@[simp] theorem keepsEpoch_execRequestPass (n : Span) (d : Deck) (faults : List CalUpset) : KeepsEpoch s (execRequestPass n d faults s) := by
  unfold execRequestPass
  split <;> simp
@[simp] theorem abandonPasses_epoch (n d t : Nat) : (abandonPasses s n d t).epoch = s.epoch := rfl
@[simp] theorem lateDeck_epoch (n d t : Nat) : (lateDeck s n d t).epoch = s.epoch := by simp [lateDeck]
@[simp] theorem stageTest_epoch (t n : Nat) : (stageTest t s n).epoch = s.epoch := by simp [stageTest]
@[simp] theorem keepsEpoch_execStageReadyTest (n : Span) : KeepsEpoch s (execStageReadyTest n s) := by
  unfold execStageReadyTest
  split <;> simp
@[simp] theorem releaseDeck_epoch (n l d : Nat) : (releaseDeck s n l d).epoch = s.epoch := by
  unfold releaseDeck
  dsimp only
  (repeat' split) <;> simp -implicitDefEqProofs
@[simp] theorem releasePier_epoch (n l o : Nat) : (releasePier s n l o).epoch = s.epoch := by simp [releasePier]
@[simp] theorem strobePier_epoch (own : Bool) (n o l : Nat) : (strobePier own n o s l).epoch = s.epoch := by simp [strobePier]
@[simp] theorem strobeSpan_epoch (own : Bool) (n : Nat) : (strobeSpan own s n).epoch = s.epoch := by simp -implicitDefEqProofs [strobeSpan]
@[simp] theorem releaseStrobe_epoch (t : Nat) (treeA treeB : Bool) : (releaseStrobe t s treeA treeB).epoch = s.epoch := by simp [releaseStrobe]
@[simp] theorem runOff_epoch : (runOff s).epoch = s.epoch := by simp [runOff]
@[simp] theorem runFalls_epoch (t : Nat) : (runFalls s t).epoch = s.epoch := by simp [runFalls]
@[simp] theorem keepsEpoch_execLiftWindowStart (treeA treeB : Bool) : KeepsEpoch s (execLiftWindowStart treeA treeB s) := by
  simp [execLiftWindowStart]
@[simp] theorem keepsEpoch_execScheduleStart : KeepsEpoch s (execScheduleStart s) := by simp [execScheduleStart]
@[simp] theorem swapWritten_epoch : (swapWritten s).epoch = s.epoch := by
  unfold swapWritten
  dsimp only
  (repeat' split) <;> simp
@[simp] theorem keepsEpoch_execSwapExecute : KeepsEpoch s (execSwapExecute s) := by
  unfold execSwapExecute
  split <;> simp
@[simp] theorem enCleared_epoch : (enCleared s).epoch = s.epoch := by simp [enCleared]
@[simp] theorem stopSchedule_epoch : (stopSchedule s).epoch = s.epoch := by simp [stopSchedule]

/-! ### Sequence -/

@[simp] theorem hkFresh_epoch (i : Nat) : (hkFresh s i).epoch = s.epoch := rfl

@[simp] theorem showZones_epoch : (showZones s).epoch = s.epoch := by
  refine foldl_epoch (fun u z => ?_) _ _
  split <;> simp -implicitDefEqProofs

@[simp] theorem invalidEntry_epoch (i : Nat) : (invalidEntry s i).epoch = s.epoch := rfl
@[simp] theorem reservedEntry_epoch (i : Nat) : (reservedEntry s i).epoch = s.epoch := by simp [reservedEntry]
@[simp] theorem beginConversion_epoch : (beginConversion s).epoch = s.epoch := rfl
@[simp] theorem showBusy_epoch : (showBusy s).epoch = s.epoch := rfl
@[simp] theorem endCycle_epoch : (endCycle s).epoch = s.epoch := rfl

@[simp] theorem seekEntry_epoch (fuel i : Nat) : (seekEntry s fuel i).epoch = s.epoch := by
  induction fuel generalizing s i with
  | zero => exact endCycle_epoch s
  | succ fuel ih => simp -implicitDefEqProofs [seekEntry, ih]

@[simp] theorem abortConversion_epoch : (abortConversion s).epoch = s.epoch := by simp [abortConversion]
@[simp] theorem requestUrgent_epoch (u : Urgent) : (requestUrgent s u).epoch = s.epoch := by simp [requestUrgent]
@[simp] theorem urgentWritten_epoch : (urgentWritten s).epoch = s.epoch := by simp [urgentWritten]
@[simp] theorem nextCalConversion_epoch : (nextCalConversion s).epoch = s.epoch := by
  unfold nextCalConversion
  split <;> simp
@[simp] theorem calibrateHk_epoch : (calibrateHk s).epoch = s.epoch := by simp [calibrateHk]
@[simp] theorem switchClock_epoch (crystal : Bool) : (switchClock s crystal).epoch = s.epoch := by simp [switchClock]
@[simp] theorem sleepClock_epoch : (sleepClock s).epoch = s.epoch := by simp [sleepClock]

/-! ### Cal -/

@[simp] theorem showSeq_epoch (n : Nat) (q : CalSeq) : (showSeq s n q).epoch = s.epoch := rfl
@[simp] theorem setSeq_epoch (n : Nat) (q : CalSeq) : (setSeq s n q).epoch = s.epoch := rfl
@[simp] theorem trigger_epoch (n k : Nat) : (trigger s n k).epoch = s.epoch := by simp [trigger]
@[simp] theorem recordZone_epoch (n k z : Nat) (core : Bool) : (recordZone s n k z core).epoch = s.epoch := by
  unfold recordZone
  split <;> simp
@[simp] theorem recordTemps_epoch (n k : Nat) : (recordTemps s n k).epoch = s.epoch := by simp [recordTemps]
@[simp] theorem endRun_epoch (n k : Nat) : (endRun s n k).epoch = s.epoch := by simp [endRun]
@[simp] theorem calTemps_epoch : (calTemps s).epoch = s.epoch := by simp [calTemps]
@[simp] theorem heldPiers_epoch (n : Nat) (c : CalStep) : (heldPiers s n c).2.epoch = s.epoch := by
  unfold heldPiers
  split <;> simp
@[simp] theorem holdFronts_epoch (b : Bool) (gs : List Nat) : (holdFronts s b gs).epoch = s.epoch := by simp -implicitDefEqProofs [holdFronts]
@[simp] theorem releaseFronts_epoch (n : Nat) : (releaseFronts s n).epoch = s.epoch := by simp [releaseFronts]
@[simp] theorem freeFronts_epoch (n : Nat) : (freeFronts s n).epoch = s.epoch := by simp [freeFronts]
@[simp] theorem keepsEpoch_execCalStepStart (n : Span) : KeepsEpoch s (execCalStepStart n s) := by
  unfold execCalStepStart
  split <;> simp
@[simp] theorem accepted_epoch : (accepted s).epoch = s.epoch := by simp [accepted]
@[simp] theorem setRetry_epoch (g item v : Nat) : (setRetry s g item v).epoch = s.epoch := rfl
@[simp] theorem disagree_epoch (g item : Nat) : (disagree s g item).epoch = s.epoch := by simp [disagree]
@[simp] theorem rejectP_epoch (source address : Nat) : (rejectP s source address).epoch = s.epoch := by simp [rejectP]
@[simp] theorem trimChannel_epoch (n l d : Nat) (e : Nat × Int × Int) : (trimChannel n l d s e).1.epoch = s.epoch := by
  unfold trimChannel
  dsimp only
  (repeat' split) <;> simp
@[simp] theorem comparePath_epoch (n l d : Nat) (t : PathTrims) : (comparePath s n l d t).1.epoch = s.epoch := by simp [comparePath]
@[simp] theorem endCompare_epoch (n l : Nat) (r : CalReading) : (endCompare s n l r).epoch = s.epoch := by
  unfold endCompare
  dsimp only
  (repeat' split) <;> simp
@[simp] theorem digitizerTrim_epoch (n i : Nat) (e : Local × Int × Int) : (digitizerTrim n i s e).epoch = s.epoch := by
  unfold digitizerTrim
  split <;> simp
@[simp] theorem evaluate_epoch (n l : Nat) : (evaluate n s l).epoch = s.epoch := by
  unfold evaluate
  dsimp only
  (repeat' split) <;> simp
@[simp] theorem stepResult_epoch (n : Nat) (x : CalStep) (r : CalReading) : (stepResult s n x r).epoch = s.epoch := by
  unfold stepResult
  split <;> simp
@[simp] theorem settleRun_epoch (n k : Nat) : (settleRun s n k).epoch = s.epoch := by
  unfold settleRun
  split <;> simp
@[simp] theorem keepsEpoch_execCalStepEnd (n : Span) (r : CalReading) : KeepsEpoch s (execCalStepEnd n r s) := by
  unfold execCalStepEnd
  dsimp only
  split <;> simp
@[simp] theorem keepsEpoch_execExtRunEnd (n : Span) : KeepsEpoch s (execExtRunEnd n s) := by simp [execExtRunEnd]
@[simp] theorem keepsEpoch_execCalStarved (n : Span) : KeepsEpoch s (execCalStarved n s) := by simp [execCalStarved]
@[simp] theorem abandonStep_epoch (n : Nat) : (abandonStep s n).epoch = s.epoch := by
  unfold abandonStep
  dsimp only
  split <;> simp
@[simp] theorem abandonCal_epoch : (abandonCal s).epoch = s.epoch := by
  unfold abandonCal
  dsimp only
  (repeat' split) <;> simp -implicitDefEqProofs
@[simp] theorem dropRuns_epoch : (dropRuns s).epoch = s.epoch := by simp -implicitDefEqProofs [dropRuns]
@[simp] theorem beginPowerUp_epoch : (beginPowerUp s).epoch = s.epoch := by simp [beginPowerUp]
@[simp] theorem beginSweep_epoch (n : Nat) (rest : List Nat) : (beginSweep s n rest).epoch = s.epoch := by simp [beginSweep]
@[simp] theorem sweepCommand_epoch : (sweepCommand s).epoch = s.epoch := by
  unfold sweepCommand
  dsimp only
  split <;> simp
@[simp] theorem vertexPhase_epoch (base : Int) (v : ℚ) : (vertexPhase s base v).2.epoch = s.epoch := by simp [vertexPhase]
@[simp] theorem bothPhases_epoch (base : Int) (p q : Option ℚ) : (bothPhases s base p q).2.epoch = s.epoch := by
  unfold bothPhases
  split <;> simp
@[simp] theorem sweepResult_epoch (n l item : Nat) (f : MFld) (m : Option (Int × Int)) : (sweepResult s n l item f m).epoch = s.epoch := by
  unfold sweepResult
  split <;> simp
@[simp] theorem sweepPier_epoch (n : Nat) (r : SweepReading) : (sweepPier n s r).epoch = s.epoch := by
  unfold sweepPier
  dsimp only
  (repeat' split) <;> simp
@[simp] theorem startStore_epoch : (startStore s).epoch = s.epoch := by simp [startStore]
@[simp] theorem keepsEpoch_execCalStoreTimer : KeepsEpoch s (execCalStoreTimer s) := by simp [execCalStoreTimer]
@[simp] theorem storeAfterPowerUp_epoch : (storeAfterPowerUp s).epoch = s.epoch := by simp [storeAfterPowerUp]
@[simp] theorem keepsEpoch_execSweepEnd (n : Span) (readings : List SweepReading) : KeepsEpoch s (execSweepEnd n readings s) := by
  unfold execSweepEnd
  dsimp only
  (repeat' split) <;> simp
@[simp] theorem recordWritten_epoch : (recordWritten s).epoch = s.epoch := by simp [recordWritten]
@[simp] theorem recordAbandoned_epoch : (recordAbandoned s).epoch = s.epoch := rfl

/-! ### Faults -/

@[simp] theorem logFault_epoch (m : BitVec 64) : (logFault s m).epoch = s.epoch := by simp [logFault]
@[simp] theorem countFault_epoch (m : BitVec 64) : (countFault s m).epoch = s.epoch := by simp [countFault]
@[simp] theorem startQuiet_epoch : (startQuiet s).epoch = s.epoch := by simp [startQuiet]
@[simp] theorem recheckConditions_epoch : (recheckConditions s).epoch = s.epoch := by simp [recheckConditions]
@[simp] theorem parkRequest_epoch : (parkRequest s).epoch = s.epoch := by simp [parkRequest]
@[simp] theorem fatalAction_epoch (m : BitVec 64) : (fatalAction s m).epoch = s.epoch := by simp [fatalAction]
@[simp] theorem recordFatal_epoch (m : BitVec 64) : (recordFatal s m).epoch = s.epoch := by simp [recordFatal]
@[simp] theorem countEscalation_epoch : (countEscalation s).epoch = s.epoch := by simp [countEscalation]
@[simp] theorem openFault_epoch (m : BitVec 64) : (openFault s m).epoch = s.epoch := by
  unfold openFault
  split <;> simp
@[simp] theorem closeSlot_epoch (i : Nat) : (closeSlot s i).epoch = s.epoch := rfl
@[simp] theorem recordFault_epoch (m : BitVec 64) : (recordFault s m).epoch = s.epoch := by simp [recordFault]
@[simp] theorem keepsEpoch_execFaultRecord (src : SourceCode) : KeepsEpoch s (execFaultRecord src s) := by
  unfold execFaultRecord
  split <;> simp
@[simp] theorem keepsEpoch_execCorrectedDrop (msg : BitVec 64) : KeepsEpoch s (execCorrectedDrop msg s) := by simp [execCorrectedDrop]
@[simp] theorem keepsEpoch_execEscalation (slot : OpenSlot) : KeepsEpoch s (execEscalation slot s) := by simp [execEscalation]
@[simp] theorem clearFault_epoch (master i : Nat) : (clearFault s master i).epoch = s.epoch := by simp [clearFault]
@[simp] theorem aliveWritten_epoch (s0 : State) : (aliveWritten s0 s).epoch = s.epoch := by
  unfold aliveWritten
  split <;> simp

/-! ### Toll -/

@[simp] theorem appendLog_epoch (typ : Nat) (body : List Byte) : (appendLog s typ body).2.epoch = s.epoch := by
  unfold appendLog
  dsimp only
  split <;> simp
@[simp] theorem nextSector_epoch (len : Nat) : (nextSector s len).epoch = s.epoch := by simp [nextSector]
@[simp] theorem queueJob_epoch (kind : JobKind) (body : List Byte) : (queueJob s kind body).epoch = s.epoch := rfl
@[simp] theorem beginJob_epoch (j : Job) : (beginJob s j).epoch = s.epoch := by simp [beginJob]
@[simp] theorem nextFlash_epoch : (nextFlash s).epoch = s.epoch := by
  unfold nextFlash
  dsimp only
  (repeat' split) <;> simp
@[simp] theorem keepsEpoch_execTollhouseJob : KeepsEpoch s (execTollhouseJob s) := by
  unfold execTollhouseJob
  dsimp only
  (repeat' split) <;> simp
@[simp] theorem showWriting_epoch : (showWriting s).epoch = s.epoch := rfl
@[simp] theorem abandonJob_epoch (j : Job) : (abandonJob s j).epoch = s.epoch := by
  unfold abandonJob
  split <;> simp
@[simp] theorem abandonJobs_epoch : (abandonJobs s).epoch = s.epoch := by simp [abandonJobs]
@[simp] theorem flashUndefined_epoch (a n : Nat) : (flashUndefined s a n).epoch = s.epoch := by simp [flashUndefined]
@[simp] theorem pageUndefined_epoch (a : Nat) : (pageUndefined s a).epoch = s.epoch := by simp [pageUndefined]
@[simp] theorem footDirty_epoch (a n : Nat) : (footDirty s a n).epoch = s.epoch := by simp [footDirty]
@[simp] theorem breakHost_epoch (h : HostOp) : (breakHost s h).epoch = s.epoch := by simp [breakHost]
@[simp] theorem abandonHost_epoch : (abandonHost s).epoch = s.epoch := by
  unfold abandonHost
  split <;> simp
@[simp] theorem breakFlash_epoch : (breakFlash s).epoch = s.epoch := by
  unfold breakFlash
  split <;> simp

/-! ### Power -/

@[simp] theorem resetIslands_epoch (drives : Bool) : (resetIslands s drives).epoch = s.epoch := rfl
@[simp] theorem resetForRecovery_epoch : (resetForRecovery s).epoch = s.epoch := by simp [resetForRecovery]
@[simp] theorem resetWarm_epoch : (resetWarm s).epoch = s.epoch := rfl
@[simp] theorem setTries_epoch (i : Nat) (x : Option (Nat × Nat)) : (setTries s i x).epoch = s.epoch := rfl
@[simp] theorem startPll_epoch (i : Nat) : (startPll s i).epoch = s.epoch := rfl
@[simp] theorem stopPlls_epoch : (stopPlls s).epoch = s.epoch := by simp -implicitDefEqProofs [stopPlls]
@[simp] theorem fixP0_epoch (n : Nat) : (fixP0 s n).epoch = s.epoch := rfl
@[simp] theorem pllRejected_epoch : (pllRejected s).epoch = s.epoch := by simp [pllRejected]
@[simp] theorem attemptFailed_epoch (i k : Nat) : (attemptFailed s i k).epoch = s.epoch := by
  unfold attemptFailed
  dsimp only
  (repeat' split) <;> simp
@[simp] theorem keepsEpoch_execPllLock (i : PllIx) (band : Fin 64) : KeepsEpoch s (execPllLock i band s) := by
  unfold execPllLock
  split <;> simp
@[simp] theorem keepsEpoch_execPllLockTimeout (i : PllIx) : KeepsEpoch s (execPllLockTimeout i s) := by
  unfold execPllLockTimeout
  split <;> simp
@[simp] theorem keepsEpoch_execPllLoss (i : PllIx) (burst : Option Burst) : KeepsEpoch s (execPllLoss i burst s) := by simp [execPllLoss]
@[simp] theorem jointUp_epoch (j : Nat) (lost : Nat) : (jointUp s j lost).epoch = s.epoch := by simp [jointUp]
@[simp] theorem joinAll_epoch : (joinAll s).epoch = s.epoch := by simp [joinAll]
@[simp] theorem keepsEpoch_execJointUp (j : Joint) (lost : Lost) : KeepsEpoch s (execJointUp j lost s) := by simp [execJointUp]
@[simp] theorem keepsEpoch_execJointSat (j : Joint) (lost : Lost) : KeepsEpoch s (execJointSat j lost s) := by simp [execJointSat]
@[simp] theorem beginMove_epoch (m : Move) (k : Nat) : (beginMove s m k).epoch = s.epoch := by simp [beginMove]
@[simp] theorem nextStep_epoch (k : Nat) : (nextStep s k).epoch = s.epoch := by
  unfold nextStep
  split <;> simp
@[simp] theorem armWake_epoch : (armWake s).epoch = s.epoch := by simp [armWake]
@[simp] theorem enterRest_epoch : (enterRest s).epoch = s.epoch := by simp [enterRest]
@[simp] theorem endMove_epoch (st : Nat) : (endMove s st).epoch = s.epoch := by simp [endMove]
@[simp] theorem sleepNow_epoch : (sleepNow s).epoch = s.epoch := by simp [sleepNow]
@[simp] theorem keepsEpoch_execSleepToStandby : KeepsEpoch s (execSleepToStandby s) := by simp [execSleepToStandby]
@[simp] theorem holdPorts_epoch : (holdPorts s).epoch = s.epoch := by simp [holdPorts]
@[simp] theorem trimOscillator_epoch (osc : OscReading) : (trimOscillator s osc).epoch = s.epoch := by simp [trimOscillator]
@[simp] theorem keepsEpoch_execStandbyToReady (osc : OscReading) : KeepsEpoch s (execStandbyToReady osc s) := by simp [execStandbyToReady]
@[simp] theorem startWork_epoch (k : Nat) : (startWork s k).epoch = s.epoch := by simp [startWork]
@[simp] theorem keepsEpoch_execReadyToHold : KeepsEpoch s (execReadyToHold s) := by simp [execReadyToHold]

@[simp] theorem startCode_epoch (n l t d : Nat) : (startCode n l t s d).epoch = s.epoch := by
  unfold startCode
  extract_lets a g delta s1
  have h1 : s1.epoch = s.epoch := by simp [s1]
  clear_value s1
  split
  next f s2 hf =>
  have h2 : s2.epoch = s1.epoch := by rw [← fastCode_epoch s1 n l delta (getMI s1 a lV), hf]
  extract_lets arg
  split
  next c s3 hc =>
  have h3 : s3.epoch = s2.epoch := by rw [← trimCode_epoch s2 n l arg (getF s2 (LZ_VHTR_MV n)), hc]
  rw [setPath_epoch, h3, h2, h1]

@[simp] theorem keepCode_epoch (n l d : Nat) : (keepCode n l s d).epoch = s.epoch := rfl
@[simp] theorem startPier_epoch (g : Nat) : (startPier s g).epoch = s.epoch := by simp [startPier]
@[simp] theorem startPass_epoch : (startPass s).epoch = s.epoch := by
  unfold startPass
  dsimp only
  split <;> simp
@[simp] theorem endPowerUp_epoch : (endPowerUp s).epoch = s.epoch := by simp [endPowerUp]
@[simp] theorem descend_epoch : (descend s).epoch = s.epoch := by simp [descend]
@[simp] theorem holdStepEnd_epoch (m : Moving) : (holdStepEnd s m).epoch = s.epoch := by
  unfold holdStepEnd
  split <;> simp
@[simp] theorem keepsEpoch_execTransitionStepEnd : KeepsEpoch s (execTransitionStepEnd s) := by
  unfold execTransitionStepEnd
  dsimp only
  (repeat' split) <;> simp
@[simp] theorem keepsEpoch_execHoldToService : KeepsEpoch s (execHoldToService s) := by simp [execHoldToService]
@[simp] theorem keepsEpoch_execServiceToHold : KeepsEpoch s (execServiceToHold s) := by simp [execServiceToHold]
@[simp] theorem keepsEpoch_execHoldToReady : KeepsEpoch s (execHoldToReady s) := by simp [execHoldToReady]
@[simp] theorem leaveReady_epoch : (leaveReady s).epoch = s.epoch := by simp -implicitDefEqProofs [leaveReady]
@[simp] theorem keepsEpoch_execReadyToStandby : KeepsEpoch s (execReadyToStandby s) := by simp [execReadyToStandby]
@[simp] theorem enterSleep_epoch (retain : Bool) : (enterSleep s retain).epoch = s.epoch := rfl
@[simp] theorem keepsEpoch_execStandbyToSleep : KeepsEpoch s (execStandbyToSleep s) := by simp [execStandbyToSleep]
@[simp] theorem wake_epoch : (wake s).epoch = s.epoch := by simp [wake]
@[simp] theorem collapse_epoch : (collapse s).epoch = s.epoch := by simp -implicitDefEqProofs [collapse]
@[simp] theorem restIn_epoch (st : Nat) : (restIn s st).epoch = s.epoch := by simp [restIn]
@[simp] theorem keepsEpoch_execRstNAssert : KeepsEpoch s (execRstNAssert s) := by simp [execRstNAssert]
@[simp] theorem keepsEpoch_execRstNRise : KeepsEpoch s (execRstNRise s) := by simp [execRstNRise]
@[simp] theorem keepsEpoch_execWakeTimer : KeepsEpoch s (execWakeTimer s) := by simp [execWakeTimer]
@[simp] theorem setRail_epoch (i : Nat) (b : Bool) : (setRail s i b).epoch = s.epoch := rfl

@[simp] theorem loadFuses_epoch : (loadFuses s).epoch = s.epoch := by
  simp -implicitDefEqProofs only [loadFuses, setFlag_epoch, setF_epoch]
  refine foldl_epoch (fun u i => ?_) _ _
  split <;> simp

@[simp] theorem keepsEpoch_execRailGood (r : Rail) : KeepsEpoch s (execRailGood r s) := by simp [execRailGood]
@[simp] theorem loseVdd_epoch : (loseVdd s).epoch = s.epoch := by simp [loseVdd]
@[simp] theorem tollPark_epoch : (tollPark s).epoch = s.epoch := by simp [tollPark]
@[simp] theorem keepsEpoch_execRailBad (r : Rail) : KeepsEpoch s (execRailBad r s) := by
  unfold execRailBad
  split <;> simp
@[simp] theorem keepsEpoch_execHtrTrkUpdate : KeepsEpoch s (execHtrTrkUpdate s) := by simp [execHtrTrkUpdate]
@[simp] theorem keepsEpoch_execXtalValid : KeepsEpoch s (execXtalValid s) := by simp [execXtalValid]

/-! ### Flash -/

@[simp] theorem refuseFlash_epoch : (refuseFlash s).epoch = s.epoch := rfl
@[simp] theorem nvCommand_epoch (op : Nat) (allowed : Bool) : (nvCommand s op allowed).1.epoch = s.epoch := by
  unfold nvCommand
  dsimp only
  (repeat' split) <;> simp

@[simp] theorem readToBuf_epoch (a n : Nat) : (readToBuf s a n).epoch = s.epoch := by
  refine foldl_epoch (fun u i => ?_) _ _
  rw [setF_epoch]
  split <;> rfl

@[simp] theorem applyHost_epoch (h : HostOp) (ok : Bool) : (applyHost s h ok).epoch = s.epoch := by
  unfold applyHost
  split <;> simp
@[simp] theorem keepsEpoch_execFlashOpDone (ok : Bool) : KeepsEpoch s (execFlashOpDone ok s) := by
  unfold execFlashOpDone
  split <;> simp

/-! ### Route -/

@[simp] theorem projectTargets_epoch (ts : List (Nat × Nat)) : (projectTargets s ts).epoch = s.epoch := rfl

@[simp] theorem countRoute_epoch (m : EMap) (q : Request) (ns : Nat) : (countRoute s m q ns).epoch = s.epoch := by
  unfold countRoute
  extract_lets x k t s1 s2
  have h2 : s2.epoch = s.epoch := by simp [s2, s1]
  clear_value k s2
  cases k <;> simp [h2]

@[simp] theorem routeCancelled_epoch (q : Request) (code index detail : Nat) : (routeCancelled s q code index detail).epoch = s.epoch := by
  unfold routeCancelled
  split <;> simp
@[simp] theorem routeStaged_epoch (q : Request) (conns : List Conn) (cs : List Circuit) (gs : List Group)
    (ts dl : List (Nat × Nat)) (a b : Option (List (Nat × Nat))) :
    (routeStaged s q conns cs gs ts dl a b).epoch = s.epoch := by
  simp [routeStaged]
@[simp] theorem routeFaults_epoch (q : Request) (j : Judged) : (routeFaults s q j).epoch = s.epoch := by
  unfold routeFaults
  dsimp only
  split <;> simp
@[simp] theorem keepsEpoch_execRouteDone (ns : Nat) (half0 half1 : RouteHalf) (checkA checkB : CheckerUpset) (ecc : List MemUpset) :
    KeepsEpoch s (execRouteDone ns half0 half1 checkA checkB ecc s) := by
  unfold execRouteDone
  dsimp only
  (repeat' split) <;> simp
@[simp] theorem failWord_epoch (i v : Nat) : (failWord s i v).epoch = s.epoch := by simp [failWord]

/-! ### RegWrite -/

@[simp] theorem storeWrite_epoch (a : Nat) (v : Word) : (storeWrite s a v).epoch = s.epoch := by
  unfold storeWrite
  split <;> simp
@[simp] theorem partitionWritten_epoch (a : Nat) (v : Word) : (partitionWritten s a v).epoch = s.epoch := by simp [partitionWritten]
@[simp] theorem lsCtrlWritten_epoch (v : Word) : (lsCtrlWritten s v).epoch = s.epoch := by simp [lsCtrlWritten]
@[simp] theorem bankWritten_epoch (b a : Nat) (v : Word) : (bankWritten s b a v).epoch = s.epoch := by simp [bankWritten]
@[simp] theorem pipeWritten_epoch : (pipeWritten s).epoch = s.epoch := by simp [pipeWritten]
@[simp] theorem exclWritten_epoch (s0 : State) (d i : Nat) (v : Word) : (exclWritten s0 s d i v).epoch = s.epoch := by simp [exclWritten]
@[simp] theorem unfreezeAll_epoch : (unfreezeAll s).epoch = s.epoch := by simp [unfreezeAll]
@[simp] theorem dkCtrlWritten_epoch (s0 : State) : (dkCtrlWritten s0 s).epoch = s.epoch := by simp [dkCtrlWritten]
@[simp] theorem targetWritten_epoch (s0 : State) : (targetWritten s0 s).epoch = s.epoch := by simp [targetWritten]
@[simp] theorem hkEntryWritten_epoch (s0 : State) (i : Nat) : (hkEntryWritten s0 s i).epoch = s.epoch := by simp [hkEntryWritten]

@[simp] theorem hkCtrlWritten_epoch (s0 : State) : (hkCtrlWritten s0 s).epoch = s.epoch := by
  unfold hkCtrlWritten
  rw [showZones_epoch]
  split
  · exact foldl_epoch hkFresh_epoch _ _
  · rfl

@[simp] theorem tcCtrlWritten_epoch (v : Word) : (tcCtrlWritten s v).epoch = s.epoch := by simp [tcCtrlWritten]
@[simp] theorem streamWritten_epoch (k : Nat) : (streamWritten s k).epoch = s.epoch := by simp [streamWritten]
@[simp] theorem cpWrite_epoch (p a : Nat) (v : Word) : (cpWrite s p a v).epoch = s.epoch := by simp [cpWrite]
@[simp] theorem tgWrite_epoch (a : Nat) (v : Word) : (tgWrite s a v).epoch = s.epoch := by simp [tgWrite]
@[simp] theorem adWrite_epoch (a : Nat) (v : Word) : (adWrite s a v).epoch = s.epoch := by simp [adWrite]
@[simp] theorem ntWrite_epoch (a : Nat) (v : Word) : (ntWrite s a v).epoch = s.epoch := by simp [ntWrite]
@[simp] theorem ksWrite_epoch (a : Nat) (v : Word) : (ksWrite s a v).epoch = s.epoch := by simp [ksWrite]
@[simp] theorem dkWrite_epoch (a : Nat) (v : Word) : (dkWrite s a v).epoch = s.epoch := by simp -implicitDefEqProofs [dkWrite]
@[simp] theorem fcWrite_epoch (master a : Nat) (v : Word) : (fcWrite s master a v).epoch = s.epoch := by simp -implicitDefEqProofs [fcWrite]
@[simp] theorem tcWrite_epoch (a : Nat) (v : Word) : (tcWrite s a v).epoch = s.epoch := by simp [tcWrite]
@[simp] theorem nvWrite_epoch (mayFlash : Bool) (a : Nat) (v : Word) : (nvWrite s mayFlash a v).1.epoch = s.epoch := by
  unfold nvWrite
  split <;> simp
@[simp] theorem thWrite_epoch (a : Nat) (v : Word) : (thWrite s a v).epoch = s.epoch := by simp -implicitDefEqProofs [thWrite]
@[simp] theorem spanWrite_epoch (n a : Nat) (v : Word) : (spanWrite s n a v).epoch = s.epoch := by simp [spanWrite]

@[simp] theorem regWritten_epoch (master : Nat) (mayFlash : Bool) (a : Nat) (v : Word) :
    (regWritten s master mayFlash a v).1.epoch = s.epoch := by
  have chosen {c : Prop} [Decidable c] {x y : State × Bool} (hx : x.1.epoch = s.epoch) (hy : y.1.epoch = s.epoch) :
      (if c then x else y).1.epoch = s.epoch := by
    split <;> assumption
  unfold regWritten
  repeat' apply chosen
  all_goals simp -implicitDefEqProofs

/-! ### Bus -/

@[simp] theorem setLatch_epoch (master : Nat) (x : Option (Nat × Nat)) : (setLatch s master x).epoch = s.epoch := rfl

@[simp] theorem counterRead_epoch (master a : Nat) : (counterRead s master a).2.epoch = s.epoch := by
  unfold counterRead
  split
  · split
    · split <;> simp
    · rfl
  · split <;> simp

@[simp] theorem clearOnRead_epoch (a : Nat) : (clearOnRead s a).epoch = s.epoch := by
  unfold clearOnRead
  split <;> simp
@[simp] theorem registerRead_epoch (master a : Nat) : (registerRead s master a).2.epoch = s.epoch := by
  unfold registerRead
  dsimp only
  split <;> simp
@[simp] theorem memoryWrite_epoch (a key : Nat) (w : Word) : (memoryWrite s a key w).epoch = s.epoch := by simp [memoryWrite]
@[simp] theorem busError_epoch (master a kind : Nat) (write : Bool) : (busError s master a kind write).epoch = s.epoch := by simp [busError]
@[simp] theorem noteWait_epoch (master ns : Nat) : (noteWait s master ns).epoch = s.epoch := rfl
@[simp] theorem beginLock_epoch (master target : Nat) : (beginLock s master target).epoch = s.epoch := rfl
@[simp] theorem brokenAccess_epoch (master : Nat) (u : LockUse) : (brokenAccess s master u).epoch = s.epoch := by simp [brokenAccess]
@[simp] theorem keepsEpoch_execLockBreak : KeepsEpoch s (execLockBreak s) := by
  unfold execLockBreak
  split <;> simp
@[simp] theorem placeWrite_epoch (master : Nat) (mayFlash : Bool) (a : Nat) (w : Word) (enables : BitVec 4) :
    (placeWrite s master mayFlash a w enables).1.epoch = s.epoch := by
  unfold placeWrite
  split <;> simp

/-- The lock rules give or refuse an access in a state of the same epoch. -/
def Grant.KeepsEpoch (s : State) : Grant → Prop
  | .granted s1 => s1.epoch = s.epoch
  | .refused s1 => s1.epoch = s.epoch
  | .waits => True
theorem arbitrate_keepsEpoch (master target : Nat) (u : LockUse) : (arbitrate s master target u).KeepsEpoch s := by
  unfold arbitrate
  split <;> split_ifs <;> simp [Grant.KeepsEpoch]
@[simp] theorem busWrite_epoch (master : Nat) (mayFlash : Bool) (a : Nat) (w : Word) (wait : Nat) (u : LockUse) (enables : BitVec 4) :
    (busWrite s master mayFlash a w wait u enables).1.epoch = s.epoch := by
  have hg := arbitrate_keepsEpoch s master (targetOf a) u
  unfold busWrite
  split
  · rfl
  split <;> rename_i h <;> rw [h] at hg
  · exact (busError_epoch ..).trans hg
  · dsimp only
    split
    · exact (busError_epoch ..).trans hg
    · exact (placeWrite_epoch ..).trans hg

@[simp] theorem placeRead_epoch (master a : Nat) : (placeRead s master a).2.epoch = s.epoch := by
  unfold placeRead
  split <;> simp

@[simp] theorem busRead_epoch (master a wait : Nat) (u : LockUse) (enables : BitVec 4) :
    (busRead s master a wait u enables).1.epoch = s.epoch := by
  have hg := arbitrate_keepsEpoch s master (targetOf a) u
  unfold busRead
  dsimp only
  split
  · rfl
  split <;> rename_i h <;> rw [h] at hg
  · exact (busError_epoch ..).trans hg
  · split
    · exact (busError_epoch ..).trans hg
    · exact (placeRead_epoch ..).trans hg

@[simp] theorem rowWrite_epoch (a : Nat) (w : RegWrite) : (rowWrite s a w).epoch = s.epoch := by simp [rowWrite]

/-! ### Boot -/

@[simp] theorem loadPayload_epoch (slot d : Nat) : (loadPayload s slot d).epoch = s.epoch := by simp [loadPayload]
@[simp] theorem startCluster_epoch (d : Nat) : (startCluster s d).epoch = s.epoch := rfl
@[simp] theorem recoveryPort_epoch (p : Nat) : (recoveryPort s p).epoch = s.epoch := by simp [recoveryPort]
@[simp] theorem enterRecovery_epoch : (enterRecovery s).epoch = s.epoch := by simp [enterRecovery]
@[simp] theorem sfdpRead_epoch (x : Sfdp) : (sfdpRead s x).epoch = s.epoch := rfl
@[simp] theorem sfdpFailed_epoch : (sfdpFailed s).epoch = s.epoch := by
  unfold sfdpFailed
  dsimp only
  split <;> simp
@[simp] theorem keepsEpoch_execColdStart (sfdp : Sfdp) : KeepsEpoch s (execColdStart sfdp s) := by simp [execColdStart]
@[simp] theorem keepsEpoch_execFirmwareVerifyDone : KeepsEpoch s (execFirmwareVerifyDone s) := by
  unfold execFirmwareVerifyDone
  dsimp only
  (repeat' split) <;> simp
@[simp] theorem keepsEpoch_execClusterRestart (d : Deck) : KeepsEpoch s (execClusterRestart d s) := by simp [execClusterRestart]
@[simp] theorem epochFailed_epoch : (epochFailed s).epoch = s.epoch := rfl
@[simp] theorem dropJob_epoch (j : Job) : (dropJob s j).epoch = s.epoch := by simp [dropJob]
@[simp] theorem keepsEpoch_execCalRecordWriteDone : KeepsEpoch s (execCalRecordWriteDone s) := by
  unfold execCalRecordWriteDone
  split <;> simp
@[simp] theorem keepsEpoch_execQuietPeriodEnd : KeepsEpoch s (execQuietPeriodEnd s) := by simp -implicitDefEqProofs [execQuietPeriodEnd]

/-! ### Hk -/

@[simp] theorem fillRecord_epoch (source entry temp : Nat) : (fillRecord s source entry temp).epoch = s.epoch := by simp [fillRecord]
@[simp] theorem stopFlash_epoch : (stopFlash s).epoch = s.epoch := by
  unfold stopFlash
  dsimp only
  (repeat' split) <;> simp
@[simp] theorem decideTsd_epoch (source entry temp : Nat) : (decideTsd s source entry temp).epoch = s.epoch := by
  simp -implicitDefEqProofs [decideTsd]
@[simp] theorem keepsEpoch_execTsdNoSensorTimeout : KeepsEpoch s (execTsdNoSensorTimeout s) := by simp [execTsdNoSensorTimeout]
@[simp] theorem shutIslands_epoch : (shutIslands s).epoch = s.epoch := by simp [shutIslands]
@[simp] theorem keepsEpoch_execTsdClamp : KeepsEpoch s (execTsdClamp s) := by simp [execTsdClamp]
@[simp] theorem autoWake_epoch : (autoWake s).epoch = s.epoch := by simp [autoWake]
@[simp] theorem thermistorValue_epoch (n : Nat) (x : Int) : (thermistorValue s n x).2.epoch = s.epoch := by
  unfold thermistorValue
  split <;> simp

@[simp] theorem hkMeasure_epoch (input gain : Nat) (owd : Bool) (r : HkReading) : (hkMeasure s input gain owd r).2.epoch = s.epoch := by
  have chosen {c : Prop} [Decidable c] {x y : HkResult × State} (hx : x.2.epoch = s.epoch) (hy : y.2.epoch = s.epoch) :
      (if c then x else y).2.epoch = s.epoch := by
    split <;> assumption
  have heated {n : Nat} {x v : Int} {s1 : State} (h : thermistorValue s n x = (v, s1)) : s1.epoch = s.epoch := by
    rw [← thermistorValue_epoch s n x, h]
  have divided {a : Int} {d : Nat} {v : Int} {s1 : State} (h : divFree s a d = (v, s1)) : s1.epoch = s.epoch := by
    rw [← divFree_epoch s a d, h]
  unfold hkMeasure
  refine chosen rfl (chosen rfl (chosen rfl (chosen ?_ (chosen ?_ ?_))))
  · extract_lets x
    split; rename_i h; exact heated h
  · split; rename_i h; exact divided h
  · split; rename_i h; exact divided h

@[simp] theorem countResult_epoch (r : HkResult) : (countResult s r).epoch = s.epoch := by simp [countResult]
@[simp] theorem fireTest_epoch (i test : Nat) : (fireTest s i test).epoch = s.epoch := by simp [fireTest]
@[simp] theorem runTest_epoch (i test n : Nat) (holds rearm : Bool) : (runTest s i test n holds rearm).epoch = s.epoch := by simp [runTest]
@[simp] theorem filterResult_epoch (i : Nat) (x : Int) : (filterResult s i x).epoch = s.epoch := by simp [filterResult]
@[simp] theorem applyResult_epoch (i : Nat) (r : HkResult) : (applyResult s i r).epoch = s.epoch := by
  unfold applyResult
  dsimp only
  (repeat' split) <;> simp
@[simp] theorem keepsEpoch_execHkCycleStart : KeepsEpoch s (execHkCycleStart s) := by simp [execHkCycleStart]
@[simp] theorem calMeasured_epoch (g : Nat) (x : Int) (big : Bool) : (calMeasured s g x big).epoch = s.epoch := by
  unfold calMeasured
  dsimp only
  split <;> simp
@[simp] theorem resumeEntry_epoch : (resumeEntry s).epoch = s.epoch := by simp [resumeEntry]
@[simp] theorem urgentDone_epoch (u : Urgent) (r : HkReading) : (urgentDone s u r).epoch = s.epoch := by
  unfold urgentDone
  dsimp only
  (repeat' split) <;> simp
@[simp] theorem keepsEpoch_execHkConversionDone (r : HkReading) : KeepsEpoch s (execHkConversionDone r s) := by
  unfold execHkConversionDone
  split <;> simp
@[simp] theorem keepsEpoch_execUrgentConversion (w : RegWrite) : KeepsEpoch s (execUrgentConversion w s) := by simp [execUrgentConversion]
@[simp] theorem sensorRead_epoch (x : JsReading × Nat) : (sensorRead s x).epoch = s.epoch := by simp [sensorRead]
@[simp] theorem keepsEpoch_execJsUpdate (readings : List JsReading) : KeepsEpoch s (execJsUpdate readings s) := by
  unfold execJsUpdate
  dsimp only
  split <;> simp

/-! ### Tally -/

@[simp] theorem bankCounter_epoch (e : Nat × Nat) : (bankCounter s e).epoch = s.epoch := rfl
@[simp] theorem keepsEpoch_execTallySnapshot : KeepsEpoch s (execTallySnapshot s) := by simp -implicitDefEqProofs [execTallySnapshot]
@[simp] theorem keepsEpoch_execCheckpointTimer : KeepsEpoch s (execCheckpointTimer s) := by simp [execCheckpointTimer]

@[simp] theorem keepsEpoch_execHistSampleSecond : KeepsEpoch s (execHistSampleSecond s) := by
  refine (keepsEpoch_next _ _).2 (foldl_epoch (fun u z => ?_) _ _)
  split <;> simp

@[simp] theorem keepsEpoch_execHistSampleHour : KeepsEpoch s (execHistSampleHour s) := by simp [execHistSampleHour]
@[simp] theorem keepsEpoch_execUptimeSecond : KeepsEpoch s (execUptimeSecond s) := by simp [execUptimeSecond]
@[simp] theorem keepsEpoch_execCounterLatchRead (addr : BitVec 32) (r : RegRead) : KeepsEpoch s (execCounterLatchRead addr r s) := by
  simp [execCounterLatchRead]
@[simp] theorem keepsEpoch_execRcFieldRead (addr : BitVec 32) (r : RegRead) : KeepsEpoch s (execRcFieldRead addr r s) := by simp [execRcFieldRead]

/-! ### Alp -/

theorem readWord_epoch (ecc : List MemUpset) (m : Msg) (x : RegRun) (i : Nat) : (readWord ecc m x i).state.epoch = x.state.epoch := by
  have h := busRead_epoch x.state (dmaOf m.route.port) (wordAddr m i) 0 .none 15
  unfold readWord
  dsimp only
  split_ifs
  · rfl
  · rfl
  all_goals exact h

theorem writeWord_epoch (m : Msg) (x : RegRun) (i : Nat) : (writeWord m x i).state.epoch = x.state.epoch := by
  unfold writeWord
  dsimp only
  split_ifs
  · rfl
  · rfl
  all_goals exact busWrite_epoch ..

theorem regReply_epoch (m : Msg) (x : RegRun) : (regReply m x).epoch = x.state.epoch := by simp [regReply]

theorem foldl_regRun_epoch {one : RegRun → Nat → RegRun} (h : ∀ x i, (one x i).state.epoch = x.state.epoch) (l : List Nat) (x : RegRun) :
    (l.foldl one x).state.epoch = x.state.epoch := by
  induction l generalizing x with
  | nil => rfl
  | cons i l ih => exact (ih _).trans (h x i)
theorem regRun_epoch (m : Msg) {one : RegRun → Nat → RegRun} (h : ∀ x i, (one x i).state.epoch = x.state.epoch) :
    (regRun m one s).epoch = s.epoch := by
  unfold regRun
  split_ifs
  · exact regReply_epoch _ _
  · exact regReply_epoch _ _
  · exact (regReply_epoch _ _).trans (foldl_regRun_epoch h _ _)

@[simp] theorem regReadStep_epoch (ecc : List MemUpset) (m : Msg) : (regReadStep ecc m s).epoch = s.epoch := by
  unfold regReadStep
  split
  · simp
  · exact regRun_epoch s m (readWord_epoch ecc m)

@[simp] theorem regWriteStep_epoch (m : Msg) : (regWriteStep m s).epoch = s.epoch := by
  unfold regWriteStep
  split
  · simp
  · exact regRun_epoch s m (writeWord_epoch m)

theorem regMessage_epoch (typ : Nat) {step : Msg → State → State} (h : ∀ m u, (step m u).epoch = u.epoch) (mm : Upsets) :
    (regMessage typ step mm s).epoch = s.epoch := by
  unfold regMessage
  split
  · rfl
  split
  · rfl
  · exact process_epoch s _ mm (h _)

@[simp] theorem keepsEpoch_execRegRead (mm : Upsets) : KeepsEpoch s (execRegRead mm s) :=
  (keepsEpoch_next _ _).2 (regMessage_epoch s 0x20 (fun m u => regReadStep_epoch u mm.ecc m) mm)

@[simp] theorem keepsEpoch_execRegWrite (mm : Upsets) : KeepsEpoch s (execRegWrite mm s) :=
  (keepsEpoch_next _ _).2 (regMessage_epoch s 0x21 (fun m u => regWriteStep_epoch u m) mm)

@[simp] theorem queueTelemetry_epoch (p k : Nat) (msgs : List OutMsg) : (queueTelemetry s p k msgs).epoch = s.epoch := by simp [queueTelemetry]
@[simp] theorem sendTelemetry_epoch (p k : Nat) (b : Sub) : (sendTelemetry s p k b).epoch = s.epoch := by
  unfold sendTelemetry
  split <;> simp
@[simp] theorem keepsEpoch_execTelemetryPeriod (n : Partner) (stream : Fin 4) : KeepsEpoch s (execTelemetryPeriod n stream s) := by
  unfold execTelemetryPeriod
  split <;> simp

/-! ### BusRows -/

@[simp] theorem keepsEpoch_execEngineReturn (w : RegWrite) : KeepsEpoch s (execEngineReturn w s) := by simp [execEngineReturn]
@[simp] theorem keepsEpoch_execGenCommit (w : RegWrite) : KeepsEpoch s (execGenCommit w s) := by simp [execGenCommit]
@[simp] theorem keepsEpoch_execRuleRead (w : RegWrite) : KeepsEpoch s (execRuleRead w s) := by simp [execRuleRead]
@[simp] theorem keepsEpoch_execRuleWrite (w : RegWrite) : KeepsEpoch s (execRuleWrite w s) := by simp [execRuleWrite]
@[simp] theorem keepsEpoch_execRuleCopy (w : RegWrite) : KeepsEpoch s (execRuleCopy w s) := by simp [execRuleCopy]
@[simp] theorem keepsEpoch_execPolicerWrite (n : PolicerIx) (word : Fin 2) (w : RegWrite) : KeepsEpoch s (execPolicerWrite n word w s) := by
  simp [execPolicerWrite]
@[simp] theorem keepsEpoch_execFwqPop (w : RegWrite) : KeepsEpoch s (execFwqPop w s) := by simp [execFwqPop]
@[simp] theorem keepsEpoch_execLaneLoad (w : RegWrite) : KeepsEpoch s (execLaneLoad w s) := by simp [execLaneLoad]
@[simp] theorem keepsEpoch_execLaneWrite (w : RegWrite) : KeepsEpoch s (execLaneWrite w s) := by simp [execLaneWrite]
@[simp] theorem keepsEpoch_execPartitionWrite (n : Partner) (w : RegWrite) : KeepsEpoch s (execPartitionWrite n w s) := by simp [execPartitionWrite]
@[simp] theorem keepsEpoch_execShaperWrite (n : Partner) (word : Fin 2) (w : RegWrite) : KeepsEpoch s (execShaperWrite n word w s) := by
  simp [execShaperWrite]
@[simp] theorem keepsEpoch_execScheduleSwap (w : RegWrite) : KeepsEpoch s (execScheduleSwap w s) := by simp [execScheduleSwap]
@[simp] theorem keepsEpoch_execScheduleDisable (w : RegWrite) : KeepsEpoch s (execScheduleDisable w s) := by simp [execScheduleDisable]
@[simp] theorem keepsEpoch_execFailMark (i : Fin 576) (w : RegWrite) : KeepsEpoch s (execFailMark i w s) := by simp [execFailMark]
@[simp] theorem keepsEpoch_execFailClear (w : RegWrite) : KeepsEpoch s (execFailClear w s) := by simp [execFailClear]
@[simp] theorem keepsEpoch_execForcePark (n : Span) (l : Local) (w : RegWrite) : KeepsEpoch s (execForcePark n l w s) := by simp [execForcePark]
@[simp] theorem keepsEpoch_execForceParkRelease (n : Span) (l : Local) (w : RegWrite) : KeepsEpoch s (execForceParkRelease n l w s) := by
  simp [execForceParkRelease]
@[simp] theorem keepsEpoch_execLoopRecordLoad (n : Span) (w : RegWrite) : KeepsEpoch s (execLoopRecordLoad n w s) := by simp [execLoopRecordLoad]
@[simp] theorem keepsEpoch_execLoopRecordWrite (n : Span) (w : RegWrite) : KeepsEpoch s (execLoopRecordWrite n w s) := by simp [execLoopRecordWrite]
@[simp] theorem keepsEpoch_execLoopPeriodWrite (n : Span) (w : RegWrite) : KeepsEpoch s (execLoopPeriodWrite n w s) := by simp [execLoopPeriodWrite]
@[simp] theorem keepsEpoch_execFilterChange (n : Span) (w : RegWrite) : KeepsEpoch s (execFilterChange n w s) := by simp [execFilterChange]
@[simp] theorem keepsEpoch_execSweep (w : RegWrite) : KeepsEpoch s (execSweep w s) := by simp [execSweep]
@[simp] theorem keepsEpoch_execStoreNow (w : RegWrite) : KeepsEpoch s (execStoreNow w s) := by simp [execStoreNow]
@[simp] theorem keepsEpoch_execWatchdogKick (d : Deck) (w : RegWrite) : KeepsEpoch s (execWatchdogKick d w s) := by simp [execWatchdogKick]
@[simp] theorem keepsEpoch_execHandover (w : RegWrite) : KeepsEpoch s (execHandover w s) := by simp [execHandover]
@[simp] theorem keepsEpoch_execResync (w : RegWrite) : KeepsEpoch s (execResync w s) := by simp [execResync]
@[simp] theorem keepsEpoch_execPathReturn (w : RegWrite) : KeepsEpoch s (execPathReturn w s) := by simp [execPathReturn]
@[simp] theorem keepsEpoch_execNomWrite (w : RegWrite) : KeepsEpoch s (execNomWrite w s) := by simp [execNomWrite]
@[simp] theorem keepsEpoch_execTargetWrite (w : RegWrite) : KeepsEpoch s (execTargetWrite w s) := by simp [execTargetWrite]
@[simp] theorem keepsEpoch_execRemapSet (w : RegWrite) : KeepsEpoch s (execRemapSet w s) := by simp [execRemapSet]
@[simp] theorem keepsEpoch_execFlashRead (w : RegWrite) : KeepsEpoch s (execFlashRead w s) := by simp [execFlashRead]
@[simp] theorem keepsEpoch_execFlashProgram (w : RegWrite) : KeepsEpoch s (execFlashProgram w s) := by simp [execFlashProgram]
@[simp] theorem keepsEpoch_execFlashErase4k (w : RegWrite) : KeepsEpoch s (execFlashErase4k w s) := by simp [execFlashErase4k]
@[simp] theorem keepsEpoch_execFlashErase64k (w : RegWrite) : KeepsEpoch s (execFlashErase64k w s) := by simp [execFlashErase64k]
@[simp] theorem keepsEpoch_execFaultClear (w : RegWrite) : KeepsEpoch s (execFaultClear w s) := by simp [execFaultClear]
@[simp] theorem keepsEpoch_execCaptureArm (w : RegWrite) : KeepsEpoch s (execCaptureArm w s) := by simp [execCaptureArm]
@[simp] theorem keepsEpoch_execCaptureStop (w : RegWrite) : KeepsEpoch s (execCaptureStop w s) := by simp [execCaptureStop]
@[simp] theorem keepsEpoch_execCaptureForce (w : RegWrite) : KeepsEpoch s (execCaptureForce w s) := by simp [execCaptureForce]
@[simp] theorem keepsEpoch_execRegisterWrite (addr : BitVec 32) (w : RegWrite) : KeepsEpoch s (execRegisterWrite addr w s) := by
  simp [execRegisterWrite]
@[simp] theorem keepsEpoch_execPortDmaReset (p : Port) (w : RegWrite) (burst : Option Burst) : KeepsEpoch s (execPortDmaReset p w burst s) := by
  simp [execPortDmaReset]
@[simp] theorem keepsEpoch_execTapDebugReset (burst : Option Burst) : KeepsEpoch s (execTapDebugReset burst s) := by simp [execTapDebugReset]

/-! ### Replay -/

@[simp] theorem keepsEpoch_execReplayEnd (n : Span) (histA histB : Bool) : KeepsEpoch s (execReplayEnd n histA histB s) := by
  unfold execReplayEnd
  split
  · rw [keepsEpoch_next, showDecks_epoch]
    split <;> simp -implicitDefEqProofs
  · exact (keepsEpoch_next _ _).2 rfl

end

/-! ### The step -/

/-- The rows that write the epoch record or read the log's newest (R82, R408), and the two at which VTH is applied or fails. -/
def MovesEpoch : Instr → Prop
  | .tollhousePageDone _ _ => True
  | .footingCheckDone => True
  | .warmStart _ _ => True
  | .vthPowerLoss => True
  | .vthPowerOn => True
  | _ => False

theorem exec_keepsEpoch (s : State) {c : Instr} (h : ¬ MovesEpoch c) : KeepsEpoch s (exec c s) := by
  cases c with
  | tollhousePageDone ok ue => exact absurd trivial h
  | footingCheckDone => exact absurd trivial h
  | warmStart sfdp scrubOk => exact absurd trivial h
  | vthPowerLoss => exact absurd trivial h
  | vthPowerOn => exact absurd trivial h
  | _ => simp [exec]

/-- Settles O7: every other row keeps the epoch, operation by operation. -/
theorem epochChangesOnlyAtItsWrite : Obligations.EpochChangesOnlyAtItsWrite := by
  unfold Obligations.EpochChangesOnlyAtItsWrite
  intro c s t h hne
  have hmoves : MovesEpoch c := by
    by_contra hc
    exact hne (exec_keepsEpoch s hc t h)
  cases c with
  | tollhousePageDone ok ue => exact .inl ⟨ok, ue, rfl⟩
  | footingCheckDone => exact .inr (.inl rfl)
  | warmStart sfdp scrubOk => exact .inr (.inr (.inl ⟨sfdp, scrubOk, rfl⟩))
  | vthPowerLoss => exact .inr (.inr (.inr (.inl rfl)))
  | vthPowerOn => exact .inr (.inr (.inr (.inr rfl)))
  | _ => exact absurd hmoves id

end Sys2Proof.Machine

namespace Sys2Proof.Machine

/-! ### Writes to the window of admission and lanes (R133, R140) -/

/-- A granted write to the window of admission and lanes. -/
theorem rowWrite_ad {s : State} {a : Nat} {w : RegWrite} (hg : Granted s w a) (ha : adBase ≤ a ∧ a < ntBase) :
    rowWrite s a w = adWrite (atGrant s w) a w.value := by
  rw [rowWrite_granted s a w hg, regWritten_ad _ _ _ _ _ ha]

theorem storeWrite_regs (s : State) (a : Nat) (v : Word) : RegsOnly s (storeWrite s a v) := by
  unfold storeWrite
  split
  · exact ⟨_, rfl⟩
  · exact .refl s

/-- LN_SEL's OP chooses between loading and writing the lane. -/
theorem adWrite_laneSel (s : State) (v : Word) : adWrite s aLN_SEL v =
    if bitsOf v 17 16 = 1 then laneLoad (storeWrite s aLN_SEL v)
    else if bitsOf v 17 16 = 2 then laneWrite (storeWrite s aLN_SEL v) else storeWrite s aLN_SEL v := rfl

theorem rowWrite_laneSel {s : State} {w : RegWrite} (hg : Granted s w aLN_SEL) : rowWrite s aLN_SEL w =
    if bitsOf w.value 17 16 = 1 then laneLoad (storeWrite (atGrant s w) aLN_SEL w.value)
    else if bitsOf w.value 17 16 = 2 then laneWrite (storeWrite (atGrant s w) aLN_SEL w.value) else storeWrite (atGrant s w) aLN_SEL w.value := by
  rw [rowWrite_ad hg (by decide), adWrite_laneSel]

theorem adWrite_partition (s : State) (n : Partner) (v : Word) : adWrite s (aAD_PART_w0 n) v = partitionWritten s (aAD_PART_w0 n) v := by
  have hpart : aAD_PART_w0 0 ≤ aAD_PART_w0 n ∧ aAD_PART_w0 n < aAD_PART_w0 64 ∧ (aAD_PART_w0 n - aAD_PART_w0 0) % 8 = 0 := by
    simp only [aAD_PART_w0, adBase]
    omega
  exact if_pos hpart

/-- A SIZE that fits is stored (R115). -/
theorem rowWrite_partition {s : State} {n : Partner} {w : RegWrite} (hg : Granted s w (aAD_PART_w0 n)) :
    rowWrite s (aAD_PART_w0 n) w = if partitionTotal (storeWrite (atGrant s w) (aAD_PART_w0 n) w.value) ≤ 163840
      then storeWrite (atGrant s w) (aAD_PART_w0 n) w.value else event (atGrant s w) AD_INT_PART_ERR := by
  have hwin : adBase ≤ aAD_PART_w0 n ∧ aAD_PART_w0 n < ntBase := by
    simp only [aAD_PART_w0, adBase, ntBase]
    omega
  rw [rowWrite_ad hg hwin, adWrite_partition]
  simp only [partitionWritten, ← Nat.not_le, ite_not]

/-- Words 0 and 1 of a shaper set its level; `k` is the word's place in bytes. -/
theorem adWrite_shaper (s : State) (n : Partner) {k : Nat} (hk : k < 8) (v : Word) :
    adWrite s (aLN_SHP_w0 n + k) v = shaperWritten (storeWrite s (aLN_SHP_w0 n + k) v) n := by
  have hpart : ¬ (aAD_PART_w0 0 ≤ aLN_SHP_w0 n + k ∧ aLN_SHP_w0 n + k < aAD_PART_w0 64 ∧ (aLN_SHP_w0 n + k - aAD_PART_w0 0) % 8 = 0) := by
    simp only [aAD_PART_w0, aLN_SHP_w0, adBase]
    omega
  have hpipe : aLN_SHP_w0 n + k ≠ aAD_PIPE := by
    unfold aLN_SHP_w0 aAD_PIPE adBase
    omega
  have hsel : aLN_SHP_w0 n + k ≠ aLN_SEL := by
    unfold aLN_SHP_w0 aLN_SEL adBase
    omega
  have hshp : aLN_SHP_w0 0 ≤ aLN_SHP_w0 n + k ∧ aLN_SHP_w0 n + k < aLN_SHP_w0 64 ∧ (aLN_SHP_w0 n + k - aLN_SHP_w0 0) % 16 < 8 := by
    simp only [aLN_SHP_w0, adBase]
    omega
  have hn : (aLN_SHP_w0 n + k - aLN_SHP_w0 0) / 16 = n := by
    simp only [aLN_SHP_w0, adBase]
    omega
  unfold adWrite
  rw [if_neg hpart, if_neg hpipe, if_neg hsel, if_pos hshp, hn]

/-- The address of a shaper's word 0 or 1. -/
theorem shaperWord_eq (n : Partner) (word : Fin 2) : (if word = 0 then aLN_SHP_w0 n else aLN_SHP_w1 n) = aLN_SHP_w0 n + 4 * word := by
  match word with
  | 0 => rfl
  | 1 =>
    show aLN_SHP_w1 n = aLN_SHP_w0 n + 4
    unfold aLN_SHP_w0 aLN_SHP_w1 adBase
    omega

theorem rowWrite_shaper {s : State} {n : Partner} {word : Fin 2} {w : RegWrite} (hg : Granted s w (if word = 0 then aLN_SHP_w0 n else aLN_SHP_w1 n)) :
    rowWrite s (if word = 0 then aLN_SHP_w0 n else aLN_SHP_w1 n) w = shaperWritten (storeWrite (atGrant s w) (aLN_SHP_w0 n + 4 * word) w.value) n := by
  rw [shaperWord_eq] at hg ⊢
  have hwin : adBase ≤ aLN_SHP_w0 n + 4 * word ∧ aLN_SHP_w0 n + 4 * word < ntBase := by
    simp only [aLN_SHP_w0, adBase, ntBase]
    omega
  rw [rowWrite_ad hg hwin, adWrite_shaper _ _ (by omega)]

/-! ### A lane's configuration (R133) -/

theorem creditMoved_regs (s : State) (l : Nat) : (creditMoved s l).regs = s.regs := by
  obtain ⟨x, h⟩ := creditMoved_rest s l
  rw [h]

section ApplyLaneCfg
variable (s : State) (l : Nat) (c : LaneCfg)

theorem applyLaneCfg_regs : (applyLaneCfg s l c).regs = s.regs := creditMoved_regs _ _

theorem applyLaneCfg_mem : (applyLaneCfg s l c).mem = s.mem := creditMoved_mem _ _

/-- A lane that takes a configuration holds no other one. -/
theorem laneOf_applyLaneCfg_same {s : State} (h : LanesWf s) : laneOf (applyLaneCfg s l c) l = { laneOf s l with cfg := c, held := none } :=
  (laneOf_congr (creditMoved_ad _ _) l).trans (laneOf_setLane_same h l _)

theorem laneOf_applyLaneCfg_other {k : Nat} (hk : k ≠ l) : laneOf (applyLaneCfg s l c) k = laneOf s k :=
  (laneOf_congr (creditMoved_ad _ _) k).trans (laneOf_setLane_other s l k _ hk)

end ApplyLaneCfg

/-- The configuration that LN_CFG, LN_QUOTA and LN_PROMISE hold. -/
def shownCfg (s : State) : LaneCfg := ⟨rd s aLN_CFG, rd s aLN_QUOTA, rd s aLN_PROMISE⟩

theorem laneWrite_idle {s : State} (h : laneFlight s (getF s LN_SEL_LANE) = []) : laneWrite s = applyLaneCfg s (getF s LN_SEL_LANE) (shownCfg s) :=
  if_pos h

theorem laneWrite_busy {s : State} (h : laneFlight s (getF s LN_SEL_LANE) ≠ []) :
    laneWrite s = setLane s (getF s LN_SEL_LANE) { laneOf s (getF s LN_SEL_LANE) with held := some (shownCfg s) } :=
  if_neg h

theorem laneLoad_regs (s : State) : RegsOnly s (laneLoad s) := by
  have hcfg : ∀ (a b c : Nat) (x y z : Word), RegsOnly s (wr (wr (wr s a x) b y) c z) := fun _ _ _ _ _ _ => ⟨_, rfl⟩
  exact (((((hcfg _ _ _ _ _ _).trans (.setF _ _ _)).trans (.setF _ _ _)).trans (.setF _ _ _)).trans (.setF _ _ _)).trans (.setF _ _ _)

/-- A loaded lane's configuration stands in the three registers: its state goes to registers of their own. -/
theorem shownCfg_laneLoad {s : State} (h : s.RegsWf) : shownCfg (laneLoad s) = (laneOf s (getF s LN_SEL_LANE)).cfg := by
  have hcfg : rd (laneLoad s) aLN_CFG = (laneOf s (getF s LN_SEL_LANE)).cfg.cfg := by
    unfold laneLoad
    simp (disch := decide) only [rd_setF_other, rd_wr_other, rd_wr_same _ _ _ h]
  have hquota : rd (laneLoad s) aLN_QUOTA = (laneOf s (getF s LN_SEL_LANE)).cfg.quota := by
    unfold laneLoad
    simp (disch := decide) only [rd_setF_other, rd_wr_other, rd_wr_same _ _ _ (regsWf_wr _ _ _ h)]
  have hpromise : rd (laneLoad s) aLN_PROMISE = (laneOf s (getF s LN_SEL_LANE)).cfg.promise := by
    unfold laneLoad
    simp (disch := decide) only [rd_setF_other, rd_wr_same _ _ _ (regsWf_wr _ _ _ (regsWf_wr _ _ _ h))]
  rw [shownCfg, hcfg, hquota, hpromise]

/-- An idle lane's configuration written and loaded again is the one written, and no other lane changes. -/
theorem laneLoad_laneWrite {s : State} (hr : s.RegsWf) (hl : LanesWf s) (hidle : laneFlight s (getF s LN_SEL_LANE) = []) :
    shownCfg (laneLoad (laneWrite s)) = shownCfg s ∧ ∀ k, k ≠ getF s LN_SEL_LANE → laneOf (laneLoad (laneWrite s)) k = laneOf s k := by
  have hregs : (laneWrite s).regs = s.regs := by rw [laneWrite_idle hidle, applyLaneCfg_regs]
  have hwf : (laneWrite s).RegsWf := by rwa [State.RegsWf, hregs]
  have hlane : getF (laneWrite s) LN_SEL_LANE = getF s LN_SEL_LANE := by rw [getF, rd, hregs]; rfl
  constructor
  · rw [shownCfg_laneLoad hwf, hlane, laneWrite_idle hidle, laneOf_applyLaneCfg_same _ _ hl]
  · intro k hk
    rw [laneOf_congr (laneLoad_regs _).ad, laneWrite_idle hidle, laneOf_applyLaneCfg_other _ _ _ hk]

theorem execLaneConfigApply_idle {s : State} {l : LaneIx} {c : LaneCfg} (hc : (laneOf s l).held = some c) (hidle : laneFlight s l = []) :
    execLaneConfigApply l s = .next (applyLaneCfg s l c) := by
  simp only [execLaneConfigApply, hc, hidle, if_true]

/-! ### A shaper's words (R140) -/

/-- The bucket of a shaper that is written: full or empty as RESET_FULL says, from now on. -/
def writtenBucket (s : State) (p : Nat) : Bucket :=
  ⟨if flag s (LN_SHP_w1_RESET_FULL p) then ((getF s (LN_SHP_w1_DEPTH p) * 500000 : Nat) : Int) else 0, s.elapsed⟩

theorem shaperOf_shaperWritten {s : State} (h : LanesWf s) (p : Nat) :
    shaperOf (shaperWritten s p) p = { shaperOf s p with bucket := writtenBucket s p } :=
  shaperOf_setShaper_same h p _

/-- Settles O25: each write by its address in the window, the lane by what applying a configuration keeps. -/
theorem laneConfig : Obligations.LaneConfig := by
  unfold Obligations.LaneConfig
  refine ⟨fun s w hg => ⟨fun hop => ?_, fun hop => ?_⟩, ?_, ?_, ?_, ?_, ?_⟩
  · refine congrArg Host.Outcome.next ((rowWrite_laneSel hg).trans ?_)
    rw [if_neg (by omega), if_pos hop]
  · exact congrArg Host.Outcome.next ((rowWrite_laneSel hg).trans (if_pos hop))
  · rintro s hc hl hidle t rfl
    obtain ⟨hcfg, hother⟩ := laneLoad_laneWrite hc.1 hl hidle
    exact ⟨congrArg LaneCfg.cfg hcfg, congrArg LaneCfg.quota hcfg, congrArg LaneCfg.promise hcfg, hother⟩
  · intro s hl hbusy
    rw [laneWrite_busy hbusy, laneOf_setLane_same hl]
    exact ⟨rfl, rfl⟩
  · intro s l c hl hc hidle
    have hlane := laneOf_applyLaneCfg_same l c hl
    exact ⟨_, execLaneConfigApply_idle hc hidle, congrArg Lane.cfg hlane, congrArg Lane.held hlane,
      fun k hk => laneOf_applyLaneCfg_other _ _ _ hk, applyLaneCfg_regs _ _ _, applyLaneCfg_mem _ _ _⟩
  · rintro s n w hg t rfl
    exact congrArg Host.Outcome.next (rowWrite_partition hg)
  · intro s n word w hl hg
    have hstore : RegsOnly (atGrant s w) (storeWrite (atGrant s w) (aLN_SHP_w0 n + 4 * word) w.value) := storeWrite_regs _ _ _
    have hshaper := shaperOf_shaperWritten (lanesWf_congr (s := s) hstore.ad hl) n
    refine ⟨_, congrArg Host.Outcome.next (rowWrite_shaper hg), ?_, ?_, ?_⟩
    · rw [hshaper]
      rfl
    · rw [hshaper]
      obtain ⟨r, hr⟩ := hstore
      rw [hr]
      rfl
    · rw [hshaper, shaperOf_congr (s := s) hstore.ad]

end Sys2Proof.Machine

namespace Sys2Proof.Machine

/-! ### Rows that write registers, network time and free values -/

/-- The field lies in a word. -/
abbrev InWord (f : Fld) : Prop := f.lo ≤ f.hi ∧ f.hi < 32

/-- The two fields share no bit. -/
abbrev Apart (f g : Fld) : Prop := f.addr ≠ g.addr ∨ f.hi < g.lo ∨ g.hi < f.lo

theorem getF_setF_apart {s : State} {f g : Fld} (v : Nat) (h : s.RegsWf) (hf : f.hi < 32) (hd : Apart f g) : getF (setF s g v) f = getF s f := by
  rcases hd with ha | hd
  · exact getF_setF_addr _ _ _ _ ha
  · exact getF_setF_bits _ _ _ _ h hf hd

theorem getF_lt (s : State) (f : Fld) : getF s f < 2 ^ width f.hi f.lo := bitsOf_lt _ _ _

theorem count_eq_getF (s : State) (a : Nat) : count s a = getF s ⟨a, 31, 0⟩ + 2 ^ 32 * getF s ⟨a + 4, 15, 0⟩ := by
  have hlow : getF s ⟨a, 31, 0⟩ = (rd s a).toNat := by
    rw [getF, bitsOf, Nat.pow_zero, Nat.div_one]
    exact Nat.mod_eq_of_lt (rd s a).isLt
  rw [hlow]
  rfl

/-- The second state is the first but for registers, network time's record and free values; of the registers only fields of `W` have changed. -/
structure NtWrites (W : List Fld) (s t : State) : Prop where
  rest : ∃ r n f, t = { s with regs := r, nt := n, free := f }
  wf : s.RegsWf → t.RegsWf
  keeps : s.RegsWf → ∀ f : Fld, InWord f → (∀ g ∈ W, Apart f g) → getF t f = getF s f

namespace NtWrites
variable {W V : List Fld} {s t u : State}

/-- Network time's record and free values stand outside the registers. -/
theorem of_nt (s : State) (n : NetTime) (f : Nat) : NtWrites W s { s with nt := n, free := f } := ⟨⟨_, _, _, rfl⟩, id, fun _ _ _ _ => rfl⟩

theorem refl (s : State) : NtWrites W s s := of_nt s s.nt s.free

theorem trans (h : NtWrites W s t) (k : NtWrites W t u) : NtWrites W s u where
  rest := by
    obtain ⟨r, n, f, rfl⟩ := h.rest
    obtain ⟨r', n', f', rfl⟩ := k.rest
    exact ⟨r', n', f', rfl⟩
  wf := fun hs => k.wf (h.wf hs)
  keeps := fun hs f hf hW => (k.keeps (h.wf hs) f hf hW).trans (h.keeps hs f hf hW)

theorem mono (h : NtWrites V s t) (hVW : V ⊆ W) : NtWrites W s t :=
  ⟨h.rest, h.wf, fun hs f hf hW => h.keeps hs f hf fun g hg => hW g (hVW hg)⟩

theorem ite {c : Prop} [Decidable c] (ht : NtWrites W s t) (hu : NtWrites W s u) : NtWrites W s (if c then t else u) := by
  split
  · exact ht
  · exact hu

theorem setF (s : State) {f : Fld} (v : Nat) (hf : f ∈ W) : NtWrites W s (setF s f v) :=
  ⟨⟨_, _, _, rfl⟩, regsWf_setF s f v, fun hs _ hg hW => getF_setF_apart v hs hg.2 (hW _ hf)⟩

theorem setFlag (s : State) {f : Fld} (b : Bool) (hf : f ∈ W) : NtWrites W s (setFlag s f b) := setF s _ hf

theorem event (s : State) {f : Fld} (hf : f ∈ W) : NtWrites W s (event s f) := setF s _ hf

/-- A counter is two registers (R467). -/
theorem bump (s : State) {a : Nat} (h : (⟨a, 31, 0⟩ : Fld) ∈ W) (h4 : (⟨a + 4, 31, 0⟩ : Fld) ∈ W) : NtWrites W s (bump s a) where
  rest := ⟨_, _, _, rfl⟩
  wf := regsWf_bumpBy s a 1
  keeps := fun _ f ⟨hlo, hhi⟩ hW => by
    have hne : ∀ b, (⟨b, 31, 0⟩ : Fld) ∈ W → f.addr ≠ b := fun b hb => by
      have hapart : f.addr ≠ b ∨ f.hi < 0 ∨ 31 < f.lo := hW _ hb
      omega
    exact getF_bumpBy_other _ _ _ _ (hne _ h) (hne _ h4)

theorem of_divFree {a x : Int} {d : Nat} (h : divFree s a d = (x, t)) : NtWrites W s t := by
  unfold divFree at h
  split_ifs at h <;> cases h
  · exact of_nt s s.nt _
  · exact refl s
  · exact of_nt s s.nt _

theorem getF (h : NtWrites W s t) (hs : s.RegsWf) {f : Fld} (hf : InWord f) (hW : ∀ g ∈ W, Apart f g) : getF t f = Machine.getF s f :=
  h.keeps hs f hf hW

theorem flag (h : NtWrites W s t) (hs : s.RegsWf) {f : Fld} (hf : InWord f) (hW : ∀ g ∈ W, Apart f g) : flag t f = Machine.flag s f := by
  rw [Machine.flag, h.getF hs hf hW]
  rfl

theorem count (h : NtWrites W s t) (hs : s.RegsWf) {a : Nat} (hW : ∀ g ∈ W, Apart ⟨a, 31, 0⟩ g ∧ Apart ⟨a + 4, 15, 0⟩ g) :
    count t a = Machine.count s a := by
  have hlow : InWord ⟨a, 31, 0⟩ := ⟨Nat.zero_le _, show 31 < 32 by decide⟩
  have hhigh : InWord ⟨a + 4, 15, 0⟩ := ⟨Nat.zero_le _, show 15 < 32 by decide⟩
  rw [count_eq_getF, count_eq_getF, h.getF hs hlow fun g hg => (hW g hg).1, h.getF hs hhigh fun g hg => (hW g hg).2]

theorem clock (h : NtWrites W s t) : t.clock = s.clock := by obtain ⟨r, n, f, rfl⟩ := h.rest; rfl
theorem ad (h : NtWrites W s t) : t.ad = s.ad := by obtain ⟨r, n, f, rfl⟩ := h.rest; rfl
theorem mem (h : NtWrites W s t) : t.mem = s.mem := by obtain ⟨r, n, f, rfl⟩ := h.rest; rfl

end NtWrites

/-! ### Readiness (R383) -/

/-- The fields that readiness writes. -/
def readyFields : List Fld :=
  [TH_PSTATE_TRANSIT, AD_STATUS_NOT_READY, AD_STATUS_STATE, AD_READY_S_SECONDS, AD_READY_NS_NANOSECONDS]

theorem setReady_writes (s : State) (t : Nat) : NtWrites readyFields s (setReady s t) :=
  (NtWrites.setF s _ (by decide)).trans (.setF _ _ (by decide))

theorem showState_writes (s : State) : NtWrites readyFields s (showState s) :=
  (NtWrites.setFlag s _ (by decide)).trans (.setF _ _ (by decide))

theorem refreshReady_writes (s : State) : NtWrites readyFields s (refreshReady s) := by
  have htransit : ∀ b t, NtWrites readyFields s (showState (setReady (setFlag s TH_PSTATE_TRANSIT b) t)) := fun b t =>
    ((NtWrites.setFlag s b (by decide)).trans (setReady_writes _ t)).trans (showState_writes _)
  exact .ite (.ite (showState_writes s) (htransit _ _)) (htransit _ _)

theorem refreshReady_regs (s : State) : RegsOnly s (refreshReady s) := by
  unfold refreshReady
  split_ifs <;> exact ⟨_, rfl⟩

/-! ### The servo (R153 to R157) -/

/-- The fields that entering LOCKED writes. -/
def lockedFields : List Fld := NT_STATE_SERVO :: NT_INT_LOCKED :: readyFields

theorem enterLocked_writes (s : State) : NtWrites lockedFields s (enterLocked s) :=
  (((NtWrites.setF s 2 (by decide)).trans (.event _ (by decide))).trans (.of_nt _ _ _)).trans ((refreshReady_writes _).mono (by decide))

theorem enterLocked_nt (s : State) : (enterLocked s).nt = { s.nt with lastGood := s.elapsed } := by
  unfold enterLocked
  obtain ⟨r, h⟩ := refreshReady_regs { event (setF s NT_STATE_SERVO 2) NT_INT_LOCKED with nt := { s.nt with lastGood := s.elapsed } }
  exact (congrArg State.nt h).trans rfl

theorem showRefused_writes (s : State) : NtWrites [NT_STATE_PERSIST_CNT] s (showRefused s) := .setF s _ (by decide)

theorem forgetRefused_writes (s : State) : NtWrites [NT_STATE_PERSIST_CNT] s (forgetRefused s) :=
  (NtWrites.of_nt s _ _).trans (showRefused_writes _)

theorem clampInt_natAbs (lim : Nat) (v : Int) : (clampInt (-(lim : Int)) lim v).natAbs ≤ lim := by
  unfold clampInt
  omega

/-- One measurement that drives the servo sets the rate within the servo's limit (R153). -/
theorem feed_rate (s : State) (o : Int) : ∃ u y, feed s o = setF u NT_RATE_Y (unsigned 32 y) ∧ NtWrites [] s u ∧ y.natAbs ≤ servoLimit s := by
  unfold feed
  extract_lets tau
  split
  next v s1 h1 =>
  split
  next di s2 h2 =>
  split
  next dp s3 h3 =>
  exact ⟨_, _, rfl, (((NtWrites.of_divFree h1).trans (.of_divFree h2)).trans (.of_divFree h3)).trans (.of_nt _ _ _), clampInt_natAbs _ _⟩

/-- A number that fits 32 bits reads as it was written. -/
theorem signed_unsigned {y : Int} (h : y.natAbs < 2 ^ 31) : signed 32 (unsigned 32 y % 2 ^ 32) = y := by
  unfold signed unsigned
  split <;> omega

theorem servoLimit_lt (s : State) : servoLimit s < 2 ^ 31 := by
  have hppm : getF s NT_SERVO_LIM_PPM < 2 ^ 10 := getF_lt s NT_SERVO_LIM_PPM
  unfold servoLimit
  omega

theorem feed_writes (s : State) (o : Int) : NtWrites [NT_RATE_Y] s (feed s o) := by
  obtain ⟨u, y, h, hu, -⟩ := feed_rate s o
  rw [h]
  exact (hu.mono (by decide)).trans (.setF _ _ (by decide))

/-- The rate after a measurement that drives the servo. -/
theorem rate_feed {s : State} (o : Int) (hs : s.RegsWf) : (getI (feed s o) NT_RATE_Y).natAbs ≤ servoLimit s := by
  obtain ⟨u, y, h, hu, hy⟩ := feed_rate s o
  have hrate : getF (feed s o) NT_RATE_Y = unsigned 32 y % 2 ^ 32 := by
    rw [h]
    exact getF_setF_same _ _ _ (hu.wf hs) (by decide)
  have hvalue : getI (feed s o) NT_RATE_Y = y := by
    rw [getI, hrate]
    exact signed_unsigned (hy.trans_lt (servoLimit_lt s))
  rw [hvalue]
  exact hy

/-- The fields that a decided step, or the discarding of its permission, writes (R158, R159). -/
def decisionFields : List Fld :=
  [NT_PERMIT_w6_VALID, NT_STEP_S_B_SECONDS, NT_STEP_NS_B_NANOSECONDS, NT_STEP_VAL_L_DELTA_VAL_L, NT_STEP_VAL_H_DELTA_VAL_H, NT_STATE_STEP_PEND,
    NT_INT_PERSIST]

theorem dropPermit_writes (s : State) : NtWrites [NT_PERMIT_w6_VALID] s (dropPermit s) := .setFlag s _ (by decide)

theorem stepBound_writes (s : State) : NtWrites [] s (stepBound s).2 := by
  unfold stepBound
  dsimp only
  split_ifs
  · exact .of_nt s s.nt _
  · exact .refl s

theorem decideStep_writes (s : State) (x : Refused) : NtWrites decisionFields s (decideStep s x) := by
  have hbound := ((dropPermit_writes s).mono (W := decisionFields) (by decide)).trans ((stepBound_writes _).mono (by decide))
  unfold decideStep
  generalize stepBound (dropPermit s) = p at hbound
  obtain ⟨b, u⟩ := p
  exact (((((hbound.trans (.setF _ _ (by decide))).trans (.setF _ _ (by decide))).trans (.setF _ _ (by decide))).trans (.setF _ _ (by decide))).trans
    (.of_nt _ _ _)).trans (.setFlag _ _ (by decide))

theorem considerStep_writes (s : State) : NtWrites decisionFields s (considerStep s) := by
  unfold considerStep
  split
  · exact .refl s
  · exact .ite (.refl s) (.ite (((dropPermit_writes s).mono (by decide)).trans (.event _ (by decide))) (decideStep_writes s _))

/-- A refused measurement is counted and sets JUMP (R156). -/
def jumpNoted (s : State) : State := event (bump s (cNT_CNT 5)) NT_INT_JUMP

/-- The fields that a refused measurement writes beside its count and JUMP. -/
def refusedFields : List Fld := NT_STATE_SERVO :: NT_STATE_PERSIST_CNT :: decisionFields

theorem refuseMeasure_writes (s : State) (o : Int) : NtWrites refusedFields (jumpNoted s) (refuseMeasure s o) := by
  unfold refuseMeasure
  extract_lets gm s1 same run _ s2
  have hshown : NtWrites refusedFields (jumpNoted s) s2 := (NtWrites.of_nt _ _ _).trans ((showRefused_writes _).mono (by decide))
  clear_value s2
  split
  · exact hshown
  split
  next l _ op s3 hmean =>
  extract_lets _ s4 s5
  have hmoved : NtWrites refusedFields s2 s3 := .of_divFree hmean
  have hpersist : NtWrites refusedFields (jumpNoted s) s4 := (hshown.trans hmoved).trans (.of_nt _ _ _)
  have hheld : NtWrites refusedFields s4 s5 := .ite (.refl s4) ((NtWrites.setF s4 4 (by decide)).trans (.event _ (by decide)))
  exact (hpersist.trans hheld).trans ((considerStep_writes _).mono (by decide))


/-- Where a measurement is accepted: the servo takes it, and from HOLDOVER or HELD_OFF it is LOCKED again (R155). -/
theorem acceptMeasure_fed {s : State} (o : Int) (h : getF s NT_STATE_SERVO = 4 → ∃ x, s.nt.persist = some x ∧ x.gm = gmId s) :
    ∃ u, NtWrites [NT_STATE_PERSIST_CNT] (feed s o) u ∧ (acceptMeasure s o = u ∨ acceptMeasure s o = enterLocked u) := by
  have hfed : NtWrites [NT_STATE_PERSIST_CNT] (feed s o) (forgetRefused (feed s o)) := forgetRefused_writes _
  unfold acceptMeasure
  extract_lets st own s1
  have hown : ¬ (st = 4 ∧ own = false) := by
    rintro ⟨h4, hother⟩
    obtain ⟨x, hx, hgm⟩ := h h4
    simp [own, hx, hgm] at hother
  rw [if_neg hown]
  split_ifs
  · exact ⟨_, hfed.trans (.of_nt _ _ _), .inr rfl⟩
  · exact ⟨_, hfed, .inr rfl⟩
  · exact ⟨_, hfed, .inl rfl⟩

/-- A measurement from another grandmaster than the persistence's leaves the servo alone (R154). -/
theorem acceptMeasure_held {s : State} (o : Int) (h4 : getF s NT_STATE_SERVO = 4) (h : ∀ x, s.nt.persist = some x → x.gm ≠ gmId s) :
    NtWrites [NT_STATE_PERSIST_CNT] s (acceptMeasure s o) := by
  unfold acceptMeasure
  extract_lets st own s1
  have hother : own = false := by
    unfold own
    split
    next x hx => exact decide_eq_false (h x hx)
    next => rfl
  rw [if_pos ⟨h4, hother⟩]
  exact (NtWrites.of_nt s _ _).trans (forgetRefused_writes _)

/-- The state in which a measurement is judged: NT_OFFSET shows it (R156). -/
def offsetShown (s : State) (o : Int) : State :=
  setF (divFree s o 65536).2 NT_OFFSET_O (unsigned 32 (clampInt (-2147483648) 2147483647 (divFree s o 65536).1))

theorem offsetShown_writes (s : State) (o : Int) : NtWrites [NT_OFFSET_O] s (offsetShown s o) :=
  (NtWrites.of_divFree (Prod.mk.eta (p := divFree s o 65536)).symm).trans (.setF _ _ (by decide))

theorem offsetShown_nt (s : State) (o : Int) : (offsetShown s o).nt = s.nt := by
  have hfree : (divFree s o 65536).2.nt = s.nt := by
    unfold divFree
    split_ifs <;> rfl
  exact hfree

section Measure
variable {s : State} (o : Int) (hs : s.RegsWf)
include hs

theorem getF_offsetShown {f : Fld} (hf : InWord f) (hd : Apart f NT_OFFSET_O) : getF (offsetShown s o) f = getF s f :=
  (offsetShown_writes s o).getF hs hf fun _ hg => List.mem_singleton.mp hg ▸ hd

/-- In FREE the first measurement sets the clock (R155). -/
theorem measure_free (h : getF s NT_STATE_SERVO = 0) : measure s o = setF (setClock (offsetShown s o) o) NT_STATE_SERVO 1 := by
  have h' : getF (offsetShown s o) NT_STATE_SERVO = 0 := (getF_offsetShown o hs (by decide) (by decide)).trans h
  unfold offsetShown at h' ⊢
  unfold measure
  simp only [h']

/-- In ACQUIRING a measurement within THR goes to the servo, which may lock (R155). -/
theorem measure_acquiring (h : getF s NT_STATE_SERVO = 1) (hw : withinNs o (getF s NT_JUMP_THR) = true) :
    ∃ u, NtWrites [] (feed (offsetShown s o) o) u ∧ (measure s o = u ∨ measure s o = enterLocked u) := by
  have h' : getF (offsetShown s o) NT_STATE_SERVO = 1 := (getF_offsetShown o hs (by decide) (by decide)).trans h
  have hthr : getF (offsetShown s o) NT_JUMP_THR = getF s NT_JUMP_THR := getF_offsetShown o hs (by decide) (by decide)
  unfold offsetShown at h' hthr ⊢
  unfold measure
  simp only [h', hthr, hw, Bool.true_eq_false, if_false]
  generalize (if withinNs o _ = true then _ else 0) = n
  split_ifs
  · exact ⟨_, .of_nt _ _ _, .inr rfl⟩
  · exact ⟨_, .of_nt _ _ _, .inl rfl⟩

/-- Past ACQUIRING a measurement is accepted within THR and refused beyond it (R155, R156). -/
theorem measure_judged (h : 2 ≤ getF s NT_STATE_SERVO) :
    measure s o = if withinNs o (getF s NT_JUMP_THR) then acceptMeasure (offsetShown s o) o else refuseMeasure (offsetShown s o) o := by
  have hservo : getF (offsetShown s o) NT_STATE_SERVO = getF s NT_STATE_SERVO := getF_offsetShown o hs (by decide) (by decide)
  have hthr : getF (offsetShown s o) NT_JUMP_THR = getF s NT_JUMP_THR := getF_offsetShown o hs (by decide) (by decide)
  unfold offsetShown at hservo hthr ⊢
  unfold measure
  simp only [hservo, hthr]
  split
  · omega
  · omega
  · rfl

end Measure

/-- What follows a measurement that drove the servo keeps the clock and the rate. -/
theorem rate_of_fed {s t u : State} {W : List Fld} (o : Int) (hs : s.RegsWf) (h : NtWrites W (feed s o) u) (hW : ∀ g ∈ W, Apart NT_RATE_Y g)
    (ht : t = u ∨ t = enterLocked u) : t.clock = s.clock ∧ (getI t NT_RATE_Y).natAbs ≤ servoLimit s := by
  have hfeed := feed_writes s o
  have hu : NtWrites (W ++ lockedFields) (feed s o) t := by
    have hleft := h.mono (List.subset_append_left W lockedFields)
    rcases ht with rfl | rfl
    · exact hleft
    · exact hleft.trans ((enterLocked_writes u).mono (List.subset_append_right W lockedFields))
  have hapart : ∀ g ∈ W ++ lockedFields, Apart NT_RATE_Y g := fun g hg =>
    (List.mem_append.mp hg).elim (hW g) ((by decide : ∀ g ∈ lockedFields, Apart NT_RATE_Y g) g)
  refine ⟨hu.clock.trans hfeed.clock, ?_⟩
  rw [getI, hu.getF (hfeed.wf hs) (by decide) hapart]
  exact rate_feed o hs

section Measured
variable {s : State} (o : Int) (hs : s.RegsWf)
include hs

/-- A refused measurement leaves the clock and the rate, sets JUMP and is counted (R156). -/
theorem measure_refused (h : 2 ≤ getF s NT_STATE_SERVO) (hw : withinNs o (getF s NT_JUMP_THR) = false) :
    (measure s o).clock = s.clock ∧ getF (measure s o) NT_RATE_Y = getF s NT_RATE_Y ∧ flag (measure s o) NT_INT_JUMP = true
      ∧ count (measure s o) (cNT_CNT 5) = (count s (cNT_CNT 5) + 1) % 2 ^ 48 := by
  have hshown := offsetShown_writes s o
  have hwf := hshown.wf hs
  have hrefused := refuseMeasure_writes (offsetShown s o) o
  have hbump : (bump (offsetShown s o) (cNT_CNT 5)).RegsWf := regsWf_bumpBy _ _ _ hwf
  have hnoted : (jumpNoted (offsetShown s o)).RegsWf := regsWf_setF _ _ _ hbump
  have hcount : count (jumpNoted (offsetShown s o)) (cNT_CNT 5) = count (bump (offsetShown s o) (cNT_CNT 5)) (cNT_CNT 5) :=
    count_setF_other _ _ _ _ (by decide) (by decide)
  have hrate : getF (jumpNoted (offsetShown s o)) NT_RATE_Y = getF (offsetShown s o) NT_RATE_Y :=
    (getF_setF_addr _ _ _ _ (by decide)).trans (getF_bumpBy_other _ _ _ _ (by decide) (by decide))
  rw [measure_judged o hs h, hw, if_neg Bool.false_ne_true]
  refine ⟨hrefused.clock.trans hshown.clock, ?_, ?_, ?_⟩
  · rw [hrefused.getF hnoted (by decide) (by decide), hrate, getF_offsetShown o hs (by decide) (by decide)]
  · rw [hrefused.flag hnoted (by decide) (by decide)]
    exact flag_event_same _ _ hbump (by decide) (by decide)
  · rw [hrefused.count hnoted (by decide), hcount, bump, count_bumpBy _ _ _ hwf, hshown.count hs (by decide)]

/-- A measurement that drives the servo leaves the clock, and the rate within the servo's limit (R153, R155). -/
theorem measure_fed (h : 1 ≤ getF s NT_STATE_SERVO) (hw : withinNs o (getF s NT_JUMP_THR) = true)
    (hown : getF s NT_STATE_SERVO = 4 → ∃ x, s.nt.persist = some x ∧ x.gm = gmId s) :
    (measure s o).clock = s.clock ∧ (getI (measure s o) NT_RATE_Y).natAbs ≤ servoLimit s := by
  have hshown := offsetShown_writes s o
  have hlimit : servoLimit (offsetShown s o) = servoLimit s := by
    unfold servoLimit
    rw [getF_offsetShown o hs (by decide) (by decide)]
  have hfed : ∃ W u, NtWrites W (feed (offsetShown s o) o) u ∧ (∀ g ∈ W, Apart NT_RATE_Y g) ∧ (measure s o = u ∨ measure s o = enterLocked u) := by
    rcases Nat.eq_or_lt_of_le h with h1 | h2
    · obtain ⟨u, hu, hm⟩ := measure_acquiring o hs h1.symm hw
      exact ⟨_, u, hu, by decide, hm⟩
    · have hpersist : getF (offsetShown s o) NT_STATE_SERVO = 4 → ∃ x, (offsetShown s o).nt.persist = some x ∧ x.gm = gmId (offsetShown s o) := by
        rw [getF_offsetShown o hs (by decide) (by decide), offsetShown_nt, gmId, getF_offsetShown o hs (by decide) (by decide),
          getF_offsetShown o hs (by decide) (by decide)]
        exact hown
      obtain ⟨u, hu, hm⟩ := acceptMeasure_fed o hpersist
      rw [measure_judged o hs h2, if_pos hw]
      exact ⟨_, u, hu, by decide, hm⟩
  obtain ⟨W, u, hu, hW, hm⟩ := hfed
  obtain ⟨hclock, hrate⟩ := rate_of_fed o (hshown.wf hs) hu hW hm
  exact ⟨hclock.trans hshown.clock, hlimit ▸ hrate⟩

/-- A measurement from another grandmaster than the persistence's leaves clock, rate and HELD_OFF (R154). -/
theorem measure_held (h4 : getF s NT_STATE_SERVO = 4) (hw : withinNs o (getF s NT_JUMP_THR) = true)
    (hother : ∀ x, s.nt.persist = some x → x.gm ≠ gmId s) :
    (measure s o).clock = s.clock ∧ getF (measure s o) NT_RATE_Y = getF s NT_RATE_Y ∧ getF (measure s o) NT_STATE_SERVO = 4 := by
  have hshown := offsetShown_writes s o
  have hservo : getF (offsetShown s o) NT_STATE_SERVO = 4 := (getF_offsetShown o hs (by decide) (by decide)).trans h4
  have hpersist : ∀ x, (offsetShown s o).nt.persist = some x → x.gm ≠ gmId (offsetShown s o) := by
    rw [offsetShown_nt, gmId, getF_offsetShown o hs (by decide) (by decide), getF_offsetShown o hs (by decide) (by decide)]
    exact hother
  have hheld := acceptMeasure_held o hservo hpersist
  rw [measure_judged o hs (by omega), if_pos hw]
  refine ⟨hheld.clock.trans hshown.clock, ?_, ?_⟩
  · rw [hheld.getF (hshown.wf hs) (by decide) (by decide), getF_offsetShown o hs (by decide) (by decide)]
  · rw [hheld.getF (hshown.wf hs) (by decide) (by decide), hservo]

/-- The initial set of the clock (R155). -/
theorem measure_set (h : getF s NT_STATE_SERVO = 0) :
    (measure s o).clock = wrapClock ((s.clock : Int) - o * 2 ^ 26) ∧ getF (measure s o) NT_STATE_SERVO = 1 ∧ flag (measure s o) LS_CTRL_RUN = false
      ∧ getF (measure s o) NT_STEP_CNT_COUNT = (getF s NT_STEP_CNT_COUNT + 1) % 2 ^ 32 := by
  have hshown := offsetShown_writes s o
  have hwf := hshown.wf hs
  have hcount : (setF (offsetShown s o) NT_STEP_CNT_COUNT (getF (offsetShown s o) NT_STEP_CNT_COUNT + 1)).RegsWf := regsWf_setF _ _ _ hwf
  have hrun : (setClock (offsetShown s o) o).RegsWf := regsWf_setF _ LS_CTRL_RUN _ hcount
  rw [measure_free o hs h]
  refine ⟨?_, ?_, ?_, ?_⟩
  · rw [setF_clock, ← hshown.clock]
    rfl
  · exact getF_setF_same _ _ _ hrun (by decide)
  · rw [flag, getF_setF_addr _ _ _ _ (by decide)]
    exact flag_setFlag_same _ _ false hcount (by decide) (by decide)
  · rw [getF_setF_addr _ _ _ _ (by decide)]
    calc getF (setClock (offsetShown s o) o) NT_STEP_CNT_COUNT
        _ = getF (setF (offsetShown s o) NT_STEP_CNT_COUNT (getF (offsetShown s o) NT_STEP_CNT_COUNT + 1)) NT_STEP_CNT_COUNT :=
          getF_setF_addr _ LS_CTRL_RUN _ _ (by decide)
        _ = (getF (offsetShown s o) NT_STEP_CNT_COUNT + 1) % 2 ^ 32 := getF_setF_same _ _ _ hwf (by decide)
        _ = (getF s NT_STEP_CNT_COUNT + 1) % 2 ^ 32 := by rw [getF_offsetShown o hs (by decide) (by decide)]

end Measured

/-- Settles O29: a measurement is judged in the state that shows its offset; what the servo and a refusal write is apart from what the rules keep. -/
theorem measurements : Obligations.Measurements := by
  unfold Obligations.Measurements
  exact ⟨fun s o hc h0 => measure_set o hc.1 h0, fun s o hc h2 hw => measure_refused o hc.1 (by omega) hw,
    fun s o hc h1 hw hown => measure_fed o hc.1 h1 hw hown, fun s o hc h4 hw hother => measure_held o hc.1 h4 hw hother⟩

end Sys2Proof.Machine

namespace Sys2Proof.Machine

/-! ### Boundaries of the lift schedule (R165) -/

section Boundaries
variable {s : State} {b t : Nat}

theorem boundaryFrom_ge : t ≤ boundaryFrom s b t := by
  unfold boundaryFrom
  dsimp only
  split <;> omega

theorem boundaryFrom_of_cycle (h : cycleOf s b ≠ 0) :
    boundaryFrom s b t = t + (phaseOf s b + (cycleOf s b - t % cycleOf s b)) % cycleOf s b := if_neg h

/-- A boundary is PHASE past a whole number of cycles. -/
theorem boundaryFrom_modEq (h : cycleOf s b ≠ 0) : boundaryFrom s b t ≡ phaseOf s b [MOD cycleOf s b] := by
  rw [boundaryFrom_of_cycle h]
  generalize cycleOf s b = c at h ⊢
  generalize phaseOf s b = p
  have hlt : t % c < c := Nat.mod_lt _ (Nat.pos_of_ne_zero h)
  have hmod : t ≡ t % c [MOD c] := (Nat.mod_modEq t c).symm
  calc t + (p + (c - t % c)) % c
      _ ≡ t % c + (p + (c - t % c)) [MOD c] := hmod.add (Nat.mod_modEq _ c)
      _ = p + c := by omega
      _ ≡ p [MOD c] := Nat.add_modEq_right

/-- The first boundary from a time on lies less than a cycle ahead. -/
theorem boundaryFrom_lt (h : cycleOf s b ≠ 0) : boundaryFrom s b t < t + cycleOf s b := by
  rw [boundaryFrom_of_cycle h]
  exact Nat.add_lt_add_left (Nat.mod_lt _ (Nat.pos_of_ne_zero h)) t

end Boundaries

theorem cycle_of_bankValid {s : State} {b : Nat} (h : bankValid s b = true) : cycleOf s b ≠ 0 ∧ cycleOf s b ∣ 1000000000 := by
  unfold bankValid at h
  simp only [Bool.and_eq_true, decide_eq_true_eq] at h
  obtain ⟨⟨⟨hpos, hdvd, -⟩, -⟩, -⟩ := h
  exact ⟨by omega, Nat.dvd_of_mod_eq_zero hdvd⟩

/-- Settles O31: a boundary is the one time of its congruence class less than a cycle ahead, and CYCLE divides a second. -/
theorem cycleBoundaries : Obligations.CycleBoundaries := by
  unfold Obligations.CycleBoundaries
  intro s b t hvalid
  obtain ⟨hc, hsecond⟩ := cycle_of_bankValid hvalid
  refine ⟨boundaryFrom_ge, fun u htu hub => ?_⟩
  have hbound : boundaryFrom s b t < t + cycleOf s b := boundaryFrom_lt hc
  have hnano : u % 1000000000 ≡ u [MOD cycleOf s b] := (Nat.mod_modEq u 1000000000).of_dvd hsecond
  have hphase : (((u % 1000000000 : Nat) : Int) - (phaseOf s b : Int)) % (cycleOf s b : Int) = 0 ↔ phaseOf s b ≡ u [MOD cycleOf s b] := by
    rw [← Int.dvd_iff_emod_eq_zero, ← Nat.modEq_iff_dvd]
    exact ⟨fun h => h.trans hnano, fun h => h.trans hnano.symm⟩
  rw [hphase]
  constructor
  · intro h
    have hsame : u ≡ boundaryFrom s b t [MOD cycleOf s b] := (boundaryFrom_modEq hc |>.trans h).symm
    exact hsame.eq_of_abs_lt (by rw [abs_lt]; omega)
  · rintro rfl
    exact (boundaryFrom_modEq hc).symm

/-! ### Clock steps and the rows of timeouts (R155, R159, R160, R172) -/

/-- The fields that a swap of the banks writes. -/
def swapFields : List Fld := [LS_CTRL_ACTIVE_BANK, LS_CTRL_SWAP_PEND, ⟨cLS_CNT 5, 31, 0⟩, ⟨cLS_CNT 5 + 4, 31, 0⟩]

theorem swapBanks_writes (s : State) (b n : Nat) : NtWrites swapFields s (swapBanks s b n) :=
  (((NtWrites.setF s _ (by decide)).trans (.setFlag _ _ (by decide))).trans (.bump _ (by decide) (by decide))).trans (.of_nt _ _ _)

theorem lsBank_lt (s : State) : lsBank s < 2 := getF_lt s LS_CTRL_ACTIVE_BANK

/-- At B the banks change, the swap is counted and no longer pending (R172). -/
theorem swapBanks_spec {s : State} (b n : Nat) (hs : s.RegsWf) : lsBank (swapBanks s b n) = 1 - lsBank s
    ∧ count (swapBanks s b n) (cLS_CNT 5) = (count s (cLS_CNT 5) + 1) % 2 ^ 48 ∧ flag (swapBanks s b n) LS_CTRL_SWAP_PEND = false := by
  have hbank : (setF s LS_CTRL_ACTIVE_BANK (1 - lsBank s)).RegsWf := regsWf_setF _ _ _ hs
  have hpend : (setFlag (setF s LS_CTRL_ACTIVE_BANK (1 - lsBank s)) LS_CTRL_SWAP_PEND false).RegsWf := regsWf_setF _ _ _ hbank
  have hfield : ∀ f : Fld, f.addr = aLS_CTRL →
      getF (swapBanks s b n) f = getF (setFlag (setF s LS_CTRL_ACTIVE_BANK (1 - lsBank s)) LS_CTRL_SWAP_PEND false) f := fun f hf =>
    getF_bumpBy_other _ (cLS_CNT 5) 1 f (by rw [hf]; decide) (by rw [hf]; decide)
  refine ⟨?_, ?_, ?_⟩
  · calc lsBank (swapBanks s b n)
        _ = getF (setFlag (setF s LS_CTRL_ACTIVE_BANK (1 - lsBank s)) LS_CTRL_SWAP_PEND false) LS_CTRL_ACTIVE_BANK := hfield _ rfl
        _ = getF (setF s LS_CTRL_ACTIVE_BANK (1 - lsBank s)) LS_CTRL_ACTIVE_BANK := getF_setF_apart _ hbank (by decide) (by decide)
        _ = (1 - lsBank s) % 2 ^ 1 := getF_setF_same _ _ _ hs (by decide)
        _ = 1 - lsBank s := by omega
  · calc count (swapBanks s b n) (cLS_CNT 5)
        _ = (count (setFlag (setF s LS_CTRL_ACTIVE_BANK (1 - lsBank s)) LS_CTRL_SWAP_PEND false) (cLS_CNT 5) + 1) % 2 ^ 48 := count_bumpBy _ _ _ hpend
        _ = (count s (cLS_CNT 5) + 1) % 2 ^ 48 := by
          rw [setFlag, count_setF_other _ _ _ _ (by decide) (by decide), count_setF_other _ _ _ _ (by decide) (by decide)]
  · rw [flag, hfield _ rfl]
    exact flag_setFlag_same _ _ false hbank (by decide) (by decide)

/-- What a clock step does to the registers (R160): it is counted, no longer pending, and STEP is set. -/
def stepNoted (s : State) : State := event (setFlag (setF s NT_STEP_CNT_COUNT (getF s NT_STEP_CNT_COUNT + 1)) NT_STATE_STEP_PEND false) NT_INT_STEP

theorem stepNoted_spec {s : State} (hs : s.RegsWf) : (stepNoted s).RegsWf
    ∧ getF (stepNoted s) NT_STEP_CNT_COUNT = (getF s NT_STEP_CNT_COUNT + 1) % 2 ^ 32 ∧ flag (stepNoted s) NT_INT_STEP = true
    ∧ flag (stepNoted s) NT_STATE_STEP_PEND = false := by
  have hcounted : (setF s NT_STEP_CNT_COUNT (getF s NT_STEP_CNT_COUNT + 1)).RegsWf := regsWf_setF _ _ _ hs
  have hpend : (setFlag (setF s NT_STEP_CNT_COUNT (getF s NT_STEP_CNT_COUNT + 1)) NT_STATE_STEP_PEND false).RegsWf := regsWf_setF _ _ _ hcounted
  refine ⟨regsWf_setF _ _ _ hpend, ?_, flag_event_same _ _ hpend (by decide) (by decide), ?_⟩
  · calc getF (stepNoted s) NT_STEP_CNT_COUNT
        _ = getF (setF s NT_STEP_CNT_COUNT (getF s NT_STEP_CNT_COUNT + 1)) NT_STEP_CNT_COUNT :=
          (getF_setF_addr _ NT_INT_STEP _ _ (by decide)).trans (getF_setF_addr _ NT_STATE_STEP_PEND _ _ (by decide))
        _ = (getF s NT_STEP_CNT_COUNT + 1) % 2 ^ 32 := getF_setF_same _ _ _ hs (by decide)
  · rw [stepNoted, flag, event, getF_setF_addr _ _ _ _ (by decide)]
    exact flag_setFlag_same _ _ false hcounted (by decide) (by decide)

/-- The fields that a clock step can write after its own. -/
def afterStepFields : List Fld := NT_STATE_PERSIST_CNT :: lockedFields

/-- A clock step: the swap that shares its boundary first, then the step's own registers with the clock moved and decision, persistence and refused
measurements gone, then what returns to LOCKED and predicts the ready time again. -/
theorem execTimeStepExecute_due {s : State} {d : StepDecision} (hd : s.nt.decision = some d) (hb : d.bound ≤ netNs s) :
    ∃ s0 u t, execTimeStepExecute s = .next t ∧ NtWrites swapFields s s0 ∧ u.regs = (stepNoted s0).regs ∧ NtWrites afterStepFields u t
      ∧ u.clock = wrapClock ((s0.clock : Int) + d.delta * 2 ^ 42) ∧ u.ad.inflight = s0.ad.inflight ∧ u.mem = s0.mem
      ∧ t.nt.decision = none ∧ t.nt.persist = none ∧ t.nt.refused = [] := by
  unfold execTimeStepExecute
  split
  next hnone => cases hd.symm.trans hnone
  next d' hd' =>
  obtain rfl : d = d' := Option.some.inj (hd.symm.trans hd')
  rw [if_neg (Nat.not_lt.mpr hb)]
  extract_lets s0 landed n move s1 _ _ s2 s3 s4
  have hswap : NtWrites swapFields s s0 := by
    unfold s0
    split
    · exact .ite (swapBanks_writes s _ _) (.refl s)
    · exact .refl s
  have hforget : NtWrites afterStepFields s2 s3 := (forgetRefused_writes s2).mono (by decide)
  have hlock : NtWrites afterStepFields s3 s4 := .ite ((enterLocked_writes s3).mono (by decide)) (.refl s3)
  have hready : NtWrites afterStepFields s4 (if flag s4 TH_PSTATE_TRANSIT then setReady s4 (predicted s4) else s4) :=
    .ite ((setReady_writes s4 _).mono (by decide)) (.refl s4)
  have hlocked : s4.nt.decision = none ∧ s4.nt.persist = none ∧ s4.nt.refused = [] := by
    unfold s4
    split
    · rw [enterLocked_nt]
      exact ⟨rfl, rfl, rfl⟩
    · exact ⟨rfl, rfl, rfl⟩
  have hnt : (if flag s4 TH_PSTATE_TRANSIT then setReady s4 (predicted s4) else s4).nt = s4.nt := by
    split <;> rfl
  exact ⟨s0, s2, _, rfl, hswap, rfl, (hforget.trans hlock).trans hready, rfl, rfl, rfl, hnt ▸ hlocked⟩

/-- The servo falls to HOLDOVER (R155). -/
theorem execGmLossTimeout_due {s : State} (hs : s.RegsWf) (h2 : getF s NT_STATE_SERVO = 2)
    (hloss : s.nt.lastGood + 4000000 * getF s NT_LOSS_MS ≤ s.elapsed) :
    ∃ t, execGmLossTimeout s = .next t ∧ getF t NT_STATE_SERVO = 3 ∧ flag t NT_INT_HOLDOVER = true ∧ t = { s with regs := t.regs }
      ∧ (∀ b, b ≠ aNT_STATE → b ≠ aNT_INT → rd t b = rd s b) := by
  have hservo : (setF s NT_STATE_SERVO 3).RegsWf := regsWf_setF _ _ _ hs
  refine ⟨event (setF s NT_STATE_SERVO 3) NT_INT_HOLDOVER, if_pos ⟨h2, hloss⟩, ?_, flag_event_same _ _ hservo (by decide) (by decide), rfl,
    fun b hstate hint => (rd_setF_other _ _ _ _ hint).trans (rd_setF_other _ _ _ _ hstate)⟩
  exact (getF_setF_addr _ NT_INT_HOLDOVER _ _ (by decide)).trans (getF_setF_same _ _ _ hs (by decide))

/-- Settles O30: each row in the state where it is due, the clock step through the registers it notes itself in. -/
theorem clockSteps : Obligations.ClockSteps := by
  unfold Obligations.ClockSteps
  refine ⟨fun s d hc hd hb => ?_, fun s d hd hb => ?_, fun s hc h2 hloss => execGmLossTimeout_due hc.1 h2 hloss, fun s hc hstored huntil => ?_⟩
  · obtain ⟨s0, u, t, hexec, hswap, hregs, hafter, hclock, hflight, hmem, hnt⟩ := execTimeStepExecute_due hd hb
    obtain ⟨hdecision, hpersist, hrefused⟩ := hnt
    obtain ⟨hwf, hcount, hstep, hpend⟩ := stepNoted_spec (hswap.wf hc.1)
    have hu : u.RegsWf := regsWf_of_regs hregs hwf
    have hword : ∀ a, rd u a = rd (stepNoted s0) a := rd_of_regs hregs
    refine ⟨t, hexec, ?_, hdecision, hpersist, hrefused, ?_, ?_, ?_, ?_, ?_⟩
    · rw [hafter.clock, hclock, hswap.clock]
    · rw [hafter.getF hu (by decide) (by decide), getF_of_rd (hword _), hcount, hswap.getF hc.1 (by decide) (by decide)]
    · rw [hafter.flag hu (by decide) (by decide), flag_of_rd (hword _), hstep]
    · rw [hafter.flag hu (by decide) (by decide), flag_of_rd (hword _), hpend]
    · rw [hafter.ad, hflight, hswap.ad]
    · rw [hafter.mem, hmem, hswap.mem]
  · change execTimeStepExecute s = _
    unfold execTimeStepExecute
    rw [hd]
    exact if_pos hb
  · exact ⟨dropPermit s, if_pos ⟨hstored, huntil⟩, flag_setFlag_same _ _ false hc.1 (by decide) (by decide), rfl,
      fun b hb => rd_setF_other _ _ _ _ hb⟩

end Sys2Proof.Machine

namespace Sys2Proof.Machine

/-! ### The schedule (R167, R172, R173) -/

/-- SCHEDULE_START where its occasion has come (R167, R375). -/
theorem execScheduleStart_due {s : State} (hs : s.RegsWf) (hwanted : serviceWanted s = true) (hvalid : bankValid s (lsBank s) = true)
    (htime : timeValid s = true) (hrun : flag s LS_CTRL_RUN = false) (hfatal : flag s FC_STATUS_FATAL = false) (hhold : pstate s = 3)
    (hmoving : s.pw.moving = none) :
    (railsGood s 6 = true →
      ∃ t, execScheduleStart s = .next t ∧ flag t LS_CTRL_RUN = true ∧ t.nt.nextStart = boundaryFrom s (lsBank s) (netNs s) ∧ t.nt.nextEntry = 0
        ∧ t.nt.winFrom = t.nt.nextStart ∧ t.pw = { s.pw with moving := some ⟨.holdService, 1, s.elapsed, s.elapsed⟩ }
        ∧ t = { s with regs := t.regs, nt := t.nt, pw := t.pw } ∧ (∀ b, b ≠ aLS_CTRL → rd t b = rd s b)) ∧
    (railsGood s 6 = false → execScheduleStart s = .next (railWait s)) := by
  have hdue : serviceWanted s ∧ bankValid s (lsBank s) ∧ timeValid s ∧ flag s LS_CTRL_RUN = false ∧ flag s FC_STATUS_FATAL = false
      ∧ getF s TH_PSTATE_STATE = 3 ∧ s.pw.moving.isNone := ⟨hwanted, hvalid, htime, hrun, hfatal, hhold, by rw [hmoving]; rfl⟩
  unfold execScheduleStart
  rw [if_pos hdue]
  refine ⟨fun hrails => ?_, fun hrails => ?_⟩
  · rw [if_pos hrails]
    exact ⟨_, rfl, flag_setFlag_same _ _ true hs (by decide) (by decide), rfl, rfl, rfl, rfl, rfl, fun b hb => rd_setF_other _ _ _ _ hb⟩
  · rw [if_neg (by rw [hrails]; exact Bool.false_ne_true)]

/-- A granted write of LS_CTRL is the write of its fields and what the write starts. -/
theorem rowWrite_lsCtrl {s : State} {w : RegWrite} (hg : Granted s w aLS_CTRL) :
    rowWrite s aLS_CTRL w = lsCtrlWritten (storeWrite (atGrant s w) aLS_CTRL w.value) w.value := by
  rw [rowWrite_granted s _ w hg, regWritten_nt _ _ _ _ _ (by decide)]
  rfl

/-- Where a swap is fixed (R172): B is the first cycle boundary of the running bank later than now and every booked window. -/
def swapBound (s : State) : Nat := boundaryFrom s (lsBank s) (max (netNs s) (latestBooked s) + 1)

/-- The registers of a pending swap. -/
def swapShown (s : State) (b : Nat) : State :=
  setF (setF (setFlag s LS_CTRL_SWAP_PEND true) LS_SWAP_S_SECONDS (b / 1000000000)) LS_SWAP_NS_NANOSECONDS (b % 1000000000)

theorem swapWritten_fixed {u : State} (hvalid : bankValid u (1 - lsBank u) = true) (hnone : u.nt.swapAt = none) (hc : cycleOf u (lsBank u) ≠ 0) :
    swapWritten u = { swapShown u (swapBound u) with
      nt := { u.nt with swapAt := some (swapBound u, boundaryFrom u (1 - lsBank u) (swapBound u)) } } := by
  have hfree : ¬ (bankValid u (1 - lsBank u) = false) := by simp [hvalid]
  unfold swapWritten
  simp only [hfree, hnone, hc, if_false, Option.isSome_none, Bool.false_eq_true]
  rfl

theorem swapWritten_spec {u : State} (hu : u.RegsWf) (hvalid : bankValid u (1 - lsBank u) = true) (hnone : u.nt.swapAt = none)
    (hc : cycleOf u (lsBank u) ≠ 0) :
    ∃ b n, (swapWritten u).nt.swapAt = some (b, n) ∧ netNs u < b ∧ latestBooked u < b
      ∧ b % cycleOf u (lsBank u) = phaseOf u (lsBank u) % cycleOf u (lsBank u) ∧ b ≤ n ∧ flag (swapWritten u) LS_CTRL_SWAP_PEND = true ∧ lsBank (swapWritten u) = lsBank u := by
  have hlater : max (netNs u) (latestBooked u) + 1 ≤ swapBound u := boundaryFrom_ge
  have hshown : ∀ f : Fld, f.addr = aLS_CTRL → getF (swapShown u (swapBound u)) f = getF (setFlag u LS_CTRL_SWAP_PEND true) f := fun f hf =>
    (getF_setF_addr _ LS_SWAP_NS_NANOSECONDS _ _ (by rw [hf]; decide)).trans (getF_setF_addr _ LS_SWAP_S_SECONDS _ _ (by rw [hf]; decide))
  rw [swapWritten_fixed hvalid hnone hc]
  refine ⟨_, _, rfl, by omega, by omega, boundaryFrom_modEq hc, boundaryFrom_ge, ?_, ?_⟩
  · calc flag (swapShown u (swapBound u)) LS_CTRL_SWAP_PEND
        _ = flag (setFlag u LS_CTRL_SWAP_PEND true) LS_CTRL_SWAP_PEND := by rw [flag, hshown _ rfl]; rfl
        _ = true := flag_setFlag_same _ _ true hu (by decide) (by decide)
  · calc getF (swapShown u (swapBound u)) LS_CTRL_ACTIVE_BANK
        _ = getF (setFlag u LS_CTRL_SWAP_PEND true) LS_CTRL_ACTIVE_BANK := hshown _ rfl
        _ = lsBank u := getF_setF_apart _ hu (by decide) (by decide)

/-- RUN falls: the schedule stops (R173). -/
theorem flag_runOff {s : State} (hs : s.RegsWf) : flag (runOff s) LS_CTRL_RUN = false := by
  unfold runOff
  split
  · exact flag_setFlag_same _ _ false hs (by decide) (by decide)
  · simpa using ‹¬ flag s LS_CTRL_RUN = true›

/-- With EN cleared RUN stands only while something booked has yet to start (R173). -/
theorem flag_run_enCleared {u : State} (hu : u.RegsWf) (hen : flag u LS_CTRL_EN = false) :
    flag (enCleared u) LS_CTRL_RUN = (flag u LS_CTRL_RUN && decide (netNs u < latestBooked u)) := by
  unfold enCleared runFalls
  by_cases hbooked : latestBooked u ≤ netNs u
  · rw [if_pos ⟨.inl hen, hbooked⟩, flag_runOff hu, decide_eq_false (Nat.not_lt.mpr hbooked), Bool.and_false]
  · rw [if_neg fun h => hbooked h.2, decide_eq_true (Nat.lt_of_not_le hbooked), Bool.and_true]

/-- Settles O32: the start by its occasion, the writes of LS_CTRL by what they start, B and N by what a boundary is. -/
theorem schedule : Obligations.Schedule := by
  unfold Obligations.Schedule
  refine ⟨fun s hc hwanted hvalid htime hrun hfatal hhold hmoving => execScheduleStart_due hc.1 hwanted hvalid htime hrun hfatal hhold hmoving,
    fun s u w hg hu => ⟨fun hswap hen => ?_, fun hswap hen => ?_⟩, fun u hinvalid => if_pos hinvalid,
    fun u hc hvalid hnone hcycle => swapWritten_spec hc.1 hvalid hnone hcycle, fun u hc hen => flag_run_enCleared hc.1 hen, fun s b n hc hat hb => ?_⟩
  · refine congrArg Host.Outcome.next ((rowWrite_lsCtrl hg).trans ?_)
    simp only [← hu, lsCtrlWritten, hswap, hen, if_true]
  · refine congrArg Host.Outcome.next ((rowWrite_lsCtrl hg).trans ?_)
    simp only [← hu, lsCtrlWritten, hswap, hen, Bool.false_eq_true, if_false]
  · have hexec : exec .swapExecute s = .next (swapBanks s b n) := by
      change execSwapExecute s = _
      unfold execSwapExecute
      rw [hat]
      exact if_pos hb
    obtain ⟨hbank, hcount, hpend⟩ := swapBanks_spec b n hc.1
    exact ⟨_, hexec, hbank, rfl, rfl, rfl, hcount, hpend, rfl, rfl⟩

/-! ### The tick of an idle step (R144) -/

/-- Settles O2: with no command waiting a step is the tick, whose one test is whether the island runs. -/
theorem idleStepTicks : Obligations.IdleStepTicks := by
  unfold Obligations.IdleStepTicks
  intro s hp
  have htick : step s = .next (tick s) := by
    unfold step
    rw [hp]
  rw [htick]
  refine ⟨fun hruns => ?_, fun hstopped => ?_⟩
  · exact congrArg Host.Outcome.next (if_pos hruns)
  · exact congrArg Host.Outcome.next (if_neg hstopped)

end Sys2Proof.Machine

namespace Sys2Proof.Machine

/-! ### The window whose strobe is withheld (R238) -/

section Withheld
variable (s : State)

@[simp] theorem withheld_ite (c : Prop) [Decidable c] (a b : State) :
    (if c then a else b).dr.withheld = if c then a.dr.withheld else b.dr.withheld := apply_ite (fun s : State => s.dr.withheld) _ _ _

@[simp] theorem foldl_withheld {α : Type} {f : State → α → State} (hf : ∀ s a, (f s a).dr.withheld = s.dr.withheld) (l : List α) (s : State) :
    (l.foldl f s).dr.withheld = s.dr.withheld := by
  induction l generalizing s with
  | nil => rfl
  | cons a l ih => exact (ih _).trans (hf s a)

@[simp] theorem setPier_withheld (g : Nat) (p : Pier) : (setPier s g p).dr.withheld = s.dr.withheld := rfl
@[simp] theorem setMism_withheld (n : Nat) (l : List Mismatch) : (setMism s n l).dr.withheld = s.dr.withheld := rfl
@[simp] theorem life_withheld (i : Nat) : (life s i).dr.withheld = s.dr.withheld := by simp [life, lifeBy]
@[simp] theorem setLiveF_withheld (n l d v : Nat) : (setLiveF s n l d v).dr.withheld = s.dr.withheld := by simp [setLiveF]
@[simp] theorem dropHold_withheld (n l : Nat) : (dropHold s n l).dr.withheld = s.dr.withheld := rfl
@[simp] theorem discardStaged_withheld (n l : Nat) : (discardStaged s n l).dr.withheld = s.dr.withheld := rfl
@[simp] theorem unfreeze_withheld (n l : Nat) : (unfreeze s n l).dr.withheld = s.dr.withheld := by
  unfold unfreeze
  dsimp only
  split <;> simp
@[simp] theorem parkPier_withheld (n l : Nat) : (parkPier s n l).dr.withheld = s.dr.withheld := by simp [parkPier]

/-- The second state withholds the strobe of the same window as the first. -/
def SameWithheld (s t : State) : Prop := t.dr.withheld = s.dr.withheld

namespace SameWithheld
variable {s t u : State}

theorem trans (h : SameWithheld s t) (k : SameWithheld t u) : SameWithheld s u := Eq.trans k h

theorem ite {c : Prop} [Decidable c] (ht : SameWithheld s t) (hu : SameWithheld s u) : SameWithheld s (if c then t else u) := by
  split
  · exact ht
  · exact hu

theorem setF (s : State) (f : Fld) (v : Nat) : SameWithheld s (setF s f v) := rfl

theorem armIn (s : State) (x : Timer) (n : Nat) : SameWithheld s (armIn s x n) := rfl

theorem setParked (s : State) (l : List Nat) : SameWithheld s { s with dr := { s.dr with parked := l } } := rfl

theorem parkSpan (s : State) (n : Nat) : SameWithheld s (parkSpan s n) := by
  have hpiers : SameWithheld s ((List.range 512).foldl (fun s l => parkPier s n l) s) :=
    foldl_withheld (f := fun s l => parkPier s n l) (fun u l => parkPier_withheld u n l) (List.range 512) s
  unfold Machine.parkSpan
  refine ite rfl (ite ?_ (hpiers.trans (setParked _ _)))
  exact (((hpiers.trans (setParked _ _)).trans (setF _ _ _)).trans (setF _ _ _)).trans (armIn _ _ _)

end SameWithheld

@[simp] theorem parkSpan_withheld (n : Nat) : (parkSpan s n).dr.withheld = s.dr.withheld := SameWithheld.parkSpan s n
@[simp] theorem abandonReplay_withheld (n : Nat) (drop : Bool) : (abandonReplay s n drop).dr.withheld = s.dr.withheld := by simp [abandonReplay]
@[simp] theorem reown_withheld (n : Nat) : (reown s n).dr.withheld = s.dr.withheld := by simp [reown]
@[simp] theorem bothFaulted_withheld (n : Nat) : (bothFaulted s n).dr.withheld = s.dr.withheld := by simp [bothFaulted]
@[simp] theorem showDecks_withheld : (showDecks s).dr.withheld = s.dr.withheld := rfl
@[simp] theorem failResync_withheld (n d : Nat) : (failResync s n d).dr.withheld = s.dr.withheld := by simp -implicitDefEqProofs [failResync]
@[simp] theorem lowerSpan_withheld (n d cause v : Nat) : (lowerSpan s n d cause v).dr.withheld = s.dr.withheld := by simp [lowerSpan]
@[simp] theorem lowerOne_withheld (n d cause : Nat) : (lowerOne s n d cause).dr.withheld = s.dr.withheld := by simp [lowerOne]
@[simp] theorem abandonPasses_withheld (n d t : Nat) : (abandonPasses s n d t).dr.withheld = s.dr.withheld := rfl
@[simp] theorem lateDeck_withheld (n d t : Nat) : (lateDeck s n d t).dr.withheld = s.dr.withheld := by simp [lateDeck]

variable {s}

/-- A strobe that is withheld stays withheld under the window's stage-ready tests. -/
theorem stageTest_withheld {t : Nat} (h : s.dr.withheld = some t) (n : Nat) : (stageTest t s n).dr.withheld = some t := by
  cases h0 : healthy s n 0 && ! stageReady s n 0 t <;> cases h1 : healthy s n 1 && ! stageReady s n 1 t
  · rw [stageTest_neither s n t h0 h1, h]
  · rw [stageTest_second s n t h0 h1, lateDeck_withheld]
    exact h
  · rw [stageTest_first s n t h0 h1, lateDeck_withheld]
    exact h
  · rw [stageTest_both s n t h0 h1, strobeWithheld_withheld]

theorem stageTests_withheld {t : Nat} (h : s.dr.withheld = some t) (l : List Nat) : (l.foldl (stageTest t) s).dr.withheld = some t := by
  induction l generalizing s with
  | nil => exact h
  | cons n l ih => exact ih (stageTest_withheld h n)

end Withheld

/-! ### Window starts (R164, R169, R171) -/

/-- A schedule that stops leaves admission, network time and the drive as they are (R173). -/
theorem runFalls_rest (s : State) (t : Nat) : ∃ r p, runFalls s t = { s with regs := r, pw := p } := by
  unfold runFalls runOff
  split_ifs <;> exact ⟨_, _, rfl⟩

theorem rd_runFalls (s : State) (t : Nat) {a : Nat} (h : a ≠ aLS_CTRL) : rd (runFalls s t) a = rd s a := by
  have hoff : rd (runOff s) a = rd s a := by
    unfold runOff
    split
    · exact rd_setF_other _ LS_CTRL_RUN _ _ h
    · rfl
  unfold runFalls
  split
  · exact hoff
  · rfl

/-- The window that is due to begin (R164). -/
def dueWindow (s : State) : Win := ⟨lsBank s, s.nt.nextStart, s.nt.nextEntry⟩

/-- Its class. -/
def dueClass (s : State) : Nat := winClass s (dueWindow s)

/-- The stage-ready tests that a request window's start completes (R22, R230). -/
def windowTested (s : State) : State := if dueClass s ≤ 1 then (List.range 36).foldl (stageTest s.nt.nextStart) s else s

/-- The window is counted and shown (R171). -/
def windowShown (s : State) : State :=
  captureWindow (setF (setF (bump (windowTested s) (cLS_CNT (dueClass s))) LS_STATUS_ENTRY (dueWindow s).entry) LS_STATUS_CLASS (dueClass s))
    (dueWindow s).entry (dueClass s)

/-- The release strobe of a request window, unless it is withheld (R169, R238). -/
def windowStruck (s : State) (treeA treeB : Bool) : State :=
  if dueClass s ≤ 1 ∧ (windowTested s).dr.withheld ≠ some s.nt.nextStart then releaseStrobe s.nt.nextStart (windowShown s) treeA treeB
  else windowShown s

/-- The requests of the window at `t` are released, and nothing is routed for it any longer. -/
def windowReleased (u : State) (t : Nat) : State :=
  { u with
    ad := { u.ad with
      booked := u.ad.booked.filter (fun x => decide (t < x))
      inflight := u.ad.inflight.map (fun (r : Request) => if r.tW = t ∧ r.phase = ReqPhase.staged then { r with phase := ReqPhase.released } else r) }
    dr := { u.dr with routed := u.dr.routed.filter (fun r => decide (t < r.tW)), withheld := none } }

/-- The window after `w`, as the bank in which it stands says. -/
def windowAfter (u : State) (w : Win) : Win := nextWin { u with nt := { u.nt with swapAt := none } } w

/-- The next window follows at the window's end (R164). -/
def windowFollowed (u : State) (w : Win) (cls : Nat) (gap : Bool) : State :=
  { u with nt := { u.nt with nextStart := (windowAfter u w).start, nextEntry := (windowAfter u w).entry,
                             lastWin := some (w.start, (windowAfter u w).start, cls, gap) } }

/-- LIFT_WINDOW_START step by step. -/
theorem exec_liftWindowStart (s : State) (a b : Bool) : exec (.liftWindowStart a b) s =
    if flag s LS_CTRL_RUN ∧ s.nt.nextStart ≤ netNs s ∧ windowOccurs s s.nt.nextStart then
      .next (runFalls (windowFollowed (windowReleased (windowStruck s a b) s.nt.nextStart) (dueWindow s) (dueClass s)
        (decide (dueClass s ≤ 1) && gapFromStart s s.nt.nextStart)) s.nt.nextStart)
    else .next s := rfl

/-- A released window leaves no request of it staged, nothing routed up to it, and no strobe withheld. -/
theorem windowReleased_spec (u : State) (t : Nat) : (∀ r ∈ (windowReleased u t).ad.inflight, r.tW = t → r.phase ≠ ReqPhase.staged)
    ∧ (∀ r ∈ (windowReleased u t).dr.routed, t < r.tW) ∧ (windowReleased u t).dr.withheld = none := by
  refine ⟨fun r hr htW hstaged => ?_, fun r hr => ?_, rfl⟩
  · obtain ⟨q, -, rfl⟩ := List.mem_map.mp hr
    by_cases hq : q.tW = t ∧ q.phase = ReqPhase.staged
    · rw [if_pos hq] at hstaged
      cases hstaged
    · rw [if_neg hq] at htW hstaged
      exact hq ⟨htW, hstaged⟩
  · exact of_decide_eq_true (List.mem_filter.mp hr).2

/-- With the strobe withheld the trees do not matter (R238). -/
theorem windowStruck_withheld {s : State} (h : s.dr.withheld = some s.nt.nextStart) (a b : Bool) : windowStruck s a b = windowShown s := by
  refine if_neg fun ⟨hclass, hfree⟩ => hfree ?_
  rw [windowTested, if_pos hclass]
  exact stageTests_withheld h _

/-! ### What a capture trigger leaves alone (R487) -/

/-- The second state has network time's record and the registers below the capture unit's window as the first. -/
structure CaptureFrame (s t : State) : Prop where
  nt : t.nt = s.nt
  rd : ∀ a < tcBase, rd t a = rd s a

namespace CaptureFrame
variable {s t u : State}

theorem refl (s : State) : CaptureFrame s s := ⟨rfl, fun _ _ => rfl⟩

theorem trans (h : CaptureFrame s t) (k : CaptureFrame t u) : CaptureFrame s u :=
  ⟨k.nt.trans h.nt, fun a ha => (k.rd a ha).trans (h.rd a ha)⟩

theorem ite {c : Prop} [Decidable c] (ht : CaptureFrame s t) (hu : CaptureFrame s u) : CaptureFrame s (if c then t else u) := by
  split
  · exact ht
  · exact hu

theorem setF (s : State) {f : Fld} (v : Nat) (h : tcBase ≤ f.addr) : CaptureFrame s (setF s f v) :=
  ⟨rfl, fun _ ha => rd_setF_other _ _ _ _ (ha.trans_le h).ne⟩

theorem event (s : State) {f : Fld} (h : tcBase ≤ f.addr) : CaptureFrame s (event s f) := setF s 1 h

theorem bump (s : State) {a : Nat} (h : tcBase ≤ a) : CaptureFrame s (bump s a) :=
  ⟨rfl, fun _ hb => rd_bumpBy_other _ _ _ _ (by omega) (by omega)⟩

theorem setCapture (s : State) (c : Capture) : CaptureFrame s { s with tc := c } := ⟨rfl, fun _ _ => rfl⟩

theorem armIn (s : State) (x : Timer) (n : Nat) : CaptureFrame s (armIn s x n) := ⟨rfl, fun _ _ => rfl⟩

theorem wrMem (s : State) (a n v : Nat) : CaptureFrame s (wrMem s a n v) := by
  obtain ⟨m, f, h⟩ := MemOnly.wrBytes (leBytes n v) s a
  rw [Machine.wrMem, h]
  exact ⟨rfl, fun _ _ => rfl⟩

theorem markRing (s : State) (t : Nat) : CaptureFrame s (markRing s t) := by
  unfold Machine.markRing
  dsimp only
  split
  · exact refl s
  · exact ((wrMem s _ _ _).trans (setCapture _ _)).trans (setF _ _ (by simp only [TC_SEG_w0_TRIG_IDX, aTC_SEG_w0]; omega))

theorem driveLines (s : State) (src : Nat) : CaptureFrame s (driveLines s src) := by
  have hfirst : CaptureFrame s (if flag s TC_BUS_DRIVE0 ∧ src ≠ 4 then Machine.armIn s (.trigDrive 0) 40 else s) := .ite (armIn s _ _) (refl s)
  exact .ite (hfirst.trans (armIn _ _ _)) hfirst

theorem offerTrigger (s : State) (src comp : Nat) : CaptureFrame s (offerTrigger s src comp) := by
  unfold Machine.offerTrigger
  refine .ite (refl s) (.ite ?_ ?_)
  · have hstamp : ∀ n, tcBase ≤ (TC_SEG_w1_T_TRIG n).addr := fun n => by simp only [TC_SEG_w1_T_TRIG, aTC_SEG_w1]; omega
    have hvalid : ∀ n, tcBase ≤ (TC_SEG_w3_VALID n).addr := fun n => by simp only [TC_SEG_w3_VALID, aTC_SEG_w3]; omega
    have hstate : ∀ c, CaptureFrame s (Machine.setF { s with tc := c } TC_STATUS_STATE 3) := fun c => (setCapture s c).trans (setF _ _ (by decide))
    exact ((((((hstate _).trans (setF _ _ (hstamp _))).trans (setF _ _ (hvalid _))).trans (markRing _ _)).trans (event _ (by decide))).trans
      (bump _ (by decide))).trans (driveLines _ _)
  · exact ((setCapture s _).trans (event _ (by decide))).trans (bump _ (by decide))

theorem captureWindow (s : State) (entry cls : Nat) : CaptureFrame s (captureWindow s entry cls) := .ite (offerTrigger s 1 0) (refl s)

end CaptureFrame

/-! ### A window without requests (R171) -/

theorem dueClass_lt (s : State) : dueClass s < 4 := getF_lt s (LS_ENTRY_CLASS _)

section Quiet
variable {s : State} (h : 2 ≤ dueClass s)
include h

theorem windowStruck_quiet (a b : Bool) : windowStruck s a b = windowShown s := if_neg fun ⟨hreq, _⟩ => by omega

theorem windowShown_quiet : CaptureFrame (setF (setF (bump s (cLS_CNT (dueClass s))) LS_STATUS_ENTRY s.nt.nextEntry) LS_STATUS_CLASS (dueClass s))
    (windowShown s) := by
  have htested : windowTested s = s := if_neg (by omega)
  unfold windowShown
  rw [htested]
  exact .captureWindow _ _ _

/-- The banks and the entries lie apart from LS_STATUS and the counts of the windows. -/
theorem rd_windowShown {a : Nat} (ha : (aLS_BANK_w0 0 ≤ a ∧ a < cLS_CNT 0) ∨ (cLS_CNT 4 ≤ a ∧ a < tcBase)) : rd (windowShown s) a = rd s a := by
  have hlt := dueClass_lt s
  have hplace : a < tcBase ∧ a ≠ aLS_STATUS ∧ a ≠ cLS_CNT (dueClass s) ∧ a ≠ cLS_CNT (dueClass s) + 4 := by
    unfold aLS_BANK_w0 cLS_CNT tcBase ntBase at ha
    unfold aLS_STATUS cLS_CNT tcBase ntBase
    omega
  obtain ⟨hbelow, hstatus, hlow, hhigh⟩ := hplace
  rw [(windowShown_quiet h).rd a hbelow, rd_setF_other _ _ _ _ hstatus, rd_setF_other _ _ _ _ hstatus]
  exact rd_bumpBy_other _ _ _ _ hlow hhigh

theorem count_windowShown (hs : s.RegsWf) : count (windowShown s) (cLS_CNT (dueClass s)) = (count s (cLS_CNT (dueClass s)) + 1) % 2 ^ 48 := by
  have hlt := dueClass_lt s
  have hshown := (windowShown_quiet h).rd
  have hplace : cLS_CNT (dueClass s) + 4 < tcBase ∧ cLS_CNT (dueClass s) ≠ aLS_STATUS ∧ cLS_CNT (dueClass s) + 4 ≠ aLS_STATUS := by
    unfold cLS_CNT aLS_STATUS ntBase tcBase
    omega
  obtain ⟨hbelow, hlow, hhigh⟩ := hplace
  calc count (windowShown s) (cLS_CNT (dueClass s))
      _ = count (setF (setF (bump s (cLS_CNT (dueClass s))) LS_STATUS_ENTRY s.nt.nextEntry) LS_STATUS_CLASS (dueClass s)) (cLS_CNT (dueClass s)) :=
        count_of_rd (hshown _ (by omega)) (hshown _ hbelow)
      _ = count (bump s (cLS_CNT (dueClass s))) (cLS_CNT (dueClass s)) := by
        rw [count_setF_other _ _ _ _ hlow hhigh, count_setF_other _ _ _ _ hlow hhigh]
      _ = (count s (cLS_CNT (dueClass s)) + 1) % 2 ^ 48 := count_bumpBy _ _ _ hs

/-- LS_STATUS shows the entry and its class. -/
theorem status_windowShown (hs : s.RegsWf) (hentry : s.nt.nextEntry < 256) :
    getF (windowShown s) LS_STATUS_ENTRY = s.nt.nextEntry ∧ getF (windowShown s) LS_STATUS_CLASS = dueClass s := by
  have hlt := dueClass_lt s
  have hshown := (windowShown_quiet h).rd aLS_STATUS (by decide)
  have hbump : (bump s (cLS_CNT (dueClass s))).RegsWf := regsWf_bumpBy _ _ _ hs
  have hset : (setF (bump s (cLS_CNT (dueClass s))) LS_STATUS_ENTRY s.nt.nextEntry).RegsWf := regsWf_setF _ _ _ hbump
  constructor
  · rw [getF_of_rd (f := LS_STATUS_ENTRY) hshown, getF_setF_apart _ hset (by decide) (by decide), getF_setF_same _ _ _ hbump (by decide)]
    exact Nat.mod_eq_of_lt hentry
  · rw [getF_of_rd (f := LS_STATUS_CLASS) hshown, getF_setF_same _ _ _ hset (by decide)]
    exact Nat.mod_eq_of_lt hlt

/-- The next window stands in the same bank, whose entries the start leaves as they are. -/
theorem windowAfter_quiet (hentry : s.nt.nextEntry < 256) : windowAfter (windowReleased (windowShown s) s.nt.nextStart) (dueWindow s) =
    ⟨lsBank s, s.nt.nextStart + entryDur s (lsBank s) s.nt.nextEntry,
      if s.nt.nextEntry + 1 < countOf s (lsBank s) then s.nt.nextEntry + 1 else 0⟩ := by
  have hbank := lsBank_lt s
  have hdur : entryDur (windowShown s) (lsBank s) s.nt.nextEntry = entryDur s (lsBank s) s.nt.nextEntry := by
    refine getF_of_rd (rd_windowShown (a := aLS_ENTRY (256 * lsBank s + s.nt.nextEntry)) h (.inr ?_))
    unfold aLS_ENTRY cLS_CNT tcBase ntBase
    omega
  have hcount : countOf (windowShown s) (lsBank s) = countOf s (lsBank s) := by
    refine getF_of_rd (rd_windowShown (a := aLS_BANK_w2 (lsBank s)) h (.inl ?_))
    unfold aLS_BANK_w0 aLS_BANK_w2 cLS_CNT ntBase
    omega
  rw [← hdur, ← hcount]
  rfl

end Quiet

/-- A window of calibration or quiet class that begins. -/
theorem exec_liftWindowStart_quiet {s : State} (a b : Bool) (hs : s.RegsWf) (hrun : flag s LS_CTRL_RUN = true) (hnow : s.nt.nextStart ≤ netNs s)
    (hocc : windowOccurs s s.nt.nextStart = true) (h : 2 ≤ dueClass s) (hentry : s.nt.nextEntry < 256) :
    ∃ t, exec (.liftWindowStart a b) s = .next t ∧ count t (cLS_CNT (dueClass s)) = (count s (cLS_CNT (dueClass s)) + 1) % 2 ^ 48
      ∧ getF t LS_STATUS_ENTRY = s.nt.nextEntry ∧ getF t LS_STATUS_CLASS = dueClass s
      ∧ t.nt.nextStart = s.nt.nextStart + entryDur s (lsBank s) s.nt.nextEntry
      ∧ t.nt.nextEntry = (if s.nt.nextEntry + 1 < countOf s (lsBank s) then s.nt.nextEntry + 1 else 0)
      ∧ t.nt.lastWin = some (s.nt.nextStart, t.nt.nextStart, dueClass s, false) := by
  have hgap : (decide (dueClass s ≤ 1) && gapFromStart s s.nt.nextStart) = false := by
    rw [decide_eq_false (by omega), Bool.false_and]
  rw [exec_liftWindowStart, if_pos ⟨hrun, hnow, hocc⟩, hgap, windowStruck_quiet h]
  refine ⟨_, rfl, ?_⟩
  generalize hu : windowFollowed (windowReleased (windowShown s) s.nt.nextStart) (dueWindow s) (dueClass s) false = u
  have hafter := windowAfter_quiet h hentry
  have hrd : ∀ x, x ≠ aLS_CTRL → rd (runFalls u s.nt.nextStart) x = rd (windowShown s) x := fun x hx => by
    rw [rd_runFalls _ _ hx, ← hu]
    rfl
  have hnt : (runFalls u s.nt.nextStart).nt = u.nt := by
    obtain ⟨r, p, hfalls⟩ := runFalls_rest u s.nt.nextStart
    rw [hfalls]
  have hplace : cLS_CNT (dueClass s) ≠ aLS_CTRL ∧ cLS_CNT (dueClass s) + 4 ≠ aLS_CTRL := by
    unfold cLS_CNT aLS_CTRL ntBase
    omega
  obtain ⟨hshownEntry, hshownClass⟩ := status_windowShown h hs hentry
  refine ⟨?_, ?_, ?_, ?_, ?_, ?_⟩
  · rw [count_of_rd (hrd _ hplace.1) (hrd _ hplace.2), count_windowShown h hs]
  · rw [getF_of_rd (f := LS_STATUS_ENTRY) (hrd _ (by decide)), hshownEntry]
  · rw [getF_of_rd (f := LS_STATUS_CLASS) (hrd _ (by decide)), hshownClass]
  · rw [hnt, ← hu]
    exact congrArg Win.start hafter
  · rw [hnt, ← hu]
    exact congrArg Win.entry hafter
  · rw [hnt, ← hu]
    rfl

/-- Settles O33: a window's start step by step; a window without requests writes its count and LS_STATUS, a release leaves nothing of its window behind,
and a withheld strobe stays withheld under the tests that precede it. -/
theorem windowStarts : Obligations.WindowStarts := by
  unfold Obligations.WindowStarts
  refine ⟨?_, fun s a b hrun hnow hocc => ?_, fun s a b hwithheld => ?_, fun s a b hocc => ?_⟩
  · rintro s a b c hc hrun hnow hswap hstep rfl hclass hentry
    have hocc : windowOccurs s s.nt.nextStart = true := by simp [windowOccurs, hswap, hstep]
    exact exec_liftWindowStart_quiet a b hc.1 hrun hnow hocc hclass hentry
  · rw [exec_liftWindowStart, if_pos ⟨hrun, hnow, hocc⟩]
    refine ⟨_, rfl, ?_⟩
    obtain ⟨r, p, hfalls⟩ := runFalls_rest (windowFollowed (windowReleased (windowStruck s a b) s.nt.nextStart) (dueWindow s) (dueClass s)
      (decide (dueClass s ≤ 1) && gapFromStart s s.nt.nextStart)) s.nt.nextStart
    rw [hfalls]
    exact windowReleased_spec _ _
  · rw [exec_liftWindowStart, exec_liftWindowStart, windowStruck_withheld hwithheld, windowStruck_withheld hwithheld]
  · rw [exec_liftWindowStart, if_neg fun ⟨_, _, h⟩ => by simp [hocc] at h]

end Sys2Proof.Machine

namespace Sys2Proof.Machine

/-! ### Failed piers by register (R201) -/

/-- The field lies in no word of KS_FAILMAP. -/
abbrev OutsideFailmap (f : Fld) : Prop := f.addr < aKS_FAILMAP 0 ∨ aKS_FAILMAP 576 ≤ f.addr

theorem failmapWord_ne {f : Fld} {g : Nat} (hf : OutsideFailmap f) (hg : g < 18432) : aKS_FAILMAP (g / 32) ≠ f.addr := by
  unfold OutsideFailmap at hf
  unfold aKS_FAILMAP at hf ⊢
  omega

theorem failmapWord_inj {i j : Nat} : aKS_FAILMAP i = aKS_FAILMAP j ↔ i = j := by
  unfold aKS_FAILMAP
  omega

/-- The second state marks the same piers of the topology as the first. -/
structure SameMarks (s t : State) : Prop where
  wf : s.RegsWf → t.RegsWf
  isFailed : ∀ g < 18432, isFailed t g = isFailed s g

namespace SameMarks
variable {s t u : State}

theorem refl (s : State) : SameMarks s s := ⟨id, fun _ _ => rfl⟩

theorem trans (h : SameMarks s t) (k : SameMarks t u) : SameMarks s u :=
  ⟨fun hs => k.wf (h.wf hs), fun g hg => (k.isFailed g hg).trans (h.isFailed g hg)⟩

theorem ite {c : Prop} [Decidable c] (ht : SameMarks s t) (hu : SameMarks s u) : SameMarks s (if c then t else u) := by
  split
  · exact ht
  · exact hu

theorem setF (s : State) {f : Fld} (v : Nat) (hf : OutsideFailmap f) : SameMarks s (setF s f v) :=
  ⟨regsWf_setF s f v, fun g hg => by rw [Machine.isFailed, rd_setF_other _ _ _ _ (failmapWord_ne hf hg), ← Machine.isFailed]⟩

theorem setFlag (s : State) {f : Fld} (b : Bool) (hf : OutsideFailmap f) : SameMarks s (setFlag s f b) := setF s _ hf

theorem event (s : State) {f : Fld} (hf : OutsideFailmap f) : SameMarks s (event s f) := setF s _ hf

theorem showFailed (s : State) : SameMarks s (showFailed s) :=
  (ite (event s (by decide)) (refl s)).trans <| (setF _ _ (by decide)).trans <| (setFlag _ _ (by decide)).trans <| setFlag _ _ (by decide)

/-- The wait of an access is shown in the matrix's window. -/
theorem atGrant (s : State) (w : RegWrite) : SameMarks s (atGrant s w) :=
  setF s _ (.inr (by simp only [BM_WAIT_MAX, aBM_WAIT, bmBase, aKS_FAILMAP, ksBase]; omega))

end SameMarks

/-- A pier's bit of KS_FAILMAP holds the low bit of `v`. -/
def markWritten (s : State) (g v : Nat) : State :=
  wr s (aKS_FAILMAP (g / 32)) (withBits (rd s (aKS_FAILMAP (g / 32))) (g % 32) (g % 32) v)

/-- The pier's mark is as written, and every other pier's as before. -/
theorem isFailed_markWritten {s : State} (hs : s.RegsWf) (g v k : Nat) :
    isFailed (markWritten s g v) k = if k = g then v.testBit 0 else isFailed s k := by
  by_cases hword : k / 32 = g / 32
  · have hbit : k = g ↔ g % 32 ≤ k % 32 ∧ k % 32 - g % 32 < width (g % 32) (g % 32) := by
      unfold width
      omega
    have hrd : rd (markWritten s g v) (aKS_FAILMAP (g / 32)) = _ := rd_wr_same _ _ _ hs
    rw [isFailed, hword, hrd, BitVec.testBit_toNat, getLsbD_withBits _ _ _ _ _ (Nat.mod_lt _ (by decide)), isFailed, hword, BitVec.testBit_toNat]
    by_cases hk : k = g
    · rw [if_pos hk, if_pos (hbit.mp hk), hk, Nat.sub_self]
    · rw [if_neg hk, if_neg (mt hbit.mpr hk)]
  · have hne : k ≠ g := fun h => hword (by rw [h])
    rw [if_neg hne, isFailed, markWritten, rd_wr_other _ _ _ _ (mt failmapWord_inj.mp hword), ← isFailed]

theorem regsWf_markWritten {s : State} (hs : s.RegsWf) (g v : Nat) : (markWritten s g v).RegsWf := regsWf_wr _ _ _ hs

/-- What marking a pier does beside the mark touches no mark. -/
theorem markFailed_sameMarks {s : State} {g : Nat} (h : isFailed s g = false) : SameMarks (markWritten s g 1) (markFailed s g) := by
  unfold markFailed
  rw [if_neg (by simp [h])]
  exact ((SameMarks.event _ (by decide)).trans (.ite (.event _ (by decide)) (.refl _))).trans (.showFailed _)

/-- Marking a pier changes no other pier's mark. -/
theorem isFailed_markFailed {s : State} (hs : s.RegsWf) (g : Nat) {k : Nat} (hk : k < 18432) :
    isFailed (markFailed s g) k = (decide (k = g) || isFailed s k) := by
  cases h : isFailed s g with
  | true =>
    rw [markFailed, if_pos h]
    by_cases hkg : k = g
    · rw [hkg, h, Bool.or_true]
    · rw [decide_eq_false hkg, Bool.false_or]
  | false =>
    rw [(markFailed_sameMarks h).isFailed k hk, isFailed_markWritten hs]
    by_cases hkg : k = g <;> simp [hkg]

theorem regsWf_markFailed {s : State} (hs : s.RegsWf) (g : Nat) : (markFailed s g).RegsWf := by
  cases h : isFailed s g with
  | true => rwa [markFailed, if_pos h]
  | false => exact (markFailed_sameMarks h).wf (regsWf_markWritten hs g 1)

/-- Piers of one word of KS_FAILMAP marked one after another. -/
theorem isFailed_foldl_markFailed (i : Nat) (bs : List Nat) {s : State} (hs : s.RegsWf) {k : Nat} (hk : k < 18432) :
    isFailed (bs.foldl (fun s b => markFailed s (32 * i + b)) s) k = (decide (∃ b ∈ bs, k = 32 * i + b) || isFailed s k) := by
  induction bs generalizing s with
  | nil => simp
  | cons b bs ih =>
    rw [List.foldl_cons, ih (regsWf_markFailed hs _), isFailed_markFailed hs _ hk, Bool.or_left_comm, ← Bool.or_assoc]
    simp

/-- A write of 1s to a word of KS_FAILMAP marks their piers and no other (R10 W1S, R201). -/
theorem isFailed_failWord {s : State} (hs : s.RegsWf) (i : Nat) (v : Word) {k : Nat} (hk : k < 18432) :
    isFailed (failWord s i v.toNat) k = ((decide (k / 32 = i) && v.getLsbD (k % 32)) || isFailed s k) := by
  have hset : (∃ b ∈ setBitsOf 32 v.toNat, k = 32 * i + b) ↔ k / 32 = i ∧ v.getLsbD (k % 32) = true := by
    simp only [setBitsOf, List.mem_filter, List.mem_range, BitVec.testBit_toNat]
    constructor
    · rintro ⟨b, ⟨hb, hbit⟩, rfl⟩
      have hmod : (32 * i + b) % 32 = b := by omega
      exact ⟨by omega, by rwa [hmod]⟩
    · rintro ⟨hi, hbit⟩
      exact ⟨k % 32, ⟨by omega, hbit⟩, by omega⟩
  rw [failWord, isFailed_foldl_markFailed i _ hs hk]
  simp [hset]

/-- Clearing a pier's mark changes no other pier's. -/
theorem isFailed_clearFailed {s : State} (hs : s.RegsWf) {g k : Nat} (hg : g < 18432) (hk : k < 18432) :
    isFailed (clearFailed s g) k = (decide (k ≠ g) && isFailed s k) := by
  have hclear : clearFailed s g = showFailed (markWritten s g 0) := if_pos hg
  rw [hclear, (SameMarks.showFailed _).isFailed k hk, isFailed_markWritten hs]
  by_cases hkg : k = g <;> simp [hkg]

/-- A granted write to Keystone's window. -/
theorem rowWrite_ks {s : State} {a : Nat} {w : RegWrite} (hg : Granted s w a) (ha : ksBase ≤ a ∧ a < dkBase) :
    rowWrite s a w = ksWrite (atGrant s w) a w.value := by
  rw [rowWrite_granted s a w hg, regWritten_ks _ _ _ _ _ ha]

/-- A write to a word of KS_FAILMAP is that word's own. -/
theorem ksWrite_failmap (s : State) (i : Fin 576) (v : Word) : ksWrite s (aKS_FAILMAP i) v = failWord s i v.toNat := by
  have hin : aKS_FAILMAP 0 ≤ aKS_FAILMAP i ∧ aKS_FAILMAP i < aKS_FAILMAP 576 ∧ aKS_FAILMAP i % 4 = 0 := by
    simp only [aKS_FAILMAP, ksBase]
    omega
  have hword : (aKS_FAILMAP i - aKS_FAILMAP 0) / 4 = i := by
    simp only [aKS_FAILMAP, ksBase]
    omega
  rw [ksWrite, if_pos hin, hword]

/-- A granted FAIL_MARK: in word `i` the bits written 1 are marked besides what was, elsewhere the marks stand. -/
theorem exec_failMark {s : State} {i : Fin 576} {w : RegWrite} (hs : s.RegsWf) (hg : Granted s w (aKS_FAILMAP i)) :
    ∃ t, exec (.failMark i w) s = .next t
      ∧ ∀ k < 18432, isFailed t k = ((decide (k / 32 = i) && w.value.getLsbD (k % 32)) || isFailed s k) := by
  have hwin : ksBase ≤ aKS_FAILMAP i ∧ aKS_FAILMAP i < dkBase := by
    simp only [aKS_FAILMAP, ksBase, dkBase]
    omega
  have hgrant := SameMarks.atGrant s w
  refine ⟨_, congrArg Host.Outcome.next ((rowWrite_ks hg hwin).trans (ksWrite_failmap _ _ _)), fun k hk => ?_⟩
  rw [isFailed_failWord (hgrant.wf hs) _ _ hk, hgrant.isFailed k hk]

/-- A granted FAIL_CLEAR: the pier that is named is no longer marked, elsewhere the marks stand. -/
theorem exec_failClear {s : State} {w : RegWrite} (hs : s.RegsWf) (hg : Granted s w aKS_FAIL_CLR) (hpier : bitsOf w.value 14 0 < 18432) :
    ∃ t, exec (.failClear w) s = .next t ∧ ∀ k < 18432, isFailed t k = (decide (k ≠ bitsOf w.value 14 0) && isFailed s k) := by
  have hgrant := SameMarks.atGrant s w
  have hwrite : rowWrite s aKS_FAIL_CLR w = clearFailed (atGrant s w) (bitsOf w.value 14 0) := rowWrite_ks hg (by decide)
  refine ⟨_, congrArg Host.Outcome.next hwrite, fun k hk => ?_⟩
  rw [isFailed_clearFailed (hgrant.wf hs) hpier hk, hgrant.isFailed k hk]

/-- Settles O36: pier by pier what FAIL_MARK and FAIL_CLEAR leave in KS_FAILMAP; what else they write lies outside it. The marks that the decks set of
themselves (R324) are other rows'. -/
theorem failedPierMarks : Obligations.FailedPiers := by
  unfold Obligations.FailedPiers
  refine ⟨fun s i w hc hg => ?_, ?_⟩
  · obtain ⟨t, hexec, hmarks⟩ := exec_failMark hc.1 hg
    refine ⟨t, hexec, fun b hb => ?_, fun g hword hlt => ?_⟩
    · have hdiv : (32 * i.val + b) / 32 = i := by omega
      have hmod : (32 * i.val + b) % 32 = b := by omega
      rw [hmarks _ (by omega), hdiv, hmod, decide_eq_true rfl, Bool.true_and]
    · rw [hmarks g hlt, decide_eq_false hword, Bool.false_and, Bool.false_or]
  · rintro s w g hc hg rfl hlt
    obtain ⟨t, hexec, hmarks⟩ := exec_failClear hc.1 hg hlt
    refine ⟨t, hexec, ?_, fun k hne hk => ?_⟩
    · rw [hmarks _ hlt, decide_eq_false (not_not.mpr rfl), Bool.false_and]
    · rw [hmarks k hk, decide_eq_true hne, Bool.true_and]

end Sys2Proof.Machine

namespace Sys2Proof.Machine

/-! ### Drive operations on registers, piers and paths -/

/-- The second state is the first but for the registers, which stay in canonical form, and the drives' own record. -/
structure DriveFrame (s t : State) : Prop where
  rest : ∃ r d, t = { s with regs := r, dr := d }
  wf : s.RegsWf → t.RegsWf

namespace DriveFrame
variable {s t u : State}

/-- The drives' own record stands outside the registers. -/
theorem setDrive (s : State) (d : Drive) : DriveFrame s { s with dr := d } := ⟨⟨_, _, rfl⟩, id⟩

theorem refl (s : State) : DriveFrame s s := setDrive s s.dr

theorem trans (h : DriveFrame s t) (k : DriveFrame t u) : DriveFrame s u where
  rest := by
    obtain ⟨r, d, rfl⟩ := h.rest
    obtain ⟨r', d', rfl⟩ := k.rest
    exact ⟨r', d', rfl⟩
  wf := k.wf ∘ h.wf

theorem foldl {α : Type} {f : State → α → State} (hf : ∀ s a, DriveFrame s (f s a)) (l : List α) (s : State) : DriveFrame s (l.foldl f s) := by
  induction l generalizing s with
  | nil => exact refl s
  | cons a l ih => exact (hf s a).trans (ih (f s a))

theorem setF (s : State) (f : Fld) (v : Nat) : DriveFrame s (setF s f v) := ⟨⟨_, _, rfl⟩, regsWf_setF s f v⟩

theorem setFlag (s : State) (f : Fld) (b : Bool) : DriveFrame s (setFlag s f b) := setF s f _

theorem setPier (s : State) (g : Nat) (p : Pier) : DriveFrame s (setPier s g p) := setDrive s _

theorem ad (h : DriveFrame s t) : t.ad = s.ad := by obtain ⟨r, d, rfl⟩ := h.rest; rfl
theorem mem (h : DriveFrame s t) : t.mem = s.mem := by obtain ⟨r, d, rfl⟩ := h.rest; rfl
theorem flash (h : DriveFrame s t) : t.flash = s.flash := by obtain ⟨r, d, rfl⟩ := h.rest; rfl
theorem elapsed (h : DriveFrame s t) : t.elapsed = s.elapsed := by obtain ⟨r, d, rfl⟩ := h.rest; rfl

end DriveFrame

/-! ### The words of a pier -/

/-- The registers of a pier lie above the span's own. -/
theorem liveWord_above (n l d i : Nat) (hi : i < 32) : liveWord n l d ≠ aLZ_INT n ∧ liveWord n l d ≠ cLZ_CNT n i ∧ liveWord n l d ≠ cLZ_CNT n i + 4 := by
  unfold liveWord
  split <;> simp only [aPR_LIVE_A, aPR_LIVE_B, aLZ_INT, cLZ_CNT] <;> omega

theorem stagedWord_ne_liveWord (n l d e : Nat) : stagedWord n l e ≠ liveWord n l d := by
  unfold liveWord stagedWord
  split_ifs <;> simp only [aPR_LIVE_A, aPR_LIVE_B, aPR_STAGED_A, aPR_STAGED_B] <;> omega

theorem liveWord_zero_ne_one (n l : Nat) : liveWord n l 0 ≠ liveWord n l 1 := by
  simp only [liveWord, aPR_LIVE_A, aPR_LIVE_B, if_true, if_false, one_ne_zero]
  omega

theorem stagedWord_zero_ne_one (n l : Nat) : stagedWord n l 0 ≠ stagedWord n l 1 := by
  simp only [stagedWord, aPR_STAGED_A, aPR_STAGED_B, if_true, if_false, one_ne_zero]
  omega

/-- PR_OUT is no staged word. -/
theorem stagedWord_ne_out (n l d : Nat) : stagedWord n l d ≠ aPR_OUT n l := by
  unfold stagedWord
  split <;> simp only [aPR_STAGED_A, aPR_STAGED_B, aPR_OUT] <;> omega

/-- The span's LZ_STATUS is no word of a pier. -/
theorem pierWords_ne_status (n l d : Nat) : stagedWord n l d ≠ aLZ_STATUS n ∧ aPR_OUT n l ≠ aLZ_STATUS n := by
  unfold stagedWord
  split <;> simp only [aPR_STAGED_A, aPR_STAGED_B, aPR_OUT, aLZ_STATUS] <;> omega

/-! ### A live fast code takes a value (R226) -/

section SetLive
variable (s : State) (n l d v : Nat)

theorem setLiveF_regs : (setLiveF s n l d v).regs = (setF s (liveF n l d) v).regs := by
  unfold setLiveF
  dsimp only
  split <;> rfl

theorem setLiveF_frame : DriveFrame s (setLiveF s n l d v) := by
  unfold setLiveF
  dsimp only
  split
  · exact .setF s _ _
  · exact (DriveFrame.setF s (liveF n l d) v).trans (.setDrive _ _)

theorem rd_setLiveF_other {a : Nat} (h : a ≠ liveWord n l d) : rd (setLiveF s n l d v) a = rd s a :=
  (rd_of_regs (setLiveF_regs s n l d v) a).trans (rd_setF_other _ (liveF n l d) _ _ h)

theorem getF_setLiveF_same (h : s.RegsWf) : getF (setLiveF s n l d v) (liveF n l d) = v % 2 ^ 14 :=
  (getF_of_rd (rd_of_regs (setLiveF_regs s n l d v) _)).trans (getF_setF_same s (liveF n l d) v h (show 13 < 32 by decide))

end SetLive

/-! ### The release strobe at one pier (R231) -/

theorem MemOnly.of_fitInt {s t : State} {w : Nat} {v x : Int} (h : fitInt s w v = (x, t)) : MemOnly s t := by
  unfold fitInt at h
  split at h <;> cases h
  · exact .refl s
  · exact ⟨_, _, rfl⟩

/-- A release moves a loop record in memory alone (R270). -/
theorem releaseRecord_mem (s : State) (n l d : Nat) : MemOnly s (releaseRecord s n l d) := by
  have hputs : ∀ u a v w, MemOnly u (putM (putM (putM (putMI (putMI u a lINTEG v) a lUN w) a lDLIVE (getM s a lDSTG)) a lMLIVE (getM s a lMSTG))
      a lLLIVE (getM s a lLSTG)) := fun u a v w =>
    ((((MemOnly.putMI u a lINTEG v).trans (.putMI _ _ _ _)).trans (.putM _ _ _ _)).trans (.putM _ _ _ _)).trans (.putM _ _ _ _)
  unfold releaseRecord
  extract_lets a dd integ
  split
  next v s0 h0 =>
  extract_lets un
  split
  next w sA hA =>
  have hstep : MemOnly s0 sA := by
    split at hA
    · cases hA
      exact .refl s0
    · exact .of_fitInt hA
  exact ((MemOnly.of_fitInt h0).trans hstep).trans (hputs sA a v w)

section ReleaseDeck
variable (s : State) (n l d : Nat)

/-- The live code has taken the staged code, and the loop record follows where that is a change. -/
def releaseMoved : State :=
  if getF s (stagedF n l d) = getF s (liveF n l d) then setLiveF s n l d (getF s (stagedF n l d))
  else releaseRecord (setLiveF s n l d (getF s (stagedF n l d))) n l d

theorem releaseMoved_mem : MemOnly (setLiveF s n l d (getF s (stagedF n l d))) (releaseMoved s n l d) := by
  unfold releaseMoved
  split
  · exact .refl _
  · exact releaseRecord_mem _ _ _ _

/-- A release ends in the pier's path; before it, at most a fast code is computed (R232, R238). -/
theorem releaseDeck_path : ∃ u x, (u = releaseMoved s n l d ∨ ∃ delta v, u = (fastCode (releaseMoved s n l d) n l delta v).2)
    ∧ releaseDeck s n l d = setPath u (pierIx n l) d x := by
  unfold releaseDeck
  extract_lets g ds dl r cycles pe boost s1 s2 a
  have hmoved : s2 = releaseMoved s n l d := rfl
  clear_value s2
  subst hmoved
  split
  next f s3 h3 =>
  refine ⟨s3, _, ?_, rfl⟩
  split at h3
  · cases h3
    exact .inl rfl
  · exact .inr ⟨_, _, (congrArg Prod.snd h3).symm⟩

theorem releaseDeck_pass : PassOnly (setLiveF s n l d (getF s (stagedF n l d))) (releaseDeck s n l d) := by
  have hmoved := PassOnly.of_mem (releaseMoved_mem s n l d)
  obtain ⟨u, x, rfl | ⟨delta, v, rfl⟩, h⟩ := releaseDeck_path s n l d
  · exact h ▸ hmoved.trans (.setPath _ _ _ _)
  · exact h ▸ (hmoved.trans (fastCode_pass _ _ _ _ _)).trans (.setPath _ _ _ _)

/-- Beside the live code, a release can set the span's range flags and advance their counter. -/
theorem rd_releaseDeck {a : Nat} (hint : a ≠ aLZ_INT n) (hlow : a ≠ cLZ_CNT n 4) (hhigh : a ≠ cLZ_CNT n 4 + 4) :
    rd (releaseDeck s n l d) a = rd (setLiveF s n l d (getF s (stagedF n l d))) a := by
  have hmoved : rd (releaseMoved s n l d) a = _ := rd_of_regs (releaseMoved_mem s n l d).regs a
  obtain ⟨u, x, rfl | ⟨delta, v, rfl⟩, h⟩ := releaseDeck_path s n l d
  · rw [h]
    exact hmoved
  · rw [h]
    exact (rd_fastCode_other _ _ _ _ _ a hint hlow hhigh).trans hmoved

theorem getF_live_releaseDeck (hs : s.RegsWf) : getF (releaseDeck s n l d) (liveF n l d) = getF s (stagedF n l d) := by
  obtain ⟨hint, hlow, hhigh⟩ := liveWord_above n l d 4 (by decide)
  have hcode : getF s (stagedF n l d) < 2 ^ 14 := getF_lt s (stagedF n l d)
  rw [getF_of_rd (f := liveF n l d) (rd_releaseDeck s n l d hint hlow hhigh), getF_setLiveF_same _ _ _ _ _ hs, Nat.mod_eq_of_lt hcode]

theorem getF_staged_releaseDeck : getF (releaseDeck s n l d) (stagedF n l d) = getF s (stagedF n l d) := by
  obtain ⟨hint, hlow, hhigh⟩ := stagedWord_above n l d 4 (by decide)
  rw [getF_of_rd (f := stagedF n l d) (rd_releaseDeck s n l d hint hlow hhigh),
    getF_of_rd (f := stagedF n l d) (rd_setLiveF_other s n l d _ (stagedWord_ne_liveWord n l d d))]

end ReleaseDeck

/-- Settles O34: the live word takes the staged code, and what a release computes after that lies outside both words. -/
theorem releaseTakesStagedCode : Obligations.ReleaseTakesStagedCode := by
  unfold Obligations.ReleaseTakesStagedCode
  intro s n l d _ hc
  have hpass := releaseDeck_pass s n l d
  have hlive := setLiveF_frame s n l d (getF s (stagedF n l d))
  exact ⟨getF_live_releaseDeck s n l d hc.1, getF_staged_releaseDeck s n l d, hpass.ad.trans hlive.ad, hpass.flash.trans hlive.flash⟩

end Sys2Proof.Machine

namespace Sys2Proof.Machine

/-! ### Slew limiters (R235) -/

theorem slewStep_reaches {req out step : Nat} (hup : req ≤ out + step) (hdown : out ≤ req + step) : slewStep req out step = req := by
  unfold slewStep
  omega

theorem slewStep_up {req out step : Nat} (h : out + step < req) : slewStep req out step = out + step := by
  unfold slewStep
  omega

theorem slewStep_down {req out step : Nat} (h : req + step < out) : slewStep req out step = out - step := by
  unfold slewStep
  omega

/-! ### The deck that a pier connects (R312) -/

section Connect
variable (s : State) (n l : Nat)

theorem owner_lt : getF s (PR_OUT_OWNER n l) < 2 := getF_lt s (PR_OUT_OWNER n l)

/-- A deck whose path is excluded yields to the other deck. -/
theorem deckFor_of_excluded {d : Nat} (hd : d < 2) (hout : excluded s (pierIx n l) d = true) (hin : excluded s (pierIx n l) (1 - d) = false) :
    deckFor s n l = 1 - d := by
  have howner := owner_lt s n l
  unfold deckFor
  dsimp only
  by_cases hc : getF s (PR_OUT_OWNER n l) = d
  · rw [hc, if_pos hout]
  · have hother : getF s (PR_OUT_OWNER n l) = 1 - d := by omega
    have hback : 1 - (1 - d) = d := by omega
    rw [hother, hback, if_neg (by simp [hin]), if_neg (by simp [hout])]

/-- Between two paths that are not excluded the claims decide. -/
theorem deckFor_of_claims (h0 : excluded s (pierIx n l) 0 = false) (h1 : excluded s (pierIx n l) 1 = false) :
    deckFor s n l = if claim s n (getF s (PR_OUT_OWNER n l)) < claim s n (1 - getF s (PR_OUT_OWNER n l))
      then 1 - getF s (PR_OUT_OWNER n l) else getF s (PR_OUT_OWNER n l) := by
  have hnone : ∀ d < 2, excluded s (pierIx n l) d = false := fun d hd => by
    obtain rfl | rfl : d = 0 ∨ d = 1 := by omega
    · exact h0
    · exact h1
  have howner := owner_lt s n l
  unfold deckFor
  dsimp only
  rw [if_neg (by simp [hnone _ howner]), hnone _ (by omega)]
  simp only [true_and]

theorem deckFor_lt : deckFor s n l < 2 := by
  have howner := owner_lt s n l
  unfold deckFor
  dsimp only
  split_ifs <;> omega

variable {s} (hs : s.RegsWf)
include hs

/-- With both paths excluded the pier's clamp closes at code 0. -/
theorem connectDeck_clamps (h0 : excluded s (pierIx n l) 0 = true) (h1 : excluded s (pierIx n l) 1 = true) :
    flag (connectDeck s n l) (PR_OUT_CLAMPED n l) = true ∧ getF (connectDeck s n l) (PR_OUT_FAST n l) = 0
      ∧ getF (connectDeck s n l) (PR_OUT_TRIM n l) = 0 := by
  have heq : connectDeck s n l = setF (setF (setF s (PR_OUT_CLAMPED n l) 1) (PR_OUT_FAST n l) 0) (PR_OUT_TRIM n l) 0 := if_pos ⟨h0, h1⟩
  have hclamp := regsWf_setF s (PR_OUT_CLAMPED n l) 1 hs
  have hfast := regsWf_setF _ (PR_OUT_FAST n l) 0 hclamp
  rw [heq]
  refine ⟨?_, ?_, ?_⟩
  · have hkept : getF (setF (setF (setF s (PR_OUT_CLAMPED n l) 1) (PR_OUT_FAST n l) 0) (PR_OUT_TRIM n l) 0) (PR_OUT_CLAMPED n l) =
        getF (setF s (PR_OUT_CLAMPED n l) 1) (PR_OUT_CLAMPED n l) :=
      (getF_setF_bits _ (PR_OUT_TRIM n l) (PR_OUT_CLAMPED n l) 0 hfast (show 31 < 32 by decide) (.inr (show 27 < 31 by decide))).trans
        (getF_setF_bits _ (PR_OUT_FAST n l) (PR_OUT_CLAMPED n l) 0 hclamp (show 31 < 32 by decide) (.inr (show 13 < 31 by decide)))
    rw [flag, hkept]
    exact flag_event_same s (PR_OUT_CLAMPED n l) hs (show 31 < 32 by decide) (le_refl 31)
  · rw [getF_setF_bits _ (PR_OUT_TRIM n l) (PR_OUT_FAST n l) 0 hfast (show 13 < 32 by decide) (.inl (show 13 < 16 by decide)),
      getF_setF_same _ (PR_OUT_FAST n l) 0 hclamp (show 13 < 32 by decide), Nat.zero_mod]
  · rw [getF_setF_same _ (PR_OUT_TRIM n l) 0 hfast (show 27 < 32 by decide), Nat.zero_mod]

/-- Otherwise the pier's clamp opens and the rule's deck is connected. -/
theorem connectDeck_connects (h : ¬ (excluded s (pierIx n l) 0 = true ∧ excluded s (pierIx n l) 1 = true)) :
    flag (connectDeck s n l) (PR_OUT_CLAMPED n l) = false ∧ getF (connectDeck s n l) (PR_OUT_OWNER n l) = deckFor s n l := by
  have heq : connectDeck s n l = setF (setF s (PR_OUT_CLAMPED n l) 0) (PR_OUT_OWNER n l) (deckFor s n l) := if_neg h
  have hopen := regsWf_setF s (PR_OUT_CLAMPED n l) 0 hs
  rw [heq]
  refine ⟨?_, ?_⟩
  · rw [flag, getF_setF_bits _ (PR_OUT_OWNER n l) (PR_OUT_CLAMPED n l) _ hopen (show 31 < 32 by decide) (.inr (show 28 < 31 by decide)),
      getF_setF_same _ (PR_OUT_CLAMPED n l) 0 hs (show 31 < 32 by decide), Nat.zero_mod]
    rfl
  · rw [getF_setF_same _ (PR_OUT_OWNER n l) _ hopen (show 28 < 32 by decide)]
    exact Nat.mod_eq_of_lt (deckFor_lt s n l)

end Connect

/-! ### A step to park (R233, R244) -/

section StepToPark
variable {s : State} {n l : Nat}

/-- At a step to park the deglitcher holds the output, pre-emphasis is over, and both decks take the park code. -/
theorem fastCodes_step (h : (pierOf s (pierIx n l)).step = true) : ∃ u x, u.regs = s.regs
    ∧ fastCodes s n l = setPier (setLiveF (setLiveF u n l 0 (getF s (PR_PARK_FAST n l))) n l 1 (getF s (PR_PARK_FAST n l))) (pierIx n l) x :=
  ⟨endBoost (endBoost (deglitch s n l) (pierIx n l) 0) (pierIx n l) 1, _, rfl, if_pos h⟩

theorem getF_live_fastCodes_step (h : (pierOf s (pierIx n l)).step = true) (hs : s.RegsWf) :
    getF (fastCodes s n l) (liveF n l 0) = getF s (PR_PARK_FAST n l) ∧ getF (fastCodes s n l) (liveF n l 1) = getF s (PR_PARK_FAST n l) := by
  have hpark : getF s (PR_PARK_FAST n l) % 2 ^ 14 = getF s (PR_PARK_FAST n l) := Nat.mod_eq_of_lt (getF_lt s (PR_PARK_FAST n l))
  obtain ⟨u, x, hu, heq⟩ := fastCodes_step h
  have hwf := regsWf_of_regs hu hs
  rw [heq]
  refine ⟨?_, ?_⟩
  · calc getF (setLiveF (setLiveF u n l 0 (getF s (PR_PARK_FAST n l))) n l 1 (getF s (PR_PARK_FAST n l))) (liveF n l 0)
        _ = getF (setLiveF u n l 0 (getF s (PR_PARK_FAST n l))) (liveF n l 0) := getF_of_rd (rd_setLiveF_other _ _ _ _ _ (liveWord_zero_ne_one n l))
        _ = getF s (PR_PARK_FAST n l) := (getF_setLiveF_same _ _ _ _ _ hwf).trans hpark
  · exact (getF_setLiveF_same _ _ _ _ _ ((setLiveF_frame _ _ _ _ _).wf hwf)).trans hpark

end StepToPark

/-! ### The power map (R226) -/

theorem divFree_one (s : State) (a : Int) : divFree s a 1 = (a, s) := by
  simp [divFree]

theorem divFree_free (s : State) (a : Int) (d : Nat) : ∃ f, (divFree s a d).2 = { s with free := f } := by
  unfold divFree
  split_ifs
  · exact ⟨_, rfl⟩
  · exact ⟨_, rfl⟩
  · exact ⟨_, rfl⟩

/-- The second state is the first with other registers, free values and power estimates. -/
def PowerOnly (s t : State) : Prop := ∃ r f p, t = { s with regs := r, free := f, dr := { s.dr with power := p } }

namespace PowerOnly
variable {s t u : State}

theorem refl (s : State) : PowerOnly s s := ⟨_, _, _, rfl⟩

theorem trans (h : PowerOnly s t) (k : PowerOnly t u) : PowerOnly s u := by
  obtain ⟨r, f, p, rfl⟩ := h
  obtain ⟨r', f', p', rfl⟩ := k
  exact ⟨r', f', p', rfl⟩

theorem foldl {α : Type} {f : State → α → State} (hf : ∀ s a, PowerOnly s (f s a)) (l : List α) (s : State) : PowerOnly s (l.foldl f s) := by
  induction l generalizing s with
  | nil => exact refl s
  | cons a l ih => exact (hf s a).trans (ih (f s a))

end PowerOnly

/-- The estimate of a region of one deck is stored, and LZ_PM shows deck 0's. -/
def powerNoted (s : State) (d r new : Nat) : State :=
  let u := { s with dr := { s.dr with power := cellPut (fun _ => 0) s.dr.power (64 * d + r) new } }
  if d = 0 ∧ r < 36 then setF u (LZ_PM_TILE_MW r) (min (new / 65536) 65535) else u

theorem powerNoted_dr (s : State) (d r new : Nat) :
    (powerNoted s d r new).dr = { s.dr with power := cellPut (fun _ => 0) s.dr.power (64 * d + r) new } := by
  unfold powerNoted
  dsimp only
  split <;> rfl

theorem powerNoted_power (s : State) (d r new : Nat) : PowerOnly s (powerNoted s d r new) := by
  unfold powerNoted
  dsimp only
  split
  · exact ⟨_, _, _, rfl⟩
  · exact ⟨_, _, _, rfl⟩

section Filter
variable (as : List Activity) (d : Nat) (s : State) (r : Nat)

/-- The step of a region's filter towards its power. -/
def filterStep : Int × State :=
  divFree s (((65536 * regionPower s d r as : Nat) : Int) - (cellGet (fun _ => 0) s.dr.power (64 * d + r) : Nat)) (2 ^ getM s (thermalRec + 32 * r) ⟨0, 19, 16⟩)

theorem filterRegion_eq : filterRegion as d s r =
    powerNoted (filterStep as d s r).2 d r (((cellGet (fun _ => 0) s.dr.power (64 * d + r) : Nat) : Int) + (filterStep as d s r).1).toNat := by
  unfold filterRegion filterStep powerNoted
  dsimp only

theorem filterRegion_power : PowerOnly s (filterRegion as d s r) := by
  obtain ⟨f, hf⟩ := divFree_free s (((65536 * regionPower s d r as : Nat) : Int) - (cellGet (fun _ => 0) s.dr.power (64 * d + r) : Nat))
    (2 ^ getM s (thermalRec + 32 * r) ⟨0, 19, 16⟩)
  have hstep : PowerOnly s (filterStep as d s r).2 := ⟨_, f, _, hf⟩
  rw [filterRegion_eq]
  exact hstep.trans (powerNoted_power _ _ _ _)

/-- With time constant 1 the filter holds the region's power itself. -/
theorem power_filterRegion (hwf : cellWf (fun _ => 0) s.dr.power = true) (htau : getM s (thermalRec + 32 * r) ⟨0, 19, 16⟩ = 0) :
    cellGet (fun _ => 0) (filterRegion as d s r).dr.power (64 * d + r) = 65536 * regionPower s d r as := by
  have hstep : filterStep as d s r = (((65536 * regionPower s d r as : Nat) : Int) - (cellGet (fun _ => 0) s.dr.power (64 * d + r) : Nat), s) := by
    rw [filterStep, htau, Nat.pow_zero, divFree_one]
  rw [filterRegion_eq, hstep, powerNoted_dr, cellGet_cellPut_same _ _ _ _ hwf]
  omega

end Filter

/-- The estimates of both decks, region by region. -/
def powerFiltered (s : State) (as : List Activity) : State :=
  [0, 1].foldl (fun s d => (List.range 48).foldl (filterRegion as d) s) s

theorem powerFiltered_power (s : State) (as : List Activity) : PowerOnly s (powerFiltered s as) :=
  .foldl (fun s d => .foldl (filterRegion_power as d) _ s) _ s

/-- Without errors in the thermal record a power map update filters every region and starts a new count of moved piers. -/
theorem exec_powerMapUpdate (s : State) (as : List Activity) :
    exec (.powerMapUpdate as []) s = .next { powerFiltered s as with dr := { (powerFiltered s as).dr with moved := [] } } := by
  change execPowerMapUpdate as [] s = _
  unfold execPowerMapUpdate powerFiltered
  simp only [meetThermal, List.foldl_nil, List.any_nil, Bool.false_eq_true, if_false]

/-! ### The update strobes (R229, R234, R312, R327) -/

section Strobe
variable (s : State) (n : Span) (l : Local)

/-- A fast strobe is counted. -/
def fastCounted (s : State) (g : Nat) : State := setPier s g { pierOf s g with fastN := (pierOf s g).fastN + 1 }

/-- A trim strobe is counted. -/
def trimCounted (s : State) (g : Nat) : State := setPier s g { pierOf s g with trimN := (pierOf s g).trimN + 1 }

theorem exec_fastUpdateStrobe : exec (.fastUpdateStrobe n l) s =
    if clamped s n then
      .next (pierSwitched (setF (fastCounted s (pierIx n l)) (PR_OUT_OWNER n l) (deckFor (fastCounted s (pierIx n l)) n l)) n l)
    else .next (pierSwitched (showOut (compareCodes (connectDeck (fastCounted (fastCodes s n l) (pierIx n l)) n l) n l false) n l) n l) := rfl

theorem exec_trimUpdateStrobe : exec (.trimUpdateStrobe n l) s =
    if clamped s n then .next (trimCounted s (pierIx n l))
    else .next (showOut (compareCodes (trimCounted (trimCodes s n l) (pierIx n l)) n l true) n l) := rfl

end Strobe

/-- Settles O38: each strobe is its equation by the clamp; the abutment's choice and the step to park are followed to the words they write, and a power map
update region by region. -/
theorem strobes : Obligations.Strobes := by
  unfold Obligations.Strobes
  refine ⟨fun s n l hclamp => ⟨?_, ?_⟩, fun s u n l hclamp => ⟨?_, ?_⟩, fun req out step => ⟨slewStep_reaches, slewStep_up, slewStep_down⟩,
    fun s n l hc hstep => getF_live_fastCodes_step hstep hc.1, fun s n l hc => ⟨connectDeck_clamps n l hc.1, fun h0 h1 => ?_, fun h0 h1 => ?_, fun h0 h1 => ?_⟩,
    fun s n mv hc => ⟨setF s (LZ_VHTR_MV n) mv.toNat, rfl, ?_, rfl, fun b hb => rd_setF_other _ (LZ_VHTR_MV n) _ _ hb⟩, fun s as => ?_,
    fun s as d r hwf htau => power_filterRegion as d s r hwf htau⟩
  · rintro u rfl
    rw [exec_fastUpdateStrobe, if_pos hclamp]
    rfl
  · rw [exec_trimUpdateStrobe, if_pos hclamp]
    rfl
  · rintro rfl
    rw [exec_fastUpdateStrobe, if_neg (by simp [hclamp])]
    rfl
  · rintro rfl
    rw [exec_trimUpdateStrobe, if_neg (by simp [hclamp])]
    rfl
  · obtain ⟨hopen, howner⟩ := connectDeck_connects n l hc.1 (by simp [h1])
    exact ⟨hopen, howner.trans (deckFor_of_excluded s n l (d := 0) (by decide) h0 h1)⟩
  · obtain ⟨hopen, howner⟩ := connectDeck_connects n l hc.1 (by simp [h0])
    exact ⟨hopen, howner.trans (deckFor_of_excluded s n l (d := 1) (by decide) h1 h0)⟩
  · obtain ⟨hopen, howner⟩ := connectDeck_connects n l hc.1 (by simp [h0])
    exact ⟨hopen, howner.trans (deckFor_of_claims s n l h0 h1)⟩
  · rw [getF_setF_same _ (LZ_VHTR_MV n) _ hc.1 (show 12 < 32 by decide)]
    exact Nat.mod_eq_of_lt mv.isLt
  · obtain ⟨r, f, p, h⟩ := powerFiltered_power s as
    rw [exec_powerMapUpdate, h]
    exact ⟨_, rfl, rfl, rfl, rfl, rfl, rfl⟩

end Sys2Proof.Machine

namespace Sys2Proof.Machine

/-! ### A block of memory reads back as it was written (R9) -/

theorem rdBytes_succ (s : State) (a k : Nat) : rdBytes s a (k + 1) = rdByte s a :: rdBytes s (a + 1) k := by
  simp only [rdBytes, List.range_succ_eq_map, List.map_cons, List.map_map, Nat.add_zero]
  refine congrArg _ (List.map_congr_left fun i _ => ?_)
  rw [Function.comp_apply, Nat.succ_eq_add_one, Nat.add_comm i 1, ← Nat.add_assoc]

theorem rdBytes_wrBytes (bs : List Byte) (s : State) (a : Nat) (h : cellWf memDefault s.mem = true) :
    rdBytes (wrBytes s a bs) a bs.length = bs := by
  induction bs generalizing s a with
  | nil => rfl
  | cons b bs ih =>
    have hfirst : rdByte (wrBytes (wrByte s a b) (a + 1) bs) a = b :=
      (rdByte_wrBytes_other _ _ _ _ (.inl (Nat.lt_succ_self a))).trans (rdByte_wrByte_same _ _ _ h)
    rw [List.length_cons, rdBytes_succ, wrBytes, hfirst, ih _ _ (memWf_wrByte _ _ _ h)]

theorem leBytes_succ (k v : Nat) : leBytes (k + 1) v = BitVec.ofNat 8 v :: leBytes k (v / 256) := by
  simp only [leBytes, List.range_succ_eq_map, List.map_cons, List.map_map, Nat.pow_zero, Nat.div_one]
  refine congrArg _ (List.map_congr_left fun i _ => ?_)
  rw [Function.comp_apply, Nat.succ_eq_add_one, Nat.pow_succ', Nat.div_div_eq_div_mul]

theorem leVal_leBytes (k v : Nat) : leVal (leBytes k v) = v % 256 ^ k := by
  induction k generalizing v with
  | zero => exact (Nat.mod_one v).symm
  | succ k ih =>
    have hsplit : v % 256 ^ (k + 1) = v % 256 + 256 * (v / 256 % 256 ^ k) := by rw [Nat.pow_succ', Nat.mod_mul]
    rw [leBytes_succ, leVal, ih, hsplit]
    rfl

theorem length_leBytes (k v : Nat) : (leBytes k v).length = k := by
  rw [leBytes, List.length_map, List.length_range]

section Words
variable (s : State) (a b : Nat) (w : Word)

theorem memWord_putWord_same (h : cellWf memDefault s.mem = true) : memWord (putWord s a w) a = w := by
  have hbytes : rdBytes (putWord s a w) a 4 = leBytes 4 w.toNat := by
    have h4 := rdBytes_wrBytes (leBytes 4 w.toNat) s a h
    rwa [length_leBytes] at h4
  have hlt : w.toNat < 256 ^ 4 := w.isLt
  rw [memWord, rdMem, hbytes, leVal_leBytes, Nat.mod_eq_of_lt hlt, BitVec.ofNat_toNat, BitVec.setWidth_eq]

theorem rdByte_putWord_other (h : b < a ∨ a + 4 ≤ b) : rdByte (putWord s a w) b = rdByte s b :=
  rdByte_wrBytes_other _ _ _ _ (by rwa [length_leBytes])

theorem memWf_putWord (h : cellWf memDefault s.mem = true) : cellWf memDefault (putWord s a w).mem = true := memWf_wrBytes _ _ _ h

/-- A word of memory depends on its four bytes alone. -/
theorem memWord_congr {t : State} (h : ∀ i < 4, rdByte t (a + i) = rdByte s (a + i)) : memWord t a = memWord s a := by
  have hbytes : rdBytes t a 4 = rdBytes s a 4 := List.map_congr_left fun i hi => h i (List.mem_range.mp hi)
  rw [memWord, rdMem, hbytes]
  rfl

end Words

/-! ### Fields of a record -/

section Records
variable (s : State) (a v : Nat) (f : MFld)

theorem getM_putM_same (h : cellWf memDefault s.mem = true) (hf : f.hi < 32) : getM (putM s a f v) a f = v % 2 ^ width f.hi f.lo := by
  rw [getM, putM, memWord_putWord_same _ _ _ h, bitsOf_withBits_same _ _ _ _ hf]

theorem rdByte_putM_other {b : Nat} (h : b < a + f.off ∨ a + f.off + 4 ≤ b) : rdByte (putM s a f v) b = rdByte s b :=
  rdByte_putWord_other _ _ _ _ h

theorem memWf_putM (h : cellWf memDefault s.mem = true) : cellWf memDefault (putM s a f v).mem = true := memWf_putWord _ _ _ h

/-- A field of a word that the written one does not meet stands as it was. -/
theorem getM_putM_other {b : Nat} (g : MFld) (h : b + g.off + 4 ≤ a + f.off ∨ a + f.off + 4 ≤ b + g.off) : getM (putM s a f v) b g = getM s b g := by
  rw [getM, memWord_congr s _ fun i hi => rdByte_putM_other s a v f (by omega)]
  rfl

end Records

/-! ### Writes to a pier's PR_CTRL (R245) -/

/-- What a write to PR_CTRL starts: the change of FORCE_PARK acts, not its value. -/
theorem spanWrite_pierCtrl (s : State) (n : Nat) (l : Local) (v : Word) : spanWrite s n (aPR_CTRL n l) v =
    if flag (storeWrite s (aPR_CTRL n l) v) (PR_CTRL_FORCE_PARK n l) then
      (if flag s (PR_CTRL_FORCE_PARK n l) then storeWrite s (aPR_CTRL n l) v else forcePark (storeWrite s (aPR_CTRL n l) v) n l)
    else if flag s (PR_CTRL_FORCE_PARK n l) then releasePark (storeWrite s (aPR_CTRL n l) v) n l else storeWrite s (aPR_CTRL n l) v := by
  have hwin : aPR_CTRL n l ≠ aTE_PSEL n ∧ aPR_CTRL n l ≠ aTE_LOOP n
      ∧ aPR_CTRL n 0 ≤ aPR_CTRL n l ∧ aPR_CTRL n l < aPR_CTRL n 512 ∧ (aPR_CTRL n l - aPR_CTRL n 0) % 32 = 0 := by
    simp only [aPR_CTRL, aTE_PSEL, aTE_LOOP]
    omega
  have hpier : (aPR_CTRL n l - aPR_CTRL n 0) / 32 = l := by
    simp only [aPR_CTRL]
    omega
  obtain ⟨hpsel, hloop, hin⟩ := hwin
  rw [spanWrite, if_neg hpsel, if_neg hloop, if_pos hin, hpier]

theorem rowWrite_pierCtrl {s : State} {n : Span} {l : Local} {w : RegWrite} (hg : Granted s w (aPR_CTRL n l)) :
    rowWrite s (aPR_CTRL n l) w = spanWrite (atGrant s w) n (aPR_CTRL n l) w.value := by
  have hwin : 0x40000000 ≤ aPR_CTRL n l ∧ aPR_CTRL n l < 0x64000000 := by
    simp only [aPR_CTRL, spBase]
    omega
  have hspan : (aPR_CTRL n l - 0x40000000) / 0x1000000 = n := by
    simp only [aPR_CTRL, spBase]
    omega
  rw [rowWrite_granted s _ w hg, regWritten_span _ _ _ _ _ hwin, hspan]

/-! ### A pier parks (R244) -/

section Park
variable (s : State) (n l : Nat)

theorem discardStaged_frame : DriveFrame s (discardStaged s n l) := (DriveFrame.setF s _ _).trans (.setF _ _ _)

theorem flag_discardStaged (hs : s.RegsWf) :
    flag (discardStaged s n l) (stagedBit n l 0) = false ∧ flag (discardStaged s n l) (stagedBit n l 1) = false := by
  have hfirst : rd (discardStaged s n l) (stagedWord n l 0) = rd (setF s (stagedBit n l 0) 0) (stagedWord n l 0) :=
    rd_setF_other _ (stagedBit n l 1) _ _ (stagedWord_zero_ne_one n l)
  rw [flag_of_rd (f := stagedBit n l 0) hfirst]
  exact ⟨flag_setFlag_same s (stagedBit n l 0) false hs (show 31 < 32 by decide) (le_refl 31),
    flag_setFlag_same _ (stagedBit n l 1) false (regsWf_setF _ _ _ hs) (show 31 < 32 by decide) (le_refl 31)⟩

theorem unfreeze_frame : DriveFrame s (unfreeze s n l) := by
  unfold unfreeze
  dsimp only
  split
  · exact .refl s
  · exact ((setLiveF_frame s _ _ _ _).trans (.setF _ _ _)).trans (.setPier _ _ _)

/-- A pier that leaves the freeze moves its live codes alone (R321). -/
theorem rd_unfreeze_other {a : Nat} (h : ∀ d, a ≠ liveWord n l d) : rd (unfreeze s n l) a = rd s a := by
  unfold unfreeze
  dsimp only
  split
  · rfl
  · exact (rd_setF_other _ (liveT n l _) _ _ (h _)).trans (rd_setLiveF_other _ _ _ _ _ (h _))

/-- Neither a pier's own record nor a timer is a register. -/
theorem rampStarted_regs (u : State) (g : Nat) (x : Pier) (f : Fld) (v : Nat) (t : Timer) (k : Nat) :
    (armIn (setF (setPier u g x) f v) t k).regs = (setF u f v).regs := rfl

/-- A pier's staged codes are discarded, it leaves the freeze, and shows PARKED. -/
def parkShown : State := setF (unfreeze (discardStaged s n l) n l) (PR_OUT_PARKED n l) 1

theorem parkShown_frame : DriveFrame s (parkShown s n l) := ((discardStaged_frame s n l).trans (unfreeze_frame _ n l)).trans (.setF _ _ _)

theorem parkPier_moves (h : parkMoves s n l = true) : ∃ x, parkPier s n l = setPier (parkShown s n l) (pierIx n l) x :=
  ⟨_, if_neg (by simp [h])⟩

theorem parkPier_stays (h : parkMoves s n l = false) : parkPier s n l = discardStaged s n l := if_pos h

theorem forcePark_clamped (h : clamped s n = true) : forcePark s n l = s := if_pos h

theorem forcePark_stays (h : clamped s n = false) (hp : parkMoves s n l = false) : forcePark s n l = discardStaged s n l := by
  rw [forcePark, if_neg (by simp [h]), if_neg (by simp [hp]), parkPier_stays s n l hp]

/-- A pier that is parked: the span shows that it ramps, and the ramp's time runs. -/
theorem forcePark_moves (h : clamped s n = false) (hp : parkMoves s n l = true) : ∃ x, forcePark s n l =
    armIn (setF (setPier (parkShown s n l) (pierIx n l) x) (LZ_STATUS_RAMPING n) 1) (.ramp n) (1000 * getF s (LZ_PARK_RAMP n)) := by
  obtain ⟨x, hx⟩ := parkPier_moves s n l hp
  exact ⟨x, by rw [forcePark, if_neg (by simp [h]), if_pos hp, hx]⟩

variable {s n l} (hc : clamped s n = false) (hp : parkMoves s n l = true)
include hc hp

theorem rd_forcePark_moves (a : Nat) : rd (forcePark s n l) a = rd (setF (parkShown s n l) (LZ_STATUS_RAMPING n) 1) a := by
  obtain ⟨x, hx⟩ := forcePark_moves s n l hc hp
  rw [hx]
  exact rd_of_regs (rampStarted_regs _ _ _ _ _ _ _) a

theorem forcePark_moves_timer :
    timerAt (.ramp n) (forcePark s n l).timers = some (s.elapsed + 4000 * getF s (LZ_PARK_RAMP n)) ∧ (forcePark s n l).mem = s.mem := by
  obtain ⟨x, hx⟩ := forcePark_moves s n l hc hp
  have hframe := ((parkShown_frame s n l).trans (.setPier _ (pierIx n l) x)).trans (.setF _ (LZ_STATUS_RAMPING n) 1)
  rw [hx]
  refine ⟨?_, hframe.mem⟩
  rw [armIn, timerAt_armAt_same, hframe.elapsed, ← Nat.mul_assoc]

theorem forcePark_moves_flags (hs : s.RegsWf) :
    flag (forcePark s n l) (PR_OUT_PARKED n l) = true ∧ flag (forcePark s n l) (LZ_STATUS_RAMPING n) = true
      ∧ flag (forcePark s n l) (stagedBit n l 0) = false ∧ flag (forcePark s n l) (stagedBit n l 1) = false := by
  have hrd := rd_forcePark_moves hc hp
  have hwf := ((discardStaged_frame s n l).trans (unfreeze_frame _ n l)).wf hs
  have hstaged : ∀ d, flag (forcePark s n l) (stagedBit n l d) = flag (discardStaged s n l) (stagedBit n l d) := fun d =>
    flag_of_rd (f := stagedBit n l d) <| calc rd (forcePark s n l) (stagedWord n l d)
      _ = rd (setF (parkShown s n l) (LZ_STATUS_RAMPING n) 1) (stagedWord n l d) := hrd _
      _ = rd (parkShown s n l) (stagedWord n l d) := rd_setF_other _ (LZ_STATUS_RAMPING n) _ _ (pierWords_ne_status n l d).1
      _ = rd (unfreeze (discardStaged s n l) n l) (stagedWord n l d) := rd_setF_other _ (PR_OUT_PARKED n l) _ _ (stagedWord_ne_out n l d)
      _ = rd (discardStaged s n l) (stagedWord n l d) := rd_unfreeze_other _ n l fun e => stagedWord_ne_liveWord n l e d
  have hout : rd (forcePark s n l) (aPR_OUT n l) = rd (parkShown s n l) (aPR_OUT n l) :=
    (hrd _).trans (rd_setF_other _ (LZ_STATUS_RAMPING n) _ _ (pierWords_ne_status n l 0).2)
  obtain ⟨hfirst, hsecond⟩ := flag_discardStaged s n l hs
  refine ⟨?_, ?_, (hstaged 0).trans hfirst, (hstaged 1).trans hsecond⟩
  · rw [flag_of_rd (f := PR_OUT_PARKED n l) hout]
    exact flag_event_same _ (PR_OUT_PARKED n l) hwf (show 29 < 32 by decide) (le_refl 29)
  · rw [flag_of_rd (f := LZ_STATUS_RAMPING n) (hrd _)]
    exact flag_event_same _ (LZ_STATUS_RAMPING n) ((parkShown_frame s n l).wf hs) (show 5 < 32 by decide) (le_refl 5)

end Park

/-! ### A pier leaves park (R245, R285) -/

section Leave
variable (s : State) (n l : Nat)

/-- Both decks' loop records of a pier have no predecessor window. -/
def predecessorsCleared : State := putM (putM s (loopRec n l 0) lPVALID 0) (loopRec n l 1) lPVALID 0

theorem predecessorsCleared_mem : MemOnly s (predecessorsCleared s n l) := (MemOnly.putM s _ _ _).trans (.putM _ _ _ _)

theorem leavePark_mem : (leavePark s n l).mem = (predecessorsCleared s n l).mem := rfl

theorem leavePark_regs : (leavePark s n l).regs = (setF (setF (predecessorsCleared s n l) (PR_OUT_PARKED n l) 0) (LZ_STATUS_PARKED n) 0).regs := rfl

theorem getM_of_mem {s t : State} (h : t.mem = s.mem) (a : Nat) (f : MFld) : getM t a f = getM s a f := by
  rw [getM, memWord_congr s _ fun i _ => congrArg (fun m => cellGet memDefault m _) h]
  rfl

theorem getM_predecessorsCleared (h : cellWf memDefault s.mem = true) :
    getM (predecessorsCleared s n l) (loopRec n l 0) lPVALID = 0 ∧ getM (predecessorsCleared s n l) (loopRec n l 1) lPVALID = 0 := by
  have hapart : loopRec n l 0 + lPVALID.off + 4 ≤ loopRec n l 1 + lPVALID.off := by
    simp only [loopRec, loopBase]
    omega
  refine ⟨?_, ?_⟩
  · rw [predecessorsCleared, getM_putM_other _ _ _ _ _ (.inl hapart), getM_putM_same _ _ _ _ h (by decide), Nat.zero_mod]
  · rw [predecessorsCleared, getM_putM_same _ _ _ _ (memWf_putM _ _ _ _ h) (by decide), Nat.zero_mod]

/-- A pier that leaves park shows it; of its loop records only the word of PVALID can change. -/
theorem leavePark_spec (hs : s.RegsWf) (hm : cellWf memDefault s.mem = true) : flag (leavePark s n l) (PR_OUT_PARKED n l) = false ∧
    getM (leavePark s n l) (loopRec n l 0) lPVALID = 0 ∧ getM (leavePark s n l) (loopRec n l 1) lPVALID = 0 ∧
    (∀ a, (a < loopRec n l 0 + 0x14 ∨ loopRec n l 0 + 0x18 ≤ a) → (a < loopRec n l 1 + 0x14 ∨ loopRec n l 1 + 0x18 ≤ a) →
      rdByte (leavePark s n l) a = rdByte s a) := by
  have hwf : (predecessorsCleared s n l).RegsWf := regsWf_of_regs (predecessorsCleared_mem s n l).regs hs
  have hout : rd (leavePark s n l) (aPR_OUT n l) = rd (setF (predecessorsCleared s n l) (PR_OUT_PARKED n l) 0) (aPR_OUT n l) :=
    (rd_of_regs (leavePark_regs s n l) _).trans (rd_setF_other _ (LZ_STATUS_PARKED n) _ _ (pierWords_ne_status n l 0).2)
  have hmem := leavePark_mem s n l
  obtain ⟨hfirst, hsecond⟩ := getM_predecessorsCleared s n l hm
  refine ⟨?_, (getM_of_mem hmem _ _).trans hfirst, (getM_of_mem hmem _ _).trans hsecond, fun a h0 h1 => ?_⟩
  · rw [flag_of_rd (f := PR_OUT_PARKED n l) hout]
    exact flag_setFlag_same _ (PR_OUT_PARKED n l) false hwf (show 29 < 32 by decide) (le_refl 29)
  · calc rdByte (leavePark s n l) a
        _ = rdByte (putM (putM s (loopRec n l 0) lPVALID 0) (loopRec n l 1) lPVALID 0) a := congrArg (fun m => cellGet memDefault m a) hmem
        _ = rdByte (putM s (loopRec n l 0) lPVALID 0) a := rdByte_putM_other _ _ _ _ h1
        _ = rdByte s a := rdByte_putM_other _ _ _ _ h0

theorem releasePark_stays (h : clamped s n = true ∨ spanParked s n = true ∨ mapNames s (pierIx n l) = false) : releasePark s n l = s := if_pos h

theorem releasePark_leaves (hc : clamped s n = false) (hp : spanParked s n = false) (hm : mapNames s (pierIx n l) = true) :
    releasePark s n l = leavePark s n l := if_neg (by simp [hc, hp, hm])

end Leave

/-! ### The end of a ramp (R243, R244) -/

section RampEnd
variable (s : State) (n : Nat)

theorem reachPark_frame (l : Nat) : DriveFrame s (reachPark s n l) := by
  unfold reachPark
  dsimp only
  split
  · exact .refl s
  next r _ =>
    refine DriveFrame.trans ?_ (.setPier _ _ _)
    have htrim := fun t => ((DriveFrame.setF s (liveT n l 0) t).trans (.setF _ (liveT n l 1) t)).trans (.setF _ (PR_OUT_TRIM n l) t)
    split
    · exact (((htrim _).trans (setLiveF_frame _ _ _ _ _)).trans (setLiveF_frame _ _ _ _ _)).trans (.setF _ _ _)
    · exact htrim _

/-- Every pier of a span has reached its park codes. -/
def piersParked : State := (List.range 512).foldl (fun s l => reachPark s n l) s

theorem piersParked_frame : DriveFrame s (piersParked s n) := .foldl (fun s l => reachPark_frame s n l) _ s

/-- Whether every pier of a span is at park. -/
def allParked : Bool := (List.range 512).all (fun l => flag s (PR_OUT_PARKED n l))

theorem allParked_congr {s t : State} (h : ∀ l, rd t (aPR_OUT n l) = rd s (aPR_OUT n l)) : allParked t n = allParked s n := by
  have hflag : ∀ l, flag t (PR_OUT_PARKED n l) = flag s (PR_OUT_PARKED n l) := fun l => flag_of_rd (f := PR_OUT_PARKED n l) (h l)
  simp only [allParked, hflag]

/-- The span shows that its ramps have ended. -/
def rampShown : State := setFlag (setF s (LZ_STATUS_RAMPING n) 0) (LZ_STATUS_PARKED n) (allParked s n)

theorem endRamp_eq : endRamp s n = disarm (rampShown (piersParked s n) n) (.ramp n) := by
  unfold endRamp rampShown allParked piersParked
  dsimp only

theorem rampShown_frame : DriveFrame s (rampShown s n) := (DriveFrame.setF s _ _).trans (.setFlag _ _ _)

variable {s} in
theorem rampShown_flags (hs : s.RegsWf) :
    flag (rampShown s n) (LZ_STATUS_RAMPING n) = false ∧ flag (rampShown s n) (LZ_STATUS_PARKED n) = allParked (rampShown s n) n := by
  have hwf := regsWf_setF s (LZ_STATUS_RAMPING n) 0 hs
  have hout : ∀ l, rd (rampShown s n) (aPR_OUT n l) = rd s (aPR_OUT n l) := fun l =>
    (rd_setF_other _ (LZ_STATUS_PARKED n) _ _ (pierWords_ne_status n l 0).2).trans (rd_setF_other _ (LZ_STATUS_RAMPING n) _ _ (pierWords_ne_status n l 0).2)
  refine ⟨?_, ?_⟩
  · have hkept : getF (rampShown s n) (LZ_STATUS_RAMPING n) = getF (setF s (LZ_STATUS_RAMPING n) 0) (LZ_STATUS_RAMPING n) :=
      getF_setF_bits _ (LZ_STATUS_PARKED n) (LZ_STATUS_RAMPING n) _ hwf (show 5 < 32 by decide) (.inr (show 4 < 5 by decide))
    rw [flag, hkept]
    exact flag_setFlag_same s (LZ_STATUS_RAMPING n) false hs (show 5 < 32 by decide) (le_refl 5)
  · rw [allParked_congr n hout]
    exact flag_setFlag_same _ (LZ_STATUS_PARKED n) _ hwf (show 4 < 32 by decide) (le_refl 4)

theorem endRamp_kept : timerAt (.ramp n) (endRamp s n).timers = none ∧ (endRamp s n).mem = s.mem ∧ (endRamp s n).ad = s.ad := by
  have hframe := (piersParked_frame s n).trans (rampShown_frame _ n)
  rw [endRamp_eq, timerAt_disarm_same, disarm_mem, disarm_ad]
  exact ⟨rfl, hframe.mem, hframe.ad⟩

theorem flags_endRamp {s : State} (hs : s.RegsWf) :
    flag (endRamp s n) (LZ_STATUS_RAMPING n) = false ∧ flag (endRamp s n) (LZ_STATUS_PARKED n) = allParked (endRamp s n) n := by
  have hrd : ∀ a, rd (endRamp s n) a = rd (rampShown (piersParked s n) n) a := rd_of_regs (by rw [endRamp_eq, disarm_regs])
  obtain ⟨hramping, hparked⟩ := rampShown_flags n ((piersParked_frame s n).wf hs)
  rw [flag_of_rd (f := LZ_STATUS_RAMPING n) (hrd _), flag_of_rd (f := LZ_STATUS_PARKED n) (hrd _), allParked_congr n fun l => hrd _]
  exact ⟨hramping, hparked⟩

/-- Outside recovery mode's last stage the end of a ramp is no more than that (R415). -/
theorem exec_parkRampEnd {s : State} {n : Span} (hdue : due s (.ramp n) = true) (hstage : getF (endRamp s n) NV_STATUS_STAGE ≠ 6) :
    exec (.parkRampEnd n) s = .next (endRamp s n) := by
  have hclamps : recoveryClamps (endRamp s n) = endRamp s n := if_neg fun h => hstage h.1
  change execParkRampEnd n s = _
  rw [execParkRampEnd, if_pos hdue, hclamps]

end RampEnd

/-- Settles O39: a write to PR_CTRL acts by the change of FORCE_PARK; a park, a release and the end of a ramp are each followed to the flags, the timer and
the loop records that they touch. -/
theorem parking : Obligations.Parking := by
  unfold Obligations.Parking
  refine ⟨fun s u n l w hg hu => ⟨fun hset => ?_, fun hclear => ?_⟩, fun s n l hc hclamp hmoves => ?_,
    fun s n l => ⟨forcePark_clamped s n l, forcePark_stays s n l⟩, fun s n l hc => ⟨releasePark_stays s n l, fun hclamp hpark hmap => ?_⟩,
    fun s n hc hdue hstage => ⟨endRamp s n, exec_parkRampEnd hdue hstage, ?_⟩, fun s n hdue => ?_⟩
  · change Host.Outcome.next (rowWrite s (aPR_CTRL n l) w) = _
    rw [rowWrite_pierCtrl hg, spanWrite_pierCtrl, ← hu, if_pos hset]
  · change Host.Outcome.next (rowWrite s (aPR_CTRL n l) w) = _
    rw [rowWrite_pierCtrl hg, spanWrite_pierCtrl, ← hu, if_neg (by simp [hclear])]
  · obtain ⟨hparked, hramping, hfirst, hsecond⟩ := forcePark_moves_flags hclamp hmoves hc.1
    obtain ⟨htimer, hmem⟩ := forcePark_moves_timer hclamp hmoves
    exact ⟨hparked, hramping, hfirst, hsecond, htimer, hmem⟩
  · rw [releasePark_leaves s n l hclamp hpark hmap]
    exact leavePark_spec s n l hc.1 hc.2.1
  · obtain ⟨hramping, hparked⟩ := flags_endRamp n hc.1
    obtain ⟨htimer, hmem, had⟩ := endRamp_kept s n
    exact ⟨hramping, htimer, hparked, hmem, had⟩
  · change execParkRampEnd n s = _
    rw [execParkRampEnd, if_neg (by simp [hdue])]

end Sys2Proof.Machine

namespace Sys2Proof.Machine

/-! ### A window closes outside the loop (R253, R266) -/

/-- The pier's sample record has been shown, its marks counted, and the record offered to the sample bus. -/
def windowSampled (s : State) (n : Span) (l : Local) (ca cb fa fb : Nat) : State :=
  let m := monOf s (pierIx n l)
  let x := sampleOf s n m ca cb fa fb
  captureSample (countMarks (wr (wr s (aTE_SAMPLE_w0 n l) x.w0) (aTE_SAMPLE_w1 n l) x.w1) n x) (pierIx n l) x.w0 x.w1 m.loop (getM s (monRec s n l) lRRAT)

/-- A window that is not the loop's leaves memory as the sample bus left it. -/
theorem exec_monitorWindowClose_outside {s : State} {n : Span} {l : Local} {ca cb : Nat} (fa fb : BitVec 16)
    (hopened : (monOf s (pierIx n l)).opened = true) (hlead : (monOf s (pierIx n l)).lead = some (ca, cb))
    (hstop : (monOf s (pierIx n l)).stop ≤ s.elapsed) (hloop : (monOf s (pierIx n l)).loop = false) :
    ∃ m, exec (.monitorWindowClose n l fa fb) s = .next (setMon (windowSampled s n l ca cb fa.toNat fb.toNat) (pierIx n l) m) := by
  change ∃ m, execMonitorWindowClose n l fa fb s = _
  simp only [execMonitorWindowClose, hopened, hlead, if_pos hstop, hloop, Bool.false_eq_true, if_false, windowSampled]
  exact ⟨_, rfl⟩

/-! ### A release settles before the first ARM (R490, R492) -/

/-- Pier 0 samples continuously, 8 cycles a window, in windows that have closed every 20 ns: the last of four since its release is about to close, the three before it
had 1 mA each. The capture unit is idle with HMODE 1, and its stream 0 carries every window of the pier. -/
def settlingState : State :=
  { setF State.reset TC_CTRL_HMODE 1 with
    elapsed := 100000
    te := { Truss.init with
      mons := [(0, { Mon.init with opened := true, start := 99920, stop := 100000, loop := false, n := 8, lead := some (1, 1), first := false, cont := true })] }
    tc := { Capture.init with
      streams := [(0, 0xC0000000)]
      cont := [(0, true)]
      settle := [(0, some (99600, [(99760, 1000000000), (99840, 1000000000), (99920, 1000000000)]))] } }

theorem settlingState_wf : settlingState.Canon ∧ MonsWf settlingState ∧ tcState settlingState = 0 := by
  unfold State.Canon MonsWf
  decide +kernel

/-- The release settled 40 ns after its strobe: with bins of 10 ns it counts in bin 4. -/
theorem rdByte_windowSampled_settlingState :
    rdByte settlingState (capBase + 0x7E0000 + 4 * 4) = 0 ∧ rdByte (windowSampled settlingState 0 0 1 1 4 4) (capBase + 0x7E0000 + 4 * 4) = 1 := by
  decide +kernel

/-- Refutes O40: outside the loop the close of a window can write memory while the capture unit is idle, for the settle histogram is built in every state other than
done (R492). At the close of `settlingState`'s window bin 4 advances. -/
theorem not_monitorWindows : ¬ Obligations.MonitorWindows := by
  unfold Obligations.MonitorWindows
  rintro ⟨-, -, -, hclose⟩
  obtain ⟨hcanon, hmons, hidle⟩ := settlingState_wf
  obtain ⟨t, ht, -, -, -, hsample⟩ := hclose settlingState 0 0 4 4 1 1 hcanon hmons rfl rfl (le_refl _)
  obtain ⟨m, hm⟩ := exec_monitorWindowClose_outside (s := settlingState) (n := 0) (l := 0) 4 4 rfl rfl (le_refl _) rfl
  have htm : t = setMon (windowSampled settlingState 0 0 1 1 4 4) (pierIx 0 0) m := Host.Outcome.next.inj (ht.symm.trans hm)
  have hkept : t.mem = settlingState.mem := (hsample rfl).1 (.inl hidle)
  obtain ⟨hbefore, hafter⟩ := rdByte_windowSampled_settlingState
  have hsame : rdByte (windowSampled settlingState 0 0 1 1 4 4) (capBase + 0x7E0000 + 4 * 4) = rdByte settlingState (capBase + 0x7E0000 + 4 * 4) := by
    rw [htm, setMon_mem] at hkept
    exact congrArg (fun m => cellGet memDefault m _) hkept
  rw [hbefore, hafter] at hsame
  exact absurd hsame (by decide)

end Sys2Proof.Machine

namespace Sys2Proof.Machine

/-! ### Writes to a span's truss registers (R257, R265, R269) -/

theorem rowWrite_span {s : State} {n : Span} {a : Nat} {w : RegWrite} (hg : Granted s w a) (hwin : spBase n ≤ a ∧ a < spBase n + 0x1000000) :
    rowWrite s a w = spanWrite (atGrant s w) n a w.value := by
  simp only [spBase] at hwin
  have hspan : (a - 0x40000000) / 0x1000000 = n := by omega
  rw [rowWrite_granted s _ w hg, regWritten_span _ _ _ _ _ (by omega), hspan]

theorem spanWrite_psel (s : State) (n : Nat) (v : Word) :
    spanWrite s n (aTE_PSEL n) v = pselOp (storeWrite s (aTE_PSEL n) v) n (bitsOf v 11 10) := by
  rw [spanWrite, if_pos rfl]

theorem spanWrite_loop (s : State) (n : Nat) (v : Word) :
    spanWrite s n (aTE_LOOP n) v = periodWritten (storeWrite s (aTE_LOOP n) v) n (getF s (TE_LOOP_PERIOD n)) := by
  have hne : aTE_LOOP n ≠ aTE_PSEL n := by simp only [aTE_LOOP, aTE_PSEL]; omega
  rw [spanWrite, if_neg hne, if_pos rfl]

theorem spanWrite_filt (s : State) (n : Nat) (v : Word) : spanWrite s n (aTE_FILT n) v = storeWrite s (aTE_FILT n) v := by
  have hout : aTE_FILT n ≠ aTE_PSEL n ∧ aTE_FILT n ≠ aTE_LOOP n ∧ ¬ aPR_CTRL n 0 ≤ aTE_FILT n := by
    simp only [aTE_FILT, aTE_PSEL, aTE_LOOP, aPR_CTRL]
    omega
  obtain ⟨hpsel, hloop, hpier⟩ := hout
  rw [spanWrite, if_neg hpsel, if_neg hloop, if_neg fun h => hpier h.1]

section Psel
variable {s : State} {n : Span} {w : RegWrite}

theorem rowWrite_psel (hg : Granted s w (aTE_PSEL n)) :
    rowWrite s (aTE_PSEL n) w = pselOp (storeWrite (atGrant s w) (aTE_PSEL n) w.value) n (bitsOf w.value 11 10) := by
  rw [rowWrite_span (n := n) hg (by simp only [aTE_PSEL]; omega), spanWrite_psel]

theorem rowWrite_loop (hg : Granted s w (aTE_LOOP n)) :
    rowWrite s (aTE_LOOP n) w = periodWritten (storeWrite (atGrant s w) (aTE_LOOP n) w.value) n (getF (atGrant s w) (TE_LOOP_PERIOD n)) := by
  rw [rowWrite_span (n := n) hg (by simp only [aTE_LOOP]; omega), spanWrite_loop]

theorem rowWrite_filt (hg : Granted s w (aTE_FILT n)) : rowWrite s (aTE_FILT n) w = storeWrite (atGrant s w) (aTE_FILT n) w.value := by
  rw [rowWrite_span (n := n) hg (by simp only [aTE_FILT]; omega), spanWrite_filt]

end Psel

/-! ### TE_PSEL loads a record (R269) -/

section Load
variable (s : State) (n a : Nat)

/-- The loop fields of the record at `a` in TE_PCFG0 to TE_PCFG3. -/
def pcfgShown : State :=
  wr (wr (setF (setF s (TE_PCFG0_LMODE n) (getM s a lLMODE)) (TE_PCFG3_KSCALE n) (getM s a lKSCALE)) (aTE_PCFG1 n) (memWord s (a + 0x20)))
    (aTE_PCFG2 n) (memWord s (a + 0x24))

/-- U, V and INTEG of the record at `a` in TE_PSTAT0 and TE_PSTAT1, in a state `u` that has its other fields. -/
def pstatShown (u : State) : State := wr (wr u (aTE_PSTAT0 n) (memWord s (a + 0x04))) (aTE_PSTAT1 n) (memWord s (a + 0x00))

/-- The rest of the load shows in TE_PSTAT2. -/
theorem rd_pselOp_load {b : Nat} (hb : b ≠ aTE_PSTAT2 n) (ha : a = loopRec n (getF s (TE_PSEL_PIER n)) (getF s (TE_PSEL_DECK n))) :
    rd (pselOp s n 1) b = rd (pstatShown s n a (pcfgShown s n a)) b := by
  subst ha
  exact (rd_setF_other _ (TE_PSTAT2_ULIM n) _ _ hb).trans <| (rd_setF_other _ (TE_PSTAT2_RESID n) _ _ hb).trans <|
    (rd_setF_other _ (TE_PSTAT2_LIM n) _ _ hb).trans <| (rd_setF_other _ (TE_PSTAT2_DARK n) _ _ hb).trans <| rd_setF_other _ (TE_PSTAT2_EPREV n) _ _ hb

theorem pselOp_load_mem : (pselOp s n 1).mem = s.mem := by simp only [pselOp, setF_mem, wr_mem]

theorem pselOp_load_te : (pselOp s n 1).te = s.te := by simp only [pselOp, setF_te, wr_te]

theorem rd_pcfgShown (hs : s.RegsWf) : getF (pcfgShown s n a) (TE_PCFG0_LMODE n) = getM s a lLMODE
    ∧ rd (pcfgShown s n a) (aTE_PCFG1 n) = memWord s (a + 0x20) ∧ rd (pcfgShown s n a) (aTE_PCFG2 n) = memWord s (a + 0x24) := by
  have hmode := regsWf_setF s (TE_PCFG0_LMODE n) (getM s a lLMODE) hs
  have hscale := regsWf_setF _ (TE_PCFG3_KSCALE n) (getM s a lKSCALE) hmode
  have h01 : aTE_PCFG0 n ≠ aTE_PCFG1 n := by simp only [aTE_PCFG0, aTE_PCFG1]; omega
  have h02 : aTE_PCFG0 n ≠ aTE_PCFG2 n := by simp only [aTE_PCFG0, aTE_PCFG2]; omega
  have h03 : aTE_PCFG0 n ≠ aTE_PCFG3 n := by simp only [aTE_PCFG0, aTE_PCFG3]; omega
  have h12 : aTE_PCFG1 n ≠ aTE_PCFG2 n := by simp only [aTE_PCFG1, aTE_PCFG2]; omega
  refine ⟨?_, ?_, ?_⟩
  · calc getF (pcfgShown s n a) (TE_PCFG0_LMODE n)
      _ = getF (setF s (TE_PCFG0_LMODE n) (getM s a lLMODE)) (TE_PCFG0_LMODE n) :=
          getF_of_rd ((rd_wr_other _ _ _ _ h02).trans ((rd_wr_other _ _ _ _ h01).trans (rd_setF_other _ (TE_PCFG3_KSCALE n) _ _ h03)))
      _ = getM s a lLMODE % 2 ^ width 1 0 := getF_setF_same s (TE_PCFG0_LMODE n) _ hs (show 1 < 32 by decide)
      _ = getM s a lLMODE := bitsOf_mod_width _ 1 0
  · exact (rd_wr_other _ _ _ _ h12).trans (rd_wr_same _ _ _ hscale)
  · exact rd_wr_same _ _ _ (regsWf_wr _ _ _ hscale)

theorem pselOp_load (hs : s.RegsWf) (ha : a = loopRec n (getF s (TE_PSEL_PIER n)) (getF s (TE_PSEL_DECK n))) :
    getF (pselOp s n 1) (TE_PCFG0_LMODE n) = getM s a lLMODE ∧ rd (pselOp s n 1) (aTE_PCFG1 n) = memWord s (a + 0x20)
      ∧ rd (pselOp s n 1) (aTE_PCFG2 n) = memWord s (a + 0x24) ∧ rd (pselOp s n 1) (aTE_PSTAT0 n) = memWord s (a + 0x04)
      ∧ rd (pselOp s n 1) (aTE_PSTAT1 n) = memWord s a := by
  have hpcfg : (pcfgShown s n a).RegsWf := regsWf_wr _ _ _ (regsWf_wr _ _ _ (regsWf_setF _ _ _ (regsWf_setF _ _ _ hs)))
  have hkept : ∀ b, b < aTE_PSTAT0 n → rd (pselOp s n 1) b = rd (pcfgShown s n a) b := fun b hb => by
    have hne : b ≠ aTE_PSTAT0 n ∧ b ≠ aTE_PSTAT1 n ∧ b ≠ aTE_PSTAT2 n := by
      simp only [aTE_PSTAT0, aTE_PSTAT1, aTE_PSTAT2] at hb ⊢
      omega
    obtain ⟨h0, h1, h2⟩ := hne
    exact (rd_pselOp_load s n a h2 ha).trans ((rd_wr_other _ _ _ _ h1).trans (rd_wr_other _ _ _ _ h0))
  have hbelow : aTE_PCFG0 n < aTE_PSTAT0 n ∧ aTE_PCFG1 n < aTE_PSTAT0 n ∧ aTE_PCFG2 n < aTE_PSTAT0 n := by
    simp only [aTE_PCFG0, aTE_PCFG1, aTE_PCFG2, aTE_PSTAT0]
    omega
  have hapart : aTE_PSTAT0 n ≠ aTE_PSTAT1 n ∧ aTE_PSTAT0 n ≠ aTE_PSTAT2 n ∧ aTE_PSTAT1 n ≠ aTE_PSTAT2 n := by
    simp only [aTE_PSTAT0, aTE_PSTAT1, aTE_PSTAT2]
    omega
  obtain ⟨hb0, hb1, hb2⟩ := hbelow
  obtain ⟨h01, h02, h12⟩ := hapart
  obtain ⟨hmode, hmanual, hfeed⟩ := rd_pcfgShown s n a hs
  exact ⟨(getF_of_rd (hkept _ hb0)).trans hmode, (hkept _ hb1).trans hmanual, (hkept _ hb2).trans hfeed,
    (rd_pselOp_load s n a h02 ha).trans ((rd_wr_other _ _ _ _ h01).trans (rd_wr_same _ _ _ hpcfg)),
    (rd_pselOp_load s n a h12 ha).trans (rd_wr_same _ _ _ (regsWf_wr _ _ _ hpcfg))⟩

end Load

/-! ### TE_PSEL queues a write (R269) -/

theorem monOf_setMon_same {s : State} (g : Nat) (m : Mon) (h : MonsWf s) : monOf (setMon s g m) g = m := cellGet_cellPut_same _ _ _ _ h

theorem pselOp_queue {s : State} (n : Nat) (hs : s.RegsWf) (hm : MonsWf s) :
    (monOf (pselOp s n 2) (pierIx n (getF s (TE_PSEL_PIER n)))).write
        = some (rd s (aTE_PCFG0 n), rd s (aTE_PCFG1 n), rd s (aTE_PCFG2 n), rd s (aTE_PCFG3 n))
      ∧ flag (pselOp s n 2) (TE_PSEL_PENDING n) = true :=
  ⟨congrArg Mon.write (monOf_setMon_same _ _ hm), flag_event_same _ (TE_PSEL_PENDING n) hs (show 12 < 32 by decide) (le_refl 12)⟩

/-! ### The period in force (R265) -/

theorem periodWritten_regs (s : State) (n old : Nat) : (periodWritten s n old).regs = s.regs := by
  unfold periodWritten
  split <;> rfl

theorem periodWritten_mem (s : State) (n old : Nat) : (periodWritten s n old).mem = s.mem := by
  unfold periodWritten
  split <;> rfl

/-- Once the register is written, the table holds the period in force: its own, or the one that the register gave. -/
theorem periodOf_periodWritten {s t : State} {n : Nat} (hte : t.te = s.te) (hw : cellWf (fun _ => 0) s.te.period = true) (hold : getF s (TE_LOOP_PERIOD n) ≠ 0) :
    periodOf (periodWritten t n (getF s (TE_LOOP_PERIOD n))) n = periodOf s n := by
  by_cases hp : cellGet (fun _ => 0) s.te.period n = 0
  · have hput : cellGet (fun _ => 0) (periodWritten t n (getF s (TE_LOOP_PERIOD n))).te.period n = getF s (TE_LOOP_PERIOD n) := by
      rw [periodWritten, hte, if_pos hp]
      exact cellGet_cellPut_same _ _ _ _ hw
    simp only [periodOf, hput, hp, if_neg hold, if_true]
  · have hkept : (periodWritten t n (getF s (TE_LOOP_PERIOD n))).te = s.te := by rw [periodWritten, hte, if_neg hp, hte]
    simp only [periodOf, hkept, if_neg hp]

/-! ### Fields of a loop record (R268) -/

/-- Two fields of a record share no bit: they stand in two words or in separate bits of one. -/
abbrev MFld.Apart (f g : MFld) : Prop := g.off + 4 ≤ f.off ∨ f.off + 4 ≤ g.off ∨ (g.off = f.off ∧ (g.hi < f.lo ∨ f.hi < g.lo))

theorem getM_putM_apart {s : State} (a v : Nat) {f g : MFld} (hm : cellWf memDefault s.mem = true) (hg : g.hi < 32) (h : f.Apart g) :
    getM (putM s a f v) a g = getM s a g := by
  obtain hbelow | habove | ⟨hword, hbits⟩ := h
  · exact getM_putM_other _ _ _ _ _ (.inl (by omega))
  · exact getM_putM_other _ _ _ _ _ (.inr (by omega))
  · rw [getM, hword, putM, memWord_putWord_same _ _ _ hm, bitsOf_withBits_other _ _ _ _ _ _ hg hbits, getM, hword]

/-- A field takes the value of one of its width. -/
theorem getM_putM_field {s t : State} (a b : Nat) (f g : MFld) (hm : cellWf memDefault s.mem = true) (hf : f.hi < 32) (hw : width f.hi f.lo = width g.hi g.lo) :
    getM (putM s a f (getM t b g)) a f = getM t b g := by
  rw [getM_putM_same _ _ _ _ hm hf, hw]
  exact bitsOf_mod_width _ _ _

/-- Of the record at `a` the second state differs from the first in the fields `fs` alone, and memory stays in canonical form. -/
structure RecordFrame (a : Nat) (fs : List MFld) (s t : State) : Prop where
  wf : cellWf memDefault s.mem = true → cellWf memDefault t.mem = true
  kept : cellWf memDefault s.mem = true → ∀ g : MFld, g.hi < 32 → (∀ f ∈ fs, f.Apart g) → getM t a g = getM s a g

namespace RecordFrame
variable {a : Nat} {fs gs : List MFld} {s t u : State}

theorem of_mem (h : t.mem = s.mem) : RecordFrame a fs s t := ⟨fun hm => h ▸ hm, fun _ _ _ _ => getM_of_mem h a _⟩

theorem refl (s : State) : RecordFrame a fs s s := of_mem rfl

theorem trans (h : RecordFrame a fs s t) (k : RecordFrame a fs t u) : RecordFrame a fs s u where
  wf := k.wf ∘ h.wf
  kept hm g hg hf := (k.kept (h.wf hm) g hg hf).trans (h.kept hm g hg hf)

theorem mono (h : RecordFrame a fs s t) (hsub : ∀ f ∈ fs, f ∈ gs) : RecordFrame a gs s t where
  wf := h.wf
  kept hm g hg hf := h.kept hm g hg fun f hfs => hf f (hsub f hfs)

theorem putM (s : State) (v : Nat) {f : MFld} (h : f ∈ fs) : RecordFrame a fs s (putM s a f v) where
  wf := memWf_putM _ _ _ _
  kept hm _ hg hf := getM_putM_apart a v hm hg (hf f h)

end RecordFrame

/-! ### The codes formed from U and V (R263) -/

section Codes
variable (s : State) (n l : Nat)

theorem phase18_mem (v : Int) : (phase18 s v).2.mem = s.mem := by
  unfold phase18 fitInt
  split <;> rfl

theorem interp_mem (t : Nat → Nat) (start : Int) (step top : Nat) (phi : Int) : (interp s n t start step top phi).2.mem = s.mem := by
  obtain h | ⟨low, h⟩ | h := interp_state s n t start step top phi
  · rw [h]
  · rw [h]
    rfl
  · rw [h]
    rfl

theorem fastCode_mem (delta v : Int) : (fastCode s n l delta v).2.mem = s.mem := (interp_mem _ _ _ _ _ _ _).trans (phase18_mem _ _)

theorem trimCode_mem (arg : Int) (vh : Nat) : (trimCode s n l arg vh).2.mem = s.mem := by
  have hraw : (interp (phase18 s arg).2 n (ttAt s (calRec n l)) (getMI s (calRec n l) cTT_START) (getM s (calRec n l) cTT_STEP) 4096 (phase18 s arg).1).2.mem
      = s.mem := (interp_mem _ _ _ _ _ _ _).trans (phase18_mem _ _)
  unfold trimCode
  dsimp only
  split_ifs <;> exact hraw

/-- Of memory, forming the codes changes LIM of the record alone (R277). -/
theorem applyCodes_frame (d a : Nat) (vOld : Int) : RecordFrame a [lLIM] s (applyCodes s n l d a vOld) := by
  unfold applyCodes
  extract_lets g arg vh
  split
  next t s1 ht =>
  have h1 : s1.mem = s.mem := by rw [← trimCode_mem s n l arg vh, ht]
  extract_lets s2 s3 reqT s4
  have h2 : s2.mem = s1.mem := by unfold s2; split <;> rfl
  have h3 : s3.mem = s.mem := by unfold s3; split <;> exact h2.trans h1
  have h4 : RecordFrame a [lLIM] s s4 := ((RecordFrame.of_mem h3).trans (.putM s3 t.lim (List.mem_singleton_self _))).trans (.of_mem rfl)
  clear_value s4
  split
  · exact h4
  · split
    next f s5 hf =>
    exact h4.trans (.of_mem ((congrArg (fun r => r.2.mem) hf).symm.trans (fastCode_mem s4 n l _ _)))

end Codes

/-! ### The update of a pier in manual mode (R263, R275) -/

section Manual
variable (s : State) (n l d a : Nat) (m : Mon) (x : Sample)

/-- What waits has reached the record, and UN and VN have become U and V (R263, R269). -/
def pendingApplied : State := putM (putM (applyWaiting s a m) a lU (getM (applyWaiting s a m) a lUN)) a lV (getM (applyWaiting s a m) a lVN)

/-- The codes have followed the new U and V (R263, R264). -/
def outputsApplied : State := applyCodes (pendingApplied s a m) n l d a (getMI (applyWaiting s a m) a lV)

/-- A window that is not DARK ends a dark hold (R282). -/
def darkEnded : State := if x.dark then s else putM (putM s a lDARK 0) a lDARK_AGE 0

/-- The manual values become the next ones (R275). -/
def manualNext : State := putM (putM (putM s a lUN (getM s a lUMAN)) a lVN (getM s a lVMAN)) a lEVALID 0

theorem deckUpdate_manual (ha : a = loopRec n l d) (hfall : pierIx n l ∉ s.te.falling) (hmode : getM (outputsApplied s n l d a m) a lLMODE = 1) :
    deckUpdate s n l d m x = refreshPrev (manualNext (darkEnded (outputsApplied s n l d a m) a x) a) a x (getMI (applyWaiting s a m) a lV) := by
  subst ha
  unfold outputsApplied pendingApplied at hmode
  unfold deckUpdate
  simp only [if_neg hfall, hmode, if_true]
  rfl

/-- Without a write that waits only RRAT can reach the record. -/
theorem applyWaiting_frame (h : m.write = none) : RecordFrame a [lRRAT] s (applyWaiting s a m) := by
  unfold applyWaiting
  rw [h]
  dsimp only
  split
  · exact .putM s _ (List.mem_singleton_self _)
  · exact .refl s

theorem darkEnded_frame : RecordFrame a [lDARK, lDARK_AGE] s (darkEnded s a x) := by
  unfold darkEnded
  split
  · exact .refl s
  · exact (RecordFrame.putM s 0 (by simp)).trans (.putM _ 0 (by simp))

theorem refreshPrev_frame (v : Int) : RecordFrame a [lFPREV, lSPREV, lMPREV, lPVALID] s (refreshPrev s a x v) := by
  have hputs : ∀ f g h i, RecordFrame a [lFPREV, lSPREV, lMPREV, lPVALID] s (putM (putM (putM (putM s a lFPREV f) a lSPREV g) a lMPREV h) a lPVALID i) :=
    fun _ _ _ _ => (((RecordFrame.putM s _ (by simp)).trans (.putM _ _ (by simp))).trans (.putM _ _ (by simp))).trans (.putM _ _ (by simp))
  unfold refreshPrev
  split
  · exact hputs _ _ _ _
  · split
    · exact hputs _ _ _ _
    · exact .putM s 0 (by simp)

theorem manualNext_frame : RecordFrame a [lUN, lVN, lEVALID] s (manualNext s a) :=
  ((RecordFrame.putM s _ (by simp)).trans (.putM _ _ (by simp))).trans (.putM _ _ (by simp))

/-- Besides U and V only RRAT and LIM have moved. -/
theorem outputsApplied_frame (hwrite : m.write = none) : RecordFrame a [lRRAT, lU, lV, lLIM] s (outputsApplied s n l d a m) :=
  ((((applyWaiting_frame s a m hwrite).mono (by simp)).trans (.putM _ _ (by simp))).trans (.putM _ _ (by simp))).trans
    ((applyCodes_frame _ n l d a _).mono (by simp))

variable {s m} (hm : cellWf memDefault s.mem = true)
include hm

theorem getM_manualNext : getM (manualNext s a) a lUN = getM s a lUMAN ∧ getM (manualNext s a) a lVN = getM s a lVMAN
    ∧ getM (manualNext s a) a lEVALID = 0 := by
  have hun := memWf_putM s a (getM s a lUMAN) lUN hm
  have hvn := memWf_putM _ a (getM s a lVMAN) lVN hun
  refine ⟨?_, ?_, getM_putM_same _ _ _ _ hvn (by decide)⟩
  · calc getM (manualNext s a) a lUN
      _ = getM (putM (putM s a lUN (getM s a lUMAN)) a lVN (getM s a lVMAN)) a lUN := getM_putM_apart a _ hvn (by decide) (by decide)
      _ = getM (putM s a lUN (getM s a lUMAN)) a lUN := getM_putM_apart a _ hun (by decide) (by decide)
      _ = getM s a lUMAN := getM_putM_field a a lUN lUMAN hm (by decide) rfl
  · calc getM (manualNext s a) a lVN
      _ = getM (putM (putM s a lUN (getM s a lUMAN)) a lVN (getM s a lVMAN)) a lVN := getM_putM_apart a _ hvn (by decide) (by decide)
      _ = getM s a lVMAN := getM_putM_field a a lVN lVMAN hun (by decide) rfl

variable (hwrite : m.write = none)
include hwrite

theorem getM_outputsApplied : getM (outputsApplied s n l d a m) a lU = getM s a lUN ∧ getM (outputsApplied s n l d a m) a lV = getM s a lVN := by
  have hwait := applyWaiting_frame s a m hwrite
  have hwf := hwait.wf hm
  have hcodes : RecordFrame a [lLIM] (pendingApplied s a m) (outputsApplied s n l d a m) := applyCodes_frame _ n l d a _
  have hwf' : cellWf memDefault (pendingApplied s a m).mem = true := memWf_putM _ _ _ _ (memWf_putM _ _ _ _ hwf)
  refine ⟨?_, ?_⟩
  · calc getM (outputsApplied s n l d a m) a lU
      _ = getM (pendingApplied s a m) a lU := hcodes.kept hwf' lU (by decide) (by decide)
      _ = getM (putM (applyWaiting s a m) a lU (getM (applyWaiting s a m) a lUN)) a lU := getM_putM_apart a _ (memWf_putM _ _ _ _ hwf) (by decide) (by decide)
      _ = getM (applyWaiting s a m) a lUN := getM_putM_field a a lU lUN hwf (by decide) rfl
      _ = getM s a lUN := hwait.kept hm lUN (by decide) (by decide)
  · calc getM (outputsApplied s n l d a m) a lV
      _ = getM (pendingApplied s a m) a lV := hcodes.kept hwf' lV (by decide) (by decide)
      _ = getM (applyWaiting s a m) a lVN := getM_putM_field a a lV lVN (memWf_putM _ _ _ _ hwf) (by decide) rfl
      _ = getM s a lVN := hwait.kept hm lVN (by decide) (by decide)

theorem getM_deckUpdate_manual (hfall : pierIx n l ∉ s.te.falling) (ha : a = loopRec n l d) (hmode : getM s a lLMODE = 1) :
    getM (deckUpdate s n l d m x) a lU = getM s a lUN ∧ getM (deckUpdate s n l d m x) a lV = getM s a lVN
      ∧ getM (deckUpdate s n l d m x) a lUN = getM s a lUMAN ∧ getM (deckUpdate s n l d m x) a lVN = getM s a lVMAN
      ∧ getM (deckUpdate s n l d m x) a lEVALID = 0 := by
  have hout := outputsApplied_frame s n l d a m hwrite
  have hlmode : getM (outputsApplied s n l d a m) a lLMODE = 1 := (hout.kept hm lLMODE (by decide) (by decide)).trans hmode
  obtain ⟨hu, hv⟩ := getM_outputsApplied n l d a hm hwrite
  have hdark := darkEnded_frame (outputsApplied s n l d a m) a x
  have hinputs := hout.mono (gs := [lRRAT, lU, lV, lLIM, lDARK, lDARK_AGE]) (by simp) |>.trans (hdark.mono (by simp))
  obtain ⟨hun, hvn, hevalid⟩ := getM_manualNext a (hinputs.wf hm)
  have hnext := manualNext_frame (darkEnded (outputsApplied s n l d a m) a x) a
  have hprev := refreshPrev_frame (manualNext (darkEnded (outputsApplied s n l d a m) a x) a) a x (getMI (applyWaiting s a m) a lV)
  have hlate := (hdark.mono (gs := [lDARK, lDARK_AGE, lUN, lVN, lEVALID, lFPREV, lSPREV, lMPREV, lPVALID]) (by simp)).trans (hnext.mono (by simp)) |>.trans
    (hprev.mono (by simp))
  have hnextWf := hnext.wf (hinputs.wf hm)
  rw [deckUpdate_manual s n l d a m x ha hfall hlmode]
  exact ⟨(hlate.kept (hout.wf hm) lU (by decide) (by decide)).trans hu, (hlate.kept (hout.wf hm) lV (by decide) (by decide)).trans hv,
    ((hprev.kept hnextWf lUN (by decide) (by decide)).trans hun).trans (hinputs.kept hm lUMAN (by decide) (by decide)),
    ((hprev.kept hnextWf lVN (by decide) (by decide)).trans hvn).trans (hinputs.kept hm lVMAN (by decide) (by decide)),
    (hprev.kept hnextWf lEVALID (by decide) (by decide)).trans hevalid⟩

end Manual

/-- Settles O41: each write is traced to what it starts; a manual update is followed field by field through the frames of its steps. -/
theorem trussLoops : Obligations.TrussLoops := by
  unfold Obligations.TrussLoops
  refine ⟨fun s u n w hg hu => ⟨fun hload => ?_, fun hqueue => ?_⟩, fun s n a hc ha => ?_, fun s n hc hm => ?_, fun s n w hg hc hw hold => ?_,
    fun s n w hg => congrArg Host.Outcome.next (rowWrite_filt hg),
    fun s n l d a m x _ hc hwrite hfall ha hmode => getM_deckUpdate_manual n l d a x hc.2.1 hwrite hfall ha hmode⟩
  · exact congrArg Host.Outcome.next (by rw [rowWrite_psel hg, ← hu, hload])
  · exact congrArg Host.Outcome.next (by rw [rowWrite_psel hg, ← hu, hqueue])
  · obtain ⟨hmode, hmanual, hfeed, happlied, hinteg⟩ := pselOp_load s n a hc.1 ha
    exact ⟨hmode, hmanual, hfeed, happlied, hinteg, pselOp_load_mem s n, pselOp_load_te s n⟩
  · obtain ⟨hqueued, hpending⟩ := pselOp_queue n hc.1 hm
    exact ⟨hqueued, hpending, rfl⟩
  · obtain ⟨r, hstored⟩ := storeWrite_regs (atGrant s w) (aTE_LOOP n) w.value
    have hte : (storeWrite (atGrant s w) (aTE_LOOP n) w.value).te = (atGrant s w).te := by rw [hstored]
    exact ⟨_, congrArg Host.Outcome.next (rowWrite_loop hg), periodOf_periodWritten hte hw hold, rd_of_regs (periodWritten_regs _ _ _) _,
      (periodWritten_mem _ _ _).trans (storeWrite_mem _ _ _)⟩

end Sys2Proof.Machine

namespace Sys2Proof.Machine

/-! ### Which fields an update writes -/

/-- A written key reads as what was written in any table, where that is not the key's default. -/
theorem cellGet_cellPut_of_ne {α : Type} [DecidableEq α] (d : Nat → α) (l : List (Nat × α)) (k : Nat) (v : α) (h : v ≠ d k) :
    cellGet d (cellPut d l k v) k = v := by
  induction l with
  | nil => simp [cellPut, cellGet, h]
  | cons e t ih =>
    obtain ⟨k', v'⟩ := e
    simp only [cellPut, h, if_false]
    split_ifs with hlt heq
    · simp [cellGet]
    · simp [cellGet]
    · rw [cellGet, if_neg heq, ih]

/-- The second state's registers are the first's but for fields of `W`. What else the states hold is left open. -/
structure RegWrites (W : List Fld) (s t : State) : Prop where
  wf : s.RegsWf → t.RegsWf
  keeps : s.RegsWf → ∀ f : Fld, InWord f → (∀ g ∈ W, Apart f g) → getF t f = getF s f

/-- The words that a counter or a lifetime counter stands in. -/
def counterFields (a : Nat) : List Fld := [⟨a, 31, 0⟩, ⟨a + 4, 31, 0⟩]

/-- The fields that a fault's report writes (R450). -/
def reportFields : List Fld := FC_INT_OVERFLOW :: counterFields (cFC_CNT 5)

/-- The fields that lifetime counter `i` writes (R476). -/
def lifeFields (i : Nat) : List Fld := [⟨aTY_LT i, 31, 0⟩, TY_INT_LT_SAT, TY_STATUS_LT_SAT]

namespace RegWrites
variable {W V : List Fld} {s t u : State}

theorem of_regs (h : t.regs = s.regs) : RegWrites W s t := ⟨regsWf_of_regs h, fun _ f _ _ => congrArg (bitsOf · f.hi f.lo) (rd_of_regs h f.addr)⟩

theorem refl (s : State) : RegWrites W s s := of_regs rfl

theorem trans (h : RegWrites W s t) (k : RegWrites W t u) : RegWrites W s u :=
  ⟨k.wf ∘ h.wf, fun hs f hf hW => (k.keeps (h.wf hs) f hf hW).trans (h.keeps hs f hf hW)⟩

theorem mono (h : RegWrites V s t) (hVW : V ⊆ W) : RegWrites W s t := ⟨h.wf, fun hs f hf hW => h.keeps hs f hf fun g hg => hW g (hVW hg)⟩

/-- A change beside the registers. -/
theorem regs_eq (h : RegWrites W s t) (hu : u.regs = t.regs) : RegWrites W s u := h.trans (of_regs hu)

theorem ite {c : Prop} [Decidable c] (ht : c → RegWrites W s t) (hu : ¬ c → RegWrites W s u) : RegWrites W s (if c then t else u) := by
  split
  · exact ht ‹_›
  · exact hu ‹_›

theorem foldl {α : Type} {f : State → α → State} (l : List α) (hf : ∀ s, ∀ a ∈ l, RegWrites W s (f s a)) (s : State) : RegWrites W s (l.foldl f s) := by
  induction l generalizing s with
  | nil => exact refl s
  | cons a l ih => exact (hf s a List.mem_cons_self).trans (ih (fun s b hb => hf s b (List.mem_cons_of_mem _ hb)) _)

theorem setF (s : State) {f : Fld} (v : Nat) (hf : f ∈ W) : RegWrites W s (setF s f v) :=
  ⟨regsWf_setF s f v, fun hs _ hg hW => getF_setF_apart v hs hg.2 (hW _ hf)⟩

theorem setFlag (s : State) {f : Fld} (b : Bool) (hf : f ∈ W) : RegWrites W s (setFlag s f b) := setF s _ hf

theorem event (s : State) {f : Fld} (hf : f ∈ W) : RegWrites W s (event s f) := setF s _ hf

theorem wr (s : State) {a : Nat} (v : Word) (h : (⟨a, 31, 0⟩ : Fld) ∈ W) : RegWrites W s (wr s a v) where
  wf := regsWf_wr s a v
  keeps := fun _ f ⟨hlo, hhi⟩ hW => by
    have hapart : f.addr ≠ a ∨ f.hi < 0 ∨ 31 < f.lo := hW _ h
    have hne : f.addr ≠ a := by omega
    rw [Machine.getF, Machine.getF, rd_wr_other _ _ _ _ hne]

theorem bumpBy (s : State) (a n : Nat) (h : counterFields a ⊆ W) : RegWrites W s (bumpBy s a n) :=
  (wr s _ (h (by simp [counterFields]))).trans (wr _ _ (h (by simp [counterFields])))

theorem bump (s : State) (a : Nat) (h : counterFields a ⊆ W) : RegWrites W s (bump s a) := bumpBy s a 1 h

theorem report (s : State) (m : BitVec 64) : RegWrites reportFields s (report s m) := by
  rcases report_cases s m with h | h
  · rw [h]
    exact (event s (by simp [reportFields])).trans (bump _ _ (List.subset_cons_self _ _))
  · rw [h]
    exact of_regs rfl

theorem raise (s : State) (source kind cls : Nat) (b : Bool) (addr : Nat) : RegWrites reportFields s (raise s source kind cls b addr) := report s _

theorem setTally (s : State) (x : TallyState) : RegWrites W s { s with ty := x } := of_regs rfl

theorem setCal (s : State) (c : Cal) : RegWrites W s { s with cal := c } := of_regs rfl

theorem life (s : State) (i : Nat) : RegWrites (lifeFields i) s (life s i) := by
  have hlt : ∀ v, RegWrites (lifeFields i) s (Machine.wr s (aTY_LT i) v) := fun v => wr s v (by simp [lifeFields])
  have hsat : ∀ u, RegWrites (lifeFields i) u (Machine.setFlag (Machine.event u TY_INT_LT_SAT) TY_STATUS_LT_SAT true) := fun u =>
    (event u (by simp [lifeFields])).trans (setFlag _ true (by simp [lifeFields]))
  exact ite (fun _ => ((hlt _).trans (setTally _ _)).trans (hsat _)) (fun _ => hlt _)

theorem of_nt (h : NtWrites W s t) : RegWrites W s t := ⟨h.wf, h.keeps⟩

theorem getF (h : RegWrites W s t) (hs : s.RegsWf) {f : Fld} (hf : InWord f) (hW : ∀ g ∈ W, Apart f g) : getF t f = Machine.getF s f :=
  h.keeps hs f hf hW

theorem flag (h : RegWrites W s t) (hs : s.RegsWf) {f : Fld} (hf : InWord f) (hW : ∀ g ∈ W, Apart f g) : flag t f = Machine.flag s f := by
  rw [Machine.flag, h.getF hs hf hW]
  rfl

theorem count (h : RegWrites W s t) (hs : s.RegsWf) {a : Nat} (hW : ∀ g ∈ W, Apart ⟨a, 31, 0⟩ g ∧ Apart ⟨a + 4, 15, 0⟩ g) :
    count t a = Machine.count s a := by
  have hlow : InWord ⟨a, 31, 0⟩ := ⟨Nat.zero_le _, show 31 < 32 by decide⟩
  have hhigh : InWord ⟨a + 4, 15, 0⟩ := ⟨Nat.zero_le _, show 15 < 32 by decide⟩
  rw [count_eq_getF, count_eq_getF, h.getF hs hlow fun g hg => (hW g hg).1, h.getF hs hhigh fun g hg => (hW g hg).2]

/-- A word none of whose fields is written stands as it was. -/
theorem rd (h : RegWrites W s t) (hs : s.RegsWf) {a : Nat} (hW : ∀ g ∈ W, a ≠ g.addr) : rd t a = Machine.rd s a := by
  have hword := h.getF hs (f := ⟨a, 31, 0⟩) ⟨Nat.zero_le _, show 31 < 32 by decide⟩ fun g hg => .inl (hW g hg)
  refine BitVec.eq_of_getLsbD_eq fun i hi => ?_
  have hbit := congrArg (Nat.testBit · i) hword
  simpa [Machine.getF, testBit_bitsOf, width, hi] using hbit

end RegWrites

end Sys2Proof.Machine

namespace Sys2Proof.Machine

/-! ### How the Tollhouse's jobs share the flash (R418, R445) -/

theorem nextSector_rest (s : State) (len : Nat) : ∃ i o, nextSector s len = { s with th := { s.th with sector := i, offset := o } } := by
  unfold nextSector
  split_ifs <;> exact ⟨_, _, rfl⟩

theorem appendLog_rest (s : State) (typ : Nat) (body : List Byte) :
    ∃ o l q, (appendLog s typ body).2 = { s with th := { s.th with offset := o, lseq := l, sseq := q } } := by
  unfold appendLog
  dsimp only
  split_ifs <;> exact ⟨_, _, _, rfl⟩

/-- A job that has begun, with the flash operations still to start. -/
def jobStarted (j : Job) (ops : List FlashOp) : Job := { j with begun := true, ops := ops }

/-- A job that begins runs with its kind and body; beside it only the log's place moves. -/
theorem beginJob_rest (s : State) (j : Job) : ∃ i o l q ops, beginJob s j =
    { s with th := { s.th with sector := i, offset := o, lseq := l, sseq := q, job := some (jobStarted j ops) } } := by
  unfold beginJob
  split_ifs with hbegun
  · refine ⟨s.th.sector, s.th.offset, s.th.lseq, s.th.sseq, j.ops, ?_⟩
    rw [jobStarted, ← hbegun]
  · exact ⟨s.th.sector, s.th.offset, s.th.lseq, s.th.sseq, _, rfl⟩
  · obtain ⟨i, o, hsector⟩ := nextSector_rest s j.body.length
    obtain ⟨o', l, q, hlog⟩ := appendLog_rest (nextSector s j.body.length) (jobType j.kind) j.body
    refine ⟨i, o', l, q, (appendLog (nextSector s j.body.length) (jobType j.kind) j.body).1, ?_⟩
    dsimp only
    rw [hlog, hsector]
    rfl

/-- The running job's next operation has gone to the flash. -/
def opStarted (s : State) : State :=
  match s.th.job with
  | some ⟨k, b, a, g, op :: rest⟩ => { s with th := { s.th with op := some op, job := some ⟨k, b, a, g, rest⟩ } }
  | _ => s

/-- A log job that waits has come before the next page of the calibration record that runs. -/
def logFirst (s : State) (j : Job) : State :=
  match j.kind, s.th.jobs.filter (fun x => decide (x.kind ≠ JobKind.record)) with
  | .record, x :: _ =>
    if j.ops ≠ [] then beginJob { s with th := { s.th with jobs := j :: s.th.jobs.filter (fun y => decide (y ≠ x)) } } x
    else s
  | _, _ => s

theorem opStarted_rest {s : State} {j : Job} (h : s.th.job = some j) :
    ∃ o ops, opStarted s = { s with th := { s.th with op := o, job := some { j with ops := ops } } } := by
  obtain ⟨k, b, a, g, ops⟩ := j
  unfold opStarted
  rw [h]
  cases ops with
  | nil => exact ⟨s.th.op, [], congrArg (fun j => { s with th := { s.th with job := j } }) h⟩
  | cons op rest => exact ⟨some op, rest, rfl⟩

theorem logFirst_rest {s : State} {j : Job} (h : s.th.job = some j) : ∃ th k, logFirst s j = { s with th := th } ∧ th.job = some k := by
  unfold logFirst
  split
  · split_ifs
    · obtain ⟨i, o, l, q, ops, hbegin⟩ := beginJob_rest { s with th := { s.th with jobs := j :: s.th.jobs.filter (fun y => decide (y ≠ _)) } } _
      exact ⟨_, _, hbegin, rfl⟩
    · exact ⟨s.th, j, rfl, h⟩
  · exact ⟨s.th, j, rfl, h⟩

/-- What a flash operation that may start does: a host operation that waits goes first; with no job nothing is left to do. -/
theorem nextFlash_cases (s : State) : (∃ b, nextFlash s = { s with bt := b }) ∨ ∃ j, s.th.job = some j ∧ nextFlash s = opStarted (logFirst s j) := by
  unfold nextFlash
  split
  · exact .inl ⟨s.bt, rfl⟩
  cases s.bt.host with
  | some h => exact .inl ⟨_, rfl⟩
  | none =>
    cases hjob : s.th.job with
    | none => exact .inl ⟨s.bt, rfl⟩
    | some j => exact .inr ⟨j, rfl, rfl⟩

/-- The next flash operation touches the boot's and the Tollhouse's own records alone, and a running job is followed by a running job. -/
theorem nextFlash_rest (s : State) : ∃ b th, nextFlash s = { s with bt := b, th := th } ∧ (s.th.job.isSome = true → th.job.isSome = true) := by
  obtain ⟨b, h⟩ | ⟨j, hjob, h⟩ := nextFlash_cases s
  · exact ⟨b, s.th, h, id⟩
  · obtain ⟨th, k, hlog, hk⟩ := logFirst_rest hjob
    obtain ⟨o, ops, hop⟩ := opStarted_rest (s := { s with th := th }) hk
    exact ⟨s.bt, _, by rw [h, hlog, hop], fun _ => rfl⟩

/-- A log job that runs keeps the flash until it has ended. -/
theorem nextFlash_log {s : State} {j : Job} (hjob : s.th.job = some j) (hkind : j.kind ≠ JobKind.record) :
    ∃ b o ops, nextFlash s = { s with bt := b, th := { s.th with op := o, job := some { j with ops := ops } } } := by
  obtain ⟨b, h⟩ | ⟨k, hk, h⟩ := nextFlash_cases s
  · refine ⟨b, s.th.op, j.ops, ?_⟩
    rw [h, ← hjob]
  · obtain rfl : j = k := Option.some.inj (hjob.symm.trans hk)
    have hkept : logFirst s j = s := by
      unfold logFirst
      split
      · exact absurd ‹_› hkind
      · rfl
    obtain ⟨o, ops, hop⟩ := opStarted_rest hjob
    exact ⟨s.bt, o, ops, by rw [h, hkept, hop]⟩

/-- With no job running only a host operation can follow. -/
theorem nextFlash_idle {s : State} (hjob : s.th.job = none) : ∃ b, nextFlash s = { s with bt := b } := by
  obtain h | ⟨j, hj, -⟩ := nextFlash_cases s
  · exact h
  · exact absurd (hjob.symm.trans hj) (by simp)

theorem nextFlash_regs (s : State) : (nextFlash s).regs = s.regs := by obtain ⟨b, th, h, -⟩ := nextFlash_rest s; rw [h]
theorem nextFlash_flash (s : State) : (nextFlash s).flash = s.flash := by obtain ⟨b, th, h, -⟩ := nextFlash_rest s; rw [h]

/-- A waiting job leaves the queue. -/
def jobTaken (s : State) (j : Job) : State := { s with th := { s.th with jobs := s.th.jobs.erase j } }

theorem exec_tollhouseJob {s : State} {j : Job} (hidle : s.th.job = none) (hdriven : flashDriven s = true) (htsd : flag s TH_STATUS_TSD_PEND = false)
    (hpick : (s.th.jobs.find? (fun j => decide (j.kind = JobKind.epoch))).or s.th.jobs.head? = some j) :
    exec .tollhouseJob s = .next (nextFlash (setFlag (beginJob (jobTaken s j) j) TH_STATUS_WRITING true)) := by
  have hfree : ¬ (s.th.job.isSome = true ∨ flashDriven s = false ∨ flag s TH_STATUS_TSD_PEND = true) := by simp [hidle, hdriven, htsd]
  change execTollhouseJob s = _
  unfold execTollhouseJob
  rw [if_neg hfree]
  dsimp only
  rw [hpick]
  rfl

/-- A log job that waits begins. -/
theorem tollhouseJob_begins {s : State} {j : Job} (hs : s.RegsWf) (hidle : s.th.job = none) (hdriven : flashDriven s = true)
    (htsd : flag s TH_STATUS_TSD_PEND = false) (hkind : j.kind ≠ JobKind.record)
    (hpick : (s.th.jobs.find? (fun j => decide (j.kind = JobKind.epoch))).or s.th.jobs.head? = some j) :
    ∃ t k, exec .tollhouseJob s = .next t ∧ t.th.jobs = s.th.jobs.erase j ∧ t.th.job = some k ∧ k.kind = j.kind ∧ k.body = j.body
      ∧ flag t TH_STATUS_WRITING = true ∧ t.mem = s.mem ∧ t.flash = s.flash := by
  obtain ⟨i, o, l, q, ops, hbegin⟩ := beginJob_rest (jobTaken s j) j
  obtain ⟨b, op, rest, hnext⟩ := nextFlash_log (s := setFlag (beginJob (jobTaken s j) j) TH_STATUS_WRITING true) (j := jobStarted j ops)
    (by rw [hbegin]; rfl) hkind
  rw [exec_tollhouseJob hidle hdriven htsd hpick, hnext, hbegin]
  exact ⟨_, _, rfl, rfl, rfl, rfl, rfl, flag_setFlag_same (jobTaken s j) _ true hs (by decide) (by decide), rfl, rfl⟩

/-! ### The flash after an operation (R395, R418, R419) -/

theorem flashProgram_rest (s : State) (a : Nat) (bs : List Byte) : ∃ l, flashProgram s a bs = { s with flash := l } := by
  induction bs generalizing s a with
  | nil => exact ⟨s.flash, rfl⟩
  | cons b bs ih =>
    obtain ⟨l, h⟩ := ih { s with flash := cellPut flashDefault s.flash a (cellGet flashDefault s.flash a &&& b) } (a + 1)
    exact ⟨l, h⟩

/-- A program clears bits of the bytes in its range and leaves every other byte (log entry 6). -/
theorem cellGet_flashProgram (bs : List Byte) (s : State) (a b : Nat) (h : cellWf flashDefault s.flash = true) :
    cellGet flashDefault (flashProgram s a bs).flash b =
      if a ≤ b ∧ b < a + bs.length then cellGet flashDefault s.flash b &&& bs.getD (b - a) 0 else cellGet flashDefault s.flash b := by
  induction bs generalizing s a with
  | nil => rw [if_neg (by simp)]; rfl
  | cons x bs ih =>
    have hx : cellGet flashDefault (cellPut flashDefault s.flash a (cellGet flashDefault s.flash a &&& x)) b =
        if b = a then cellGet flashDefault s.flash a &&& x else cellGet flashDefault s.flash b := by
      split_ifs with hb
      · rw [hb, cellGet_cellPut_same _ _ _ _ h]
      · exact cellGet_cellPut_other _ _ _ _ _ hb
    rw [flashProgram, ih _ _ (cellWf_cellPut _ _ _ _ h), List.length_cons]
    dsimp only
    rw [hx]
    obtain hlt | rfl | hgt := Nat.lt_trichotomy b a
    · rw [if_neg (show b ≠ a by omega), if_neg (by omega), if_neg (by omega)]
    · rw [if_neg (by omega), if_pos rfl, if_pos (by omega), Nat.sub_self, List.getD_cons_zero]
    · have hin : (a + 1 ≤ b ∧ b < a + 1 + bs.length) ↔ (a ≤ b ∧ b < a + (bs.length + 1)) := by omega
      have hat : (x :: bs).getD (b - a) 0 = bs.getD (b - (a + 1)) 0 := by
        rw [show b - a = b - (a + 1) + 1 by omega, List.getD_cons_succ]
      rw [if_neg (show b ≠ a by omega), hat]
      exact if_congr hin rfl rfl

theorem flashUndefined_rest (s : State) (a n : Nat) : ∃ f l, flashUndefined s a n = { s with free := f, flash := l } := by
  unfold flashUndefined
  generalize List.range n = is
  induction is generalizing s with
  | nil => exact ⟨s.free, s.flash, rfl⟩
  | cons i is ih =>
    obtain ⟨f, l, h⟩ := ih { (fresh s 256).2 with flash := cellPut flashDefault (fresh s 256).2.flash (a + i) (BitVec.ofNat 8 (fresh s 256).1) }
    exact ⟨f, l, h⟩

/-- A Tollhouse operation moves the flash, its counters and free values. -/
theorem applyFlashOp_rest (s : State) (ok : Bool) (op : FlashOp) : ∃ r x f l, applyFlashOp s ok op = { s with regs := r, ty := x, free := f, flash := l } := by
  unfold applyFlashOp
  split
  · exact ⟨s.regs, s.ty, s.free, s.flash, rfl⟩
  cases op with
  | program a bs =>
    obtain ⟨l, hdone⟩ := flashProgram_rest s a bs
    obtain ⟨f, l', hfailed⟩ := flashUndefined_rest s a bs.length
    dsimp only
    split
    · exact ⟨_, s.ty, s.free, l, by rw [hdone]; rfl⟩
    · exact ⟨_, s.ty, f, l', by rw [hfailed]; rfl⟩
  | erase a n =>
    obtain ⟨f, l, hfailed⟩ := flashUndefined_rest s a n
    obtain ⟨r, x, hlife⟩ := life_rest (flashErase s a n) 15
    dsimp only
    cases ok with
    | true =>
      split
      · exact ⟨r, x, s.free, (flashErase s a n).flash, hlife⟩
      · exact ⟨s.regs, s.ty, s.free, (flashErase s a n).flash, rfl⟩
    | false => exact ⟨s.regs, s.ty, f, l, by simp only [Bool.false_eq_true, false_and, if_false, hfailed]⟩

theorem abandonJob_regs (s : State) (j : Job) : RegsOnly s (abandonJob s j) := by
  unfold abandonJob
  dsimp only
  split <;> exact ⟨_, rfl⟩

/-- An abandoned job runs no longer; what else it leaves is in registers and, for the epoch's, the boot's record. -/
theorem dropJob_rest (s : State) (j : Job) : ∃ r b, dropJob s j = { s with regs := r, bt := b, th := { s.th with job := none } } := by
  obtain ⟨r, h⟩ := abandonJob_regs { s with th := { s.th with job := none } } j
  unfold dropJob
  dsimp only
  rw [h]
  split <;> exact ⟨_, _, rfl⟩

theorem meetTollUe_rest (s : State) (ue : Option (BitVec 18)) : ∃ r f, meetTollUe s ue = { s with regs := r, fc := f } := by
  cases ue with
  | none => exact ⟨s.regs, s.fc, rfl⟩
  | some a => exact raise_rest s 0x400 0x06 clsContained false a.toNat

/-- The Tollhouse's operation has left the flash. -/
def opEnded (s : State) : State := { s with th := { s.th with op := none } }

section PageDone
variable {s : State} {op : FlashOp} {j : Job} {ok : Bool} {ue : Option (BitVec 18)} (hop : s.th.op = some op)
include hop

theorem exec_pageDone_idle (hjob : s.th.job = none) :
    exec (.tollhousePageDone ok ue) s = .next (nextFlash (meetTollUe (applyFlashOp (opEnded s) ok op) ue)) := by
  change execTollhousePageDone ok ue s = _
  unfold execTollhousePageDone
  split
  next _ _ _ hj => exact absurd (hjob.symm.trans hj) (by simp)
  next _ ho _ => obtain rfl := Option.some.inj (hop.symm.trans ho); rfl
  next ho => exact absurd (hop.symm.trans ho) (by simp)

variable (hjob : s.th.job = some j)
include hjob

theorem exec_pageDone_dropped (h : ok = false ∨ ue.isSome = true ∨ opProtected s op = true ∨ flag s TH_STATUS_TSD_PEND = true) :
    exec (.tollhousePageDone ok ue) s = .next (nextFlash (showWriting (dropJob (meetTollUe (applyFlashOp (opEnded s) ok op) ue) j))) := by
  change execTollhousePageDone ok ue s = _
  unfold execTollhousePageDone
  split
  next _ _ ho hj =>
    obtain rfl := Option.some.inj (hop.symm.trans ho)
    obtain rfl := Option.some.inj (hjob.symm.trans hj)
    dsimp only
    rw [if_pos h]
    rfl
  next _ _ hj => exact absurd (hjob.symm.trans hj) (by simp)
  next ho => exact absurd (hop.symm.trans ho) (by simp)

theorem exec_pageDone_goesOn (hprot : opProtected s op = false) (htsd : flag s TH_STATUS_TSD_PEND = false) (hops : j.ops ≠ []) :
    exec (.tollhousePageDone true none) s = .next (nextFlash (showWriting (applyFlashOp (opEnded s) true op))) := by
  change execTollhousePageDone true none s = _
  unfold execTollhousePageDone
  split
  next _ _ ho hj =>
    obtain rfl := Option.some.inj (hop.symm.trans ho)
    obtain rfl := Option.some.inj (hjob.symm.trans hj)
    dsimp only
    rw [if_neg (by simp [hprot, htsd]), if_neg fun h => hops h.1]
    rfl
  next _ _ hj => exact absurd (hjob.symm.trans hj) (by simp)
  next ho => exact absurd (hop.symm.trans ho) (by simp)

end PageDone

/-- A finished page is programmed, and the job goes on. -/
theorem pageDone_programs {s : State} {j : Job} {a : Nat} {bs : List Byte} (hflash : cellWf flashDefault s.flash = true)
    (hop : s.th.op = some (.program a bs)) (hjob : s.th.job = some j) (hops : j.ops ≠ []) (htsd : flag s TH_STATUS_TSD_PEND = false)
    (hprot : writeProtected s a bs.length = false) :
    ∃ t, exec (.tollhousePageDone true none) s = .next t ∧ t.th.job.isSome = true ∧ t.mem = s.mem
      ∧ ∀ b, cellGet flashDefault t.flash b = (if a ≤ b ∧ b < a + bs.length then cellGet flashDefault s.flash b &&& bs.getD (b - a) 0
          else cellGet flashDefault s.flash b) := by
  obtain ⟨l, hprogram⟩ := flashProgram_rest (opEnded s) a bs
  have happly : applyFlashOp (opEnded s) true (.program a bs) = bump { opEnded s with flash := l } (cNV_CNT 4) := by
    have hopen : ¬ opProtected (opEnded s) (.program a bs) = true := by
      change ¬ writeProtected s a bs.length = true
      simp [hprot]
    unfold applyFlashOp
    rw [if_neg hopen]
    dsimp only
    rw [if_pos rfl, hprogram]
  have hl : l = (flashProgram (opEnded s) a bs).flash := by rw [hprogram]
  obtain ⟨b, th, hnext, hruns⟩ := nextFlash_rest (showWriting (bump { opEnded s with flash := l } (cNV_CNT 4)))
  rw [exec_pageDone_goesOn hop hjob hprot htsd hops, happly, hnext]
  refine ⟨_, rfl, hruns (by change s.th.job.isSome = true; rw [hjob]; rfl), rfl, fun x => ?_⟩
  change cellGet flashDefault l x = _
  rw [hl]
  exact cellGet_flashProgram bs (opEnded s) a x hflash

/-- In a protected range nothing is written (R395). -/
theorem pageDone_protected {s : State} {op : FlashOp} (ok : Bool) (ue : Option (BitVec 18)) (hop : s.th.op = some op) (hprot : opProtected s op = true) :
    ∃ t, exec (.tollhousePageDone ok ue) s = .next t ∧ t.flash = s.flash := by
  have happly : applyFlashOp (opEnded s) ok op = opEnded s := if_pos (by cases op <;> exact hprot)
  obtain ⟨r, f, hmet⟩ := meetTollUe_rest (opEnded s) ue
  cases hjob : s.th.job with
  | none =>
    rw [exec_pageDone_idle hop hjob, happly, hmet]
    exact ⟨_, rfl, nextFlash_flash _⟩
  | some j =>
    obtain ⟨r', b, hdrop⟩ := dropJob_rest { opEnded s with regs := r, fc := f } j
    rw [exec_pageDone_dropped hop hjob (.inr (.inr (.inl hprot))), happly, hmet, hdrop]
    exact ⟨_, rfl, nextFlash_flash _⟩

/-- A contained fault is in its source's queue. -/
theorem mem_queueOf_raise_contained (s : State) (source kind : Nat) (b : Bool) (addr : Nat) {k : Nat} (hk : source % 2 ^ 12 = k) :
    faultMsg source kind clsContained b addr ∈ queueOf (raise s source kind clsContained b addr) k := by
  have hcls : ¬ (msgClass (faultMsg source kind clsContained b addr) = 1 ∧
      3 ≤ (queueOf s (msgSource (faultMsg source kind clsContained b addr))).length) := by
    rw [msgClass_faultMsg]
    exact fun h => absurd h.1 (by decide)
  unfold raise report
  rw [if_neg hcls, msgSource_faultMsg, hk, queueOf, setQueue, cellGet_cellPut_of_ne _ _ _ _ (by simp)]
  simp

/-- A job that meets an uncorrectable error is abandoned (R465). -/
theorem pageDone_uncorrectable {s : State} {op : FlashOp} {j : Job} (ok : Bool) (a : BitVec 18) (hop : s.th.op = some op) (hjob : s.th.job = some j) :
    ∃ t, exec (.tollhousePageDone ok (some a)) s = .next t ∧ t.th.job = none ∧ t.th.jobs = s.th.jobs
      ∧ faultMsg 0x400 0x06 clsContained false a.toNat ∈ queueOf t 0x400 := by
  obtain ⟨r, x, f, l, happly⟩ := applyFlashOp_rest (opEnded s) ok op
  have hqueue := mem_queueOf_raise_contained (applyFlashOp (opEnded s) ok op) 0x400 0x06 false a.toNat rfl
  obtain ⟨r', c, hmet⟩ := raise_rest (applyFlashOp (opEnded s) ok op) 0x400 0x06 clsContained false a.toNat
  obtain ⟨r'', b, hdrop⟩ := dropJob_rest (meetTollUe (applyFlashOp (opEnded s) ok op) (some a)) j
  obtain ⟨b', hnext⟩ := nextFlash_idle (s := showWriting (dropJob (meetTollUe (applyFlashOp (opEnded s) ok op) (some a)) j)) (by rw [hdrop]; rfl)
  rw [exec_pageDone_dropped hop hjob (.inr (.inl rfl)), hnext, hdrop, meetTollUe, hmet, happly]
  refine ⟨_, rfl, rfl, rfl, ?_⟩
  rw [hmet] at hqueue
  exact hqueue

/-! ### A calibration record has been written (R308) -/

/-- The slot for the next record. -/
def nextSlot (s : State) : Nat := if flag s CAL_STATUS_NOREC then 0 else 1 - getF s CAL_STATUS_SLOT

/-- The record's slot and sequence number show. -/
def slotShown (s : State) : State := setF (setF (setFlag s CAL_STATUS_NOREC false) CAL_STATUS_SLOT (nextSlot s)) CAL_SEQ_SEQ (getF s CAL_SEQ_SEQ + 1)

/-- No store is in progress, and REC_WRITTEN is raised. -/
def recordShown (s : State) : State :=
  event (setFlag (setFlag (slotShown s) CAL_STATUS_WRITING false) CAL_STATUS_PENDING s.cal.newer) CAL_INT_REC_WRITTEN

/-- What a written record counts. -/
def recordCounters : List Fld := counterFields (cCAL_CNT 8) ++ counterFields (cTH_CNT 6) ++ lifeFields 14

theorem recordWritten_writes (s : State) : RegWrites recordCounters (recordShown s) (recordWritten s) := by
  exact (((RegWrites.setCal _ _).trans (.bump _ (cCAL_CNT 8) (by simp [recordCounters]))).trans (.bump _ (cTH_CNT 6) (by simp [recordCounters]))).trans
    ((RegWrites.life _ 14).mono (by simp [recordCounters]))

section RecordShown
variable {s : State} (hs : s.RegsWf)
include hs

omit hs in
theorem nextSlot_lt : nextSlot s < 2 := by
  unfold nextSlot
  split <;> omega

theorem slotShown_fields : (slotShown s).RegsWf ∧ flag (slotShown s) CAL_STATUS_NOREC = false ∧ getF (slotShown s) CAL_STATUS_SLOT = nextSlot s
    ∧ getF (slotShown s) CAL_SEQ_SEQ = (getF s CAL_SEQ_SEQ + 1) % 2 ^ 32 := by
  have hnorec : (setFlag s CAL_STATUS_NOREC false).RegsWf := regsWf_setF _ _ _ hs
  have hslot := regsWf_setF _ CAL_STATUS_SLOT (nextSlot s) hnorec
  have hlater : RegWrites [CAL_STATUS_SLOT, CAL_SEQ_SEQ] (setFlag s CAL_STATUS_NOREC false) (slotShown s) :=
    (RegWrites.setF _ _ (by decide)).trans (.setF _ _ (by decide))
  refine ⟨hlater.wf hnorec, (hlater.flag hnorec (by decide) (by decide)).trans (flag_setFlag_same _ _ _ hs (by decide) (by decide)), ?_,
    getF_setF_same _ _ _ hslot (by decide)⟩
  calc getF (slotShown s) CAL_STATUS_SLOT
    _ = getF (setF (setFlag s CAL_STATUS_NOREC false) CAL_STATUS_SLOT (nextSlot s)) CAL_STATUS_SLOT := getF_setF_addr _ _ _ _ (by decide)
    _ = nextSlot s % 2 := getF_setF_same _ _ _ hnorec (by decide)
    _ = nextSlot s := Nat.mod_eq_of_lt nextSlot_lt

theorem recordShown_fields : (recordShown s).RegsWf ∧ flag (recordShown s) CAL_STATUS_WRITING = false ∧ flag (recordShown s) CAL_INT_REC_WRITTEN = true := by
  have hwf := (slotShown_fields hs).1
  have hwriting : (setFlag (slotShown s) CAL_STATUS_WRITING false).RegsWf := regsWf_setF _ _ _ hwf
  have hlater : RegWrites [CAL_STATUS_PENDING, CAL_INT_REC_WRITTEN] (setFlag (slotShown s) CAL_STATUS_WRITING false) (recordShown s) :=
    (RegWrites.setFlag _ _ (by decide)).trans (.event _ (by decide))
  exact ⟨hlater.wf hwriting, (hlater.flag hwriting (by decide) (by decide)).trans (flag_setFlag_same _ _ _ hwf (by decide) (by decide)),
    flag_event_same _ _ (regsWf_setF _ _ _ hwriting) (by decide) (by decide)⟩

end RecordShown

theorem recordShown_regs (s : State) : RegsOnly s (recordShown s) :=
  (((((RegsOnly.setFlag s _ _).trans (.setF _ _ _)).trans (.setF _ _ _)).trans (.setFlag _ _ _)).trans (.setFlag _ _ _)).trans (.event _ _)

theorem recordWritten_rest (s : State) : ∃ r x c, recordWritten s = { s with regs := r, ty := x, cal := c } := by
  obtain ⟨r, hshown⟩ := recordShown_regs s
  have hwritten : recordWritten s = life (bump (bump { recordShown s with cal := { s.cal with newer := false } } (cCAL_CNT 8)) (cTH_CNT 6)) 14 := rfl
  rw [hshown] at hwritten
  obtain ⟨r', hcounted⟩ := (RegsOnly.bump { s with regs := r, cal := { s.cal with newer := false } } (cCAL_CNT 8)).trans (.bump _ (cTH_CNT 6))
  obtain ⟨r'', x, hlife⟩ := life_rest { s with regs := r', cal := { s.cal with newer := false } } 14
  exact ⟨r'', x, _, hwritten.trans ((congrArg (life · 14) hcounted).trans hlife)⟩

/-- The job that ran has ended. -/
def jobEnded (s : State) : State := { s with th := { s.th with job := none } }

theorem exec_calRecordWriteDone {s : State} {j : Job} (hjob : s.th.job = some j) (hkind : j.kind = JobKind.record) (hops : j.ops = [])
    (hop : s.th.op = none) (hbegun : j.begun = true) :
    exec .calRecordWriteDone s = .next (nextFlash (showWriting (recordWritten (jobEnded s)))) := by
  change execCalRecordWriteDone s = _
  unfold execCalRecordWriteDone
  split
  next _ hj =>
    obtain rfl := Option.some.inj (hjob.symm.trans hj)
    rw [if_pos ⟨hkind, hops, hop, hbegun⟩]
    rfl
  next hj => exact absurd (hjob.symm.trans hj) (by simp)

/-- After the last page of a record its slot, its sequence number and REC_WRITTEN show. -/
theorem recordWriteDone_shows {s : State} {j : Job} (hs : s.RegsWf) (hjob : s.th.job = some j) (hkind : j.kind = JobKind.record) (hops : j.ops = [])
    (hop : s.th.op = none) (hbegun : j.begun = true) :
    ∃ t, exec .calRecordWriteDone s = .next t ∧ flag t CAL_STATUS_WRITING = false ∧ flag t CAL_STATUS_NOREC = false
      ∧ getF t CAL_STATUS_SLOT = nextSlot s ∧ getF t CAL_SEQ_SEQ = (getF s CAL_SEQ_SEQ + 1) % 2 ^ 32 ∧ flag t CAL_INT_REC_WRITTEN = true
      ∧ t.th.job = none ∧ t.flash = s.flash := by
  obtain ⟨r, x, c, hrest⟩ := recordWritten_rest (jobEnded s)
  obtain ⟨b, hnext⟩ := nextFlash_idle (s := showWriting (recordWritten (jobEnded s))) (by rw [hrest]; rfl)
  obtain ⟨hslotWf, hnorec, hslot, hseq⟩ := slotShown_fields (s := jobEnded s) hs
  obtain ⟨hwf, hwriting, hint⟩ := recordShown_fields (s := jobEnded s) hs
  have hshown : RegWrites [CAL_STATUS_WRITING, CAL_STATUS_PENDING, CAL_INT_REC_WRITTEN] (slotShown (jobEnded s)) (recordShown (jobEnded s)) :=
    ((RegWrites.setFlag _ _ (by decide)).trans (.setFlag _ _ (by decide))).trans (.event _ (by decide))
  have hlast : RegWrites (TH_STATUS_WRITING :: recordCounters) (recordShown (jobEnded s)) (nextFlash (showWriting (recordWritten (jobEnded s)))) :=
    (((recordWritten_writes _).mono (List.subset_cons_self _ _)).trans (.setFlag _ _ (by simp))).regs_eq (nextFlash_regs _)
  refine ⟨_, exec_calRecordWriteDone hjob hkind hops hop hbegun, (hlast.flag hwf (by decide) (by decide)).trans hwriting, ?_, ?_, ?_,
    (hlast.flag hwf (by decide) (by decide)).trans hint, ?_, ?_⟩
  · exact (hlast.flag hwf (by decide) (by decide)).trans ((hshown.flag hslotWf (by decide) (by decide)).trans hnorec)
  · exact (hlast.getF hwf (by decide) (by decide)).trans ((hshown.getF hslotWf (by decide) (by decide)).trans hslot)
  · exact (hlast.getF hwf (by decide) (by decide)).trans ((hshown.getF hslotWf (by decide) (by decide)).trans hseq)
  · rw [hnext, hrest]; rfl
  · rw [hnext, hrest]; rfl

/-- Settles O54: the flash's next operation leaves a log job running and follows no job with none; a page's program, its refusal and its uncorrectable error
are each followed to the flash, the queue and the job they leave, a record's end through the fields it shows. -/
theorem tollhouseJobs : Obligations.TollhouseJobs := by
  unfold Obligations.TollhouseJobs
  exact ⟨fun s j hc hidle hdriven htsd hkind hpick => tollhouseJob_begins hc.1 hidle hdriven htsd hkind hpick,
    fun s j a bs hc hop hjob hops htsd hprot => pageDone_programs hc.2.2 hop hjob hops htsd hprot,
    fun s op ok ue hop hprot => pageDone_protected ok ue hop hprot,
    fun s op j ok a _ hop hjob => pageDone_uncorrectable ok a hop hjob,
    fun s j hc hjob hkind hops hop hbegun => recordWriteDone_shows hc.1 hjob hkind hops hop hbegun⟩

end Sys2Proof.Machine

namespace Sys2Proof.Machine

/-! ### Sequencers and their registers (R297) -/

/-- The fields in which a span's sequencer shows. -/
def seqFields (n : Nat) : List Fld :=
  [CAL_SPAN_STATUS_DUE n, CAL_SPAN_STATUS_STEP n, CAL_SPAN_STATUS_PIER n, if n < 32 then ⟨aCAL_DUE_LO, n, n⟩ else ⟨aCAL_DUE_HI, n - 32, n - 32⟩]

theorem apart_seqFields {n : Nat} {f : Fld} (hspan : f.addr ≠ aCAL_SPAN_STATUS n) (hlo : f.addr ≠ aCAL_DUE_LO) (hhi : f.addr ≠ aCAL_DUE_HI) :
    ∀ g ∈ seqFields n, Apart f g := by
  simp only [seqFields, List.mem_cons, List.not_mem_nil, or_false, forall_eq_or_imp, forall_eq]
  refine ⟨.inl hspan, .inl hspan, .inl hspan, .inl ?_⟩
  split
  · exact hlo
  · exact hhi

theorem calCounter_apart_seqFields {n : Nat} (c : Nat) (hn : n < 36) : ∀ g ∈ seqFields n, Apart ⟨cCAL_CNT c, 31, 0⟩ g ∧ Apart ⟨cCAL_CNT c + 4, 15, 0⟩ g := by
  have hlow : cCAL_CNT c ≠ aCAL_SPAN_STATUS n ∧ cCAL_CNT c ≠ aCAL_DUE_LO ∧ cCAL_CNT c ≠ aCAL_DUE_HI := by
    unfold cCAL_CNT aCAL_SPAN_STATUS aCAL_DUE_LO aCAL_DUE_HI dkBase spBase
    omega
  have hhigh : cCAL_CNT c + 4 ≠ aCAL_SPAN_STATUS n ∧ cCAL_CNT c + 4 ≠ aCAL_DUE_LO ∧ cCAL_CNT c + 4 ≠ aCAL_DUE_HI := by
    unfold cCAL_CNT aCAL_SPAN_STATUS aCAL_DUE_LO aCAL_DUE_HI dkBase spBase
    omega
  exact fun g hg => ⟨apart_seqFields hlow.1 hlow.2.1 hlow.2.2 g hg, apart_seqFields hhigh.1 hhigh.2.1 hhigh.2.2 g hg⟩

section Seq
variable (s : State) (n : Nat) (q : CalSeq)

theorem showSeq_regs : RegsOnly s (showSeq s n q) := (((RegsOnly.setF s _ _).trans (.setFlag _ _ _)).trans (.setF _ _ _)).trans (.setFlag _ _ _)

theorem showSeq_writes : RegWrites (seqFields n) s (showSeq s n q) :=
  (((RegWrites.setF s _ (by simp [seqFields])).trans (.setFlag _ _ (by simp [seqFields]))).trans (.setF _ _ (by simp [seqFields]))).trans
    (.setFlag _ _ (by simp [seqFields]))

/-- A sequencer is replaced in the table of sequencers and shown in registers. -/
theorem setSeq_rest : ∃ r, setSeq s n q = { s with regs := r, cal := { s.cal with seqs := cellPut (fun _ => CalSeq.init) s.cal.seqs n q } } :=
  showSeq_regs { s with cal := { s.cal with seqs := cellPut (fun _ => CalSeq.init) s.cal.seqs n q } } n q

theorem setSeq_writes : RegWrites (seqFields n) s (setSeq s n q) :=
  (RegWrites.setCal s _).trans (showSeq_writes _ n q)

theorem setSeq_seqs : (setSeq s n q).cal.seqs = cellPut (fun _ => CalSeq.init) s.cal.seqs n q := by
  obtain ⟨r, h⟩ := setSeq_rest s n q
  rw [h]

variable {s}

theorem seqOf_setSeq_same (h : SeqsWf s) : seqOf (setSeq s n q) n = q := by
  rw [seqOf, setSeq_seqs, cellGet_cellPut_same _ _ _ _ h]

theorem seqOf_setSeq_other {k : Nat} (h : k ≠ n) : seqOf (setSeq s n q) k = seqOf s k := by
  rw [seqOf, setSeq_seqs, cellGet_cellPut_other _ _ _ _ _ h]
  rfl

theorem seqOf_congr {t : State} (h : t.cal.seqs = s.cal.seqs) (k : Nat) : seqOf t k = seqOf s k := by rw [seqOf, h, seqOf]

theorem seqsWf_congr {t : State} (h : t.cal.seqs = s.cal.seqs) (hs : SeqsWf s) : SeqsWf t := by rw [SeqsWf, h]; exact hs

end Seq

@[simp] theorem runOf_withRun (q : CalSeq) (k : Nat) (r : Option CalRun) : runOf (withRun q k r) k = r := by
  unfold withRun runOf
  split_ifs <;> rfl

@[simp] theorem withRun_running (q : CalSeq) (k : Nat) (r : Option CalRun) : (withRun q k r).running = q.running := by
  unfold withRun
  split_ifs <;> rfl

/-! ### Front ends (R295) -/

theorem holdFronts_rest (s : State) (b : Bool) (gs : List Nat) : ∃ x, holdFronts s b gs = { s with te := x } := by
  unfold holdFronts
  induction gs generalizing s with
  | nil => exact ⟨s.te, rfl⟩
  | cons g gs ih =>
    obtain ⟨x, h⟩ := ih (setMon s g { monOf s g with calHeld := b, cal := (monOf s g).cal || (b && (monOf s g).opened) })
    exact ⟨x, h⟩

theorem releaseFronts_rest (s : State) (n : Nat) : ∃ x, releaseFronts s n = { s with te := x } := holdFronts_rest s false _

theorem freeFronts_rest (s : State) (n : Nat) : ∃ x, freeFronts s n = { s with te := x } := by
  unfold freeFronts
  split
  · exact ⟨s.te, rfl⟩
  · exact releaseFronts_rest s n

theorem heldPiers_rest (s : State) (n : Nat) (x : CalStep) : ∃ f, (heldPiers s n x).2 = { s with free := f } := by
  unfold heldPiers
  split <;> exact ⟨_, rfl⟩

/-! ### The end of a run (R293) -/

/-- The fields that recorded temperatures write (R293). -/
def tempFields : List Fld := CAL_INT_ZONE_ERR :: (List.range 9).map CAL_ZTEMP_TEMP

theorem recordZone_rest (s : State) (n k z : Nat) (core : Bool) :
    ∃ r ts, recordZone s n k z core = { s with regs := r, cal := { s.cal with temps := ts } } := by
  unfold recordZone
  split <;> exact ⟨_, _, rfl⟩

theorem recordZone_writes (s : State) (n k : Nat) {z : Nat} (core : Bool) (hz : z < 9) : RegWrites tempFields s (recordZone s n k z core) := by
  have htemp : CAL_ZTEMP_TEMP z ∈ tempFields := List.mem_cons_of_mem _ (List.mem_map_of_mem (List.mem_range.mpr hz))
  unfold recordZone
  split
  next => exact (RegWrites.setCal s _).trans (.setF _ _ htemp)
  next => exact .event s (List.mem_cons_self ..)

theorem recordTemps_rest (s : State) (n k : Nat) : ∃ r ts, recordTemps s n k = { s with regs := r, cal := { s.cal with temps := ts } } := by
  obtain ⟨r, ts, hspan⟩ := recordZone_rest s n k (getF s (CAL_SPAN_CFG_ZONE n)) false
  obtain ⟨r', ts', hcore⟩ := recordZone_rest (recordZone s n k (getF s (CAL_SPAN_CFG_ZONE n)) false) n k 8 true
  refine ⟨r', ts', ?_⟩
  rw [recordTemps, hcore, hspan]

theorem recordTemps_writes (s : State) (n k : Nat) : RegWrites tempFields s (recordTemps s n k) := by
  have hzone : getF s (CAL_SPAN_CFG_ZONE n) < 2 ^ 3 := getF_lt s (CAL_SPAN_CFG_ZONE n)
  exact (recordZone_writes s n k false (by omega)).trans (recordZone_writes _ n k true (by decide))

section EndRun
variable (s : State) (n k : Nat)

/-- Besides registers and calibration's own record a run's end moves deadlines. -/
theorem endRun_rest : ∃ r ts x, endRun s n k = { s with regs := r, timers := x, cal := { s.cal with
    seqs := cellPut (fun _ => CalSeq.init) s.cal.seqs n (withRun (seqOf s n) k none), temps := ts } } := by
  obtain ⟨r, hset⟩ := setSeq_rest s n (withRun (seqOf s n) k none)
  obtain ⟨r', ts, htemps⟩ := recordTemps_rest (setSeq s n (withRun (seqOf s n) k none)) n k
  rw [hset] at htemps
  unfold endRun
  dsimp only
  rw [hset, htemps]
  split
  · exact ⟨r', ts, _, rfl⟩
  · exact ⟨r', ts, s.timers, rfl⟩

theorem endRun_writes : RegWrites (seqFields n ++ tempFields) s (endRun s n k) := by
  have htemps : RegWrites (seqFields n ++ tempFields) s (recordTemps (setSeq s n (withRun (seqOf s n) k none)) n k) :=
    ((setSeq_writes s n _).mono (List.subset_append_left _ _)).trans ((recordTemps_writes _ n k).mono (List.subset_append_right _ _))
  exact .ite (fun _ => htemps.regs_eq rfl) (fun _ => htemps)

theorem seqOf_endRun {s : State} (h : SeqsWf s) : seqOf (endRun s n k) n = withRun (seqOf s n) k none := by
  obtain ⟨r, ts, x, hend⟩ := endRun_rest s n k
  rw [hend]
  exact cellGet_cellPut_same _ _ _ _ h

theorem endRun_ext_timer : timerAt (.extRun n) (endRun s n 2).timers = none := timerAt_disarm_same _ _

end EndRun

/-! ### A step begins (R294 to R297) -/

/-- The sequencer of a span in which a step has begun, with the run that it belongs to. -/
def seqStarted (s : State) (n k : Nat) (x : CalStep) (rest : List CalStep) : CalSeq :=
  withRun { seqOf s n with running := some x, deck := match x with | .compare l => getF s (PR_OUT_OWNER n l) | _ => 0 } k (some ⟨rest, s.elapsed⟩)

theorem exec_calStepStart {s : State} {n : Span} {k : Nat} {x : CalStep} {rest : List CalStep} (hidle : (seqOf s n).running = none)
    (hruns : calRuns s n = true) (hchosen : chooseStep s n = some (k, x, rest)) :
    exec (.calStepStart n) s = .next (holdFronts (setSeq (heldPiers s n x).2 n (seqStarted s n k x rest)) true (heldPiers s n x).1) := by
  have hstart : (seqOf s n).running.isNone = true ∧ calRuns s n = true := ⟨by rw [hidle]; rfl, hruns⟩
  change execCalStepStart n s = _
  unfold execCalStepStart
  dsimp only
  rw [if_pos hstart, hchosen]
  rfl

/-- The chosen step runs, and its run keeps the steps that are left. -/
theorem calStepStart_runs {s : State} {n : Span} {k : Nat} {x : CalStep} {rest : List CalStep} (hwf : SeqsWf s) (hidle : (seqOf s n).running = none)
    (hruns : calRuns s n = true) (hchosen : chooseStep s n = some (k, x, rest)) :
    ∃ t, exec (.calStepStart n) s = .next t ∧ (seqOf t n).running = some x ∧ runOf (seqOf t n) k = some ⟨rest, s.elapsed⟩
      ∧ (∀ j, j ≠ n.val → seqOf t j = seqOf s j) ∧ t.mem = s.mem ∧ t.flash = s.flash := by
  obtain ⟨f, hheld⟩ := heldPiers_rest s n x
  have hseqs : (heldPiers s n x).2.cal.seqs = s.cal.seqs := by rw [hheld]
  obtain ⟨te, hfronts⟩ := holdFronts_rest (setSeq (heldPiers s n x).2 n (seqStarted s n k x rest)) true (heldPiers s n x).1
  obtain ⟨r, hset⟩ := setSeq_rest (heldPiers s n x).2 n (seqStarted s n k x rest)
  have hsame : ∀ j, seqOf (holdFronts (setSeq (heldPiers s n x).2 n (seqStarted s n k x rest)) true (heldPiers s n x).1) j
      = seqOf (setSeq (heldPiers s n x).2 n (seqStarted s n k x rest)) j := seqOf_congr (by rw [hfronts])
  have hseq := (hsame n).trans (seqOf_setSeq_same n (seqStarted s n k x rest) (seqsWf_congr hseqs hwf))
  refine ⟨_, exec_calStepStart hidle hruns hchosen, by rw [hseq]; exact withRun_running _ _ _, by rw [hseq]; exact runOf_withRun _ _ _,
    fun j hj => (hsame j).trans ((seqOf_setSeq_other _ _ hj).trans (seqOf_congr hseqs j)), ?_, ?_⟩
  · rw [hfronts, hset, hheld]
  · rw [hfronts, hset, hheld]

/-! ### A step ends (R288, R289) -/

/-- The step of a span has ended: nothing runs, its front ends are free, and its kind is counted. -/
def stepEnded (s : State) (n : Nat) (x : CalStep) : State :=
  bump (freeFronts (setSeq s n { seqOf s n with running := none }) n) (cCAL_CNT (kindOf x).2)

theorem exec_calStepEnd {s : State} {n : Span} (r : CalReading) {x : CalStep} (h : (seqOf s n).running = some x) :
    exec (.calStepEnd n r) s = .next (settleRun (stepResult (stepEnded s n x) n x r) n (kindOf x).1) := by
  change execCalStepEnd n r s = _
  unfold execCalStepEnd
  dsimp only
  rw [h]
  rfl

section StepEnded
variable (s : State) (n : Nat) (x : CalStep)

theorem stepEnded_rest : ∃ r te, stepEnded s n x = { s with regs := r, te := te, cal := { s.cal with
    seqs := cellPut (fun _ => CalSeq.init) s.cal.seqs n { seqOf s n with running := none } } } := by
  obtain ⟨r, hset⟩ := setSeq_rest s n { seqOf s n with running := none }
  obtain ⟨te, hfronts⟩ := freeFronts_rest (setSeq s n { seqOf s n with running := none }) n
  rw [stepEnded, hfronts, hset]
  exact ⟨_, te, rfl⟩

/-- Before the count nothing but the sequencer's registers was written. -/
theorem freeFronts_writes : RegWrites (seqFields n) s (freeFronts (setSeq s n { seqOf s n with running := none }) n) := by
  obtain ⟨te, hfronts⟩ := freeFronts_rest (setSeq s n { seqOf s n with running := none }) n
  exact (setSeq_writes s n _).regs_eq (by rw [hfronts])

theorem stepEnded_writes : RegWrites (seqFields n ++ counterFields (cCAL_CNT (kindOf x).2)) s (stepEnded s n x) :=
  ((freeFronts_writes s n).mono (List.subset_append_left _ _)).trans (.bump _ _ (List.subset_append_right _ _))

/-- The kind's steps are counted. -/
theorem count_stepEnded (hs : s.RegsWf) (hn : n < 36) : count (stepEnded s n x) (cCAL_CNT (kindOf x).2)
    = (count s (cCAL_CNT (kindOf x).2) + 1) % 2 ^ 48 := by
  have hfree := freeFronts_writes s n
  calc count (stepEnded s n x) (cCAL_CNT (kindOf x).2)
    _ = (count (freeFronts (setSeq s n { seqOf s n with running := none }) n) (cCAL_CNT (kindOf x).2) + 1) % 2 ^ 48 := count_bumpBy _ _ _ (hfree.wf hs)
    _ = (count s (cCAL_CNT (kindOf x).2) + 1) % 2 ^ 48 := by rw [hfree.count hs (calCounter_apart_seqFields _ hn)]

theorem seqsWf_stepEnded (h : SeqsWf s) : SeqsWf (stepEnded s n x) := by
  obtain ⟨r, te, hend⟩ := stepEnded_rest s n x
  rw [hend]
  exact cellWf_cellPut _ _ _ _ h

theorem seqOf_stepEnded (h : SeqsWf s) : seqOf (stepEnded s n x) n = { seqOf s n with running := none } := by
  obtain ⟨r, te, hend⟩ := stepEnded_rest s n x
  rw [hend]
  exact cellGet_cellPut_same _ _ _ _ h

end StepEnded

/-- A run that a step leaves goes on, begins its next round, or ends. -/
theorem settleRun_cases (s : State) (n k : Nat) : settleRun s n k = s ∨ (∃ q, k = 2 ∧ q.running = (seqOf s n).running ∧ settleRun s n k = setSeq s n q)
    ∨ settleRun s n k = endRun s n k := by
  unfold settleRun
  split
  next r _ =>
    split
    next h => exact .inr (.inr (by rw [h.1]))
    · split
      · exact .inl rfl
      · split
        next h => exact .inr (.inl ⟨_, h, withRun_running _ _ _, rfl⟩)
        · exact .inr (.inr rfl)
  next => exact .inl rfl

theorem settleRun_writes (s : State) (n k : Nat) : RegWrites (seqFields n ++ tempFields) s (settleRun s n k) := by
  obtain h | ⟨q, -, -, h⟩ | h := settleRun_cases s n k
  · rw [h]; exact .refl s
  · rw [h]; exact (setSeq_writes s n q).mono (List.subset_append_left _ _)
  · rw [h]; exact endRun_writes s n k

theorem running_settleRun {s : State} (n k : Nat) (h : SeqsWf s) : (seqOf (settleRun s n k) n).running = (seqOf s n).running := by
  obtain hset | ⟨q, -, hq, hset⟩ | hset := settleRun_cases s n k
  · rw [hset]
  · rw [hset, seqOf_setSeq_same _ _ h, hq]
  · rw [hset, seqOf_endRun _ _ h, withRun_running]

end Sys2Proof.Machine

namespace Sys2Proof.Machine

/-! ### Results that are accepted or rejected (R288, R289) -/

section Results
variable (s : State)

theorem accepted_rest : ∃ r b, accepted s = { s with regs := r, cal := { s.cal with newer := b } } := by
  unfold accepted
  split
  · exact ⟨s.regs, _, rfl⟩
  · exact ⟨_, s.cal.newer, rfl⟩

theorem accepted_writes : RegWrites [CAL_STATUS_PENDING] s (accepted s) := .ite (fun _ => .setCal s _) (fun _ => .setFlag s _ (by simp))

/-- The fields that a class P rejection writes. -/
def rejectFields : List Fld := CAL_INT_FAIL_P :: counterFields (cCAL_CNT 5) ++ reportFields

variable (source address : Nat)

theorem rejectP_rest : ∃ r f, rejectP s source address = { s with regs := r, fc := f } :=
  raise_rest (event (bump s (cCAL_CNT 5)) CAL_INT_FAIL_P) source 0x31 clsCorrected false address

theorem rejectP_writes : RegWrites rejectFields s (rejectP s source address) :=
  ((RegWrites.bump s (cCAL_CNT 5) (by simp [rejectFields])).trans (.event _ (by simp [rejectFields]))).trans
    ((RegWrites.raise _ source 0x31 clsCorrected false address).mono (List.subset_append_right _ _))

/-- A class P rejection raises FAIL_P. -/
theorem flag_rejectP {s : State} (hs : s.RegsWf) : flag (rejectP s source address) CAL_INT_FAIL_P = true :=
  ((RegWrites.raise _ source 0x31 clsCorrected false address).flag (regsWf_setF _ _ _ (regsWf_bumpBy _ _ _ hs)) (by decide) (by decide)).trans
    (flag_event_same _ _ (regsWf_bumpBy _ _ _ hs) (by decide) (by decide))

end Results

/-! ### A bandwidth trim (R286, R289) -/

/-- The field of a filter code's bandwidth trim. -/
def bandwidthFld (n f : Nat) : Fld := ⟨aCAL_BW n, 8 * f + 7, 8 * f⟩

/-- Bandwidth trims stand in their span's window, below the other blocks. -/
theorem bandwidth_below_decks {n a : Nat} (hn : n < 36) (ha : dkBase ≤ a) : aCAL_BW n < a := by
  unfold aCAL_BW spBase
  unfold dkBase at ha
  omega

theorem rejectFields_in_blocks : ∀ g ∈ rejectFields, dkBase ≤ g.addr := by decide

/-- A span's bandwidth trims share no word with what a run's end writes. -/
theorem bandwidth_ne_settled {n : Nat} (hn : n < 36) : ∀ g ∈ seqFields n ++ tempFields, aCAL_BW n ≠ g.addr := by
  have hspan : aCAL_BW n ≠ aCAL_SPAN_STATUS n := by
    unfold aCAL_BW aCAL_SPAN_STATUS spBase
    omega
  have htemp : ∀ g ∈ tempFields, dkBase ≤ g.addr := by decide
  intro g hg
  rcases List.mem_append.mp hg with hg | hg
  · simp only [seqFields, List.mem_cons, List.not_mem_nil, or_false] at hg
    obtain rfl | rfl | rfl | rfl := hg
    · exact hspan
    · exact hspan
    · exact hspan
    · split
      · exact (bandwidth_below_decks hn (show dkBase ≤ aCAL_DUE_LO by decide)).ne
      · exact (bandwidth_below_decks hn (show dkBase ≤ aCAL_DUE_HI by decide)).ne
  · exact (bandwidth_below_decks hn (htemp g hg)).ne

theorem failP_apart_settled {n : Nat} : ∀ g ∈ seqFields n ++ tempFields, Apart CAL_INT_FAIL_P g := by
  have haddr : aCAL_INT ≠ aCAL_SPAN_STATUS n := by
    unfold aCAL_INT aCAL_SPAN_STATUS dkBase spBase
    omega
  have htemp : ∀ g ∈ tempFields, Apart CAL_INT_FAIL_P g := by decide
  intro g hg
  rcases List.mem_append.mp hg with hg | hg
  · exact apart_seqFields haddr (by decide) (by decide) g hg
  · exact htemp g hg

theorem calCounter_apart_settled {n : Nat} (hn : n < 36) :
    ∀ g ∈ seqFields n ++ tempFields, Apart ⟨cCAL_CNT 2, 31, 0⟩ g ∧ Apart ⟨cCAL_CNT 2 + 4, 15, 0⟩ g := by
  have htemp : ∀ g ∈ tempFields, Apart ⟨cCAL_CNT 2, 31, 0⟩ g ∧ Apart ⟨cCAL_CNT 2 + 4, 15, 0⟩ g := by decide
  intro g hg
  rcases List.mem_append.mp hg with hg | hg
  · exact calCounter_apart_seqFields 2 hn g hg
  · exact htemp g hg

section Bandwidth
variable {s : State} {n : Span} {r : CalReading} {f : Nat}

theorem stepResult_bandwidth_stored (hlow : 8 ≤ r.bandwidth.toNat) (hhigh : r.bandwidth.toNat ≤ 247) (hwithin : r.within = true) :
    stepResult s n (.bandwidth f) r = accepted (setF s (bandwidthFld n f) r.bandwidth.toNat) := if_pos ⟨hlow, hhigh, hwithin⟩

theorem stepResult_bandwidth_rejected (h : r.bandwidth.toNat < 8 ∨ 247 < r.bandwidth.toNat ∨ r.within = false) :
    stepResult s n (.bandwidth f) r = rejectP s (0x200 + 4 * n) 0x7FFF := by
  refine if_neg fun ⟨hlow, hhigh, hwithin⟩ => ?_
  obtain h | h | h := h
  · omega
  · omega
  · exact absurd (h.symm.trans hwithin) (by decide)

/-- Either way the result leaves the sequencers alone. -/
theorem stepResult_bandwidth_seqs : (stepResult s n (.bandwidth f) r).cal.seqs = s.cal.seqs := by
  unfold stepResult
  dsimp only
  split
  · obtain ⟨r', b, h⟩ := accepted_rest (setF s (bandwidthFld n f) r.bandwidth.toNat)
    exact (congrArg (·.cal.seqs) h).trans rfl
  · obtain ⟨r', c, h⟩ := rejectP_rest s (0x200 + 4 * n) 0x7FFF
    rw [h]

theorem stepResult_bandwidth_writes : RegWrites (bandwidthFld n f :: CAL_STATUS_PENDING :: rejectFields) s (stepResult s n (.bandwidth f) r) :=
  .ite (fun _ => (RegWrites.setF s _ (by simp [bandwidthFld])).trans ((accepted_writes _).mono (by simp)))
    (fun _ => (rejectP_writes s _ _).mono fun _ h => by simp [h])

/-- Nothing of a span's bandwidth trims is a counter. -/
theorem count_stepResult_bandwidth (hs : s.RegsWf) : count (stepResult s n (.bandwidth f) r) (cCAL_CNT 2) = count s (cCAL_CNT 2) := by
  have hne : cCAL_CNT 2 ≠ aCAL_BW n ∧ cCAL_CNT 2 + 4 ≠ aCAL_BW n := by
    unfold cCAL_CNT aCAL_BW dkBase spBase
    omega
  have hrest : ∀ g ∈ CAL_STATUS_PENDING :: rejectFields, Apart ⟨cCAL_CNT 2, 31, 0⟩ g ∧ Apart ⟨cCAL_CNT 2 + 4, 15, 0⟩ g := by decide
  exact stepResult_bandwidth_writes.count hs (List.forall_mem_cons.mpr ⟨⟨.inl hne.1, .inl hne.2⟩, hrest⟩)

/-- A bandwidth step's end: a trim in range and confirmed is stored, any other raises FAIL_P. -/
theorem calStepEnd_bandwidth (hs : s.RegsWf) (hwf : SeqsWf s) (hf : f < 4) (hrun : (seqOf s n).running = some (.bandwidth f)) :
    ∃ t, exec (.calStepEnd n r) s = .next t ∧ (seqOf t n).running = none ∧ count t (cCAL_CNT 2) = (count s (cCAL_CNT 2) + 1) % 2 ^ 48 ∧
      (8 ≤ r.bandwidth.toNat → r.bandwidth.toNat ≤ 247 → r.within = true → bitsOf (rd t (aCAL_BW n)) (8 * f + 7) (8 * f) = r.bandwidth.toNat) ∧
      ((r.bandwidth.toNat < 8 ∨ 247 < r.bandwidth.toNat ∨ r.within = false) → rd t (aCAL_BW n) = rd s (aCAL_BW n) ∧ flag t CAL_INT_FAIL_P = true) := by
  have hn : n.val < 36 := n.isLt
  have hended := stepEnded_writes s n (.bandwidth f)
  have hendedWf := hended.wf hs
  have hresult := stepResult_bandwidth_writes (s := stepEnded s n (.bandwidth f)) (n := n) (r := r) (f := f)
  have hresultWf := hresult.wf hendedWf
  have hsettled := settleRun_writes (stepResult (stepEnded s n (.bandwidth f)) n (.bandwidth f) r) n 1
  have hseqs : SeqsWf (stepResult (stepEnded s n (.bandwidth f)) n (.bandwidth f) r) :=
    seqsWf_congr stepResult_bandwidth_seqs (seqsWf_stepEnded s n _ hwf)
  refine ⟨_, exec_calStepEnd r hrun, ?_, ?_, fun hlow hhigh hwithin => ?_, fun hbad => ⟨?_, ?_⟩⟩
  · calc (seqOf (settleRun (stepResult (stepEnded s n (.bandwidth f)) n (.bandwidth f) r) n 1) n).running
      _ = (seqOf (stepResult (stepEnded s n (.bandwidth f)) n (.bandwidth f) r) n).running := running_settleRun _ _ hseqs
      _ = (seqOf (stepEnded s n (.bandwidth f)) n).running := by rw [seqOf_congr stepResult_bandwidth_seqs]
      _ = none := by rw [seqOf_stepEnded s n _ hwf]
  · calc count (settleRun (stepResult (stepEnded s n (.bandwidth f)) n (.bandwidth f) r) n 1) (cCAL_CNT 2)
      _ = count (stepResult (stepEnded s n (.bandwidth f)) n (.bandwidth f) r) (cCAL_CNT 2) := hsettled.count hresultWf (calCounter_apart_settled hn)
      _ = count (stepEnded s n (.bandwidth f)) (cCAL_CNT 2) := count_stepResult_bandwidth hendedWf
      _ = (count s (cCAL_CNT 2) + 1) % 2 ^ 48 := count_stepEnded s n (.bandwidth f) hs hn
  · have hword : InWord (bandwidthFld n f) := ⟨show 8 * f ≤ 8 * f + 7 by omega, show 8 * f + 7 < 32 by omega⟩
    have hne : aCAL_BW n ≠ aCAL_STATUS := by
      unfold aCAL_BW aCAL_STATUS dkBase spBase
      omega
    have hwidth : width (8 * f + 7) (8 * f) = 8 := by unfold width; omega
    rw [stepResult_bandwidth_stored hlow hhigh hwithin] at hsettled hresultWf ⊢
    calc getF (settleRun (accepted (setF (stepEnded s n (.bandwidth f)) (bandwidthFld n f) r.bandwidth.toNat)) n 1) (bandwidthFld n f)
      _ = getF (accepted (setF (stepEnded s n (.bandwidth f)) (bandwidthFld n f) r.bandwidth.toNat)) (bandwidthFld n f) :=
        hsettled.getF hresultWf hword fun g hg => .inl (bandwidth_ne_settled hn g hg)
      _ = getF (setF (stepEnded s n (.bandwidth f)) (bandwidthFld n f) r.bandwidth.toNat) (bandwidthFld n f) :=
        (accepted_writes _).getF (regsWf_setF _ _ _ hendedWf) hword (by simpa using .inl hne)
      _ = r.bandwidth.toNat % 2 ^ width (8 * f + 7) (8 * f) := getF_setF_same _ _ _ hendedWf hword.2
      _ = r.bandwidth.toNat % 2 ^ 8 := by rw [hwidth]
      _ = r.bandwidth.toNat := Nat.mod_eq_of_lt r.bandwidth.isLt
  · have hrejected : ∀ g ∈ rejectFields, aCAL_BW n ≠ g.addr := fun g hg => (bandwidth_below_decks hn (rejectFields_in_blocks g hg)).ne
    have hcounted : ∀ g ∈ seqFields n ++ counterFields (cCAL_CNT 2), aCAL_BW n ≠ g.addr := by
      intro g hg
      rcases List.mem_append.mp hg with hg | hg
      · exact bandwidth_ne_settled hn g (List.mem_append_left _ hg)
      · exact (bandwidth_below_decks hn ((by decide : ∀ g ∈ counterFields (cCAL_CNT 2), dkBase ≤ g.addr) g hg)).ne
    rw [stepResult_bandwidth_rejected hbad] at hsettled hresultWf ⊢
    exact (hsettled.rd hresultWf (bandwidth_ne_settled hn)).trans (((rejectP_writes _ _ _).rd hendedWf hrejected).trans (hended.rd hs hcounted))
  · rw [stepResult_bandwidth_rejected hbad] at hsettled hresultWf ⊢
    exact (hsettled.flag hresultWf (by decide) failP_apart_settled).trans (flag_rejectP _ _ hendedWf)

end Bandwidth

/-! ### Offset trims (R288) -/

/-- A trim of 15 steps at most fits its five bits. -/
theorem signed_unsigned_five {v : Int} (h : v.natAbs ≤ 15) : signed 5 (unsigned 5 v % 2 ^ 5) = v := by
  unfold signed unsigned
  split <;> omega

theorem agreed_of_close {m : Int × Int} (h : (m.1 - m.2).natAbs ≤ 1) : agreed 1 m = some ((m.1 + m.2 + 1) / 2) := if_pos h

/-- Two measurements that agree give the trim, their mean. -/
theorem trimChannel_agreed {s : State} {n : Span} {l : Local} {d c : Nat} {m : Int × Int} (hs : s.RegsWf) (hd : d < 2) (hc : c < 3)
    (hclose : (m.1 - m.2).natAbs ≤ 1) (hsmall : ((m.1 + m.2 + 1) / 2).natAbs ≤ 15) :
    getI (trimChannel n l d s (c, m)).1 (trimFld n l d c) = (m.1 + m.2 + 1) / 2 ∧ (trimChannel n l d s (c, m)).2 = false := by
  have htrim : trimChannel n l d s (c, m) =
      (accepted (setF (setRetry s (pierIx n l) (2 + 3 * d + c) 0) (trimFld n l d c) (unsigned 5 ((m.1 + m.2 + 1) / 2))), false) := by
    unfold trimChannel
    rw [agreed_of_close hclose]
    exact if_pos hsmall
  have hword : InWord (trimFld n l d c) := ⟨show 15 * d + 5 * c ≤ 15 * d + 5 * c + 4 by omega, show 15 * d + 5 * c + 4 < 32 by omega⟩
  have hwidth : width (15 * d + 5 * c + 4) (15 * d + 5 * c) = 5 := by unfold width; omega
  have hne : aCAL_OTRIM_w0 n l ≠ aCAL_STATUS := by
    have hn := n.isLt
    have hl := l.isLt
    unfold aCAL_OTRIM_w0 aCAL_STATUS dkBase spBase
    omega
  have hretry : (setRetry s (pierIx n l) (2 + 3 * d + c) 0).RegsWf := hs
  have hfield : getF (accepted (setF (setRetry s (pierIx n l) (2 + 3 * d + c) 0) (trimFld n l d c) (unsigned 5 ((m.1 + m.2 + 1) / 2))))
      (trimFld n l d c) = unsigned 5 ((m.1 + m.2 + 1) / 2) % 2 ^ width (15 * d + 5 * c + 4) (15 * d + 5 * c) :=
    ((accepted_writes _).getF (regsWf_setF _ _ _ hretry) hword (by simpa using .inl hne)).trans (getF_setF_same _ _ _ hretry hword.2)
  rw [htrim]
  refine ⟨?_, rfl⟩
  rw [getI, hfield]
  change signed (width (15 * d + 5 * c + 4) (15 * d + 5 * c)) _ = _
  rw [hwidth]
  exact signed_unsigned_five hsmall

/-! ### The end of an EXT run, and starvation (R298, R303) -/

theorem exec_extRunEnd {s : State} {n : Span} (hdue : due s (.extRun n) = true) (hext : (seqOf s n).ext.isSome = true)
    (hidle : ∀ i, (seqOf s n).running ≠ some (.extinction i)) : exec (.extRunEnd n) s = .next (endRun s n 2) := by
  have hbusy : (match (seqOf s n).running with | some (.extinction _) => true | _ => false) = false := by
    split
    next i h => exact absurd h (hidle i)
    next => rfl
  change execExtRunEnd n s = _
  exact if_pos ⟨hdue, hext, hbusy⟩

/-- An EXT run's end takes the run and its timer away. -/
theorem extRunEnd_ends {s : State} {n : Span} (hwf : SeqsWf s) (hdue : due s (.extRun n) = true) (hext : (seqOf s n).ext.isSome = true)
    (hidle : ∀ i, (seqOf s n).running ≠ some (.extinction i)) :
    ∃ t, exec (.extRunEnd n) s = .next t ∧ (seqOf t n).ext = none ∧ timerAt (.extRun n) t.timers = none ∧ t.mem = s.mem := by
  obtain ⟨r, ts, x, hrest⟩ := endRun_rest s n 2
  refine ⟨_, exec_extRunEnd hdue hext hidle, ?_, endRun_ext_timer s n, by rw [hrest]⟩
  rw [seqOf_endRun n 2 hwf]
  rfl

/-- A run that has waited 1 s raises STARVED. -/
theorem exec_calStarved {s : State} {n : Span} {k : Nat} {r : CalRun} (hk : k < 3) (hrun : runOf (seqOf s n) k = some r)
    (hwaited : r.since + 4000000000 ≤ s.elapsed) : exec (.calStarved n) s = .next (event s CAL_INT_STARVED) := by
  change execCalStarved n s = _
  refine congrArg Host.Outcome.next (if_pos (List.any_eq_true.mpr ⟨k, List.mem_range.mpr hk, ?_⟩))
  rw [hrun]
  exact decide_eq_true hwaited

/-- Settles O42: a step's start and end are each one equation; what follows a result writes outside the span's trims, the kind's count and FAIL_P. -/
theorem calibrationSteps : Obligations.CalibrationSteps := by
  unfold Obligations.CalibrationSteps
  exact ⟨fun s n k x rest hwf hidle hruns hchosen => calStepStart_runs hwf hidle hruns hchosen,
    fun s n r x hrun => exec_calStepEnd r hrun,
    fun s n r f hc hwf _ hf hrun => calStepEnd_bandwidth hc.1 hwf hf hrun,
    fun s n l d c m hcanon hd hc hclose hsmall => trimChannel_agreed hcanon.1 hd hc hclose hsmall,
    fun s n hwf hdue hext hidle => extRunEnd_ends hwf hdue hext hidle,
    fun s n k r hc hk hrun hwaited => ⟨_, exec_calStarved hk hrun hwaited, flag_event_same _ _ hc.1 (by decide) (by decide), rfl⟩⟩

end Sys2Proof.Machine

namespace Sys2Proof.Machine

/-! ### Writes to CAL_CMD (R304, R306) -/

theorem dkWrite_calCmd (s : State) (v : Word) : dkWrite s aCAL_CMD v =
    (let s2 := if v.getLsbD 7 then sweepCommand (storeWrite s aCAL_CMD v) else storeWrite s aCAL_CMD v
     if v.getLsbD 8 then startStore s2 else s2) := by
  unfold dkWrite
  dsimp only
  rw [if_neg (by decide), if_neg (by decide), if_neg (by decide), if_neg (by decide), if_neg (by decide), if_neg (by decide), if_neg (by decide),
    if_pos rfl]

theorem rowWrite_calCmd {s : State} {w : RegWrite} (hg : Granted s w aCAL_CMD) : rowWrite s aCAL_CMD w = dkWrite (atGrant s w) aCAL_CMD w.value := by
  rw [rowWrite_granted s _ w hg, regWritten_dk _ _ _ _ _ (by decide)]

section CalCmd
variable {s : State} {w : RegWrite} (hg : Granted s w aCAL_CMD)
include hg

theorem exec_sweep (hsweep : w.value.getLsbD 7 = true) (hstore : w.value.getLsbD 8 = false) :
    exec (.sweep w) s = .next (sweepCommand (storeWrite (atGrant s w) aCAL_CMD w.value)) := by
  refine congrArg Host.Outcome.next ((rowWrite_calCmd hg).trans ?_)
  rw [dkWrite_calCmd, hsweep, hstore]
  rfl

theorem exec_storeNow (hsweep : w.value.getLsbD 7 = false) (hstore : w.value.getLsbD 8 = true) :
    exec (.storeNow w) s = .next (startStore (storeWrite (atGrant s w) aCAL_CMD w.value)) := by
  refine congrArg Host.Outcome.next ((rowWrite_calCmd hg).trans ?_)
  rw [dkWrite_calCmd, hsweep, hstore]
  rfl

end CalCmd

/-! ### Sweeps begin (R304, R305) -/

/-- The span that is swept, with the spans to follow, shows. -/
def sweepNoted (s : State) (n : Nat) (rest : List Nat) : State :=
  setFlag { s with cal := { s.cal with sweep := some (n, rest), sweepAt := s.elapsed } } CAL_STATUS_SWEEPING true

theorem beginSweep_spec {s : State} (n : Nat) (rest : List Nat) (hs : s.RegsWf) :
    (beginSweep s n rest).cal.sweep = some (n, rest) ∧ flag (beginSweep s n rest) CAL_STATUS_SWEEPING = true := by
  obtain ⟨te, h⟩ := holdFronts_rest (sweepNoted s n rest) true ((List.range 512).map (pierIx n))
  have hbegin : beginSweep s n rest = { sweepNoted s n rest with te := te } := h
  have hflag : flag (sweepNoted s n rest) CAL_STATUS_SWEEPING = true :=
    flag_setFlag_same { s with cal := { s.cal with sweep := some (n, rest), sweepAt := s.elapsed } } _ true hs (by decide) (by decide)
  rw [hbegin]
  exact ⟨rfl, hflag⟩

/-- Nothing stands in the way of a sweep (R304). -/
def sweepFree (s : State) : Prop := pstate s = 3 ∧ flag s LS_CTRL_RUN = false ∧ s.ad.inflight = [] ∧ s.cal.sweep = none

section SweepCommand
variable {s : State} (hall : flag s CAL_CMD_ALL = false)
include hall

theorem sweepCommand_begins (hspan : getF s CAL_CMD_SPAN < 36) (hfree : sweepFree s) : sweepCommand s = beginSweep s (getF s CAL_CMD_SPAN) [] := by
  obtain ⟨hhold, hrun, hflight, hsweep⟩ := hfree
  simp [sweepCommand, hall, hspan, hhold, hrun, hflight, hsweep]

theorem sweepCommand_refused (h : ¬ sweepFree s) : sweepCommand s = event s CAL_CMD_REFUSED := by
  have hok : ¬ (decide (pstate s = 3) && ! flag s LS_CTRL_RUN && decide (s.ad.inflight = []) && s.cal.sweep.isNone
      && [getF s CAL_CMD_SPAN].all (fun n => decide (n < 36))) = true := by
    intro hok
    simp only [Bool.and_eq_true, decide_eq_true_eq, Bool.not_eq_true', Option.isNone_iff_eq_none] at hok
    obtain ⟨⟨⟨⟨hhold, hrun⟩, hflight⟩, hsweep⟩, -⟩ := hok
    exact h ⟨hhold, hrun, hflight, hsweep⟩
  unfold sweepCommand
  rw [hall]
  exact if_neg hok

end SweepCommand

/-! ### What a swept pier leaves alone (R305) -/

/-- The second state sweeps what the first does, and its registers stay in canonical form. -/
structure SweepFrame (s t : State) : Prop where
  sweep : t.cal.sweep = s.cal.sweep
  wf : s.RegsWf → t.RegsWf

namespace SweepFrame
variable {s t u : State}

theorem refl (s : State) : SweepFrame s s := ⟨rfl, id⟩

theorem trans (h : SweepFrame s t) (k : SweepFrame t u) : SweepFrame s u := ⟨k.sweep.trans h.sweep, k.wf ∘ h.wf⟩

theorem foldl {α : Type} {f : State → α → State} (hf : ∀ s a, SweepFrame s (f s a)) (l : List α) (s : State) : SweepFrame s (l.foldl f s) := by
  induction l generalizing s with
  | nil => exact refl s
  | cons a l ih => exact (hf s a).trans (ih (f s a))

theorem of_memOnly (h : MemOnly s t) : SweepFrame s t := by
  obtain ⟨m, f, rfl⟩ := h
  exact ⟨rfl, id⟩

theorem bump (s : State) (a : Nat) : SweepFrame s (bump s a) := ⟨rfl, regsWf_bumpBy s a 1⟩
theorem event (s : State) (f : Fld) : SweepFrame s (event s f) := ⟨rfl, regsWf_setF s f 1⟩
theorem setRetry (s : State) (g item v : Nat) : SweepFrame s (setRetry s g item v) := ⟨rfl, id⟩
theorem setMon (s : State) (g : Nat) (m : Mon) : SweepFrame s (setMon s g m) := ⟨rfl, id⟩

theorem raise (s : State) (source kind cls : Nat) (b : Bool) (addr : Nat) : SweepFrame s (raise s source kind cls b addr) := by
  refine ⟨?_, (RegWrites.raise s source kind cls b addr).wf⟩
  obtain ⟨r, f, h⟩ := raise_rest s source kind cls b addr
  rw [h]

theorem accepted (s : State) : SweepFrame s (accepted s) := by
  refine ⟨?_, (accepted_writes s).wf⟩
  obtain ⟨r, b, h⟩ := accepted_rest s
  rw [h]

theorem rejectP (s : State) (source address : Nat) : SweepFrame s (rejectP s source address) :=
  ((bump s _).trans (event _ _)).trans (raise _ _ _ _ _ _)

theorem disagree (s : State) (g item : Nat) : SweepFrame s (disagree s g item) := by
  unfold Machine.disagree
  dsimp only
  split
  · exact (((bump s _).trans (setRetry _ _ _ _)).trans (event _ _)).trans (raise _ _ _ _ _ _)
  · exact (bump s _).trans (setRetry _ _ _ _)

theorem divFree (s : State) (a : Int) (d : Nat) : SweepFrame s (divFree s a d).2 := by
  unfold Machine.divFree
  split_ifs <;> exact ⟨rfl, id⟩

theorem of_bothPhases {base : Int} {p q : Option ℚ} {m : Option (Int × Int)} (h : bothPhases s base p q = (m, t)) : SweepFrame s t := by
  obtain rfl : (bothPhases s base p q).2 = t := congrArg Prod.snd h
  unfold bothPhases
  split
  · exact (divFree s _ _).trans (divFree _ _ _)
  · exact refl s

theorem sweepResult (s : State) (n l item : Nat) (f : MFld) (m : Option (Int × Int)) : SweepFrame s (sweepResult s n l item f m) := by
  unfold Machine.sweepResult
  split
  next v _ => exact (((of_memOnly (.phase18 s v)).trans (of_memOnly (.putMI _ _ _ _))).trans (setRetry _ _ _ _)).trans (accepted _)
  next => exact disagree s _ _

/-- A ratio over no current is a free value. -/
theorem of_ratio {a b x : Nat} (h : (if b = 0 then fresh s 65536 else (a / b, s)) = (x, t)) : SweepFrame s t := by
  split at h <;> cases h <;> exact ⟨rfl, id⟩

theorem sweepPier (n : Nat) (s : State) (r : SweepReading) : SweepFrame s (sweepPier n s r) := by
  unfold Machine.sweepPier
  extract_lets l g up down sums low high
  split
  · exact bump s _
  split
  next m0 sA hA =>
  split
  next m1 sB hB =>
  extract_lets d s1 s2
  split
  next rrat s3 hratio =>
  have hphases : SweepFrame s s3 :=
    ((((of_bothPhases hA).trans (of_bothPhases hB)).trans (sweepResult _ _ _ _ _ _)).trans (sweepResult _ _ _ _ _ _)).trans (of_ratio hratio)
  split
  · exact (hphases.trans (setMon _ _ _)).trans (accepted _)
  · exact hphases.trans (rejectP _ _ _)

theorem recordTemps (s : State) (n k : Nat) : SweepFrame s (recordTemps s n k) := by
  refine ⟨?_, (recordTemps_writes s n k).wf⟩
  obtain ⟨r, ts, h⟩ := recordTemps_rest s n k
  rw [h]

theorem releaseFronts (s : State) (n : Nat) : SweepFrame s (releaseFronts s n) := by
  obtain ⟨te, h⟩ := releaseFronts_rest s n
  rw [h]
  exact ⟨rfl, id⟩

end SweepFrame

/-! ### A record is given to the Tollhouse (R306, R308) -/

/-- The job that writes the record of the results that are pending. -/
def recordJob (s : State) : Job := ⟨.record, recordBytes s ((getF s CAL_SEQ_SEQ + 1) % 2 ^ 32), slotAddr (nextSlot s), false, []⟩

/-- The record's job waits, and results accepted from now on belong to the next record. -/
def recordQueued (s : State) : State :=
  { s with cal := { s.cal with newer := false, lastStart := some s.elapsed }, th := { s.th with jobs := s.th.jobs ++ [recordJob s] } }

theorem startStore_starts {s : State} (h : canStore s = true) : startStore s = setFlag (recordQueued s) CAL_STATUS_WRITING true := if_pos h

theorem startStore_none {s : State} (h : canStore s = false) : startStore s = s := if_neg (by simp [h])

theorem startStore_sweep (s : State) : (startStore s).cal.sweep = s.cal.sweep := by
  unfold startStore
  split <;> rfl

theorem startStore_writes (s : State) : RegWrites [CAL_STATUS_WRITING] s (startStore s) := by
  cases h : canStore s with
  | true =>
    have hqueued : RegWrites [CAL_STATUS_WRITING] s (recordQueued s) := .of_regs rfl
    rw [startStore_starts h]
    exact hqueued.trans (.setFlag _ _ (List.mem_cons_self ..))
  | false =>
    rw [startStore_none h]
    exact .refl s

/-! ### A swept span's end (R305) -/

/-- The span's readings have been taken, its front ends are free, and its temperatures are recorded. -/
def spanSwept (s : State) (n : Nat) (rs : List SweepReading) : State := recordTemps (releaseFronts (rs.foldl (sweepPier n) s) n) n 2

/-- No span is swept. -/
def sweepCleared (u : State) : State := { u with cal := { u.cal with sweep := none } }

/-- After a span the sweep goes on with the next, or ends. -/
def sweepNext (u : State) : List Nat → State
  | k :: more => beginSweep u k more
  | [] => startStore (setFlag (sweepCleared u) CAL_STATUS_SWEEPING false)

/-- The span that is swept after one, with the spans to follow. -/
def spansLeft : List Nat → Option (Nat × List Nat)
  | k :: more => some (k, more)
  | [] => none

theorem sweepNext_spec {u : State} (rest : List Nat) (hu : u.RegsWf) :
    (sweepNext u rest).cal.sweep = spansLeft rest ∧ flag (sweepNext u rest) CAL_STATUS_SWEEPING = ! rest.isEmpty := by
  cases rest with
  | cons k more =>
    rw [sweepNext, spansLeft, List.isEmpty_cons]
    exact beginSweep_spec k more hu
  | nil =>
    have hcleared : (sweepCleared u).RegsWf := hu
    have hover : flag (setFlag (sweepCleared u) CAL_STATUS_SWEEPING false) CAL_STATUS_SWEEPING = false :=
      flag_setFlag_same _ _ _ hcleared (by decide) (by decide)
    exact ⟨startStore_sweep _, ((startStore_writes _).flag (regsWf_setF _ _ _ hcleared) (by decide) (by decide)).trans hover⟩

theorem spanSwept_frame (s : State) (n : Nat) (rs : List SweepReading) : SweepFrame s (spanSwept s n rs) :=
  ((SweepFrame.foldl (fun s r => .sweepPier n s r) rs s).trans (.releaseFronts _ n)).trans (.recordTemps _ n 2)

theorem exec_sweepEnd {s : State} {n : Span} {rest : List Nat} (rs : List SweepReading) (h : s.cal.sweep = some (n.val, rest)) :
    exec (.sweepEnd n rs) s = .next (sweepNext (spanSwept s n rs) rest) := by
  change execSweepEnd n rs s = _
  unfold execSweepEnd
  split
  next hnone => exact absurd (h.symm.trans hnone) (by simp)
  next m rest' hsome =>
    obtain ⟨rfl, rfl⟩ := Prod.mk.inj (Option.some.inj (h.symm.trans hsome))
    rw [if_neg (by simp)]
    cases rest <;> rfl

/-- Settles O43: the write of CAL_CMD, the sweep it begins and the record it queues are each one equation; a swept pier leaves the sweep's own record alone. -/
theorem calibrationCommands : Obligations.CalibrationCommands := by
  unfold Obligations.CalibrationCommands
  refine ⟨fun s u w hg hu => ⟨fun hsweep hstore => hu ▸ exec_sweep hg hsweep hstore, fun hsweep hstore => hu ▸ exec_storeNow hg hsweep hstore⟩,
    fun u hc hall hspan => ⟨fun hhold hrun hflight hsweep => ?_, fun h => sweepCommand_refused hall ?_⟩,
    fun s n rs rest hc h => ⟨_, exec_sweepEnd rs h, sweepNext_spec rest ((spanSwept_frame s n rs).wf hc.1)⟩, fun u hc hstore => ?_, fun u => startStore_none, fun s => rfl⟩
  · rw [sweepCommand_begins hall hspan ⟨hhold, hrun, hflight, hsweep⟩]
    exact beginSweep_spec _ _ hc.1
  · rintro ⟨hhold, hrun, hflight, hsweep⟩
    simp [hhold, hrun, hflight, hsweep] at h
  · rw [startStore_starts hstore]
    exact ⟨⟨recordJob u, rfl, rfl, rfl⟩, flag_setFlag_same (recordQueued u) _ true hc.1 (by decide) (by decide), rfl, rfl, rfl⟩

end Sys2Proof.Machine

namespace Sys2Proof.Machine

/-! ### The attempts of a PLL to lock (R370) -/

/-- The table of the PLLs' attempts is in canonical form. -/
def TriesWf (s : State) : Prop := cellWf (fun _ => none) s.pw.tries = true

section Tries
variable {s : State}

theorem triesOf_setTries_same (h : TriesWf s) (i : Nat) (x : Option (Nat × Nat)) : triesOf (setTries s i x) i = x := cellGet_cellPut_same _ _ _ _ h

theorem triesOf_setTries_other (s : State) {i j : Nat} (x : Option (Nat × Nat)) (h : j ≠ i) : triesOf (setTries s i x) j = triesOf s j :=
  cellGet_cellPut_other _ _ _ _ _ h

@[simp] theorem getF_setTries (s : State) (i : Nat) (x : Option (Nat × Nat)) (f : Fld) : getF (setTries s i x) f = getF s f := rfl

@[simp] theorem flag_setTries (s : State) (i : Nat) (x : Option (Nat × Nat)) (f : Fld) : flag (setTries s i x) f = flag s f := rfl

theorem triesWf_setTries (h : TriesWf s) (i : Nat) (x : Option (Nat × Nat)) : TriesWf (setTries s i x) := cellWf_cellPut _ _ _ _ h

theorem triesWf_congr {t : State} (h : t.pw = s.pw) (hs : TriesWf s) : TriesWf t := by rw [TriesWf, h]; exact hs

end Tries

theorem RegWrites.setTries {W : List Fld} (s : State) (i : Nat) (x : Option (Nat × Nat)) : RegWrites W s (setTries s i x) := .of_regs rfl

theorem pllWord_ne {i j : Nat} (h : i ≠ j) : aTH_PLL i ≠ aTH_PLL j := by
  unfold aTH_PLL
  omega

/-- The second state has memory and a PLL's word and attempts as the first. -/
structure PllKept (i : Nat) (s t : State) : Prop where
  mem : t.mem = s.mem
  tries : triesOf t i = triesOf s i
  wf : s.RegsWf → t.RegsWf
  word : rd t (aTH_PLL i) = rd s (aTH_PLL i)

namespace PllKept
variable {i : Nat} {s t u : State}

theorem refl (s : State) : PllKept i s s := ⟨rfl, rfl, id, rfl⟩

theorem trans (h : PllKept i s t) (k : PllKept i t u) : PllKept i s u :=
  ⟨k.mem.trans h.mem, k.tries.trans h.tries, k.wf ∘ h.wf, k.word.trans h.word⟩

theorem ite {c : Prop} [Decidable c] (ht : c → PllKept i s t) (hu : ¬ c → PllKept i s u) : PllKept i s (if c then t else u) := by
  split
  · exact ht ‹_›
  · exact hu ‹_›

theorem foldl {α : Type} {f : State → α → State} (l : List α) (hf : ∀ s, ∀ a ∈ l, PllKept i s (f s a)) (s : State) : PllKept i s (l.foldl f s) := by
  induction l generalizing s with
  | nil => exact refl s
  | cons a l ih => exact (hf s a List.mem_cons_self).trans (ih (fun s b hb => hf s b (List.mem_cons_of_mem _ hb)) _)

theorem startPll (s : State) {j : Nat} (h : i ≠ j) : PllKept i s (startPll s j) :=
  ⟨rfl, triesOf_setTries_other (Machine.setF s (TH_PLL_LOCK j) 0) _ h, regsWf_setF s _ _, rd_wr_other s _ _ _ (pllWord_ne h)⟩

theorem fixP0 (s : State) (n : Nat) : PllKept i s (fixP0 s n) := ⟨rfl, rfl, id, rfl⟩

theorem startQuiet (s : State) : PllKept i s (startQuiet s) := by
  refine ite (fun _ => ⟨rfl, rfl, fun hs => regsWf_bumpBy _ _ _ (regsWf_setF _ _ _ hs), ?_⟩) (fun _ => refl s)
  have hne : aTH_PLL i ≠ aFC_STATUS ∧ aTH_PLL i ≠ cFC_CNT 4 ∧ aTH_PLL i ≠ cFC_CNT 4 + 4 := by
    unfold aTH_PLL aFC_STATUS cFC_CNT thBase fcBase
    omega
  exact (rd_bumpBy_other (setFlag s FC_STATUS_QUIET true) (cFC_CNT 4) 1 _ hne.2.1 hne.2.2).trans (rd_wr_other s _ _ _ hne.1)

theorem recheckConditions (s : State) : PllKept i s (recheckConditions s) := by
  have hjudged : PllKept i s { s with fc := { s.fc with conditions := s.fc.conditions.filter (conditionHolds s) } } := ⟨rfl, rfl, id, rfl⟩
  exact hjudged.trans (startQuiet _)

theorem getF (h : PllKept i s t) {f : Fld} (hf : f.addr = aTH_PLL i) : getF t f = Machine.getF s f := by
  rw [Machine.getF, hf, h.word, ← hf]
  rfl

theorem flag (h : PllKept i s t) {f : Fld} (hf : f.addr = aTH_PLL i) : flag t f = Machine.flag s f := by
  rw [Machine.flag, h.getF hf]
  rfl

end PllKept

/-! ### A PLL locks (R289, R370) -/

/-- The PLL's lock, its band and the time it took show. -/
def lockWritten (s : State) (i band us : Nat) : State := setF (setF (setF s (TH_PLL_LOCK i) 1) (TH_PLL_BAND i) band) (TH_PLL_LOCK_US i) us

/-- A locked PLL shows, and tries no more. -/
def lockShown (s : State) (i band t0 : Nat) : State := setTries (lockWritten s i band (min ((s.elapsed - t0) / 4000) 65535)) i none

/-- With the core PLL locked every PLL that neither has locked nor tries begins to lock. -/
def othersStarted (s : State) : State :=
  ((List.range 42).map (fun k => k + 3)).foldl (fun s j => if flag s (TH_PLL_LOCK j) ∨ (triesOf s j).isSome then s else startPll s j) s

/-- What follows a lock: the other PLLs, and a span's P0. -/
def lockFollowed (s : State) (i : Nat) : State :=
  let s1 := if i = 0 then othersStarted s else s
  recheckConditions (if 3 ≤ i ∧ i ≤ 38 then fixP0 s1 (i - 3) else s1)

theorem lockFollowed_kept (s : State) (i : Nat) : PllKept i s (lockFollowed s i) := by
  have hothers : i = 0 → PllKept i s (othersStarted s) := fun hi => by
    refine PllKept.foldl _ (fun s j hj => .ite (fun _ => .refl s) (fun _ => .startPll s ?_)) s
    obtain ⟨k, -, rfl⟩ := List.mem_map.mp hj
    omega
  have hstarted : PllKept i s (if i = 0 then othersStarted s else s) := .ite hothers (fun _ => .refl s)
  exact (hstarted.trans (.ite (fun _ => .fixP0 _ _) (fun _ => .refl _))).trans (.recheckConditions _)

section Lock
variable {s : State} {i : PllIx} {band : Fin 64} {k t0 : Nat} (htries : triesOf s i = some (k, t0)) (hk : k < 3)
include htries hk

theorem exec_pllLock (hlow : 1 ≤ band.val) (hhigh : band.val ≤ 62) : exec (.pllLock i band) s = .next (lockFollowed (lockShown s i band t0) i) := by
  change execPllLock i band s = _
  unfold execPllLock
  rw [htries]
  dsimp only
  rw [if_neg (by omega), if_neg (by omega)]
  rfl

theorem exec_pllLock_refused (h : band.val < 1 ∨ 62 < band.val) : exec (.pllLock i band) s = .next (attemptFailed s i k) := by
  change execPllLock i band s = _
  unfold execPllLock
  rw [htries]
  dsimp only
  rw [if_neg (by omega), if_pos h]

end Lock

theorem lockWritten_fields {s : State} (i : Nat) {band us : Nat} (hs : s.RegsWf) (hband : band < 2 ^ 6) (hus : us < 2 ^ 16) :
    (lockWritten s i band us).RegsWf ∧ flag (lockWritten s i band us) (TH_PLL_LOCK i) = true ∧ getF (lockWritten s i band us) (TH_PLL_BAND i) = band
      ∧ getF (lockWritten s i band us) (TH_PLL_LOCK_US i) = us := by
  have hlock := regsWf_setF s (TH_PLL_LOCK i) 1 hs
  have hbandWf := regsWf_setF _ (TH_PLL_BAND i) band hlock
  have hlater : RegWrites [TH_PLL_BAND i, TH_PLL_LOCK_US i] (setF s (TH_PLL_LOCK i) 1) (lockWritten s i band us) :=
    (RegWrites.setF _ band (by simp)).trans (.setF _ us (by simp))
  have hapart : ∀ g ∈ [TH_PLL_BAND i, TH_PLL_LOCK_US i], Apart (TH_PLL_LOCK i) g := by simp [Apart, TH_PLL_BAND, TH_PLL_LOCK_US, TH_PLL_LOCK]
  refine ⟨regsWf_setF _ _ us hbandWf, ?_, ?_, ?_⟩
  · exact (hlater.flag hlock (show 0 ≤ 0 ∧ 0 < 32 by decide) hapart).trans (flag_event_same s _ hs (show 0 < 32 by decide) (show 0 ≤ 0 by decide))
  · have hkept : getF (lockWritten s i band us) (TH_PLL_BAND i) = getF (setF (setF s (TH_PLL_LOCK i) 1) (TH_PLL_BAND i) band) (TH_PLL_BAND i) :=
      getF_setF_bits _ _ _ _ hbandWf (show 6 < 32 by decide) (.inl (show 6 < 8 by decide))
    exact (hkept.trans (getF_setF_same _ _ _ hlock (show 6 < 32 by decide))).trans (Nat.mod_eq_of_lt hband)
  · exact (getF_setF_same _ _ _ hbandWf (show 23 < 32 by decide)).trans (Nat.mod_eq_of_lt hus)

theorem lockShown_fields {s : State} (i : Nat) {band : Nat} (t0 : Nat) (hs : s.RegsWf) (hwf : TriesWf s) (hband : band < 2 ^ 6) :
    flag (lockShown s i band t0) (TH_PLL_LOCK i) = true ∧ getF (lockShown s i band t0) (TH_PLL_BAND i) = band
      ∧ getF (lockShown s i band t0) (TH_PLL_LOCK_US i) = min ((s.elapsed - t0) / 4000) 65535 ∧ triesOf (lockShown s i band t0) i = none := by
  have hus : min ((s.elapsed - t0) / 4000) 65535 < 2 ^ 16 := by omega
  unfold lockShown
  generalize min ((s.elapsed - t0) / 4000) 65535 = us at hus ⊢
  obtain ⟨-, hlock, hbandShown, htime⟩ := lockWritten_fields (s := s) i hs hband hus
  rw [flag_setTries, getF_setTries, getF_setTries]
  exact ⟨hlock, hbandShown, htime, triesOf_setTries_same (triesWf_congr rfl hwf) i none⟩

/-- A lock within the bands shows (R370). -/
theorem pllLock_shows {s : State} {i : PllIx} {band : Fin 64} {k t0 : Nat} (hs : s.RegsWf) (hwf : TriesWf s) (htries : triesOf s i = some (k, t0)) (hk : k < 3)
    (hlow : 1 ≤ band.val) (hhigh : band.val ≤ 62) :
    ∃ t, exec (.pllLock i band) s = .next t ∧ flag t (TH_PLL_LOCK i) = true ∧ getF t (TH_PLL_BAND i) = band.val
      ∧ getF t (TH_PLL_LOCK_US i) = min ((s.elapsed - t0) / 4000) 65535 ∧ triesOf t i = none ∧ t.mem = s.mem := by
  have hkept := lockFollowed_kept (lockShown s i band t0) i
  obtain ⟨hlock, hband, htime, hnone⟩ := lockShown_fields i t0 hs hwf band.isLt
  have hmem : (lockShown s i band t0).mem = s.mem := rfl
  exact ⟨_, exec_pllLock htries hk hlow hhigh, (hkept.flag rfl).trans hlock, (hkept.getF rfl).trans hband, (hkept.getF rfl).trans htime,
    hkept.tries.trans hnone, hkept.mem.trans hmem⟩

/-! ### An attempt that fails (R289, R372) -/

/-- The lock flags of all PLLs. -/
def lockFields : List Fld := (List.range 45).map TH_PLL_LOCK

theorem stopPlls_kept (s : State) : RegWrites lockFields s (stopPlls s) ∧ (TriesWf s → TriesWf (stopPlls s)) := by
  have hstop : ∀ (l : List Nat) (s : State), (∀ i ∈ l, TH_PLL_LOCK i ∈ lockFields) →
      RegWrites lockFields s (l.foldl (fun s i => setTries (setF s (TH_PLL_LOCK i) 0) i none) s)
        ∧ (TriesWf s → TriesWf (l.foldl (fun s i => setTries (setF s (TH_PLL_LOCK i) 0) i none) s)) := by
    intro l
    induction l with
    | nil => exact fun s _ => ⟨.refl s, id⟩
    | cons i l ih =>
      intro s hl
      obtain ⟨hwrites, hwf⟩ := ih (setTries (setF s (TH_PLL_LOCK i) 0) i none) fun j hj => hl j (List.mem_cons_of_mem _ hj)
      have hone : RegWrites lockFields s (setTries (setF s (TH_PLL_LOCK i) 0) i none) :=
        (RegWrites.setF s 0 (hl i List.mem_cons_self)).trans (.setTries _ _ _)
      exact ⟨hone.trans hwrites, fun h => hwf (triesWf_setTries (triesWf_congr rfl h) i none)⟩
  exact hstop (List.range 45) s fun i hi => List.mem_map_of_mem hi

section Rejected
variable (s : State)

theorem pllRejected_rest : ∃ r f, pllRejected s = { s with regs := r, fc := f } := rejectP_rest s 0x400 0x7FFF

theorem pllRejected_writes : RegWrites rejectFields s (pllRejected s) := rejectP_writes s 0x400 0x7FFF

theorem pllRejected_pw : (pllRejected s).pw = s.pw := by
  obtain ⟨r, f, h⟩ := pllRejected_rest s
  rw [h]

end Rejected

/-- A second attempt has failed. -/
def secondFailed (s : State) (i : Nat) : State := setTries (event (pllRejected s) TH_PINT_PLL_FAIL) i (some (3, s.elapsed))

/-- No transition is in progress. -/
def moveDropped (s : State) : State := { s with pw := { s.pw with moving := none } }

theorem moveDropped_kept (s : State) : RegWrites lockFields s (moveDropped s) ∧ (TriesWf s → TriesWf (moveDropped s)) := ⟨.of_regs rfl, id⟩

/-- The start in progress has been broken off: every PLL stops. -/
def startBroken (s : State) : State := moveDropped (stopPlls s)

theorem startBroken_kept (s : State) : RegWrites lockFields s (startBroken s) ∧ (TriesWf s → TriesWf (startBroken s)) := by
  obtain ⟨hstop, htries⟩ := stopPlls_kept s
  obtain ⟨hdrop, hdropTries⟩ := moveDropped_kept (stopPlls s)
  exact ⟨hstop.trans hdrop, hdropTries ∘ htries⟩

/-- A second attempt that fails raises PLL_FAIL, and a start that goes on is broken off. -/
theorem attemptFailed_second (s : State) (i : Nat) : attemptFailed s i 2 = secondFailed s i
    ∨ attemptFailed s i 2 = setTries (startBroken (secondFailed s i)) i (some (3, s.elapsed)) := by
  unfold attemptFailed startBroken secondFailed
  dsimp only
  rw [if_neg (by decide)]
  generalize stopPlls (setTries (event (pllRejected s) TH_PINT_PLL_FAIL) i (some (3, s.elapsed))) = v
  split
  · split
    · exact .inr rfl
    · exact .inl rfl
  · exact .inl rfl

theorem attemptFailed_second_kept {s : State} (i : Nat) (hwf : TriesWf s) : RegWrites lockFields (event (pllRejected s) TH_PINT_PLL_FAIL) (attemptFailed s i 2)
    ∧ triesOf (attemptFailed s i 2) i = some (3, s.elapsed) := by
  have hnoted : TriesWf (event (pllRejected s) TH_PINT_PLL_FAIL) := triesWf_congr (pllRejected_pw s) hwf
  have hfailed : RegWrites lockFields (event (pllRejected s) TH_PINT_PLL_FAIL) (secondFailed s i) := .setTries _ _ _
  obtain h | h := attemptFailed_second s i
  · rw [h]
    exact ⟨hfailed, triesOf_setTries_same hnoted _ _⟩
  · obtain ⟨hbroken, htries⟩ := startBroken_kept (secondFailed s i)
    rw [h]
    exact ⟨(hfailed.trans hbroken).trans (.setTries _ _ _), triesOf_setTries_same (htries (triesWf_setTries hnoted _ _)) _ _⟩

section Timeout
variable {s : State} {i : PllIx} {t0 : Nat} (hs : s.RegsWf) (hwf : TriesWf s)

theorem exec_pllLockTimeout {k : Nat} (htries : triesOf s i = some (k, t0)) (hk : k < 3) (hdue : t0 + 400000 ≤ s.elapsed) :
    exec (.pllLockTimeout i) s = .next (attemptFailed s i k) := by
  change execPllLockTimeout i s = _
  unfold execPllLockTimeout
  rw [htries]
  dsimp only
  rw [if_neg (by omega)]

theorem exec_pllLockTimeout_early {k : Nat} (htries : triesOf s i = some (k, t0)) (hearly : s.elapsed < t0 + 400000) :
    exec (.pllLockTimeout i) s = .next s := by
  change execPllLockTimeout i s = _
  unfold execPllLockTimeout
  rw [htries]
  dsimp only
  rw [if_pos (.inl hearly)]

include hs hwf

/-- A first attempt that times out is followed by a second. -/
theorem pllLockTimeout_first (htries : triesOf s i = some (1, t0)) (hdue : t0 + 400000 ≤ s.elapsed) :
    ∃ t, exec (.pllLockTimeout i) s = .next t ∧ triesOf t i = some (2, s.elapsed) ∧ flag t CAL_INT_FAIL_P = true
      ∧ t.mem = s.mem ∧ t.ad = s.ad ∧ pstate t = pstate s := by
  obtain ⟨r, f, hrest⟩ := pllRejected_rest s
  have hfirst : attemptFailed s i 1 = setTries (pllRejected s) i (some (2, s.elapsed)) := rfl
  refine ⟨_, exec_pllLockTimeout htries (by decide) hdue, ?_⟩
  rw [hfirst]
  refine ⟨triesOf_setTries_same (triesWf_congr (pllRejected_pw s) hwf) _ _, (flag_setTries _ _ _ _).trans (flag_rejectP _ _ hs), ?_, ?_,
    (getF_setTries _ _ _ _).trans ((pllRejected_writes s).getF hs (by decide) (by decide))⟩
  · rw [hrest]; rfl
  · rw [hrest]; rfl

/-- A second attempt that times out ends in PLL_FAIL. -/
theorem pllLockTimeout_second (htries : triesOf s i = some (2, t0)) (hdue : t0 + 400000 ≤ s.elapsed) :
    ∃ t, exec (.pllLockTimeout i) s = .next t ∧ triesOf t i = some (3, s.elapsed) ∧ flag t TH_PINT_PLL_FAIL = true ∧ flag t CAL_INT_FAIL_P = true := by
  obtain ⟨hstopped, htries'⟩ := attemptFailed_second_kept i hwf
  have hrejected := (pllRejected_writes s).wf hs
  have hnoted : (event (pllRejected s) TH_PINT_PLL_FAIL).RegsWf := regsWf_setF _ _ _ hrejected
  refine ⟨_, exec_pllLockTimeout htries (by decide) hdue, htries', ?_, ?_⟩
  · exact (hstopped.flag hnoted (by decide) (by decide)).trans (flag_event_same _ _ hrejected (by decide) (by decide))
  · calc flag (attemptFailed s i 2) CAL_INT_FAIL_P
      _ = flag (event (pllRejected s) TH_PINT_PLL_FAIL) CAL_INT_FAIL_P := hstopped.flag hnoted (by decide) (by decide)
      _ = flag (pllRejected s) CAL_INT_FAIL_P := RegWrites.flag (W := [TH_PINT_PLL_FAIL]) (.event _ (by simp)) hrejected (by decide) (by decide)
      _ = true := flag_rejectP _ _ hs

end Timeout

end Sys2Proof.Machine

namespace Sys2Proof.Machine

/-! ### Clamps close (R242), and what a lost lock's consequences write -/

theorem clampPier_frame (s : State) (n l : Nat) : DriveFrame s (clampPier s n l) := by
  have hword : ∀ v, DriveFrame s (wr s (aPR_OUT n l) v) := fun v => ⟨⟨_, s.dr, rfl⟩, regsWf_wr s _ v⟩
  exact ((hword _).trans (discardStaged_frame _ n l)).trans (.setPier _ _ _)

/-- Every pier of a span is clamped. -/
def clampPiers (s : State) (n : Nat) : State := (List.range 512).foldl (fun s l => clampPier s n l) s

theorem clampPiers_frame (s : State) (n : Nat) : DriveFrame s (clampPiers s n) := .foldl (fun s l => clampPier_frame s n l) _ s

/-- A span's clamp shows closed. -/
def clampShown (s : State) (n : Nat) : State := setF (setF (setF s (LZ_STATUS_CLAMPED n) 1) (LZ_STATUS_RAMPING n) 0) (LZ_STATUS_PARKED n) 0

theorem closeClamp_eq (s : State) (n : Nat) : closeClamp s n = disarm (clampShown (clampPiers s n) n) (.ramp n) := rfl

@[simp] theorem flag_disarm (s : State) (x : Timer) (f : Fld) : flag (disarm s x) f = flag s f := rfl

theorem flag_clampShown {s : State} (n : Nat) (hs : s.RegsWf) : flag (clampShown s n) (LZ_STATUS_CLAMPED n) = true := by
  have hlater : RegWrites [LZ_STATUS_RAMPING n, LZ_STATUS_PARKED n] (setF s (LZ_STATUS_CLAMPED n) 1) (clampShown s n) :=
    (RegWrites.setF _ 0 (by simp)).trans (.setF _ 0 (by simp))
  have hapart : ∀ g ∈ [LZ_STATUS_RAMPING n, LZ_STATUS_PARKED n], Apart (LZ_STATUS_CLAMPED n) g := by
    simp [Apart, LZ_STATUS_RAMPING, LZ_STATUS_PARKED, LZ_STATUS_CLAMPED]
  exact (hlater.flag (regsWf_setF s _ 1 hs) (show 6 ≤ 6 ∧ 6 < 32 by decide) hapart).trans (flag_event_same s _ hs (show 6 < 32 by decide) (le_refl 6))

/-- The second state is the first but for registers, which stay in canonical form, the drives and deadlines. -/
structure ClampFrame (s t : State) : Prop where
  rest : ∃ r d x, t = { s with regs := r, dr := d, timers := x }
  wf : s.RegsWf → t.RegsWf

namespace ClampFrame
variable {s t u : State}

theorem of_drive (h : DriveFrame s t) : ClampFrame s t := by
  obtain ⟨⟨r, d, rfl⟩, hwf⟩ := h
  exact ⟨⟨r, d, s.timers, rfl⟩, hwf⟩

theorem disarm (s : State) (x : Timer) : ClampFrame s (disarm s x) := ⟨⟨s.regs, s.dr, _, rfl⟩, id⟩

theorem trans (h : ClampFrame s t) (k : ClampFrame t u) : ClampFrame s u := by
  obtain ⟨⟨r, d, x, rfl⟩, hwf⟩ := h
  obtain ⟨⟨r', d', x', rfl⟩, hwf'⟩ := k
  exact ⟨⟨r', d', x', rfl⟩, hwf' ∘ hwf⟩

theorem foldl {α : Type} {f : State → α → State} (hf : ∀ s a, ClampFrame s (f s a)) (l : List α) (s : State) : ClampFrame s (l.foldl f s) := by
  induction l generalizing s with
  | nil => exact of_drive (.refl s)
  | cons a l ih => exact (hf s a).trans (ih (f s a))

theorem closeClamp (s : State) (n : Nat) : ClampFrame s (closeClamp s n) := by
  have hshown : ∀ u, DriveFrame u (clampShown u n) := fun u => ((DriveFrame.setF u _ _).trans (.setF _ _ _)).trans (.setF _ _ _)
  rw [closeClamp_eq]
  exact (of_drive ((clampPiers_frame s n).trans (hshown _))).trans (disarm _ _)

theorem closeClamps (s : State) : ClampFrame s (closeClamps s) := foldl closeClamp _ s

theorem mem (h : ClampFrame s t) : t.mem = s.mem := by obtain ⟨r, d, x, rfl⟩ := h.rest; rfl
theorem fc (h : ClampFrame s t) : t.fc = s.fc := by obtain ⟨r, d, x, rfl⟩ := h.rest; rfl
theorem pw (h : ClampFrame s t) : t.pw = s.pw := by obtain ⟨r, d, x, rfl⟩ := h.rest; rfl

end ClampFrame

/-- A closed clamp shows. -/
theorem clamped_closeClamp {s : State} (n : Nat) (hs : s.RegsWf) : clamped (closeClamp s n) n = true := by
  rw [closeClamp_eq, clamped, flag_disarm, flag_clampShown n ((clampPiers_frame s n).wf hs)]

/-- The second state's registers are the first's but for addresses below the thermal block. -/
structure BelowTh (s t : State) : Prop where
  wf : s.RegsWf → t.RegsWf
  word : ∀ a, thBase ≤ a → rd t a = rd s a

namespace BelowTh
variable {s t u : State}

theorem of_regs (h : t.regs = s.regs) : BelowTh s t := ⟨regsWf_of_regs h, fun a _ => rd_of_regs h a⟩

theorem trans (h : BelowTh s t) (k : BelowTh t u) : BelowTh s u := ⟨k.wf ∘ h.wf, fun a ha => (k.word a ha).trans (h.word a ha)⟩

theorem ite {c : Prop} [Decidable c] (ht : BelowTh s t) (hu : BelowTh s u) : BelowTh s (if c then t else u) := by
  split
  · exact ht
  · exact hu

theorem foldl {α : Type} {f : State → α → State} (l : List α) (hf : ∀ s, ∀ a ∈ l, BelowTh s (f s a)) (s : State) : BelowTh s (l.foldl f s) := by
  induction l generalizing s with
  | nil => exact of_regs rfl
  | cons a l ih => exact (hf s a List.mem_cons_self).trans (ih (fun s b hb => hf s b (List.mem_cons_of_mem _ hb)) _)

theorem wr (s : State) {a : Nat} (v : Word) (h : a < thBase) : BelowTh s (wr s a v) :=
  ⟨regsWf_wr s a v, fun b hb => rd_wr_other s a b v (Nat.ne_of_gt (Nat.lt_of_lt_of_le h hb))⟩

theorem setF (s : State) {f : Fld} (v : Nat) (h : f.addr < thBase) : BelowTh s (setF s f v) := wr s _ h

theorem setPier (s : State) (g : Nat) (p : Pier) : BelowTh s (setPier s g p) := of_regs rfl

theorem disarm (s : State) (x : Timer) : BelowTh s (disarm s x) := of_regs rfl

theorem armIn (s : State) (x : Timer) (n : Nat) : BelowTh s (armIn s x n) := of_regs rfl

theorem setTally (s : State) (x : TallyState) : BelowTh s { s with ty := x } := of_regs rfl

theorem raise (s : State) (source kind cls : Nat) (b : Bool) (addr : Nat) : BelowTh s (raise s source kind cls b addr) := by
  refine ⟨(RegWrites.raise s source kind cls b addr).wf, fun a ha => rd_raise_other s source kind cls b addr a fun hmem => ?_⟩
  have hlow : ∀ b ∈ reportRegs, b < thBase := by decide
  exact absurd (hlow a hmem) (Nat.not_lt.mpr ha)

theorem life (s : State) : BelowTh s (life s 16) := by
  have hlt : ∀ v, BelowTh s (Machine.wr s (aTY_LT 16) v) := fun v => wr s v (by decide)
  exact ite (((hlt _).trans (setTally _ _)).trans ((setF _ 1 (by decide)).trans (setF _ 1 (by decide)))) (hlt _)

theorem clampPier (s : State) {n l : Nat} (hn : n < 36) (hl : l < 512) : BelowTh s (clampPier s n l) := by
  have hout : aPR_OUT n l < thBase := by
    unfold aPR_OUT spBase thBase
    omega
  have hstaged : ∀ d, stagedWord n l d < thBase := fun d => by
    unfold stagedWord aPR_STAGED_A aPR_STAGED_B spBase thBase
    split <;> omega
  exact (wr s _ hout).trans (((setF _ 0 (hstaged 0)).trans (setF _ 0 (hstaged 1))).trans (setPier _ _ _))

theorem clampPiers (s : State) {n : Nat} (hn : n < 36) : BelowTh s (clampPiers s n) :=
  foldl _ (fun s _ hl => clampPier s hn (List.mem_range.mp hl)) s

theorem closeClamp (s : State) {n : Nat} (hn : n < 36) : BelowTh s (closeClamp s n) := by
  have hstatus : aLZ_STATUS n < thBase := by
    unfold aLZ_STATUS spBase thBase
    omega
  have hshown : ∀ u, BelowTh u (clampShown u n) := fun u => ((setF u 1 hstatus).trans (setF _ 0 hstatus)).trans (setF _ 0 hstatus)
  rw [closeClamp_eq]
  exact ((clampPiers s hn).trans (hshown _)).trans (disarm _ _)

theorem setLink (s : State) {p : Nat} (hp : p < 6) (l : LinkStatus) : BelowTh s (setLink s p l) := by
  have hstatus : aCP_STATUS p < thBase := by
    unfold aCP_STATUS cpBase thBase
    omega
  have hint : aCP_INT p < thBase := by
    unfold aCP_INT cpBase thBase
    omega
  have hchanged : BelowTh s (if linkOf s p l = flag s (CP_STATUS_LINK p) then s else event s (CP_INT_LINK_CHG p)) := ite (of_regs rfl) (setF s 1 hint)
  exact ((((hchanged.trans (setF _ _ hstatus)).trans (setF _ _ hstatus)).trans (setF _ _ hstatus)).trans (setF _ _ hstatus)).trans (setF _ _ hstatus)

theorem portLockLost (s : State) {p : Nat} (hp : p < 6) : BelowTh s (portLockLost s p) :=
  ite ((setLink s hp _).trans (armIn _ _ _)) (setLink s hp _)

theorem flag (h : BelowTh s t) {f : Fld} (hf : thBase ≤ f.addr) : flag t f = Machine.flag s f := by
  rw [Machine.flag, getF, h.word _ hf]
  rfl

theorem count (h : BelowTh s t) {a : Nat} (ha : thBase ≤ a) : count t a = Machine.count s a := by
  rw [Machine.count, h.word _ ha, h.word _ (Nat.le_add_right_of_le ha)]
  rfl

end BelowTh

/-! ### A lock is lost (R372, R460) -/

/-- The loss of a lock is recorded. -/
def lossNoted (s : State) (i : Nat) : State := bump (event (event s (TH_PLL_LOSS i)) TH_PINT_PLL_LOSS) (cTHP_CNT 7)

/-- A PLL that lost its lock tries again. -/
def pllLost (s : State) (i : Nat) : State := startPll (life (lossNoted s i) 16) i

theorem lossNoted_fields {s : State} {i : Nat} (hs : s.RegsWf) (hi : i < 45) : (lossNoted s i).RegsWf ∧ flag (lossNoted s i) (TH_PLL_LOSS i) = true
    ∧ flag (lossNoted s i) TH_PINT_PLL_LOSS = true ∧ count (lossNoted s i) (cTHP_CNT 7) = (count s (cTHP_CNT 7) + 1) % 2 ^ 48 := by
  have hloss := regsWf_setF s (TH_PLL_LOSS i) 1 hs
  have hpint := regsWf_setF _ TH_PINT_PLL_LOSS 1 hloss
  have hcounted : RegWrites (counterFields (cTHP_CNT 7)) (event (event s (TH_PLL_LOSS i)) TH_PINT_PLL_LOSS) (lossNoted s i) := .bump _ _ (List.Subset.refl _)
  have hevents : RegWrites [TH_PLL_LOSS i, TH_PINT_PLL_LOSS] s (event (event s (TH_PLL_LOSS i)) TH_PINT_PLL_LOSS) :=
    (RegWrites.event _ (by simp)).trans (.event _ (by simp))
  have hword : aTH_PLL i ≠ aTH_PINT ∧ aTH_PLL i < cTHP_CNT 7 := by
    unfold aTH_PLL aTH_PINT cTHP_CNT thBase
    omega
  have hcount : ∀ g ∈ counterFields (cTHP_CNT 7), Apart (TH_PLL_LOSS i) g := by
    simp only [counterFields, List.mem_cons, List.not_mem_nil, or_false, forall_eq_or_imp, forall_eq, Apart, TH_PLL_LOSS]
    exact ⟨.inl (by omega), .inl (by omega)⟩
  refine ⟨hcounted.wf hpint, ?_, ?_, ?_⟩
  · calc flag (lossNoted s i) (TH_PLL_LOSS i)
      _ = flag (event (event s (TH_PLL_LOSS i)) TH_PINT_PLL_LOSS) (TH_PLL_LOSS i) := hcounted.flag hpint (show 7 ≤ 7 ∧ 7 < 32 by decide) hcount
      _ = flag (event s (TH_PLL_LOSS i)) (TH_PLL_LOSS i) :=
        RegWrites.flag (W := [TH_PINT_PLL_LOSS]) (.event _ (by simp)) hloss (show 7 ≤ 7 ∧ 7 < 32 by decide) (by simpa using .inl hword.1)
      _ = true := flag_event_same s _ hs (show 7 < 32 by decide) (le_refl 7)
  · exact (hcounted.flag hpint (by decide) (by decide)).trans (flag_event_same _ _ hloss (by decide) (by decide))
  · have hsame : count (event (event s (TH_PLL_LOSS i)) TH_PINT_PLL_LOSS) (cTHP_CNT 7) = count s (cTHP_CNT 7) := hevents.count hs (by
      simp only [List.mem_cons, List.not_mem_nil, or_false, forall_eq_or_imp, forall_eq, Apart, TH_PLL_LOSS, TH_PINT_PLL_LOSS]
      exact ⟨⟨.inl (by omega), .inl (by omega)⟩, by decide⟩)
    exact (count_bumpBy _ _ 1 hpint).trans (congrArg (fun c => (c + 1) % 2 ^ 48) hsame)

theorem pllLost_fields {s : State} {i : Nat} (hs : s.RegsWf) (hi : i < 45) : (pllLost s i).RegsWf ∧ flag (pllLost s i) (TH_PLL_LOCK i) = false
    ∧ flag (pllLost s i) (TH_PLL_LOSS i) = true ∧ flag (pllLost s i) TH_PINT_PLL_LOSS = true
    ∧ count (pllLost s i) (cTHP_CNT 7) = (count s (cTHP_CNT 7) + 1) % 2 ^ 48 := by
  obtain ⟨hnoted, hloss, hpint, hcount⟩ := lossNoted_fields hs hi
  have hlife := BelowTh.life (lossNoted s i)
  have hwf := hlife.wf hnoted
  have hstarted : RegWrites [TH_PLL_LOCK i] (life (lossNoted s i) 16) (pllLost s i) := (RegWrites.setF _ 0 (by simp)).trans (.setTries _ _ _)
  have hword : aTH_PLL i ≠ aTH_PINT ∧ aTH_PLL i < cTHP_CNT 7 ∧ thBase ≤ aTH_PLL i := by
    unfold aTH_PLL aTH_PINT cTHP_CNT thBase
    omega
  refine ⟨hstarted.wf hwf, ?_, ?_, ?_, ?_⟩
  · exact (flag_setTries _ _ _ _).trans (flag_setFlag_same (life (lossNoted s i) 16) (TH_PLL_LOCK i) false hwf (show 0 < 32 by decide) (le_refl 0))
  · refine (hstarted.flag hwf (show 7 ≤ 7 ∧ 7 < 32 by decide) ?_).trans ((hlife.flag hword.2.2).trans hloss)
    simp [Apart, TH_PLL_LOSS, TH_PLL_LOCK]
  · refine (hstarted.flag hwf (by decide) ?_).trans ((hlife.flag (by decide)).trans hpint)
    simpa [Apart] using .inl hword.1.symm
  · refine (hstarted.count hwf ?_).trans ((hlife.count (by decide)).trans hcount)
    simp only [List.mem_cons, List.not_mem_nil, or_false, forall_eq, Apart, TH_PLL_LOCK]
    exact ⟨.inl (by omega), .inl (by omega)⟩

theorem pllLost_mem (s : State) (i : Nat) : (pllLost s i).mem = s.mem := by
  obtain ⟨r, x, h⟩ := life_rest (lossNoted s i) 16
  rw [pllLost, h]
  rfl

theorem pllLost_fc (s : State) (i : Nat) : (pllLost s i).fc = s.fc := by
  obtain ⟨r, x, h⟩ := life_rest (lossNoted s i) 16
  rw [pllLost, h]
  rfl

end Sys2Proof.Machine

namespace Sys2Proof.Machine

/-- The fault of a PLL's loss is recorded once a span's clamp is closed, or a port's link is down. -/
def lossFaulted (s : State) (i : Nat) : State :=
  if i ≤ 38 then raise (closeClamp s (i - 3)) (0x500 + i) 0x42 clsFatal false (i - 3)
  else raise (portLockLost s (i - 39)) (0x500 + i) 0x43 clsCorrected false (i - 39)

theorem exec_pllLoss {s : State} {i : PllIx} (b : Option Burst) (hlock : flag s (TH_PLL_LOCK i) = true) (hi : 3 ≤ i.val) :
    exec (.pllLoss i b) s = .next (lossFaulted (pllLost s i) i) := by
  change execPllLoss i b s = _
  unfold execPllLoss lossFaulted
  rw [if_neg (by simp [hlock])]
  dsimp only
  rw [if_neg (by omega), if_neg (by omega)]
  split <;> rfl

theorem lossFaulted_below (s : State) {i : Nat} (hi : 3 ≤ i ∧ i < 45) : BelowTh s (lossFaulted s i) := by
  unfold lossFaulted
  split
  · exact (BelowTh.closeClamp s (by omega)).trans (.raise _ _ _ _ _ _)
  · exact (BelowTh.portLockLost s (by omega)).trans (.raise _ _ _ _ _ _)

theorem setLink_regs (s : State) (p : Nat) (l : LinkStatus) : RegsOnly s (setLink s p l) := by
  have hchanged : RegsOnly s (if linkOf s p l = flag s (CP_STATUS_LINK p) then s else event s (CP_INT_LINK_CHG p)) := by
    split
    · exact .refl s
    · exact .event s _
  exact ((((hchanged.trans (.setFlag _ _ _)).trans (.setFlag _ _ _)).trans (.setFlag _ _ _)).trans (.setFlag _ _ _)).trans (.setFlag _ _ _)

theorem portLockLost_mem (s : State) (p : Nat) : (portLockLost s p).mem = s.mem := by
  obtain ⟨r, h⟩ := setLink_regs s p ⟨false, false, flag s (CP_STATUS_LOCAL_FAULT p), flag s (CP_STATUS_REMOTE_FAULT p)⟩
  unfold portLockLost
  rw [h]
  split <;> rfl

theorem lossFaulted_mem (s : State) (i : Nat) : (lossFaulted s i).mem = s.mem := by
  unfold lossFaulted
  split
  · exact (raise_mem _ _ _ _ _ _).trans (ClampFrame.closeClamp s _).mem
  · exact (raise_mem _ _ _ _ _ _).trans (portLockLost_mem s _)

/-- A span's lost lock closes its clamp, and its fault is fatal. -/
theorem lossFaulted_span {s : State} {i : Nat} (hs : s.RegsWf) (hwf : QueuesWf s) (hi : i ≤ 38) :
    clamped (lossFaulted s i) (i - 3) = true ∧
      queueOf (lossFaulted s i) (0x500 + i) = queueOf s (0x500 + i) ++ [faultMsg (0x500 + i) 0x42 clsFatal false (i - 3)] := by
  have hclosed := ClampFrame.closeClamp s (i - 3)
  have hstatus : aLZ_STATUS (i - 3) < dkBase := by
    unfold aLZ_STATUS spBase dkBase
    omega
  have hreport : ∀ g ∈ reportFields, dkBase ≤ g.addr := by decide
  rw [lossFaulted, if_pos hi]
  constructor
  · have hkept : flag (raise (closeClamp s (i - 3)) (0x500 + i) 0x42 clsFatal false (i - 3)) (LZ_STATUS_CLAMPED (i - 3)) = clamped (closeClamp s (i - 3)) (i - 3) :=
      (RegWrites.raise _ _ _ _ _ _).flag (hclosed.wf hs) (show 6 ≤ 6 ∧ 6 < 32 by decide) fun g hg => .inl (Nat.ne_of_lt (Nat.lt_of_lt_of_le hstatus (hreport g hg)))
    exact hkept.trans (clamped_closeClamp _ hs)
  · rw [queueOf_raise_fatal _ _ _ _ _ (queuesWf_congr hclosed.fc hwf) (Nat.mod_eq_of_lt (by omega)), queueOf_congr hclosed.fc]

/-- A lost lock is recorded; a span PLL's loss closes its clamp and is fatal. -/
theorem pllLoss_recorded {s : State} {i : PllIx} (b : Option Burst) (hs : s.RegsWf) (hwf : QueuesWf s) (hlock : flag s (TH_PLL_LOCK i) = true) (hi : 3 ≤ i.val) :
    ∃ t, exec (.pllLoss i b) s = .next t ∧ flag t (TH_PLL_LOCK i) = false ∧ flag t (TH_PLL_LOSS i) = true ∧ flag t TH_PINT_PLL_LOSS = true
      ∧ count t (cTHP_CNT 7) = (count s (cTHP_CNT 7) + 1) % 2 ^ 48 ∧ t.mem = s.mem
      ∧ (i.val ≤ 38 → clamped t (i.val - 3) = true
          ∧ queueOf t (0x500 + i.val) = queueOf s (0x500 + i.val) ++ [faultMsg (0x500 + i.val) 0x42 clsFatal false (i.val - 3)]) := by
  obtain ⟨hlost, hunlocked, hloss, hpint, hcount⟩ := pllLost_fields hs i.isLt
  have hbelow := lossFaulted_below (pllLost s i) ⟨hi, i.isLt⟩
  have hpll : thBase ≤ aTH_PLL i := by
    unfold aTH_PLL
    omega
  refine ⟨_, exec_pllLoss b hlock hi, (hbelow.flag hpll).trans hunlocked, (hbelow.flag hpll).trans hloss, (hbelow.flag (by decide)).trans hpint,
    (hbelow.count (by decide)).trans hcount, (lossFaulted_mem _ _).trans (pllLost_mem s i), fun hspan => ?_⟩
  have hfault := lossFaulted_span hlost (queuesWf_congr (pllLost_fc s i) hwf) hspan
  rwa [queueOf_congr (pllLost_fc s i)] at hfault

/-- The clamps close and the fault of the core PLL is recorded. -/
def coreFaulted (s : State) : State := raise (closeClamps (pllLost s 0)) 0x500 0x40 clsFatal false 0

theorem exec_pllLoss_core {s : State} (b : Option Burst) (hlock : flag s (TH_PLL_LOCK 0) = true) (habove : 2 ≤ pstate s) :
    exec (.pllLoss 0 b) s = .next (enterState (moveDropped (coreFaulted s)) 5) := by
  change execPllLoss 0 b s = _
  have hcore : (0 : PllIx).val = 0 := rfl
  unfold execPllLoss coreFaulted pllLost lossNoted
  rw [if_neg (by simp [hlock])]
  dsimp only
  rw [if_pos hcore, if_neg (by omega), hcore]
  generalize raise (closeClamps (startPll (life (bump (event (event s (TH_PLL_LOSS 0)) TH_PINT_PLL_LOSS) (cTHP_CNT 7)) 16) 0)) 0x500 0x40 clsFatal false 0 = u
  rfl

/-- An entered state shows. -/
theorem pstate_enterState {s : State} (hs : s.RegsWf) {x : Nat} (hx : x < 8) : pstate (enterState s x) = x := by
  have hset := regsWf_setF s TH_PSTATE_STATE x hs
  have hready : RegWrites readyFields (setF s TH_PSTATE_STATE x) (enterState s x) := .of_nt (refreshReady_writes _)
  exact (hready.getF hset (by decide) (by decide)).trans ((getF_setF_same s _ _ hs (by decide)).trans (Nat.mod_eq_of_lt hx))

theorem enterState_regs (s : State) (x : Nat) : RegsOnly s (enterState s x) := (RegsOnly.setF s TH_PSTATE_STATE x).trans (refreshReady_regs _)

/-- The core PLL's loss above Standby leads to Fault. -/
theorem pllLoss_core {s : State} (b : Option Burst) (hs : s.RegsWf) (hlock : flag s (TH_PLL_LOCK 0) = true) (habove : 2 ≤ pstate s) :
    ∃ t, exec (.pllLoss 0 b) s = .next t ∧ pstate t = 5 ∧ t.pw.moving = none := by
  obtain ⟨hlost, -⟩ := pllLost_fields hs (show 0 < 45 by decide)
  have hclosed := ClampFrame.closeClamps (pllLost s 0)
  have hfaulted : (coreFaulted s).RegsWf := (RegWrites.raise _ _ _ _ _ _).wf (hclosed.wf hlost)
  have hdropped : (moveDropped (coreFaulted s)).RegsWf := (moveDropped_kept _).1.wf hfaulted
  obtain ⟨r, h⟩ := enterState_regs (moveDropped (coreFaulted s)) 5
  refine ⟨_, exec_pllLoss_core b hlock habove, pstate_enterState hdropped (by decide), ?_⟩
  rw [h]
  rfl

/-- Settles O50: what an attempt's end writes stands through what follows it, and the loss of a lock is noted above every register that its fault writes. -/
theorem plls : Obligations.Plls := by
  unfold Obligations.Plls
  refine ⟨?_, ?_, ?_, ?_, ?_⟩
  · intro s i band k t0 hs hwf htries hk
    exact ⟨pllLock_shows hs.1 hwf htries hk, exec_pllLock_refused htries hk⟩
  · intro s i t0 hs hwf
    exact ⟨pllLockTimeout_first hs.1 hwf, pllLockTimeout_second hs.1 hwf, fun k => exec_pllLockTimeout_early⟩
  · intro s i b h
    exact if_pos h
  · intro s i b hs hwf hlock hi
    exact pllLoss_recorded b hs.1 hwf hlock hi
  · intro s b hs hlock habove
    exact pllLoss_core b hs.1 hlock habove

end Sys2Proof.Machine

namespace Sys2Proof.Machine

/-! ### A transition begins (R374 to R377) -/

/-- The transition in progress, the requests, the flash and the Tollhouse's work stand as they were. -/
structure MoveFrame (s t : State) : Prop where
  moving : t.pw.moving = s.pw.moving
  ad : t.ad = s.ad
  flash : t.flash = s.flash
  th : t.th = s.th

namespace MoveFrame
variable {s t u : State}

theorem refl (s : State) : MoveFrame s s := ⟨rfl, rfl, rfl, rfl⟩

theorem trans (h : MoveFrame s t) (k : MoveFrame t u) : MoveFrame s u :=
  ⟨k.moving.trans h.moving, k.ad.trans h.ad, k.flash.trans h.flash, k.th.trans h.th⟩

theorem foldl {α : Type} {f : State → α → State} (hf : ∀ s a, MoveFrame s (f s a)) (l : List α) (s : State) : MoveFrame s (l.foldl f s) := by
  induction l generalizing s with
  | nil => exact refl s
  | cons a l ih => exact (hf s a).trans (ih (f s a))

theorem ite {c : Prop} [Decidable c] (ht : MoveFrame s t) (hu : MoveFrame s u) : MoveFrame s (if c then t else u) := by
  split
  · exact ht
  · exact hu

theorem of_regs (h : RegsOnly s t) : MoveFrame s t := by obtain ⟨r, rfl⟩ := h; exact ⟨rfl, rfl, rfl, rfl⟩

theorem of_clamp (h : ClampFrame s t) : MoveFrame s t := by obtain ⟨⟨r, d, x, rfl⟩, -⟩ := h; exact ⟨rfl, rfl, rfl, rfl⟩

theorem of_drive (h : DriveFrame s t) : MoveFrame s t := of_clamp (.of_drive h)

theorem setF (s : State) (f : Fld) (v : Nat) : MoveFrame s (setF s f v) := of_regs (.setF s f v)
theorem setFlag (s : State) (f : Fld) (b : Bool) : MoveFrame s (setFlag s f b) := of_regs (.setFlag s f b)
theorem disarm (s : State) (x : Timer) : MoveFrame s (disarm s x) := ⟨rfl, rfl, rfl, rfl⟩
theorem armIn (s : State) (x : Timer) (n : Nat) : MoveFrame s (armIn s x n) := ⟨rfl, rfl, rfl, rfl⟩
theorem setTries (s : State) (i : Nat) (x : Option (Nat × Nat)) : MoveFrame s (setTries s i x) := ⟨rfl, rfl, rfl, rfl⟩
theorem setPier (s : State) (g : Nat) (p : Pier) : MoveFrame s (setPier s g p) := ⟨rfl, rfl, rfl, rfl⟩
theorem setCal (s : State) (c : Cal) : MoveFrame s { s with cal := c } := ⟨rfl, rfl, rfl, rfl⟩
theorem setTruss (s : State) (x : Truss) : MoveFrame s { s with te := x } := ⟨rfl, rfl, rfl, rfl⟩
theorem setBoot (s : State) (b : Boot) : MoveFrame s { s with bt := b } := ⟨rfl, rfl, rfl, rfl⟩
theorem setKeystone (s : State) (k : Keystone) : MoveFrame s { s with ks := k } := ⟨rfl, rfl, rfl, rfl⟩
theorem setDrive (s : State) (d : Drive) : MoveFrame s { s with dr := d } := ⟨rfl, rfl, rfl, rfl⟩

theorem setSeq (s : State) (n : Nat) (q : CalSeq) : MoveFrame s (setSeq s n q) := by
  obtain ⟨r, h⟩ := setSeq_rest s n q
  rw [h]
  exact ⟨rfl, rfl, rfl, rfl⟩

theorem releaseFronts (s : State) (n : Nat) : MoveFrame s (releaseFronts s n) := by
  obtain ⟨x, h⟩ := releaseFronts_rest s n
  rw [h]
  exact setTruss s x

theorem stopPlls (s : State) : MoveFrame s (stopPlls s) := foldl (fun s _ => (setF s _ _).trans (setTries _ _ _)) _ s

/-- Calibration runs are abandoned, and a sweep with them. -/
theorem abandonCal (s : State) : MoveFrame s (abandonCal s) := by
  have hstep : ∀ s n, MoveFrame s (abandonStep s n) := fun s n => by
    unfold abandonStep
    dsimp only
    split
    · exact refl s
    · exact (setSeq s _ _).trans (releaseFronts _ _)
  have hsteps : MoveFrame s ((List.range 36).foldl abandonStep s) := foldl hstep _ s
  unfold Machine.abandonCal
  generalize (List.range 36).foldl abandonStep s = u at hsteps ⊢
  dsimp only
  split
  · exact hsteps.trans (((setCal u _).trans (releaseFronts _ _)).trans (setFlag _ _ _))
  · exact hsteps

theorem dropRuns (s : State) : MoveFrame s (dropRuns s) :=
  (abandonCal s).trans (foldl (fun s n => (setSeq s n CalSeq.init).trans (disarm _ _)) _ _)

theorem parkPier (s : State) (n l : Nat) : MoveFrame s (parkPier s n l) := by
  have hdiscarded := of_drive (discardStaged_frame s n l)
  unfold Machine.parkPier
  exact ite hdiscarded (((hdiscarded.trans (of_drive (unfreeze_frame _ _ _))).trans (setF _ _ _)).trans (setPier _ _ _))

theorem parkSpan (s : State) (n : Nat) : MoveFrame s (parkSpan s n) := by
  have hpiers : MoveFrame s ((List.range 512).foldl (fun s l => Machine.parkPier s n l) s) := foldl (fun s l => parkPier s n l) _ s
  unfold Machine.parkSpan
  generalize (List.range 512).foldl (fun s l => Machine.parkPier s n l) s = u at hpiers ⊢
  exact ite (refl s) (ite (hpiers.trans ((((setDrive u _).trans (setF _ _ _)).trans (setF _ _ _)).trans (armIn _ _ _))) (hpiers.trans (setDrive u _)))

theorem abandonResync (s : State) (n : Nat) : MoveFrame s (abandonResync s n) :=
  ((foldl (fun _ _ => ite (setF _ _ _) (refl _)) _ s).trans (disarm _ _)).trans (disarm _ _)

theorem parkRequest (s : State) : MoveFrame s (parkRequest s) :=
  ((foldl parkSpan _ s).trans (abandonCal _)).trans (foldl abandonResync _ _)

theorem clearKeystone (s : State) : MoveFrame s (clearKeystone s) := (setKeystone s _).trans (of_regs (showKeystone_regs _))

theorem openAndRamp (s : State) (n : Nat) : MoveFrame s (openAndRamp s n) := by
  have hpier : ∀ (u : State) (l : Nat) (p : Pier), MoveFrame u
      (Machine.setPier (Machine.setF (Machine.setF (Machine.setF (Machine.setF (setLiveF (setLiveF u n l 0 0) n l 1 0) (liveT n l 0) 0) (liveT n l 1) 0)
        (PR_OUT_CLAMPED n l) 0) (PR_OUT_PARKED n l) 1) (pierIx n l) p) := fun u l p =>
    ((((((of_drive (setLiveF_frame u n l 0 0)).trans (of_drive (setLiveF_frame _ n l 1 0))).trans (setF _ _ _)).trans (setF _ _ _)).trans (setF _ _ _)).trans
      (setF _ _ _)).trans (setPier _ _ _)
  have hdrives : ∀ u : State, ∀ x : Drive, ∀ k, MoveFrame u
      (Machine.armIn (Machine.setF (Machine.setF { u with dr := x } (LZ_STATUS_CLAMPED n) 0) (LZ_STATUS_RAMPING n) 1) (.ramp n) k) := fun u x k =>
    (((setDrive u x).trans (setF _ _ _)).trans (setF _ _ _)).trans (armIn _ _ _)
  exact (foldl (fun u l => hpier u l _) (List.range 512) s).trans (hdrives _ _ _)

theorem trigger (s : State) (n k : Nat) : MoveFrame s (trigger s n k) := by
  unfold Machine.trigger
  exact ite (refl s) (ite ((setSeq s n _).trans (armIn _ _ _)) (setSeq s n _))

theorem setLink (s : State) (p : Nat) (l : LinkStatus) : MoveFrame s (setLink s p l) := of_regs (setLink_regs s p l)

end MoveFrame

end Sys2Proof.Machine

namespace Sys2Proof.Machine

theorem beginMove_rest (s : State) (m : Move) (k : Nat) :
    ∃ r, beginMove s m k = { s with regs := r, pw := { s.pw with moving := some ⟨m, k, s.elapsed, s.elapsed⟩ } } := refreshReady_regs _

theorem beginMove_moving (s : State) (m : Move) (k : Nat) : (beginMove s m k).pw.moving = some ⟨m, k, s.elapsed, s.elapsed⟩ := by
  obtain ⟨r, h⟩ := beginMove_rest s m k
  rw [h]

/-- A transition that began stands through what keeps the transition in progress. -/
theorem began_of_frame {s t : State} {m : Move} {k : Nat} (h : MoveFrame (beginMove s m k) t) : Began s t m := ⟨k, h.moving.trans (beginMove_moving s m k)⟩

/-- A transition is in progress. -/
def moveSet (s : State) (m : Move) (k : Nat) : State := { s with pw := { s.pw with moving := some ⟨m, k, s.elapsed, s.elapsed⟩ } }

theorem beginMove_writes (s : State) (m : Move) (k : Nat) : RegWrites readyFields s (beginMove s m k) := by
  have hset : RegWrites readyFields s (moveSet s m k) := .of_regs rfl
  exact hset.trans (.of_nt (refreshReady_writes (moveSet s m k)))

/-! ### Sleep to Standby (R374) -/

section SleepStandby
variable {s : State} (hmay : mayMove s 0 = true) (htarget : 1 ≤ getF s TH_PCTRL_TARGET) (htsd : flag s TH_STATUS_TSD_PEND = false)
  (hlatch : flag s TH_STATUS_TSD_LATCH = false ∨ cooled s = true)
include hmay htarget htsd hlatch

theorem exec_sleepToStandby : exec .sleepToStandby s = .next (if railsGood s 2 then beginMove s .sleepStandby 1 else railWait s) := if_pos ⟨hmay, htarget, htsd, hlatch⟩

theorem sleepToStandby_begins (hs : s.RegsWf) (hrails : railsGood s 2 = true) :
    ∃ t, exec .sleepToStandby s = .next t ∧ Began s t .sleepStandby ∧ pstate t = 0 ∧ t = { s with regs := t.regs, pw := t.pw } := by
  have hstate : pstate s = 0 := by
    unfold mayMove at hmay
    simp only [Bool.and_eq_true, decide_eq_true_eq] at hmay
    exact hmay.1.1
  obtain ⟨r, h⟩ := beginMove_rest s .sleepStandby 1
  refine ⟨beginMove s .sleepStandby 1, (exec_sleepToStandby hmay htarget htsd hlatch).trans (by rw [if_pos hrails]), began_of_frame (.refl _),
    ((beginMove_writes s _ _).getF hs (by decide) (by decide)).trans hstate, ?_⟩
  rw [h]

/-- A transition without its rails says that it waits. -/
theorem sleepToStandby_waits (hs : s.RegsWf) (hrails : railsGood s 2 = false) :
    ∃ t, exec .sleepToStandby s = .next t ∧ t.pw = s.pw ∧ flag t TH_PINT_RAIL_WAIT = true ∧ t = { s with regs := t.regs } := by
  obtain ⟨r, h⟩ := (RegsOnly.event s TH_PINT_RAIL_WAIT).trans (refreshReady_regs _)
  have hready : RegWrites readyFields (event s TH_PINT_RAIL_WAIT) (railWait s) := .of_nt (refreshReady_writes _)
  refine ⟨railWait s, (exec_sleepToStandby hmay htarget htsd hlatch).trans (by simp [hrails]), ?_,
    (hready.flag (regsWf_setF _ _ _ hs) (by decide) (by decide)).trans (flag_event_same s _ hs (by decide) (by decide)), ?_⟩
  · rw [railWait, h]
  · rw [railWait, h]

end SleepStandby

/-! ### Standby to Ready (R375) -/

/-- A start's first act: the islands are reset, after a warm start with what stays. -/
def startReset (s : State) : State :=
  if s.bt.retained.isSome then setF (holdPorts (connectDeckA (resetWarm s))) NV_STATUS_FOOT_OK 0 else resetIslands s false

/-- What a start's reset leaves, whatever it does then with registers, faults, power and the boot's record: no requests, the clock at 0, and flash and epoch as they were. -/
structure StartClean (s t : State) : Prop where
  elapsed : t.elapsed = s.elapsed
  clock : t.clock = 0
  inflight : t.ad.inflight = []
  nt : t.nt = NetTime.init
  flash : t.flash = s.flash
  epoch : t.epoch = s.epoch

theorem StartClean.congr {s t u : State} (h : StartClean s t) (hu : ∃ r f w b, u = { t with regs := r, fc := f, pw := w, bt := b }) : StartClean s u := by
  obtain ⟨r, f, w, b, rfl⟩ := hu
  exact ⟨h.elapsed, h.clock, h.inflight, h.nt, h.flash, h.epoch⟩

theorem connectDeckA_regs (s : State) : RegsOnly s (connectDeckA s) := by
  refine RegsOnly.foldl (fun t e => ?_) _ s
  split
  · exact ⟨_, rfl⟩
  · exact .refl t

theorem holdPorts_rest (s : State) : ∃ r b, holdPorts s = { s with regs := r, bt := b } := by
  unfold holdPorts
  generalize List.range 6 = l
  induction l generalizing s with
  | nil => exact ⟨_, _, rfl⟩
  | cons p l ih =>
    rw [List.foldl_cons]
    split
    · obtain ⟨r, b, h⟩ := ih (setF { s with bt := { s.bt with held := s.bt.held ++ [(aCP_CTRL p, rd s (aCP_CTRL p))] } } (CP_CTRL_ENABLE p) 0)
      exact ⟨r, b, h⟩
    · exact ih s

theorem startReset_clean (s : State) : StartClean s (startReset s) ∧ (startReset s).pw = s.pw := by
  unfold startReset
  split
  · have hwarm : StartClean s (resetWarm s) := ⟨rfl, rfl, rfl, rfl, rfl, rfl⟩
    have hpower : (resetWarm s).pw = s.pw := rfl
    obtain ⟨r, hdeck⟩ := connectDeckA_regs (resetWarm s)
    obtain ⟨r', b, hports⟩ := holdPorts_rest (connectDeckA (resetWarm s))
    rw [hports, hdeck]
    generalize resetWarm s = u at hwarm hpower ⊢
    exact ⟨hwarm.congr ⟨_, _, _, _, rfl⟩, hpower⟩
  · exact ⟨⟨rfl, rfl, rfl, rfl, rfl, rfl⟩, rfl⟩

/-- The oscillator takes a trim within 1 %, and nothing else of power changes (R289). -/
theorem trimOscillator_rest (s : State) (osc : OscReading) :
    ∃ r f, trimOscillator s osc = { s with regs := r, fc := f, pw := { s.pw with oscTrim := if osc.within then osc.trim else s.pw.oscTrim } } := by
  unfold trimOscillator
  split
  · exact ⟨s.regs, s.fc, rfl⟩
  · obtain ⟨r, f, h⟩ := rejectP_rest s 0x400 0x7FFF
    exact ⟨r, f, h⟩

/-- The PLLs of the core and of both decks try to lock. -/
def firstPlls (s : State) : State := startPll (startPll (startPll s 0) 1) 2

theorem StartClean.startPll {s t : State} (h : StartClean s t) (i : Nat) : StartClean s (startPll t i) := h.congr ⟨_, _, _, _, rfl⟩

theorem triesOf_firstPlls {s : State} (h : TriesWf s) {i : Nat} (hi : i < 3) : triesOf (firstPlls s) i = some (1, s.elapsed) := by
  have hwf : ∀ {u : State} (f : Fld), TriesWf u → TriesWf (setF u f 0) := fun f hu => triesWf_congr rfl hu
  have hstart : ∀ {u : State} (k : Nat), TriesWf u → TriesWf (startPll u k) := fun k hu => triesWf_setTries (hwf _ hu) _ _
  have hsame : ∀ {u : State} (k : Nat), TriesWf u → triesOf (startPll u k) k = some (1, u.elapsed) := fun k hu => triesOf_setTries_same (hwf _ hu) _ _
  have hother : ∀ (u : State) {k j : Nat}, j ≠ k → triesOf (startPll u k) j = triesOf u j := fun u k j hne => triesOf_setTries_other _ _ hne
  have hlater : ∀ (u : State) (k : Nat), (startPll u k).elapsed = u.elapsed := fun _ _ => rfl
  unfold firstPlls
  obtain rfl | rfl | rfl : i = 0 ∨ i = 1 ∨ i = 2 := by omega
  · rw [hother _ (by decide), hother _ (by decide), hsame 0 h]
  · rw [hother _ (by decide), hsame 1 (hstart 0 h), hlater]
  · rw [hsame 2 (hstart 1 (hstart 0 h)), hlater, hlater]

/-- A PLL's last attempt has failed. -/
def pllFailed (s : State) : Bool := (List.range 45).any (fun i => match triesOf s i with | some (k, _) => decide (3 ≤ k) | none => false)

theorem pllFailed_eq_false {s : State} (h : ∀ i < 45, ∀ x, triesOf s i = some x → x.1 < 3) : pllFailed s = false := by
  refine List.any_eq_false.mpr fun i hi => ?_
  split
  next k t0 htries =>
    have := h i (List.mem_range.mp hi) _ htries
    simpa using this
  · exact Bool.false_ne_true

/-- What a start does once its rails are good. -/
def readyStarted (s : State) (osc : OscReading) : State := firstPlls (beginMove (trimOscillator (startReset s) osc) .standbyReady 1)

theorem exec_standbyToReady {s : State} (osc : OscReading) (hmay : mayMove s 1 = true) (htarget : 2 ≤ getF s TH_PCTRL_TARGET) (hfailed : pllFailed s = false)
    (htsd : flag s TH_STATUS_TSD_PEND = false) (hrails : railsGood s 3 = true) : exec (.standbyToReady osc) s = .next (readyStarted s osc) := by
  change execStandbyToReady osc s = _
  unfold execStandbyToReady
  dsimp only
  rw [if_pos ⟨hmay, htarget, hfailed, htsd⟩, if_pos hrails]
  rfl

theorem readyStarted_clean (s : State) (osc : OscReading) : StartClean s (readyStarted s osc) := by
  obtain ⟨hclean, -⟩ := startReset_clean s
  unfold readyStarted
  generalize startReset s = u at hclean ⊢
  obtain ⟨r, f, htrim⟩ := trimOscillator_rest u osc
  obtain ⟨r', hbegun⟩ := beginMove_rest (trimOscillator u osc) .standbyReady 1
  have htrimmed : StartClean s (trimOscillator u osc) := hclean.congr ⟨r, f, _, _, htrim⟩
  generalize trimOscillator u osc = v at htrimmed hbegun ⊢
  have hmoving : StartClean s (beginMove v .standbyReady 1) := htrimmed.congr ⟨r', _, _, _, hbegun⟩
  exact ((hmoving.startPll 0).startPll 1).startPll 2

/-- A start's power: the oscillator trimmed, the transition in progress, and three PLLs that try to lock. -/
theorem readyStarted_power {s : State} (osc : OscReading) (hwf : TriesWf s) : Began s (readyStarted s osc) .standbyReady
    ∧ (∀ i < 3, triesOf (readyStarted s osc) i = some (1, s.elapsed)) ∧ (readyStarted s osc).pw.oscTrim = (if osc.within then osc.trim else s.pw.oscTrim) := by
  obtain ⟨hclean, hpw⟩ := startReset_clean s
  have helapsed := hclean.elapsed
  unfold readyStarted
  generalize startReset s = u at helapsed hpw ⊢
  obtain ⟨r, f, htrim⟩ := trimOscillator_rest u osc
  obtain ⟨htrimElapsed, htrimTries, htrimmed⟩ : (trimOscillator u osc).elapsed = u.elapsed ∧ (trimOscillator u osc).pw.tries = u.pw.tries
      ∧ (trimOscillator u osc).pw.oscTrim = if osc.within then osc.trim else u.pw.oscTrim := by
    rw [htrim]
    exact ⟨rfl, rfl, rfl⟩
  rw [helapsed] at htrimElapsed
  rw [hpw] at htrimTries htrimmed
  generalize trimOscillator u osc = v at htrimElapsed htrimTries htrimmed ⊢
  have htries : TriesWf v := by
    rw [TriesWf, htrimTries]
    exact hwf
  obtain ⟨r', hbegun⟩ := beginMove_rest v .standbyReady 1
  rw [hbegun]
  refine ⟨⟨1, ?_⟩, fun i hi => ?_, htrimmed⟩
  · rw [← htrimElapsed]
    rfl
  · rw [← htrimElapsed]
    exact triesOf_firstPlls htries hi

/-! ### Ready to Hold (R376) -/

theorem requestUrgent_rest (s : State) (u : Urgent) : ∃ r x, requestUrgent s u = { s with regs := r, th := x } := by
  have habort : ∃ r x, abortConversion s = { s with regs := r, th := x } := by
    unfold abortConversion
    split
    · exact ⟨_, _, rfl⟩
    · exact ⟨_, _, rfl⟩
  obtain ⟨r, x, h⟩ := habort
  unfold requestUrgent
  rw [h]
  split
  · exact ⟨_, _, rfl⟩
  · exact ⟨_, _, rfl⟩

theorem calibrateHk_rest (s : State) : ∃ r x, calibrateHk s = { s with regs := r, th := x } := by
  unfold calibrateHk
  split
  · unfold nextCalConversion
    split
    · exact requestUrgent_rest _ _
    · exact ⟨_, _, rfl⟩
  · exact ⟨_, _, rfl⟩

/-- The runs of a power-up in one span. -/
def spanTriggered (s : State) (n : Nat) : State :=
  if flag s CAL_CTRL_MON_EN then trigger (if flag s CAL_CTRL_OFS_EN then trigger s n 0 else s) n 1 else if flag s CAL_CTRL_OFS_EN then trigger s n 0 else s

/-- The runs of a power-up in the spans that are closed. -/
def spansTriggered (s : State) : State := (clampedSpans s).foldl spanTriggered { s with te := { s.te with ext := [] } }

theorem beginPowerUp_eq (s : State) : beginPowerUp s = if flag s CAL_CTRL_OFS_EN then calibrateHk (spansTriggered s) else spansTriggered s := rfl

theorem spansTriggered_frame (s : State) : MoveFrame s (spansTriggered s) := by
  have hspan : ∀ u n, MoveFrame u (spanTriggered u n) := fun u n => by
    have hoffsets : MoveFrame u (if flag u CAL_CTRL_OFS_EN then trigger u n 0 else u) := .ite (.trigger u n 0) (.refl u)
    exact .ite (hoffsets.trans (.trigger _ n 1)) hoffsets
  exact (MoveFrame.setTruss s _).trans (.foldl hspan _ _)

/-- The work of the way to Hold leaves the transition, the requests and the flash. -/
theorem startWork_keeps (s : State) (k : Nat) : (startWork s k).pw.moving = s.pw.moving ∧ (startWork s k).ad = s.ad ∧ (startWork s k).flash = s.flash := by
  have hopened : MoveFrame s ((clampedSpans s).foldl openAndRamp s) := .foldl MoveFrame.openAndRamp _ s
  have htriggered := spansTriggered_frame s
  unfold startWork
  split
  · rw [beginPowerUp_eq]
    split
    · obtain ⟨r, x, h⟩ := calibrateHk_rest (spansTriggered s)
      rw [h]
      exact ⟨htriggered.moving, htriggered.ad, htriggered.flash⟩
    · exact ⟨htriggered.moving, htriggered.ad, htriggered.flash⟩
  · split
    · exact ⟨hopened.moving, hopened.ad, hopened.flash⟩
    · exact ⟨rfl, rfl, rfl⟩

theorem readyToHold_begins {s : State} (hmay : mayMove s 2 = true) (htarget : 3 ≤ getF s TH_PCTRL_TARGET) (hfoot : flag s NV_STATUS_FOOT_OK = true)
    (hstage : getF s NV_STATUS_STAGE ≠ 6) (htsd : flag s TH_STATUS_TSD_PEND = false) (hdecks : everySpanHealthy s = true ∨ clampedSpans s = [])
    (hrails : railsGood s 6 = true) : ∃ t, exec .readyToHold s = .next t ∧ Began s t .readyHold ∧ t.ad = s.ad ∧ t.flash = s.flash := by
  have hexec : exec .readyToHold s = .next (startWork (beginMove s .readyHold (firstWork s 1)) (firstWork s 1)) :=
    (if_pos ⟨hmay, htarget, hfoot, hstage, htsd, hdecks⟩).trans (if_pos hrails)
  obtain ⟨hmoving, had, hflash⟩ := startWork_keeps (beginMove s .readyHold (firstWork s 1)) (firstWork s 1)
  obtain ⟨r, hbegun⟩ := beginMove_rest s .readyHold (firstWork s 1)
  have hbegunAd : (beginMove s .readyHold (firstWork s 1)).ad = s.ad := by rw [hbegun]
  have hbegunFlash : (beginMove s .readyHold (firstWork s 1)).flash = s.flash := by rw [hbegun]
  exact ⟨_, hexec, ⟨_, hmoving.trans (beginMove_moving s _ _)⟩, had.trans hbegunAd, hflash.trans hbegunFlash⟩

end Sys2Proof.Machine

namespace Sys2Proof.Machine

/-! ### A transition ends in its state (R374, R375) -/

/-- TH_PLAST shows the transition that ends. -/
def lastShown (s : State) (x dur : Nat) : State := setF (setF (setF s TH_PLAST_DUR dur) TH_PLAST_FROM (pstate s)) TH_PLAST_TO x

/-- The entered state is counted, reported and shown. -/
def arrivalShown (s : State) (x : Nat) : State := setF (bump (event s TH_PINT_STATE_CHG) (cTHP_CNT x)) TH_PSTATE_STATE x

theorem endMove_eq (s : State) {x : Nat} (hx : 2 ≤ x) : ∃ dur, endMove s x = disarm (stepReady (arrivalShown (moveDropped (lastShown s x dur)) x)) .wake := by
  refine ⟨min ((s.elapsed - (match s.pw.moving with | some m => m.began | none => s.elapsed)) / 4000) 0xFFFFFF, ?_⟩
  unfold endMove
  dsimp only
  rw [if_neg (by omega)]
  rfl

theorem lastShown_fields {s : State} (x dur : Nat) (hs : s.RegsWf) (hx : x < 8) : (lastShown s x dur).RegsWf ∧ getF (lastShown s x dur) TH_PLAST_TO = x
    ∧ getF (lastShown s x dur) TH_PLAST_FROM = pstate s := by
  have hdur := regsWf_setF s TH_PLAST_DUR dur hs
  have hfrom := regsWf_setF _ TH_PLAST_FROM (pstate s) hdur
  have hpstate : pstate s < 2 ^ 3 := getF_lt s TH_PSTATE_STATE
  refine ⟨regsWf_setF _ TH_PLAST_TO x hfrom, ?_, ?_⟩
  · exact (getF_setF_same _ _ _ hfrom (by decide)).trans (Nat.mod_eq_of_lt hx)
  · calc getF (lastShown s x dur) TH_PLAST_FROM
      _ = getF (setF (setF s TH_PLAST_DUR dur) TH_PLAST_FROM (pstate s)) TH_PLAST_FROM :=
        RegWrites.getF (W := [TH_PLAST_TO]) (.setF _ _ (by simp)) hfrom (by decide) (by decide)
      _ = pstate s := (getF_setF_same _ _ _ hdur (by decide)).trans (Nat.mod_eq_of_lt hpstate)

/-- The fields that an arrival in state `x` writes. -/
def arrivalFields (x : Nat) : List Fld := TH_PINT_STATE_CHG :: TH_PSTATE_STATE :: counterFields (cTHP_CNT x)

theorem arrivalShown_writes (s : State) (x : Nat) : RegWrites (arrivalFields x) s (arrivalShown s x) :=
  ((RegWrites.event s (by simp [arrivalFields])).trans (.bump _ _ fun _ h => by simp [arrivalFields, h])).trans (.setF _ _ (by simp [arrivalFields]))

theorem apart_arrivalFields {f : Fld} {x : Nat} (hx : x < 8) (haddr : f.addr = aTH_PLAST) : ∀ g ∈ arrivalFields x, Apart f g := by
  have hcount : aTH_PLAST ≠ cTHP_CNT x ∧ aTH_PLAST ≠ cTHP_CNT x + 4 := by
    unfold aTH_PLAST cTHP_CNT thBase
    omega
  simp only [arrivalFields, counterFields, List.mem_cons, List.not_mem_nil, or_false, forall_eq_or_imp, forall_eq, Apart, haddr]
  exact ⟨.inl (by decide), .inl (by decide), .inl hcount.1, .inl hcount.2⟩

theorem arrivalShown_fields {s : State} {x : Nat} (hs : s.RegsWf) (hx : x < 8) : (arrivalShown s x).RegsWf ∧ pstate (arrivalShown s x) = x
    ∧ flag (arrivalShown s x) TH_PINT_STATE_CHG = true := by
  have hevent := regsWf_setF s TH_PINT_STATE_CHG 1 hs
  have hcount : aTH_PINT ≠ cTHP_CNT x ∧ aTH_PINT ≠ cTHP_CNT x + 4 := by
    unfold aTH_PINT cTHP_CNT thBase
    omega
  have hcounted : RegWrites (TH_PSTATE_STATE :: counterFields (cTHP_CNT x)) (event s TH_PINT_STATE_CHG) (arrivalShown s x) :=
    (RegWrites.bump _ _ (List.subset_cons_self _ _)).trans (.setF _ _ (by simp))
  refine ⟨hcounted.wf hevent, (getF_setF_same _ _ _ (regsWf_bumpBy _ _ 1 hevent) (by decide)).trans (Nat.mod_eq_of_lt hx), ?_⟩
  refine (hcounted.flag hevent (by decide) ?_).trans (flag_event_same s _ hs (by decide) (by decide))
  simp only [counterFields, List.mem_cons, List.not_mem_nil, or_false, forall_eq_or_imp, forall_eq, Apart]
  exact ⟨.inl (by decide), .inl hcount.1, .inl hcount.2⟩

theorem stepReady_regs (s : State) : RegsOnly s (stepReady s) := by
  have hshown : ∀ t, RegsOnly s (showState (setReady (setFlag s TH_PSTATE_TRANSIT true) t)) := fun t =>
    ((((RegsOnly.setFlag s _ _).trans (.setF _ _ _)).trans (.setF _ _ _)).trans (.setFlag _ _ _)).trans (.setF _ _ _)
  unfold stepReady
  split
  · exact hshown _
  · exact refreshReady_regs s

theorem stepReady_writes (s : State) : RegWrites readyFields s (stepReady s) := by
  have hshown : ∀ t, NtWrites readyFields s (showState (setReady (setFlag s TH_PSTATE_TRANSIT true) t)) := fun t =>
    ((NtWrites.setFlag s _ (by decide)).trans (setReady_writes _ t)).trans (showState_writes _)
  exact .of_nt (.ite (hshown _) (refreshReady_writes s))

/-- An arrival as it shows, with the readiness that follows. -/
def arrivedIn (s : State) (x : Nat) : State := stepReady (arrivalShown s x)

theorem arrivedIn_regs (s : State) (x : Nat) : RegsOnly s (arrivedIn s x) :=
  (((RegsOnly.event s TH_PINT_STATE_CHG).trans (.bump _ (cTHP_CNT x))).trans (.setF _ TH_PSTATE_STATE x)).trans (stepReady_regs (arrivalShown s x))

theorem arrivedIn_fields {s : State} {x : Nat} (hs : s.RegsWf) (hx : x < 8) : pstate (arrivedIn s x) = x ∧ flag (arrivedIn s x) TH_PINT_STATE_CHG = true
    ∧ getF (arrivedIn s x) TH_PLAST_TO = getF s TH_PLAST_TO ∧ getF (arrivedIn s x) TH_PLAST_FROM = getF s TH_PLAST_FROM := by
  obtain ⟨hwf, hpstate, hchanged⟩ := arrivalShown_fields hs hx
  have harrival := arrivalShown_writes s x
  have hready : RegWrites readyFields (arrivalShown s x) (arrivedIn s x) := stepReady_writes _
  exact ⟨(hready.getF hwf (by decide) (by decide)).trans hpstate, (hready.flag hwf (by decide) (by decide)).trans hchanged,
    (hready.getF hwf (by decide) (by decide)).trans (harrival.getF hs (by decide) (apart_arrivalFields hx rfl)),
    (hready.getF hwf (by decide) (by decide)).trans (harrival.getF hs (by decide) (apart_arrivalFields hx rfl))⟩

@[simp] theorem getF_moveDropped (s : State) (f : Fld) : getF (moveDropped s) f = getF s f := rfl

/-- A transition to Ready or above ends in its state, with requests and memory as they were. -/
theorem endMove_arrives {s : State} (hs : s.RegsWf) {x : Nat} (hx : 2 ≤ x ∧ x < 8) : Arrived s (endMove s x) x ∧ (endMove s x).ad = s.ad ∧ (endMove s x).mem = s.mem := by
  obtain ⟨dur, h⟩ := endMove_eq s hx.1
  obtain ⟨hlast, hto, hfrom⟩ := lastShown_fields x dur hs hx.2
  have hrest : RegsOnly s (lastShown s x dur) := ((RegsOnly.setF s _ _).trans (.setF _ _ _)).trans (.setF _ _ _)
  have had := hrest.ad
  have hmem := hrest.mem
  rw [h, ← arrivedIn]
  generalize lastShown s x dur = u at hlast hto hfrom had hmem ⊢
  have hdropped : (moveDropped u).RegsWf := (moveDropped_kept u).1.wf hlast
  obtain ⟨hpstate, hchanged, hkeptTo, hkeptFrom⟩ := arrivedIn_fields hdropped hx.2
  obtain ⟨r, hr⟩ := arrivedIn_regs (moveDropped u) x
  rw [getF_moveDropped] at hkeptTo hkeptFrom
  have hstill : (arrivedIn (moveDropped u) x).pw.moving = none := by
    rw [hr]
    rfl
  have hkept : (arrivedIn (moveDropped u) x).ad = u.ad ∧ (arrivedIn (moveDropped u) x).mem = u.mem := by
    rw [hr]
    exact ⟨rfl, rfl⟩
  generalize arrivedIn (moveDropped u) x = v at hpstate hchanged hkeptTo hkeptFrom hstill hkept ⊢
  exact ⟨⟨hpstate, hstill, hkeptTo.trans hto, hkeptFrom.trans hfrom, hchanged⟩, hkept.1.trans had, hkept.2.trans hmem⟩

section Schedule
variable {s : State}

theorem exec_holdToService (hmay : mayMove s 3 = true) (hrun : flag s LS_CTRL_RUN = true) (hwin : s.nt.winFrom ≤ netNs s)
    (htsd : flag s TH_STATUS_TSD_PEND = false) : exec .holdToService s = .next (if railsGood s 6 then endMove s 4 else railWait s) :=
  if_pos ⟨hmay, hrun, hwin, htsd⟩

theorem exec_serviceToHold (hmay : mayMove s 4 = true) (hrun : flag s LS_CTRL_RUN = false) (hwin : ∀ a b c d, s.nt.lastWin = some (a, b, c, d) → b ≤ netNs s) :
    exec .serviceToHold s = .next (endMove s 3) := by
  refine if_pos ⟨hmay, hrun, ?_⟩
  split
  next a b c d h => exact decide_eq_true (hwin a b c d h)
  · rfl

end Schedule

/-! ### Hold to Ready (R377) -/

theorem holdToReady_begins {s : State} (hmay : mayMove s 3 = true) (htarget : getF s TH_PCTRL_TARGET < 3) (hrun : flag s LS_CTRL_RUN = false)
    (hidle : s.ad.inflight = []) : ∃ t, exec .holdToReady s = .next t ∧ Began s t .holdReady ∧ t.ks.circuits = [] ∧ t.ad.inflight = [] := by
  have hparked := MoveFrame.parkRequest (beginMove s .holdReady 1)
  obtain ⟨r, hbegun⟩ := beginMove_rest s .holdReady 1
  have hframe := hparked.trans (.clearKeystone _)
  refine ⟨descend s, if_pos ⟨hmay, htarget, hrun, hidle⟩, began_of_frame hframe, ?_, ?_⟩
  · have hcleared : ∀ u, (clearKeystone u).ks.circuits = [] := fun u => by rw [clearKeystone, (showKeystone_regs _).ks]; rfl
    exact hcleared _
  · rw [descend, hframe.ad, hbegun]
    exact hidle

/-- With the schedule running or a request in flight Hold stays (R385). -/
theorem holdToReady_stays {s : State} (h : flag s LS_CTRL_RUN = true ∨ s.ad.inflight ≠ []) : exec .holdToReady s = .next s := by
  refine if_neg fun hall => ?_
  obtain ⟨-, -, hrun, hidle⟩ := hall
  rcases h with h | h
  · simp [h] at hrun
  · exact h hidle

/-! ### Ready to Standby, and Standby to Sleep (R375) -/

theorem breakHost_rest (s : State) (h : HostOp) : ∃ r f l, breakHost s h = { s with regs := r, free := f, flash := l } := by
  have hdirty : ∀ u a n, RegsOnly u (footDirty u a n) := fun u a n => by
    unfold footDirty
    split
    · exact .setFlag u _ _
    · exact .refl u
  have hbroken : ∀ u, (∃ f l, u = { s with free := f, flash := l }) → ∃ r f l, footDirty u h.addr h.len = { s with regs := r, free := f, flash := l } := by
    rintro u ⟨f, l, rfl⟩
    obtain ⟨r, hr⟩ := hdirty { s with free := f, flash := l } h.addr h.len
    exact ⟨r, f, l, hr⟩
  unfold breakHost
  split
  · exact ⟨s.regs, s.free, s.flash, rfl⟩
  · refine hbroken _ ?_
    split
    · exact flashUndefined_rest s _ _
    · exact flashUndefined_rest s _ _

theorem abandonHost_moving (s : State) : (abandonHost s).pw.moving = s.pw.moving := by
  unfold abandonHost
  split
  next h _ =>
    obtain ⟨r, f, l, hbroken⟩ := breakHost_rest { s with bt := { s.bt with host := none } } h
    rw [hbroken]
    rfl
  · rfl

theorem abandonHost_none {s : State} (h : s.bt.host = none) : abandonHost s = s := by rw [abandonHost, h]

/-- The Tollhouse holds no job and no operation. -/
def tollCleared (s : State) : State := { s with th := { s.th with jobs := [], job := none, op := none } }

theorem abandonJobs_rest (s : State) : ∃ r, abandonJobs s = { s with regs := r, th := { s.th with jobs := [], job := none, op := none } } := by
  have hall : ∀ l : List Job, ∃ r, showWriting (tollCleared (l.foldl abandonJob s)) =
      { s with regs := r, th := { s.th with jobs := [], job := none, op := none } } := fun l => by
    obtain ⟨r, h⟩ := RegsOnly.foldl abandonJob_regs l s
    rw [h]
    exact ⟨_, rfl⟩
  exact hall _

/-- What follows once the host's operation and the jobs are gone: the PLLs, the joints, the calibration runs, the clamps and the links end. -/
def readyShutDown (s : State) : State :=
  (List.range 6).foldl (fun s p => setLink s p ⟨false, false, false, false⟩)
    (closeClamps (dropRuns ((List.range 91).foldl (fun s j => setF s (BM_JSTAT_UP j) 0) (stopPlls s))))

theorem readyShutDown_frame (s : State) : MoveFrame s (readyShutDown s) :=
  ((((MoveFrame.stopPlls s).trans (.foldl (fun _ _ => .setF _ _ _) _ _)).trans (.dropRuns _)).trans (.of_clamp (.closeClamps _))).trans
    (.foldl (fun _ _ => .setLink _ _ _) _ _)

/-- Nothing is retained. -/
def retainedDropped (s : State) : State := { s with bt := { s.bt with retained := none } }

theorem leaveReady_eq (s : State) : leaveReady s = retainedDropped (readyShutDown (abandonJobs (abandonHost s))) := rfl

theorem leaveReady_keeps (s : State) : (leaveReady s).pw.moving = s.pw.moving ∧ (leaveReady s).th.jobs = [] ∧ (leaveReady s).bt.retained = none
    ∧ (s.bt.host = none → (leaveReady s).flash = s.flash) := by
  obtain ⟨r, hjobs⟩ := abandonJobs_rest (abandonHost s)
  have hframe := (readyShutDown_frame (abandonJobs (abandonHost s))).trans (.setBoot _ { (readyShutDown (abandonJobs (abandonHost s))).bt with retained := none })
  have hmoving : (abandonJobs (abandonHost s)).pw.moving = s.pw.moving := by
    rw [hjobs]
    exact abandonHost_moving s
  have hth : (abandonJobs (abandonHost s)).th.jobs = [] := by rw [hjobs]
  have hflash : s.bt.host = none → (abandonJobs (abandonHost s)).flash = s.flash := fun h => by rw [hjobs, abandonHost_none h]
  rw [leaveReady_eq]
  exact ⟨hframe.moving.trans hmoving, (congrArg Toll.jobs hframe.th).trans hth, rfl, fun h => hframe.flash.trans (hflash h)⟩

theorem readyToStandby_begins {s : State} (hmay : mayMove s 2 = true) (htarget : getF s TH_PCTRL_TARGET < 2) (hstage : getF s NV_STATUS_STAGE ≠ 6)
    (hop : s.th.op = none) (hramping : ∀ n < 36, flag s (LZ_STATUS_RAMPING n) = false) :
    ∃ t, exec .readyToStandby s = .next t ∧ Began s t .readyStandby ∧ t.th.jobs = [] ∧ t.bt.retained = none ∧ (s.bt.host = none → t.flash = s.flash) := by
  have hstill : (List.range 36).all (fun n => ! flag s (LZ_STATUS_RAMPING n)) = true := by
    simpa using hramping
  obtain ⟨hmoving, hjobs, hretained, hflash⟩ := leaveReady_keeps (beginMove s .readyStandby 1)
  obtain ⟨r, hbegun⟩ := beginMove_rest s .readyStandby 1
  have hhost : (beginMove s .readyStandby 1).bt.host = s.bt.host ∧ (beginMove s .readyStandby 1).flash = s.flash := by
    rw [hbegun]
    exact ⟨rfl, rfl⟩
  exact ⟨_, if_pos ⟨hmay, htarget, hstage, hop, hstill⟩, ⟨1, hmoving.trans (beginMove_moving s _ _)⟩, hjobs, hretained,
    fun h => (hflash (hhost.1.trans h)).trans hhost.2⟩

/-- In recovery mode TARGET starts no transition (R414). -/
theorem readyToStandby_recovery {s : State} (h : getF s NV_STATUS_STAGE = 6) : exec .readyToStandby s = .next s :=
  if_neg fun ⟨_, _, hstage, _⟩ => hstage h

theorem standbyToSleep_begins {s : State} (hmay : mayMove s 1 = true) (htarget : getF s TH_PCTRL_TARGET = 0) :
    ∃ t, exec .standbyToSleep s = .next t ∧ Began s t .standbySleep ∧ t.mem = (if flag s TH_PCTRL_SLEEP_RET then s.mem else []) := by
  have helapsed : (enterSleep s (flag s TH_PCTRL_SLEEP_RET)).elapsed = s.elapsed := rfl
  have hmem : (enterSleep s (flag s TH_PCTRL_SLEEP_RET)).mem = if flag s TH_PCTRL_SLEEP_RET then s.mem else [] := rfl
  refine ⟨_, if_pos ⟨hmay, htarget⟩, ⟨1, ?_⟩, ?_⟩
  · rw [beginMove_moving, helapsed]
  · obtain ⟨r, h⟩ := beginMove_rest (enterSleep s (flag s TH_PCTRL_SLEEP_RET)) .standbySleep 1
    rw [h]
    exact hmem

/-- Settles O47: each transition's work leaves what the transition set, and an arrival's registers stand through the readiness that follows. -/
theorem transitionsBegin : Obligations.TransitionsBegin := by
  unfold Obligations.TransitionsBegin
  refine ⟨?_, ?_, ?_, ?_, ?_, ?_, ?_, ?_, ?_, ?_⟩
  · intro s hs hmay htarget htsd hlatch
    exact ⟨sleepToStandby_begins hmay htarget htsd hlatch hs.1, sleepToStandby_waits hmay htarget htsd hlatch hs.1⟩
  · intro s osc hmay htarget htsd hrails hwf htries
    have hclean := readyStarted_clean s osc
    obtain ⟨hbegan, hplls, htrim⟩ := readyStarted_power osc hwf
    exact ⟨_, exec_standbyToReady osc hmay htarget (pllFailed_eq_false htries) htsd hrails, hbegan, hclean.clock, hclean.inflight, hclean.nt, hplls,
      hclean.flash, hclean.epoch, htrim⟩
  · intro s hmay htarget hfoot hstage htsd hdecks hrails
    exact readyToHold_begins hmay htarget hfoot hstage htsd hdecks hrails
  · intro s hs hmay hrun hwin htsd
    have hexec := exec_holdToService hmay hrun hwin htsd
    obtain ⟨harrived, had, hmem⟩ := endMove_arrives hs.1 (x := 4) (by decide)
    exact ⟨fun h => ⟨endMove s 4, hexec.trans (by rw [if_pos h]), harrived, had, hmem⟩, fun h => hexec.trans (by simp [h])⟩
  · intro s hs hmay hrun hwin
    obtain ⟨harrived, had, hmem⟩ := endMove_arrives hs.1 (x := 3) (by decide)
    exact ⟨endMove s 3, exec_serviceToHold hmay hrun hwin, harrived, had, hmem⟩
  · intro s hmay htarget hrun hidle
    exact holdToReady_begins hmay htarget hrun hidle
  · intro s h
    exact holdToReady_stays h
  · intro s hmay htarget hstage hop hramping
    exact readyToStandby_begins hmay htarget hstage hop hramping
  · intro s h
    exact readyToStandby_recovery h
  · intro s hmay htarget
    exact standbyToSleep_begins hmay htarget

end Sys2Proof.Machine

namespace Sys2Proof.Machine

/-! ### Which fields the decks' shared operations write (R311 to R321) -/

/-- The fields of DK_STATUS that follow the claims. -/
def deckStatusFields : List Fld := [DK_STATUS_DEGR_A, DK_STATUS_DEGR_B, DK_STATUS_REPLAY]

theorem showDecks_writes (s : State) : RegWrites deckStatusFields s (showDecks s) :=
  ((RegWrites.setFlag s _ (by simp [deckStatusFields])).trans (.setFlag _ _ (by simp [deckStatusFields]))).trans (.setFlag _ _ (by simp [deckStatusFields]))

theorem setMism_writes (s : State) (n : Nat) (l : List Mismatch) : RegWrites [DK_CLAIM_MISMATCH n] s (setMism s n l) :=
  RegWrites.trans (t := { s with dk := { s.dk with mism := cellPut (fun _ => []) s.dk.mism n l } }) (.of_regs rfl) (.setFlag _ _ List.mem_cons_self)

/-- The piers of the span's mismatches leave the freeze (R321, R333). -/
def holdsEnded (s : State) (n : Nat) (drop : Bool) : State :=
  (mismOf s n).foldl (fun s m => if drop then dropHold s n m.pier else unfreeze s n m.pier) s

/-- The replay of a span is forgotten. -/
def replayDropped (s : State) (n : Nat) : State := { s with dk := { s.dk with replay := s.dk.replay.filter (fun e => decide (e.1 ≠ n)) } }

/-- A replay that is abandoned writes no register beside those of the freezes that end and two bits of DK_CLAIM. -/
theorem abandonReplay_writes (s : State) (n : Nat) (drop : Bool) :
    RegWrites [DK_CLAIM_MISMATCH n, DK_CLAIM_REPLAY n] (holdsEnded s n drop) (abandonReplay s n drop) := by
  have hdropped : RegWrites [DK_CLAIM_MISMATCH n, DK_CLAIM_REPLAY n] (holdsEnded s n drop) (replayDropped (holdsEnded s n drop) n) := .of_regs rfl
  have hmism := hdropped.trans ((setMism_writes _ n []).mono (by simp))
  exact (hmism.trans (.setFlag _ false (f := DK_CLAIM_REPLAY n) (by simp))).trans (.of_regs rfl)

/-- The fields that a takeover of span `n` writes (R312). -/
def takeoverFields (n : Nat) : List Fld := ownerFld n :: DK_INT_TAKEOVER :: counterFields (cDK_CNT 0) ++ lifeFields 10

theorem reown_writes (s : State) (n : Nat) : RegWrites (takeoverFields n) s (reown s n) := by
  have htaken : RegWrites (takeoverFields n) s (bump (event (setF s (ownerFld n) (1 - owner s n)) DK_INT_TAKEOVER) (cDK_CNT 0)) :=
    ((RegWrites.setF s _ (by simp [takeoverFields])).trans (.event _ (by simp [takeoverFields]))).trans
      (.bump _ _ (by simp [takeoverFields, counterFields]))
  exact .ite (fun _ => htaken.trans ((RegWrites.life _ 10).mono (List.subset_append_right (ownerFld n :: DK_INT_TAKEOVER :: counterFields (cDK_CNT 0)) _))) (fun _ => .refl s)

theorem mismOf_setMism_same {s : State} (h : MismWf s) (n : Nat) (l : List Mismatch) : mismOf (setMism s n l) n = l :=
  cellGet_cellPut_same _ _ _ _ h

theorem mismOf_congr {s t : State} (h : t.dk.mism = s.dk.mism) (n : Nat) : mismOf t n = mismOf s n := by rw [mismOf, h, mismOf]

/-! ### A mismatch listed for a pier outside the span

The list of unresolved mismatches holds pier numbers that nothing bounds. Where one is no pier of the span, PR_LIVE's address as the end of a freeze computes it (R321) is that of
another register, and a claim that falls as R314 states is overwritten by the held code. -/

/-- The pier number at which PR_LIVE_A of span 2 has the address of DK_CLAIM of span 2. -/
def strayPier : Nat := 0x4F01808

/-- A mismatch of the stray pier that no replay covers. -/
def strayMismatch : Mismatch := ⟨strayPier, false, 0, 0, false⟩

/-- Deck A owns span 2 and is healthy there, Deck B is not being resynchronised, and the span's one mismatch is the stray pier's, which holds the codes 0 and 0. -/
structure Stray (s : State) : Prop where
  wf : s.RegsWf
  mate : healthy s 2 0 = true
  idle : resyncing s 2 1 = false
  owner : owner s 2 = 0
  mism : mismOf s 2 = [strayMismatch]
  held : (pierOf s (pierIx 2 strayPier)).held = some (0, 0)
  out : getF s (PR_OUT_OWNER 2 strayPier) = 0

/-- The fields that `Stray` speaks of. -/
def strayFields : List Fld := [claimFld 2 0, DK_CTRL_NOM, stateFld 2 0, stateFld 2 1, ownerFld 2, PR_OUT_OWNER 2 strayPier]

theorem Stray.of_writes {s t : State} {W : List Fld} (h : Stray s) (hw : RegWrites W s t) (hW : ∀ f ∈ strayFields, ∀ g ∈ W, Apart f g)
    (hdr : t.dr = s.dr) (hmism : mismOf t 2 = mismOf s 2) : Stray t := by
  have hkeep : ∀ f ∈ strayFields, getF t f = getF s f := fun f hf => hw.getF h.wf ((by decide : ∀ f ∈ strayFields, InWord f) f hf) (hW f hf)
  simp only [strayFields, List.forall_mem_cons] at hkeep
  obtain ⟨hclaim, hnom, hstateA, hstateB, howner, hout, -⟩ := hkeep
  refine ⟨hw.wf h.wf, ?_, ?_, howner.trans h.owner, hmism.trans h.mism, ?_, hout.trans h.out⟩
  · have hmate := h.mate
    rwa [healthy, claim, hclaim, hnom, hstateA]
  · have hidle := h.idle
    rwa [resyncing, hstateB]
  · rw [pierOf, hdr]
    exact h.held

/-- The end of the stray pier's freeze writes 0 over Deck B's STATE of span 2. -/
theorem stateB_unfreeze_stray {s : State} (hs : s.RegsWf) (hheld : (pierOf s (pierIx 2 strayPier)).held = some (0, 0))
    (hout : getF s (PR_OUT_OWNER 2 strayPier) = 0) : getF (unfreeze s 2 strayPier) (stateFld 2 1) = 0 := by
  have hlive := (setLiveF_frame s 2 strayPier 0 0).wf hs
  have hregs : (unfreeze s 2 strayPier).regs = (setF (setLiveF s 2 strayPier 0 0) (liveT 2 strayPier 0) 0).regs := by
    simp only [unfreeze, hheld, hout]
    rfl
  have hword : rd (setF (setLiveF s 2 strayPier 0 0) (liveT 2 strayPier 0) 0) (aDK_CLAIM 2) = withBits (rd (setLiveF s 2 strayPier 0 0) (aDK_CLAIM 2)) 27 16 0 :=
    rd_wr_same _ _ _ hlive
  have hfield : getF (unfreeze s 2 strayPier) (stateFld 2 1) = bitsOf (rd (unfreeze s 2 strayPier) (aDK_CLAIM 2)) 27 26 := rfl
  rw [hfield, rd_of_regs hregs, hword]
  refine Nat.eq_of_testBit_eq fun i => ?_
  rw [testBit_bitsOf, Nat.zero_testBit]
  by_cases hi : i < width 27 26
  · have hi2 : i < 2 := hi
    have hin : 16 ≤ 26 + i ∧ 26 + i - 16 < width 27 16 := ⟨by omega, show 26 + i - 16 < 12 by omega⟩
    rw [getLsbD_withBits _ _ _ _ _ (by omega), if_pos hin, Nat.zero_testBit, Bool.and_false]
  · rw [decide_eq_false hi, Bool.false_and]

/-- The state in which Deck B's claim has fallen to 0x10 for cause 5, before the replay is abandoned (R314). -/
def strayLowered (s : State) : State :=
  setF (if 0x10 ≤ claim s 2 1 then bump (setF (setF s (claimFld 2 1) 0x10) (causeFld 2 1) 5) (cDK_CNT 5) else s) (stateFld 2 1) 1

theorem strayLowered_writes (s : State) : RegWrites ([claimFld 2 1, causeFld 2 1, stateFld 2 1] ++ counterFields (cDK_CNT 5)) s (strayLowered s) :=
  (RegWrites.ite (fun _ => ((RegWrites.setF s _ (by simp)).trans (.setF _ _ (by simp))).trans (.bump _ _ (List.subset_append_right _ _))) (fun _ => .refl s)).trans (.setF _ _ (by simp))

theorem strayLowered_rest (s : State) : (strayLowered s).dr = s.dr ∧ (strayLowered s).dk = s.dk := by
  unfold strayLowered
  split <;> exact ⟨rfl, rfl⟩

theorem Stray.lowerSpan_eq {s : State} (h : Stray s) : lowerSpan s 2 1 5 0x10 = reown (abandonReplay (strayLowered s) 2 false) 2 := by
  have hdrop : decide (1 = Machine.owner s 2) = false := by rw [h.owner]; rfl
  have hmate : healthy s 2 (1 - 1) = true := h.mate
  simp only [lowerSpan, h.idle, hdrop, hmate, Bool.false_eq_true, Bool.true_eq_false, and_false, if_false]
  rfl

/-- Deck B's STATE of span 2 does not stand at FAULTED when its claim falls. -/
theorem Stray.stateB_lowerSpan {s : State} (h : Stray s) : (lowerSpan s 2 1 5 0x10).RegsWf ∧ getF (lowerSpan s 2 1 5 0x10) (stateFld 2 1) = 0 := by
  have hw := strayLowered_writes s
  obtain ⟨hdr, hdk⟩ := strayLowered_rest s
  have hwf := hw.wf h.wf
  have hheld : (pierOf (strayLowered s) (pierIx 2 strayPier)).held = some (0, 0) := by rw [pierOf, hdr]; exact h.held
  have hout : getF (strayLowered s) (PR_OUT_OWNER 2 strayPier) = 0 := (hw.getF h.wf (by decide) (by decide)).trans h.out
  have hmism : mismOf (strayLowered s) 2 = [strayMismatch] := (mismOf_congr (congrArg (·.mism) hdk) 2).trans h.mism
  have habandon := abandonReplay_writes (strayLowered s) 2 false
  have hended : holdsEnded (strayLowered s) 2 false = unfreeze (strayLowered s) 2 strayPier := by
    rw [holdsEnded, hmism]
    rfl
  rw [hended] at habandon
  have hunfrozen := (unfreeze_frame (strayLowered s) 2 strayPier).wf hwf
  have howned := reown_writes (abandonReplay (strayLowered s) 2 false) 2
  rw [h.lowerSpan_eq]
  exact ⟨howned.wf (habandon.wf hunfrozen), (howned.getF (habandon.wf hunfrozen) (by decide) (by decide)).trans
    ((habandon.getF hunfrozen (by decide) (by decide)).trans (stateB_unfreeze_stray hwf hheld hout))⟩

/-- Both decks are healthy in span 2, and the stray pier mismatches. -/
def strayState : State :=
  { wr State.reset (aDK_CLAIM 2) 0xC0C0 with
    dk := { Decks.init with mism := [(2, [strayMismatch])] }
    dr := { Drive.init with piers := [(pierIx 2 strayPier, { Pier.init with held := some (0, 0) })] } }

theorem strayState_canon : strayState.Canon := by
  unfold State.Canon
  decide +kernel

theorem strayState_stray : Stray strayState :=
  ⟨strayState_canon.1, by decide +kernel, by decide +kernel, by decide +kernel, by decide +kernel, by decide +kernel, by decide +kernel⟩

/-- Refutes O44: nothing in its first clause holds a listed mismatch to the piers of its span. In `strayState` Deck B's claim in span 2 falls to 0x10 and the replay is abandoned (R333); the
held code of the stray pier then lands in DK_CLAIM of the span, and Deck B does not show FAULTED. -/
theorem not_claims : ¬ Obligations.Claims := by
  unfold Obligations.Claims
  rintro ⟨hlower, -⟩
  obtain ⟨-, hfaulted, -⟩ := hlower strayState 2 1 5 0x10 (by decide) (by decide) (by decide) strayState_canon strayState_stray.mate strayState_stray.idle
  exact absurd (hfaulted.symm.trans strayState_stray.stateB_lowerSpan.2) (by decide)

end Sys2Proof.Machine

namespace Sys2Proof.Machine

/-! ### The end of a replay in a span with a stray mismatch (R320) -/

theorem awaitReplay_rest (s : State) (n : Nat) : ∃ x, awaitReplay s n = { s with timers := x } := by
  unfold awaitReplay
  split
  · exact ⟨_, rfl⟩
  · split <;> exact ⟨_, rfl⟩

/-- The mismatches that a replay covered are settled: their log entries show the outcome and their piers leave the freeze. -/
def mismatchesSettled (s : State) (n outcome : Nat) : State :=
  ((mismOf s n).filter (fun m => m.covered)).foldl (fun s m => unfreeze (logOutcome s m.entry outcome) n m.pier) s

/-- DK_REPLAY shows the replay of span `n` with its outcome and the signatures `x` and `y`. -/
def replayShown (s : State) (n outcome x y : Nat) : State :=
  setF (setF (setF (setF s DK_REPLAY_w0_SPAN n) DK_REPLAY_w0_OUTCOME outcome) DK_REPLAY_w1_SIG_A x) DK_REPLAY_w2_SIG_B y

/-- The replay of a span is over, and the mismatches that it did not cover stay. -/
def replayOver (u : State) (n : Nat) (rest : List Mismatch) : State := setFlag (setMism (replayDropped u n) n rest) (DK_CLAIM_REPLAY n) false

/-- The state in which a replay has ended with an outcome, before a claim falls for it. -/
def replayClosed (s : State) (n outcome : Nat) : State :=
  awaitReplay (replayOver (replayShown (mismatchesSettled s n outcome) n outcome (signatureOf s n 0) (signatureOf s n 1)) n
    ((mismOf s n).filter (fun m => ! m.covered))) n

/-- A replay that Deck A passes and Deck B fails. -/
theorem exec_replayEnd_secondFails {s : State} {n : Span} {ha hb : Bool} (hrun : replaying s n = true)
    (hpass : ((ha || historyReproduces s n 0) && ((mismOf s n).filter (fun m => m.covered)).all (fun m => codesReproduce s n m.pier 0)) = true)
    (hfail : ((hb || historyReproduces s n 1) && ((mismOf s n).filter (fun m => m.covered)).all (fun m => codesReproduce s n m.pier 1)) = false) :
    exec (.replayEnd n ha hb) s = .next (showDecks (lowerOne (replayClosed s n 3) n 1 5)) := by
  have hexec : exec (.replayEnd n ha hb) s = execReplayEnd n ha hb s := rfl
  rw [hexec, execReplayEnd, if_pos hrun]
  simp only [hpass, hfail]
  rfl

/-- The fields that the end of a replay writes where it covered no mismatch. -/
def replayFields (n : Nat) : List Fld :=
  [DK_REPLAY_w0_SPAN, DK_REPLAY_w0_OUTCOME, DK_REPLAY_w1_SIG_A, DK_REPLAY_w2_SIG_B, DK_CLAIM_MISMATCH n, DK_CLAIM_REPLAY n]

theorem replayShown_writes (s : State) (n outcome x y : Nat) : RegWrites (replayFields n) s (replayShown s n outcome x y) :=
  (((RegWrites.setF s _ (by simp [replayFields])).trans (.setF _ _ (by simp [replayFields]))).trans (.setF _ _ (by simp [replayFields]))).trans
    (.setF _ _ (by simp [replayFields]))

theorem replayOver_writes (u : State) (n : Nat) (rest : List Mismatch) : RegWrites (replayFields n) u (replayOver u n rest) := by
  have hdropped : RegWrites (replayFields n) u (replayDropped u n) := .of_regs rfl
  exact (hdropped.trans ((setMism_writes _ n rest).mono (by simp [replayFields]))).trans (.setFlag _ false (by simp [replayFields]))

theorem mismWf_congr {s t : State} (h : t.dk.mism = s.dk.mism) (hs : MismWf s) : MismWf t := by rw [MismWf, h]; exact hs

theorem mismOf_replayOver {u : State} (h : MismWf u) (n : Nat) (rest : List Mismatch) : mismOf (replayOver u n rest) n = rest := by
  have hdropped : MismWf (replayDropped u n) := mismWf_congr rfl h
  have hflag : mismOf (replayOver u n rest) n = mismOf (setMism (replayDropped u n) n rest) n := mismOf_congr (by rw [replayOver, setFlag_dk]) n
  rw [hflag, mismOf_setMism_same hdropped]

theorem replayShown_rest (s : State) (n outcome x y : Nat) : RegsOnly s (replayShown s n outcome x y) :=
  (((RegsOnly.setF s _ _).trans (.setF _ _ _)).trans (.setF _ _ _)).trans (.setF _ _ _)

theorem replayOver_dr (u : State) (n : Nat) (rest : List Mismatch) : (replayOver u n rest).dr = u.dr := by
  rw [replayOver, setFlag_dr, setMism_dr, replayDropped]

theorem Stray.replayOver {s : State} (h : Stray s) (hwf : MismWf s) (x y : Nat) : Stray (replayOver (replayShown s 2 3 x y) 2 [strayMismatch]) := by
  have hshown := replayShown_rest s 2 3 x y
  have hmism : mismOf (Machine.replayOver (replayShown s 2 3 x y) 2 [strayMismatch]) 2 = mismOf s 2 := by
    have hdk : (replayShown s 2 3 x y).dk.mism = s.dk.mism := by obtain ⟨r, hr⟩ := hshown; rw [hr]
    rw [mismOf_replayOver (mismWf_congr hdk hwf), h.mism]
  exact h.of_writes ((replayShown_writes s 2 3 x y).trans (replayOver_writes _ 2 _)) (by decide) ((replayOver_dr _ _ _).trans hshown.dr) hmism

theorem Stray.awaitReplay {s : State} (h : Stray s) : Stray (awaitReplay s 2) := by
  obtain ⟨x, hx⟩ := awaitReplay_rest s 2
  rw [hx]
  exact h.of_writes (W := []) (.of_regs rfl) (by decide) rfl rfl

theorem Stray.replayClosed {s : State} (h : Stray s) (hwf : MismWf s) : Stray (replayClosed s 2 3) := by
  have hsettled : mismatchesSettled s 2 3 = s := by rw [mismatchesSettled, h.mism]; rfl
  have hrest : (mismOf s 2).filter (fun m => ! m.covered) = [strayMismatch] := by rw [h.mism]; rfl
  have hover := h.replayOver hwf (signatureOf s 2 0) (signatureOf s 2 1)
  rw [Machine.replayClosed, hsettled, hrest]
  exact hover.awaitReplay

/-- Deck B's STATE of span 2 does not stand at FAULTED when the deck faults there. -/
theorem Stray.stateB_lowerOne {s : State} (h : Stray s) : (lowerOne s 2 1 5).RegsWf ∧ getF (lowerOne s 2 1 5) (stateFld 2 1) = 0 := by
  obtain ⟨hspan, hstate⟩ := h.stateB_lowerSpan
  have hreported : lowerOne s 2 1 5 = showDecks (raise (lowerSpan s 2 1 5 0x10) (trussSource 2 1) 0x20 clsCorrected true (2 + 2 ^ 8 * 5)) := by
    simp only [lowerOne, h.idle]
    rfl
  have hraise := RegWrites.raise (lowerSpan s 2 1 5 0x10) (trussSource 2 1) 0x20 clsCorrected true (2 + 2 ^ 8 * 5)
  have hshown := showDecks_writes (raise (lowerSpan s 2 1 5 0x10) (trussSource 2 1) 0x20 clsCorrected true (2 + 2 ^ 8 * 5))
  rw [hreported]
  exact ⟨hshown.wf (hraise.wf hspan), (hshown.getF (hraise.wf hspan) (by decide) (by decide)).trans ((hraise.getF hspan (by decide) (by decide)).trans hstate)⟩

/-- In `strayState` a replay of span 2 runs, and Deck B's history there holds one update whose UN does not come from its integrator and error. -/
def strayReplay : State :=
  wrByte (wrByte { strayState with dk := { strayState.dk with replay := [(2, 0)] } } (loopBase 2 1 + 0x800A) 1) (loopBase 2 1 + 0x8010) 1

theorem strayReplay_canon : strayReplay.Canon ∧ MismWf strayReplay := by
  unfold State.Canon MismWf
  decide +kernel

theorem strayReplay_stray : Stray strayReplay := strayState_stray.of_writes (W := []) (.of_regs rfl) (by decide) rfl rfl

theorem strayReplay_history : historyReproduces strayReplay 2 1 = false := by
  decide +kernel

/-- Refutes O45: nothing in its last clause holds the listed mismatches to the piers of their span. In `strayReplay` Deck A alone passes and Deck B's claim falls for cause 5; the end of the
stray pier's freeze then overwrites DK_CLAIM of the span, and Deck B does not show FAULTED. -/
theorem not_mismatchAndReplay : ¬ Obligations.MismatchAndReplay := by
  unfold Obligations.MismatchAndReplay
  rintro ⟨-, -, hend⟩
  obtain ⟨hcanon, hwf⟩ := strayReplay_canon
  have hmism : (mismOf strayReplay 2).filter (fun m => m.covered) = [] := by rw [strayReplay_stray.mism]; rfl
  have hpass : ((true || historyReproduces strayReplay 2 0) && ((mismOf strayReplay 2).filter (fun m => m.covered)).all
      (fun m => codesReproduce strayReplay 2 m.pier 0)) = true := by rw [hmism]; rfl
  have hfail : ((false || historyReproduces strayReplay 2 1) && ((mismOf strayReplay 2).filter (fun m => m.covered)).all
      (fun m => codesReproduce strayReplay 2 m.pier 1)) = false := by rw [strayReplay_history]; rfl
  obtain ⟨t, ht, -, -, -, hfaulted, -⟩ := hend strayReplay 2 true false true false hcanon hwf rfl strayReplay_stray.mate (by decide +kernel) hpass.symm hfail.symm rfl
  have htend : t = showDecks (lowerOne (replayClosed strayReplay 2 3) 2 1 5) :=
    Host.Outcome.next.inj (ht.symm.trans (exec_replayEnd_secondFails rfl hpass hfail))
  obtain ⟨hlowered, hzero⟩ := (strayReplay_stray.replayClosed hwf).stateB_lowerOne
  have hkept : getF t (stateFld 2 1) = 0 := by
    rw [htend, (showDecks_writes _).getF hlowered (by decide) (by decide), hzero]
  obtain ⟨hstate, -⟩ := hfaulted rfl rfl
  exact absurd (hstate.symm.trans hkept) (by decide)

end Sys2Proof.Machine

namespace Sys2Proof.Machine

/-! ### The fields of DK_CLAIM and DK_OWNER (R311, R313) -/

theorem width_claimFld (n d : Nat) : width (claimFld n d).hi (claimFld n d).lo = 8 := by unfold claimFld; split <;> rfl
theorem width_causeFld (n d : Nat) : width (causeFld n d).hi (causeFld n d).lo = 4 := by unfold causeFld; split <;> rfl
theorem width_stateFld (n d : Nat) : width (stateFld n d).hi (stateFld n d).lo = 2 := by unfold stateFld; split <;> rfl
theorem width_ownerFld (n : Nat) : width (ownerFld n).hi (ownerFld n).lo = 1 := by unfold ownerFld; split <;> simp [width]

theorem claimFld_inWord (n d : Nat) : InWord (claimFld n d) := by unfold claimFld InWord; split <;> simp [DK_CLAIM_CLAIM_A, DK_CLAIM_CLAIM_B]
theorem causeFld_inWord (n d : Nat) : InWord (causeFld n d) := by unfold causeFld InWord; split <;> simp [DK_CLAIM_CAUSE_A, DK_CLAIM_CAUSE_B]
theorem stateFld_inWord (n d : Nat) : InWord (stateFld n d) := by unfold stateFld InWord; split <;> simp [DK_CLAIM_STATE_A, DK_CLAIM_STATE_B]

theorem ownerFld_inWord {n : Nat} (hn : n < 36) : InWord (ownerFld n) := by
  unfold ownerFld InWord
  split <;> dsimp only <;> omega

/-- CLAIM, CAUSE and STATE share no bit, in whichever decks. -/
theorem claim_apart_cause (n d e : Nat) : Apart (claimFld n d) (causeFld n e) := by
  unfold Apart claimFld causeFld
  split <;> split <;> simp [DK_CLAIM_CLAIM_A, DK_CLAIM_CLAIM_B, DK_CLAIM_CAUSE_A, DK_CLAIM_CAUSE_B]

theorem state_apart_claim (n d e : Nat) : Apart (stateFld n d) (claimFld n e) := by
  unfold Apart claimFld stateFld
  split <;> split <;> simp [DK_CLAIM_CLAIM_A, DK_CLAIM_CLAIM_B, DK_CLAIM_STATE_A, DK_CLAIM_STATE_B]

theorem state_apart_cause (n d e : Nat) : Apart (stateFld n d) (causeFld n e) := by
  unfold Apart causeFld stateFld
  split <;> split <;> simp [DK_CLAIM_CAUSE_A, DK_CLAIM_CAUSE_B, DK_CLAIM_STATE_A, DK_CLAIM_STATE_B]

/-- None of the fields lies in a span's DK_CLAIM. -/
abbrev BesideClaims (W : List Fld) : Prop := ∀ g ∈ W, g.addr < aDK_CLAIM 0 ∨ aDK_CLAIM 36 ≤ g.addr

theorem apart_of_besideClaims {W : List Fld} (hW : BesideClaims W) {n : Nat} (hn : n < 36) {f : Fld} (hf : f.addr = aDK_CLAIM n) : ∀ g ∈ W, Apart f g := by
  intro g hg
  have hside := hW g hg
  have hrange : aDK_CLAIM 0 ≤ aDK_CLAIM n ∧ aDK_CLAIM n < aDK_CLAIM 36 := by
    unfold aDK_CLAIM
    omega
  exact .inl (by rw [hf]; omega)

theorem ownerFld_besideClaims (n : Nat) : BesideClaims [ownerFld n] := by
  intro g hg
  rw [List.mem_singleton.mp hg]
  unfold ownerFld
  split
  · exact .inl (show aDK_OWNER_LO < aDK_CLAIM 0 by decide)
  · exact .inl (show aDK_OWNER_HI < aDK_CLAIM 0 by decide)

theorem ownerFld_apart_status (n : Nat) : ∀ g ∈ deckStatusFields, Apart (ownerFld n) g := by
  unfold ownerFld
  split
  · exact fun g hg => .inl ((by decide : ∀ g ∈ deckStatusFields, aDK_OWNER_LO ≠ g.addr) g hg)
  · exact fun g hg => .inl ((by decide : ∀ g ∈ deckStatusFields, aDK_OWNER_HI ≠ g.addr) g hg)

theorem owner_lt_two (s : State) (n : Nat) : owner s n < 2 := by
  have h := getF_lt s (ownerFld n)
  rwa [width_ownerFld] at h

/-! ### Writes to the decks' command registers (R326, R328) -/

/-- A granted write to the decks' window. -/
theorem rowWrite_dk {s : State} {a : Nat} {w : RegWrite} (hg : Granted s w a) (ha : dkBase ≤ a ∧ a < fcBase) :
    rowWrite s a w = dkWrite (atGrant s w) a w.value := by
  rw [rowWrite_granted s a w hg, regWritten_dk _ _ _ _ _ ha]

theorem dkWrite_cmd (s : State) (v : Word) : dkWrite s aDK_CMD v =
    (let s2 := if v.getLsbD 8 then handover (storeWrite s aDK_CMD v) else storeWrite s aDK_CMD v
     if v.getLsbD 9 then resync s2 else s2) := by
  rw [dkWrite, if_neg (by decide), if_neg (by decide), if_neg (by decide), if_pos (Eq.refl aDK_CMD)]

theorem dkWrite_pathReturn (s : State) (v : Word) : dkWrite s aDK_PEXCL_CLR v =
    returnPath (storeWrite s aDK_PEXCL_CLR v) (bitsOf v 14 0) (bitsOf v 15 15) := by
  rw [dkWrite, if_neg (by decide), if_neg (by decide), if_neg (by decide), if_neg (by decide), if_pos (Eq.refl aDK_PEXCL_CLR)]

section DeckCommand
variable {s : State} {w : RegWrite} (hg : Granted s w aDK_CMD)
include hg

theorem exec_handover (hhand : w.value.getLsbD 8 = true) (hresync : w.value.getLsbD 9 = false) :
    exec (.handover w) s = .next (handover (storeWrite (atGrant s w) aDK_CMD w.value)) := by
  refine congrArg Host.Outcome.next ((rowWrite_dk hg (by decide)).trans ?_)
  simp only [dkWrite_cmd, hhand, hresync, Bool.false_eq_true, if_true, if_false]

theorem exec_resync (hhand : w.value.getLsbD 8 = false) (hresync : w.value.getLsbD 9 = true) :
    exec (.resync w) s = .next (resync (storeWrite (atGrant s w) aDK_CMD w.value)) := by
  refine congrArg Host.Outcome.next ((rowWrite_dk hg (by decide)).trans ?_)
  simp only [dkWrite_cmd, hhand, hresync, Bool.false_eq_true, if_true, if_false]

end DeckCommand

/-! ### Planned handover (R326, R327) -/

/-- The deck that hands over presents NOM - 1 for cause 9. -/
def handClaimed (s : State) (n : Nat) : State := setF (setF s (claimFld n (owner s n)) (getF s DK_CTRL_NOM - 1)) (causeFld n (owner s n)) 9

/-- The other deck owns the span. -/
def handOwned (s : State) (n : Nat) : State := setF (bump (handClaimed s n) (cDK_CNT 9)) (ownerFld n) (1 - owner s n)

/-- The piers of the span are still to switch. -/
def handed (s : State) (n : Nat) : State :=
  { handOwned s n with dk := { s.dk with handing := s.dk.handing ++ [(n, (owner s n, List.range 512))] } }

section Handover
variable {s : State} {n : Nat} (hall : flag s DK_CMD_ALL = false) (hspan : getF s DK_CMD_SPAN = n) (hn : n < 36)
include hall hspan hn

theorem handover_span : handover s = showDecks (handSpan s n) := by
  have hall' : ¬ flag s DK_CMD_ALL = true := by simp [hall]
  rw [handover, if_neg hall', hspan, if_pos hn]

theorem handover_hands (hA : healthy s n 0 = true) (hB : healthy s n 1 = true) (hmism : mismOf s n = []) (hreplay : replaying s n = false)
    (hpass : passPending s n = false) : handover s = showDecks (handed s n) := by
  rw [handover_span hall hspan hn, handSpan, if_pos ⟨hA, hB, hmism, hreplay, hpass⟩]
  rfl

theorem handover_refused (h : healthy s n 0 = false ∨ healthy s n 1 = false ∨ mismOf s n ≠ [] ∨ replaying s n = true ∨ passPending s n = true) :
    handover s = showDecks (event s DK_INT_CMD_REFUSED) := by
  have hbar : ¬ (healthy s n 0 = true ∧ healthy s n 1 = true ∧ mismOf s n = [] ∧ replaying s n = false ∧ passPending s n = false) := by
    rintro ⟨hA, hB, hmism, hreplay, hpass⟩
    simp [hA, hB, hmism, hreplay, hpass] at h
  rw [handover_span hall hspan hn, handSpan, if_neg hbar]

end Handover

/-- What a handover shows: the new owner, and the claim and cause of the deck that hands over. -/
theorem handed_shows {s : State} {n : Nat} (hs : s.RegsWf) (hn : n < 36) (hnom : 1 ≤ getF s DK_CTRL_NOM) :
    owner (showDecks (handed s n)) n = 1 - owner s n ∧ claim (showDecks (handed s n)) n (owner s n) = getF s DK_CTRL_NOM - 1
      ∧ getF (showDecks (handed s n)) (causeFld n (owner s n)) = 9 := by
  have hclaimed : (handClaimed s n).RegsWf := regsWf_setF _ _ _ (regsWf_setF _ _ _ hs)
  have hcounted : (bump (handClaimed s n) (cDK_CNT 9)).RegsWf := regsWf_bumpBy _ _ _ hclaimed
  have hshown := showDecks_writes (handed s n)
  have hwf : (handed s n).RegsWf := regsWf_setF _ _ _ hcounted
  have hlater : RegWrites (counterFields (cDK_CNT 9) ++ [ownerFld n] ++ deckStatusFields) (handClaimed s n) (showDecks (handed s n)) :=
    ((RegWrites.bump _ _ (by simp)).trans ((RegWrites.setF _ _ (by simp)).regs_eq (u := handed s n) rfl)).trans (hshown.mono (by simp))
  have hbeside : BesideClaims (counterFields (cDK_CNT 9) ++ [ownerFld n] ++ deckStatusFields) := by
    simp only [BesideClaims, List.forall_mem_append]
    exact ⟨⟨by decide, ownerFld_besideClaims n⟩, by decide⟩
  have hnomlt : getF s DK_CTRL_NOM < 256 := getF_lt s DK_CTRL_NOM
  refine ⟨?_, ?_, ?_⟩
  · have hkept := hshown.getF hwf (ownerFld_inWord hn) (ownerFld_apart_status n)
    have hset : getF (handed s n) (ownerFld n) = (1 - owner s n) % 2 ^ width (ownerFld n).hi (ownerFld n).lo :=
      getF_setF_same _ _ _ hcounted (ownerFld_inWord hn).2
    rw [owner, hkept, hset, width_ownerFld]
    have := owner_lt_two s n
    omega
  · have hset : getF (handClaimed s n) (claimFld n (owner s n)) = (getF s DK_CTRL_NOM - 1) % 2 ^ 8 := by
      rw [handClaimed, getF_setF_apart _ (regsWf_setF _ _ _ hs) (claimFld_inWord _ _).2 (claim_apart_cause _ _ _),
        getF_setF_same _ _ _ hs (claimFld_inWord _ _).2, width_claimFld]
    rw [claim, hlater.getF hclaimed (claimFld_inWord _ _) (apart_of_besideClaims hbeside hn (claimFld_addr _ _)), hset]
    omega
  · have hset : getF (handClaimed s n) (causeFld n (owner s n)) = 9 := by
      rw [handClaimed, getF_setF_same _ _ _ (regsWf_setF _ _ _ hs) (causeFld_inWord _ _).2, width_causeFld]
      rfl
    rw [hlater.getF hclaimed (causeFld_inWord _ _) (apart_of_besideClaims hbeside hn (causeFld_addr _ _)), hset]

/-! ### Resynchronisation (R328) -/

/-- A command for one span in which the deck may be brought back starts there. -/
theorem resync_starts {s : State} {n d : Nat} (hall : flag s DK_CMD_ALL = false) (hspan : getF s DK_CMD_SPAN = n) (hn : n < 36) (hdeck : getF s DK_CMD_DECK = d)
    (hcan : canResync s n d = true) : resync s = showDecks (startResync s n d) := by
  have hone : (List.range 36).filter (fun k => decide (k = n)) = [n] := by
    interval_cases n <;> decide
  simp [resync, hall, hspan, hdeck, hone, hcan]

theorem resync_shows {s : State} {n : Nat} (d : Nat) (hs : s.RegsWf) (hn : n < 36) : getF (showDecks (startResync s n d)) (stateFld n d) = 2
    ∧ timerAt (.copy n) (showDecks (startResync s n d)).timers = some (s.elapsed + 400 * periodOf s n) := by
  have hwf : (startResync s n d).RegsWf := regsWf_setF _ _ _ hs
  have hset : getF (startResync s n d) (stateFld n d) = 2 := (getF_setF_same s _ 2 hs (stateFld_inWord n d).2).trans (by rw [width_stateFld]; rfl)
  have harmed : timerAt (.copy n) (showDecks (startResync s n d)).timers = some (s.elapsed + 4 * (100 * periodOf s n)) := timerAt_armAt_same _ _ _
  refine ⟨?_, ?_⟩
  · rw [(showDecks_writes _).getF hwf (stateFld_inWord n d) (apart_of_besideClaims (by decide) hn (stateFld_addr n d)), hset]
  · rw [harmed]
    congr 1
    omega

theorem rdByte_wrBytes_same {s : State} {a : Nat} (bs : List Byte) (h : cellWf memDefault s.mem = true) {i : Nat} (hi : i < bs.length) :
    rdByte (wrBytes s a bs) (a + i) = bs[i] := by
  have hblock := rdBytes_wrBytes bs s a h
  have hget : (rdBytes (wrBytes s a bs) a bs.length)[i]? = bs[i]? := by rw [hblock]
  rw [rdBytes, List.getElem?_map, List.getElem?_range hi, List.getElem?_eq_getElem hi] at hget
  exact Option.some.inj hget

/-- D's staged and live words and its requested codes at the piers of the span are the healthy deck's. -/
def piersCopied (s : State) (n d : Nat) : State :=
  (List.range 512).foldl (fun s l =>
    setPath (wr (wr s (stagedWord n l d) (rd s (stagedWord n l (1 - d)))) (liveWord n l d) (rd s (liveWord n l (1 - d)))) (pierIx n l) d
      (pathOf s (pierIx n l) (1 - d))) s

theorem wr_frame (s : State) (a : Nat) (v : Word) : DriveFrame s (wr s a v) := ⟨⟨_, s.dr, rfl⟩, regsWf_wr s a v⟩

theorem piersCopied_frame (s : State) (n d : Nat) : DriveFrame s (piersCopied s n d) :=
  .foldl (fun s _ => ((wr_frame s _ _).trans (wr_frame _ _ _)).trans (.setDrive _ _)) _ s

/-- D's place in its history is the healthy deck's. -/
def historyCopied (s : State) (n d : Nat) : State :=
  { s with te := { s.te with hist := cellPut (fun _ => 0) s.te.hist (2 * n + d) (cellGet (fun _ => 0) s.te.hist (2 * n + (1 - d))) } }

/-- The copy of a span's piers and of its place in the history sets no memory and no timer. -/
theorem historyCopied_rest (u : State) (n d : Nat) : ∃ r x te, historyCopied (piersCopied u n d) n d = { u with regs := r, dr := x, te := te } := by
  obtain ⟨r, x, h⟩ := (piersCopied_frame u n d).rest
  rw [h]
  exact ⟨_, _, _, rfl⟩

theorem historyCopied_regs (s : State) (n d : Nat) : (historyCopied s n d).regs = s.regs := rfl

theorem regsWf_historyCopied {u : State} (n d : Nat) (h : u.RegsWf) : (historyCopied (piersCopied u n d) n d).RegsWf :=
  regsWf_of_regs (historyCopied_regs _ n d) ((piersCopied_frame u n d).wf h)

/-- D is in PROBATION, for `k` units of 100 ns. -/
def probationBegun (u : State) (n d k : Nat) : State := armIn (disarm (setF u (stateFld n d) 3) (.copy n)) (.probation n) k

theorem exec_resyncCopyEnd {s : State} {n : Span} {d : Nat} (hdeck : deckIn s n 2 = some d) (hdue : due s (.copy n) = true) :
    exec (.resyncCopyEnd n) s = .next (probationBegun (historyCopied (piersCopied (wrBytes s (loopBase n d) (rdBytes s (loopBase n (1 - d)) 0x8800)) n d) n d) n d
      (100 * periodOf s n * getF s DK_TIMING_PROBATION)) := by
  have hexec : exec (.resyncCopyEnd n) s = execResyncCopyEnd n s := rfl
  rw [hexec, execResyncCopyEnd, hdeck]
  simp only [hdue, if_true, probationBegun, historyCopied, piersCopied]

theorem probationBegun_shows {u : State} (n d k : Nat) (hu : u.RegsWf) : getF (probationBegun u n d k) (stateFld n d) = 3
    ∧ timerAt (.probation n) (probationBegun u n d k).timers = some (u.elapsed + 4 * k) ∧ timerAt (.copy n) (probationBegun u n d k).timers = none := by
  have hset : getF (probationBegun u n d k) (stateFld n d) = 3 := (getF_setF_same u _ 3 hu (stateFld_inWord n d).2).trans (by rw [width_stateFld]; rfl)
  refine ⟨hset, timerAt_armAt_same _ _ _, ?_⟩
  exact (timerAt_armAt_other _ _ _ _ (fun h => Timer.noConfusion h)).trans (timerAt_disarm_same _ _)

theorem rdByte_probationBegun (u : State) (n d k b : Nat) : rdByte (probationBegun (historyCopied (piersCopied u n d) n d) n d k) b = rdByte u b := by
  obtain ⟨r, x, te, h⟩ := historyCopied_rest u n d
  rw [h]
  rfl

theorem length_rdBytes (s : State) (a k : Nat) : (rdBytes s a k).length = k := by rw [rdBytes, List.length_map, List.length_range]

/-- A block copied from `b` to `a` reads at `a` what stood at `b`, and the bytes beside it as before. -/
theorem rdByte_copyBlock {s : State} (hs : cellWf memDefault s.mem = true) (a b k : Nat) :
    (∀ i < k, rdByte (wrBytes s a (rdBytes s b k)) (a + i) = rdByte s (b + i)) ∧
      (∀ j, (j < a ∨ a + k ≤ j) → rdByte (wrBytes s a (rdBytes s b k)) j = rdByte s j) := by
  refine ⟨fun i hi => ?_, fun j hj => rdByte_wrBytes_other _ _ _ _ (by rwa [length_rdBytes])⟩
  rw [rdByte_wrBytes_same _ hs (by rwa [length_rdBytes])]
  simp [rdBytes]

/-- What the end of a copy shows: the deck in PROBATION with the healthy deck's block of memory. -/
theorem copyEnded_shows {s : State} {n d b k p : Nat} (hwf : s.RegsWf) (hmem : cellWf memDefault s.mem = true) (t : State)
    (ht : t = probationBegun (historyCopied (piersCopied (wrBytes s (loopBase n d) (rdBytes s b k)) n d) n d) n d p) :
    getF t (stateFld n d) = 3 ∧ (∀ i < k, rdByte t (loopBase n d + i) = rdByte s (b + i))
      ∧ (∀ a, (a < loopBase n d ∨ loopBase n d + k ≤ a) → rdByte t a = rdByte s a)
      ∧ timerAt (.probation n) t.timers = some (s.elapsed + 4 * p) ∧ timerAt (.copy n) t.timers = none := by
  have hcopied := MemOnly.wrBytes (rdBytes s b k) s (loopBase n d)
  have hbegun := probationBegun_shows n d p (regsWf_historyCopied n d (regsWf_of_regs hcopied.regs hwf))
  obtain ⟨hstate, hprobation, hcopy⟩ := hbegun
  have helapsed : (historyCopied (piersCopied (wrBytes s (loopBase n d) (rdBytes s b k)) n d) n d).elapsed = s.elapsed := by
    obtain ⟨r, x, te, h⟩ := historyCopied_rest (wrBytes s (loopBase n d) (rdBytes s b k)) n d
    rw [h]
    exact hcopied.elapsed
  obtain ⟨hin, hout⟩ := rdByte_copyBlock hmem (loopBase n d) b k
  rw [helapsed] at hprobation
  subst ht
  refine ⟨hstate, fun i hi => ?_, fun a ha => ?_, hprobation, hcopy⟩
  · rw [rdByte_probationBegun, hin i hi]
  · rw [rdByte_probationBegun, hout a ha]

theorem resyncCopyEnd_copies {s : State} {n : Span} {d : Nat} (hs : s.Canon) (hdeck : deckIn s n 2 = some d) (hdue : due s (.copy n) = true) :
    ∃ t, exec (.resyncCopyEnd n) s = .next t ∧ getF t (stateFld n d) = 3
      ∧ (∀ i < 0x8800, rdByte t (loopBase n d + i) = rdByte s (loopBase n (1 - d) + i))
      ∧ (∀ a, (a < loopBase n d ∨ loopBase n d + 0x8800 ≤ a) → rdByte t a = rdByte s a)
      ∧ timerAt (.probation n) t.timers = some (s.elapsed + 400 * periodOf s n * getF s DK_TIMING_PROBATION) ∧ timerAt (.copy n) t.timers = none := by
  have htime : 400 * periodOf s n * getF s DK_TIMING_PROBATION = 4 * (100 * periodOf s n * getF s DK_TIMING_PROBATION) := by simp only [← Nat.mul_assoc]
  rw [htime]
  exact ⟨_, exec_resyncCopyEnd hdeck hdue, copyEnded_shows hs.1 hs.2.1 _ rfl⟩

/-! ### The end of probation (R329) -/

/-- The deck is HEALTHY with its claim at NOM and no cause. -/
def probationPassed (s : State) (n d : Nat) : State := setF (setF (setF s (stateFld n d) 0) (claimFld n d) (getF s DK_CTRL_NOM)) (causeFld n d) 0

/-- The resynchronisation is done and shown. -/
def doneShown (s : State) (n d : Nat) : State := event (disarm (probationPassed s n d) (.probation n)) DK_INT_RESYNC_DONE

/-- The resynchronisation is done, shown and counted. -/
def resyncDone (s : State) (n d : Nat) : State := setFailed (bump (doneShown s n d) (cDK_CNT 15)) n d 0

theorem exec_probationEnd {s : State} {n : Span} {d : Nat} (hdeck : deckIn s n 3 = some d) (hdue : due s (.probation n) = true) :
    ∃ p, exec (.probationEnd n) s = .next (showDecks (clearOpenWhere (resyncDone s n d) p)) := by
  have hexec : exec (.probationEnd n) s = execProbationEnd n s := rfl
  rw [hexec, execProbationEnd, hdeck]
  simp only [hdue, if_true]
  exact ⟨_, rfl⟩

/-- The VALID bits of the open contained faults. -/
def openFields : List Fld := (List.range 16).map FC_OPEN_w3_VALID

theorem clearOpenWhere_writes (s : State) (p : Nat → Nat → Bool) : RegWrites openFields s (clearOpenWhere s p) := by
  refine .foldl _ (fun u i hi => ?_) s
  have hvalid : FC_OPEN_w3_VALID i ∈ openFields := List.mem_map_of_mem hi
  exact .ite (fun _ => (RegWrites.setF u 0 hvalid).regs_eq rfl) (fun _ => .refl u)

theorem clearOpenWhere_rest (s : State) (p : Nat → Nat → Bool) : ∃ r f, clearOpenWhere s p = { s with regs := r, fc := f } := by
  refine List.foldlRecOn (motive := fun t : State => ∃ r f, t = { s with regs := r, fc := f }) _ _ ⟨s.regs, s.fc, rfl⟩ fun t h i _ => ?_
  obtain ⟨r, f, rfl⟩ := h
  dsimp only
  split
  · exact ⟨_, _, rfl⟩
  · exact ⟨_, _, rfl⟩

/-- What the end of probation writes after the resynchronisation is counted. -/
theorem afterProbation_writes (s : State) (p : Nat → Nat → Bool) : RegWrites (openFields ++ deckStatusFields) s (showDecks (clearOpenWhere s p)) :=
  ((clearOpenWhere_writes s p).mono (List.subset_append_left _ _)).trans ((showDecks_writes _).mono (List.subset_append_right _ _))

theorem resyncDone_writes (s : State) (n d : Nat) : RegWrites (DK_INT_RESYNC_DONE :: counterFields (cDK_CNT 15)) (probationPassed s n d) (resyncDone s n d) :=
  have hdisarmed : RegWrites (DK_INT_RESYNC_DONE :: counterFields (cDK_CNT 15)) (probationPassed s n d) (disarm (probationPassed s n d) (.probation n)) := .of_regs rfl
  ((hdisarmed.trans (.event _ List.mem_cons_self)).trans (.bump _ _ (List.subset_cons_self _ _))).regs_eq rfl

theorem probationPassed_writes (s : State) (n d : Nat) : RegWrites [stateFld n d, claimFld n d, causeFld n d] s (probationPassed s n d) :=
  ((RegWrites.setF s _ (by simp)).trans (.setF _ _ (by simp))).trans (.setF _ _ (by simp))

theorem claimFields_besides {n : Nat} (d : Nat) (hn : n < 36) {f : Fld} (hf : f.addr < aDK_CLAIM 0 ∨ aDK_CLAIM 36 ≤ f.addr) :
    ∀ g ∈ [stateFld n d, claimFld n d, causeFld n d], Apart f g := by
  have hrange : aDK_CLAIM 0 ≤ aDK_CLAIM n ∧ aDK_CLAIM n < aDK_CLAIM 36 := by
    unfold aDK_CLAIM
    omega
  have haddr : ∀ g ∈ [stateFld n d, claimFld n d, causeFld n d], g.addr = aDK_CLAIM n := by
    simp [stateFld_addr, claimFld_addr, causeFld_addr]
  exact fun g hg => .inl (by rw [haddr g hg]; omega)

theorem probationPassed_shows {s : State} (n d : Nat) (hs : s.RegsWf) :
    getF (probationPassed s n d) (stateFld n d) = 0 ∧ claim (probationPassed s n d) n d = getF s DK_CTRL_NOM := by
  have hnomlt : getF s DK_CTRL_NOM < 2 ^ 8 := getF_lt s DK_CTRL_NOM
  have hhealthy := regsWf_setF _ (stateFld n d) 0 hs
  have hclaimed := regsWf_setF _ (claimFld n d) (getF s DK_CTRL_NOM) hhealthy
  refine ⟨?_, ?_⟩
  · rw [probationPassed, getF_setF_apart _ hclaimed (stateFld_inWord n d).2 (state_apart_cause n d d),
      getF_setF_apart _ hhealthy (stateFld_inWord n d).2 (state_apart_claim n d d), getF_setF_same _ _ _ hs (stateFld_inWord n d).2, Nat.zero_mod]
  · rw [claim, probationPassed, getF_setF_apart _ hclaimed (claimFld_inWord n d).2 (claim_apart_cause n d d),
      getF_setF_same _ _ _ hhealthy (claimFld_inWord n d).2, width_claimFld, Nat.mod_eq_of_lt hnomlt]

theorem probationEnd_healthy {s : State} {n d : Nat} (hs : s.RegsWf) (hn : n < 36) (p : Nat → Nat → Bool) :
    healthy (showDecks (clearOpenWhere (resyncDone s n d) p)) n d = true := by
  have hpassed := probationPassed_writes s n d
  have hlater := ((resyncDone_writes s n d).mono (List.subset_append_left _ _)).trans
    ((afterProbation_writes (resyncDone s n d) p).mono (List.subset_append_right (DK_INT_RESYNC_DONE :: counterFields (cDK_CNT 15)) _))
  have hbeside : BesideClaims (DK_INT_RESYNC_DONE :: counterFields (cDK_CNT 15) ++ (openFields ++ deckStatusFields)) := by decide
  obtain ⟨hstate, hclaim⟩ := probationPassed_shows n d hs
  have hnom := (hlater.getF (f := DK_CTRL_NOM) (hpassed.wf hs) (by decide) (by decide)).trans
    (hpassed.getF hs (by decide) (claimFields_besides d hn (by decide)))
  have hstate' := hlater.getF (hpassed.wf hs) (stateFld_inWord n d) (apart_of_besideClaims hbeside hn (stateFld_addr n d))
  have hclaim' := hlater.getF (hpassed.wf hs) (claimFld_inWord n d) (apart_of_besideClaims hbeside hn (claimFld_addr n d))
  rw [healthy, decide_eq_true_eq, claim, hclaim', hnom, hstate']
  exact ⟨hclaim, hstate⟩

theorem probationEnd_counted {s : State} {n d : Nat} (hs : s.RegsWf) (hn : n < 36) (p : Nat → Nat → Bool) :
    flag (showDecks (clearOpenWhere (resyncDone s n d) p)) DK_INT_RESYNC_DONE = true
      ∧ count (showDecks (clearOpenWhere (resyncDone s n d) p)) (cDK_CNT 15) = (count s (cDK_CNT 15) + 1) % 2 ^ 48 := by
  have hpassed := probationPassed_writes s n d
  have hdone := (resyncDone_writes s n d).wf (hpassed.wf hs)
  have hafter := afterProbation_writes (resyncDone s n d) p
  have hdisarmed : (disarm (probationPassed s n d) (.probation n)).RegsWf := hpassed.wf hs
  have hshown : (doneShown s n d).RegsWf := regsWf_setF _ _ _ hdisarmed
  refine ⟨?_, ?_⟩
  · have hbump : flag (resyncDone s n d) DK_INT_RESYNC_DONE = flag (doneShown s n d) DK_INT_RESYNC_DONE :=
      (RegWrites.bump _ (cDK_CNT 15) (List.Subset.refl _)).flag hshown (by decide) (by decide)
    rw [hafter.flag hdone (by decide) (by decide), hbump, doneShown, flag_event_same _ _ hdisarmed (by decide) (by decide)]
  · have hbump : count (resyncDone s n d) (cDK_CNT 15) = (count (doneShown s n d) (cDK_CNT 15) + 1) % 2 ^ 48 := count_bumpBy _ _ 1 hshown
    have hevent : count (doneShown s n d) (cDK_CNT 15) = count (probationPassed s n d) (cDK_CNT 15) :=
      (RegWrites.event (W := [DK_INT_RESYNC_DONE]) _ List.mem_cons_self).count hdisarmed (by decide)
    have hkept : count (probationPassed s n d) (cDK_CNT 15) = count s (cDK_CNT 15) :=
      hpassed.count hs fun g hg => ⟨claimFields_besides d hn (by decide) g hg, claimFields_besides d hn (by decide) g hg⟩
    rw [hafter.count hdone (by decide), hbump, hevent, hkept]

theorem showDecks_regs (s : State) : RegsOnly s (showDecks s) := ((RegsOnly.setFlag s _ _).trans (.setFlag _ _ _)).trans (.setFlag _ _ _)

theorem probationEnd_rest (s : State) (n d : Nat) (p : Nat → Nat → Bool) :
    timerAt (.probation n) (showDecks (clearOpenWhere (resyncDone s n d) p)).timers = none ∧ (showDecks (clearOpenWhere (resyncDone s n d) p)).mem = s.mem := by
  obtain ⟨r, f, h⟩ := clearOpenWhere_rest (resyncDone s n d) p
  obtain ⟨q, hshown⟩ := showDecks_regs (clearOpenWhere (resyncDone s n d) p)
  have hmem : (resyncDone s n d).mem = s.mem := by
    rw [resyncDone, setFailed_mem, bump_mem, doneShown, event_mem]
    rfl
  rw [hshown, h]
  exact ⟨timerAt_disarm_same (probationPassed s n d) (.probation n), hmem⟩

theorem probationEnd_passes {s : State} {n : Span} {d : Nat} (hs : s.Canon) (hdeck : deckIn s n 3 = some d) (hdue : due s (.probation n) = true) :
    ∃ t, exec (.probationEnd n) s = .next t ∧ healthy t n d = true ∧ flag t DK_INT_RESYNC_DONE = true
      ∧ count t (cDK_CNT 15) = (count s (cDK_CNT 15) + 1) % 2 ^ 48 ∧ timerAt (.probation n) t.timers = none ∧ t.mem = s.mem := by
  obtain ⟨p, hexec⟩ := exec_probationEnd hdeck hdue
  obtain ⟨hflag, hcount⟩ := probationEnd_counted (d := d) hs.1 n.isLt p
  exact ⟨_, hexec, probationEnd_healthy hs.1 n.isLt p, hflag, hcount, probationEnd_rest s n d p⟩

/-! ### A path returns (R312) -/

/-- The word of DK_PEXCL that holds a deck's path at a pier. -/
def exclWord (g d : Nat) : Nat := if d = 0 then aDK_PEXCL_A (g / 32) else aDK_PEXCL_B (g / 32)

theorem excluded_eq (s : State) (g d : Nat) : excluded s g d = (rd s (exclWord g d)).toNat.testBit (g % 32) := rfl

theorem exclWord_inj {g k d e : Nat} (hg : g < 18432) (hk : k < 18432) (hd : d < 2) (he : e < 2) : exclWord k e = exclWord g d ↔ k / 32 = g / 32 ∧ e = d := by
  unfold exclWord aDK_PEXCL_A aDK_PEXCL_B
  split <;> split <;> omega

/-- The windows of DK_PEXCL hold every path's word. -/
theorem exclWord_range {g : Nat} (d : Nat) (hg : g < 18432) : aDK_PEXCL_A 0 ≤ exclWord g d ∧ exclWord g d < aDK_PEXCL_B 576 := by
  unfold exclWord aDK_PEXCL_A aDK_PEXCL_B
  split <;> omega

theorem returnPath_eq {s : State} {g : Nat} (d : Nat) (hg : g < 18432) :
    returnPath s g d = wr s (exclWord g d) (withBits (rd s (exclWord g d)) (g % 32) (g % 32) 0) := by
  rw [returnPath, if_pos hg]
  rfl

/-- A path that returns is no longer excluded, and every other path stands as before. -/
theorem excluded_returnPath {s : State} (hs : s.RegsWf) {g k d e : Nat} (hg : g < 18432) (hk : k < 18432) (hd : d < 2) (he : e < 2) :
    excluded (returnPath s g d) k e = if k = g ∧ e = d then false else excluded s k e := by
  rw [excluded_eq, returnPath_eq d hg, excluded_eq]
  by_cases hword : exclWord k e = exclWord g d
  · obtain ⟨hdiv, hdeck⟩ := (exclWord_inj hg hk hd he).mp hword
    have hbit : k = g ∧ e = d ↔ g % 32 ≤ k % 32 ∧ k % 32 - g % 32 < width (g % 32) (g % 32) := by
      unfold width
      omega
    rw [hword, rd_wr_same _ _ _ hs, BitVec.testBit_toNat, getLsbD_withBits _ _ _ _ _ (Nat.mod_lt _ (by decide)), BitVec.testBit_toNat]
    by_cases hpath : k = g ∧ e = d
    · rw [if_pos hpath, if_pos (hbit.mp hpath), Nat.zero_testBit]
    · rw [if_neg hpath, if_neg (mt hbit.mpr hpath)]
  · have hpath : ¬ (k = g ∧ e = d) := fun h => hword (by rw [h.1, h.2])
    rw [if_neg hpath, rd_wr_other _ _ _ _ hword]

theorem regsWf_storeWrite {s : State} (a : Nat) (v : Word) (hs : s.RegsWf) : (storeWrite s a v).RegsWf := by
  unfold storeWrite
  split
  · exact regsWf_wr _ _ _ hs
  · exact hs

/-- The write itself, before it takes effect, excludes no path and returns none. -/
theorem excluded_stored (s : State) (w : RegWrite) {k : Nat} (e : Nat) (hk : k < 18432) :
    excluded (storeWrite (atGrant s w) aDK_PEXCL_CLR w.value) k e = excluded s k e := by
  obtain ⟨hlow, hhigh⟩ := exclWord_range e hk
  have hclr : exclWord k e ≠ aDK_PEXCL_CLR := fun h => absurd (h ▸ hlow) (by decide)
  have hwait : exclWord k e ≠ (BM_WAIT_MAX w.master).addr := by
    have hbm : aDK_PEXCL_B 576 < aBM_WAIT 0 := by decide
    have hrow : aBM_WAIT 0 ≤ (BM_WAIT_MAX w.master).addr := by simp [BM_WAIT_MAX, aBM_WAIT]
    omega
  rw [excluded_eq, rd_storeWrite_other _ _ _ _ hclr, atGrant, noteWait, rd_setF_other _ _ _ _ hwait, ← excluded_eq]

theorem pathReturn_returns {s : State} {w : RegWrite} {g d : Nat} (hs : s.Canon) (hgrant : Granted s w aDK_PEXCL_CLR) (hg : g = bitsOf w.value 14 0)
    (hd : d = bitsOf w.value 15 15) (hlt : g < 18432) :
    ∃ t, exec (.pathReturn w) s = .next t ∧ excluded t g d = false
      ∧ (∀ k e, k < 18432 → e < 2 → (k ≠ g ∨ e ≠ d) → excluded t k e = excluded s k e) := by
  have hdeck : d < 2 := hd ▸ bitsOf_lt w.value 15 15
  have hwf : (storeWrite (atGrant s w) aDK_PEXCL_CLR w.value).RegsWf := regsWf_storeWrite _ _ (regsWf_setF _ _ _ hs.1)
  have hexec : exec (.pathReturn w) s = .next (returnPath (storeWrite (atGrant s w) aDK_PEXCL_CLR w.value) g d) := by
    rw [hg, hd]
    exact congrArg Host.Outcome.next ((rowWrite_dk hgrant (by decide)).trans (dkWrite_pathReturn _ _))
  refine ⟨_, hexec, ?_, fun k e hk he hne => ?_⟩
  · rw [excluded_returnPath hwf hlt hlt hdeck hdeck, if_pos ⟨rfl, rfl⟩]
  · rw [excluded_returnPath hwf hlt hk hdeck he, if_neg (by omega), excluded_stored s w e hk]

/-! ### AUTOFAIL marks a pier (R324) -/

theorem showFailed_regs (s : State) : RegsOnly s (showFailed s) := by
  unfold showFailed
  dsimp only
  refine ((RegsOnly.trans ?_ (.setF _ _ _)).trans (.setFlag _ _ _)).trans (.setFlag _ _ _)
  split
  · exact .event s _
  · exact .refl s

theorem markFailed_regs (s : State) (g : Nat) : RegsOnly s (markFailed s g) := by
  unfold markFailed
  split
  · exact .refl s
  · refine RegsOnly.trans ?_ (showFailed_regs _)
    have hmarked : RegsOnly s (event (markWritten s g 1) KS_INT_FAIL_MARK) := ⟨_, rfl⟩
    split_ifs
    · exact hmarked.trans (.event _ _)
    · exact hmarked

theorem autofailTimeout_marks {s : State} {n : Span} {l : Local} {e : Nat × Nat} (hs : s.Canon)
    (hresid : s.dk.resid.find? (fun e => decide (e.1 = pierIx n l)) = some e) (hauto : flag s DK_CTRL_AUTOFAIL = true)
    (htime : e.2 + 4000000 * getF s DK_TIMING_FAIL_MS ≤ s.elapsed) :
    ∃ t, exec (.autofailTimeout n l) s = .next t ∧ isFailed t (pierIx n l) = true ∧ t.mem = s.mem ∧ t.ad = s.ad := by
  have hexec : exec (.autofailTimeout n l) s = .next (markFailed s (pierIx n l)) := by
    have hexec : exec (.autofailTimeout n l) s = execAutofailTimeout n l s := rfl
    rw [hexec, execAutofailTimeout, hresid]
    exact if_pos ⟨hauto, htime⟩
  have hpier : pierIx n l < 18432 := by
    have hn := n.isLt
    have hl := l.isLt
    unfold pierIx
    omega
  have hmarked := markFailed_regs s (pierIx n l)
  refine ⟨_, hexec, ?_, hmarked.mem, hmarked.ad⟩
  rw [isFailed_markFailed hs.1 _ hpier, decide_eq_true rfl, Bool.true_or]

/-- Settles O46, clause by clause: the commands' rows, a handover, the begin of a resynchronisation, the end of its copy, the end of probation, a returned path, AUTOFAIL. -/
theorem handoverAndResync : Obligations.HandoverAndResync := by
  unfold Obligations.HandoverAndResync
  refine ⟨?_, ?_, ?_, fun s n d hs => resyncCopyEnd_copies hs, fun s n d hs => probationEnd_passes hs, fun s w g d => pathReturn_returns,
    fun s n l e => autofailTimeout_marks⟩
  · rintro s u w hg rfl
    exact ⟨exec_handover hg, exec_resync hg⟩
  · intro u n hu hall hspan hnom
    refine ⟨fun hA hB hmism hreplay hpass => ?_, handover_refused hall hspan n.isLt⟩
    obtain ⟨howner, hclaim, hcause⟩ := handed_shows hu.1 n.isLt hnom
    rw [handover_hands hall hspan n.isLt hA hB hmism hreplay hpass]
    exact ⟨howner, hclaim, hcause, rfl⟩
  · intro u n d hu hall hspan hdeck hcan
    rw [resync_starts hall hspan n.isLt hdeck hcan]
    exact resync_shows d hu.1 n.isLt

end Sys2Proof.Machine


namespace Sys2Proof.Machine

/-- Settles O1, by the definition of a step. -/
theorem stepRunsFront : Obligations.StepRunsFront := by
  unfold Obligations.StepRunsFront
  intro c rest s h
  rw [step, h]

/-- Settles O4: the tables after reset are empty or a few cells, which the test of the form decides. -/
theorem resetIsCanonical : Obligations.ResetIsCanonical := by
  unfold Obligations.ResetIsCanonical State.Canon State.Tables
  decide

/-- Settles O5, by reading the fields. -/
theorem resetValues : Obligations.ResetValues := by
  unfold Obligations.ResetValues
  decide

end Sys2Proof.Machine

namespace Sys2Proof.Machine

/-! ## What every operation keeps

Two things hold across every operation of the model: the queue of commands stands as it was, and tables in canonical form stay in that form; and all
but the operations on the flash leave the flash as it was. `Kept K s₀ s` says the two of a state `s` that an operation has made from `s₀`, and the third
where `K` holds; one lemma for each operation carries it on, in the order of the model's files, so that the proof for an operation reads as the chain of
updates that the operation is. -/

/-- From `s₀` to `s` the queue stands, tables in canonical form stay so, and where `K` asks for it the flash stands. -/
def Kept (K : Prop) (s₀ s : State) : Prop := s.pending = s₀.pending ∧ (s₀.Good → s.Good) ∧ (K → s.flash = s₀.flash)

/-- A command answers a next state to which its operations have kept both. -/
def Answers (s₀ : State) (o : Out) : Prop := ∃ t, o = .next t ∧ Kept False s₀ t

section
variable {K : Prop} {s₀ s t : State}

theorem Kept.refl (s : State) : Kept K s s := ⟨rfl, id, fun _ => rfl⟩

/-- An update, by what it does to the queue and the tables. -/
theorem Kept.update (h : Kept K s₀ s) (hp : t.pending = s.pending ∧ (K → t.flash = s.flash)) (hg : s.Good → t.Good) : Kept K s₀ t :=
  ⟨hp.1.trans h.1, fun hs => hg (h.2.1 hs), fun hk => (hp.2 hk).trans (h.2.2 hk)⟩

theorem Kept.ite {c : Prop} [Decidable c] (hs : Kept K s₀ s) (ht : Kept K s₀ t) : Kept K s₀ (if c then s else t) := by
  split <;> assumption

/-- A test that only then goes on from the state. -/
theorem Kept.when {c : Prop} [Decidable c] (hs : Kept K s₀ s) (ht : Kept K s₀ s → Kept K s₀ t) : Kept K s₀ (if c then t else s) := .ite (ht hs) hs

/-- A test that otherwise goes on from the state. -/
theorem Kept.unless {c : Prop} [Decidable c] (hs : Kept K s₀ s) (ht : Kept K s₀ s → Kept K s₀ t) : Kept K s₀ (if c then s else t) := .ite hs (ht hs)

/-- The same for a state that is used more than once. -/
theorem Kept.andThen (hs : Kept K s₀ s) (ht : Kept K s₀ s → Kept K s₀ t) : Kept K s₀ t := ht hs

/-- The state of a pair that a test has taken apart. -/
theorem Kept.snd {α : Type} {x : α × State} {a : α} (h : Kept K s₀ x.2) (he : x = (a, s)) : Kept K s₀ s := by
  rw [he] at h
  exact h

theorem Kept.iteFst {α : Type} {c : Prop} [Decidable c] {x y : State × α} (hx : Kept K s₀ x.1) (hy : Kept K s₀ y.1) : Kept K s₀ (if c then x else y).1 := by
  split <;> assumption

theorem Kept.iteSnd {α : Type} {c : Prop} [Decidable c] {x y : α × State} (hx : Kept K s₀ x.2) (hy : Kept K s₀ y.2) : Kept K s₀ (if c then x else y).2 := by
  split <;> assumption

theorem Kept.foldl {α : Type} {f : State → α → State} {l : List α} (h : Kept K s₀ s) (hf : ∀ {t a}, Kept K s₀ t → Kept K s₀ (f t a)) :
    Kept K s₀ (l.foldl f s) := by
  induction l generalizing s with
  | nil => exact h
  | cons a l ih => exact ih (hf h)

theorem Answers.next (h : Kept False s₀ s) : Answers s₀ (.next s) := ⟨s, rfl, h⟩

theorem Answers.ite {c : Prop} [Decidable c] {o p : Out} (ho : Answers s₀ o) (hp : Answers s₀ p) : Answers s₀ (if c then o else p) := by
  split <;> assumption

/-! ### The parts of the state

What holds no table may be replaced; of what holds tables, the rest. -/

theorem Kept.free {x : Nat} (h : Kept K s₀ s) : Kept K s₀ { s with free := x } := h
theorem Kept.epoch {x : Nat} (h : Kept K s₀ s) : Kept K s₀ { s with epoch := x } := h
theorem Kept.timers {x : List (Timer × Nat)} (h : Kept K s₀ s) : Kept K s₀ { s with timers := x } := h
theorem Kept.nt {x : NetTime} (h : Kept K s₀ s) : Kept K s₀ { s with nt := x } := h
theorem Kept.ks {x : Keystone} (h : Kept K s₀ s) : Kept K s₀ { s with ks := x } := h
theorem Kept.ty {x : TallyState} (h : Kept K s₀ s) : Kept K s₀ { s with ty := x } := h
theorem Kept.tc {x : Capture} (h : Kept K s₀ s) : Kept K s₀ { s with tc := x } := h
theorem Kept.bt {x : Boot} (h : Kept K s₀ s) : Kept K s₀ { s with bt := x } := h

theorem Kept.regs {x : List (Nat × Word)} (h : Kept K s₀ s) (hx : s.RegsWf → cellWf resetWord x = true) : Kept K s₀ { s with regs := x } :=
  h.update ⟨rfl, fun _ => rfl⟩ fun ⟨⟨hr, hm⟩, ht⟩ => ⟨⟨hx hr, hm⟩, ht⟩

theorem Kept.mem {x : List (Nat × Byte)} (h : Kept K s₀ s) (hx : cellWf memDefault s.mem = true → cellWf memDefault x = true) :
    Kept K s₀ { s with mem := x } :=
  h.update ⟨rfl, fun _ => rfl⟩ fun ⟨⟨hr, hm, hf⟩, ht⟩ => ⟨⟨hr, hx hm, hf⟩, ht⟩

theorem Kept.memRegs {x : List (Nat × Byte)} {y : List (Nat × Word)} (h : Kept K s₀ s)
    (hx : cellWf memDefault s.mem = true → cellWf memDefault x = true) (hy : s.RegsWf → cellWf resetWord y = true) :
    Kept K s₀ { s with mem := x, regs := y } :=
  h.update ⟨rfl, fun _ => rfl⟩ fun ⟨⟨hr, hm, hf⟩, ht⟩ => ⟨⟨hy hr, hx hm, hf⟩, ht⟩

theorem Kept.flash {x : List (Nat × Byte)} (h : Kept False s₀ s) (hx : cellWf flashDefault s.flash = true → cellWf flashDefault x = true) :
    Kept False s₀ { s with flash := x } :=
  h.update ⟨rfl, False.elim⟩ fun ⟨⟨hr, hm, hf⟩, ht⟩ => ⟨⟨hr, hm, hx hf⟩, ht⟩

theorem Kept.tg {retiringGen : Nat} {inbox : List Msg} {ptp : List PtpMsg} (h : Kept K s₀ s) :
    Kept K s₀ { s with tg := { s.tg with retiringGen, inbox, ptp } } := h
theorem Kept.ad {inflight : List Request} {slots : List Slot} {nextId closed : Nat} {booked starved : List Nat} {tx : Option OutFrame} (h : Kept K s₀ s) :
    Kept K s₀ { s with ad := { s.ad with inflight, slots, nextId, closed, booked, starved, tx } } := h
theorem Kept.dr {routed : List Routed} {parked moved : List Nat} {drvMw : List (Nat × Nat)} {withheld stagedWin : Option Nat} (h : Kept K s₀ s) :
    Kept K s₀ { s with dr := { s.dr with routed, parked, drvMw, withheld, stagedWin, moved } } := h
theorem Kept.dk {handing : List (Nat × (Nat × List Nat))} {nomPend : Option Nat} {replay resid failed : List (Nat × Nat)} {logPtr : Nat} (h : Kept K s₀ s) :
    Kept K s₀ { s with dk := { s.dk with handing, nomPend, replay, logPtr, resid, failed } } := h
theorem Kept.te {p0 hist : List (Nat × Nat)} {falling : List Nat} {ext : List (Nat × Ext)} (h : Kept K s₀ s) :
    Kept K s₀ { s with te := { s.te with p0, hist, falling, ext } } := h
theorem Kept.fc {conditions : List (BitVec 64)} {recoveries : List Nat} {alive : Option (Nat × Nat)} (h : Kept K s₀ s) :
    Kept K s₀ { s with fc := { s.fc with conditions, recoveries, alive } } := h
theorem Kept.bm {lock : Option (Nat × Nat × Nat)} {broken : List Nat} {readData : Word} (h : Kept K s₀ s) :
    Kept K s₀ { s with bm := { s.bm with lock, broken, readData } } := h
theorem Kept.cal {temps : List (Nat × Int)} {retry : List (Nat × Nat)} {newer : Bool} {lastStart : Option Nat} {sweep : Option (Nat × List Nat)}
    {sweepAt : Nat} (h : Kept K s₀ s) : Kept K s₀ { s with cal := { s.cal with temps, retry, newer, lastStart, sweep, sweepAt } } := h
theorem Kept.pw {moving : Option Moving} {rstLow : Bool} {request oscTrim restAt : Nat} (h : Kept K s₀ s) :
    Kept K s₀ { s with pw := { s.pw with moving, rstLow, request, oscTrim, restAt } } := h
theorem Kept.th {jobs : List Job} {job : Option Job} {op : Option FlashOp} {sector offset sseq lseq jsSeen began : Nat} {cycle : Option Nat}
    {cycling logRead : Bool} {urgent : Option Urgent} {calQueue : List (Nat × Nat)} {zero : List (Nat × Int)} (h : Kept K s₀ s) :
    Kept K s₀ { s with th :=
      { s.th with jobs, job, op, sector, offset, sseq, lseq, cycle, cycling, urgent, calQueue, zero, jsSeen, logRead, began } } := h

end

end Sys2Proof.Machine

namespace Sys2Proof.Machine

/-- A value that the keys of a table are given holds what all of them and the default hold. -/
theorem cellPut_forall {α : Type} [DecidableEq α] {d : Nat → α} {P : α → Prop} {l : List (Nat × α)} {k : Nat} {v : α} (hl : ∀ e ∈ l, P e.2) (hv : P v) :
    ∀ e ∈ cellPut d l k v, P e.2 := by
  induction l with
  | nil =>
    intro e he
    simp only [cellPut] at he
    split at he
    · exact absurd he List.not_mem_nil
    · rw [List.mem_singleton.1 he]
      exact hv
  | cons x t ih =>
    obtain ⟨hx, ht⟩ := List.forall_mem_cons.1 hl
    simp only [cellPut]
    split_ifs
    · exact hl
    · exact List.forall_mem_cons.2 ⟨hv, hl⟩
    · exact ht
    · exact List.forall_mem_cons.2 ⟨hv, ht⟩
    · exact List.forall_mem_cons.2 ⟨hx, ih ht⟩

theorem cellGet_forall {α : Type} {d : Nat → α} {P : α → Prop} {l : List (Nat × α)} (hl : ∀ e ∈ l, P e.2) (k : Nat) (hd : P (d k)) :
    P (cellGet d l k) := by
  induction l with
  | nil => exact hd
  | cons x t ih =>
    obtain ⟨hx, ht⟩ := List.forall_mem_cons.1 hl
    obtain ⟨k', v⟩ := x
    rw [cellGet]
    split
    · exact hx
    · exact ih ht

/-- A port's pauses stand in canonical form. -/
theorem pauseEnd_wf {s : State} (hs : s.Good) (p : Nat) : cellWf (fun _ => 0) (portOf s p).pauseEnd = true := by
  obtain ⟨-, -, hpauses, -⟩ := hs
  exact cellGet_forall (P := fun x : PortState => cellWf (fun _ => 0) x.pauseEnd = true) hpauses p rfl

theorem good_setPort {s : State} {p : Nat} {x : PortState} (hs : s.Good) (hx : cellWf (fun _ => 0) x.pauseEnd = true) : (setPort s p x).Good := by
  obtain ⟨hc, hports, hpauses, ht⟩ := hs
  exact ⟨hc, cellWf_cellPut _ _ _ _ hports, cellPut_forall (P := fun x : PortState => cellWf (fun _ => 0) x.pauseEnd = true) hpauses hx, ht⟩

end Sys2Proof.Machine

namespace Sys2Proof.Machine

section
variable {α : Type} [DecidableEq α] {d : Nat → α} {l : List (Nat × α)}

omit [DecidableEq α] in
theorem cellAbove_iff {lo : Nat} : cellAbove lo l = true ↔ ∀ e ∈ l, lo < e.1 := by
  induction l with
  | nil => simp [cellAbove]
  | cons e t ih => simp [cellAbove, ih]

/-- The canonical form, in the library's terms: the keys rise, and no entry says what an unlisted key reads as. -/
theorem cellWf_iff : cellWf d l = true ↔ l.Pairwise (fun a b => a.1 < b.1) ∧ ∀ e ∈ l, e.2 ≠ d e.1 := by
  induction l with
  | nil => simp [cellWf]
  | cons e t ih =>
    simp only [cellWf, Bool.and_eq_true, decide_eq_true_eq, cellAbove_iff, ih, List.pairwise_cons, List.forall_mem_cons]
    tauto

theorem cellWf_filter {p : Nat × α → Bool} (h : cellWf d l = true) : cellWf d (l.filter p) = true := by
  obtain ⟨hrise, hval⟩ := cellWf_iff.1 h
  exact cellWf_iff.2 ⟨hrise.filter p, fun e he => hval e (List.mem_of_mem_filter he)⟩

theorem cellWf_append {l' : List (Nat × α)} (h : cellWf d l = true) (h' : cellWf d l' = true) (hlt : ∀ a ∈ l, ∀ b ∈ l', a.1 < b.1) :
    cellWf d (l ++ l') = true := by
  obtain ⟨hrise, hval⟩ := cellWf_iff.1 h
  obtain ⟨hrise', hval'⟩ := cellWf_iff.1 h'
  exact cellWf_iff.2 ⟨List.pairwise_append.2 ⟨hrise, hrise', hlt⟩, fun e he => (List.mem_append.1 he).elim (hval e) (hval' e)⟩

/-- A table made anew, put by put. -/
theorem cellWf_foldl {β : Type} {f : List (Nat × α) → β → List (Nat × α)} (hf : ∀ t b, cellWf d t = true → cellWf d (f t b) = true)
    (bs : List β) (h : cellWf d l = true) : cellWf d (bs.foldl f l) = true := by
  induction bs generalizing l with
  | nil => exact h
  | cons b bs ih => exact ih (hf _ _ h)

end

/-- The rules of the active bank beside their copy in the other one: of a bank's keys, all lie below those of the next. -/
theorem cellWf_copiedRules {l : List (Nat × Word)} {active bank : Nat} (h : cellWf (fun _ => 0) l = true) (hne : bank ≠ active) (ha : active < 2)
    (hb : bank < 2) :
    let act := l.filter (fun e => decide (e.1 / 16384 = active))
    let moved := act.map (fun e => (e.1 % 16384 + bank * 16384, e.2))
    cellWf (fun _ => 0) (if bank = 0 then moved ++ act else act ++ moved) = true := by
  intro act moved
  have hact : cellWf (fun _ => (0 : Word)) act = true := cellWf_filter h
  have hin : ∀ e ∈ act, e.1 / 16384 = active := fun e he => by simpa using (List.mem_filter.1 he).2
  have hmoved : ∀ e ∈ moved, e.1 / 16384 = bank := by
    intro e he
    obtain ⟨x, -, rfl⟩ := List.mem_map.1 he
    dsimp only
    omega
  have hwf : cellWf (fun _ => (0 : Word)) moved = true := by
    obtain ⟨hrise, hval⟩ := cellWf_iff.1 hact
    refine cellWf_iff.2 ⟨List.pairwise_map.2 (hrise.imp_of_mem fun hx hy hlt => ?_), fun e he => ?_⟩
    · have := hin _ hx
      have := hin _ hy
      dsimp only
      omega
    · obtain ⟨x, hx, rfl⟩ := List.mem_map.1 he
      exact hval x hx
  split
  · refine cellWf_append hwf hact fun a hm b ho => ?_
    have := hmoved a hm
    have := hin b ho
    omega
  · refine cellWf_append hact hwf fun a ho b hm => ?_
    have := hmoved b hm
    have := hin a ho
    omega

/-! ### The tables of the state's parts -/

section
variable {K : Prop} {s₀ s : State}

theorem Kept.rules {x : List (Nat × Word)} (h : Kept K s₀ s) (hx : cellWf (fun _ => 0) s.tg.rules = true → cellWf (fun _ => 0) x = true) :
    Kept K s₀ { s with tg := { s.tg with rules := x } } :=
  h.update ⟨rfl, fun _ => rfl⟩ fun ⟨hc, h1, h2, h3, hr⟩ => ⟨hc, h1, h2, hx h3, hr⟩

theorem Kept.windows {x : List (Nat × Nat)} (h : Kept K s₀ s) (hx : cellWf (fun _ => 0) s.fc.windows = true → cellWf (fun _ => 0) x = true) :
    Kept K s₀ { s with fc := { s.fc with windows := x } } :=
  h.update ⟨rfl, fun _ => rfl⟩ fun ⟨hc, h1, h2, h3, h4, h5, h6, h7, h8, h9, h10, hr⟩ => ⟨hc, h1, h2, h3, h4, h5, h6, h7, h8, h9, hx h10, hr⟩

theorem Kept.latches {x : List (Nat × Option (Nat × Nat))} (h : Kept K s₀ s)
    (hx : cellWf (fun _ => none) s.bm.latches = true → cellWf (fun _ => none) x = true) :
    Kept K s₀ { s with bm := { s.bm with latches := x } } :=
  h.update ⟨rfl, fun _ => rfl⟩ fun ⟨hc, h1, h2, h3, h4, h5, h6, h7, h8, h9, h10, h11, hr⟩ => ⟨hc, h1, h2, h3, h4, h5, h6, h7, h8, h9, h10, hx h11, hr⟩

theorem Kept.tries {x : List (Nat × Option (Nat × Nat))} (h : Kept K s₀ s)
    (hx : cellWf (fun _ => none) s.pw.tries = true → cellWf (fun _ => none) x = true) :
    Kept K s₀ { s with pw := { s.pw with tries := x } } :=
  h.update ⟨rfl, fun _ => rfl⟩ fun ⟨hc, h1, h2, h3, h4, h5, h6, h7, h8, h9, h10, h11, h12, hr⟩ => ⟨hc, h1, h2, h3, h4, h5, h6, h7, h8, h9, h10, h11, hx h12, hr⟩

theorem Kept.noTries {moving : Option Moving} (h : Kept K s₀ s) : Kept K s₀ { s with pw := { s.pw with moving, tries := [] } } :=
  h.pw.tries fun _ => rfl

theorem Kept.period {x : List (Nat × Nat)} (h : Kept K s₀ s) (hx : cellWf (fun _ => 0) s.te.period = true → cellWf (fun _ => 0) x = true) :
    Kept K s₀ { s with te := { s.te with period := x } } :=
  h.update ⟨rfl, fun _ => rfl⟩ fun ⟨hc, h1, h2, h3, h4, h5, h6, h7, h8, h9, h10, h11, h12, h13, h14, h15, hr⟩ =>
    ⟨hc, h1, h2, h3, h4, h5, h6, h7, h8, h9, h10, h11, h12, h13, h14, hx h15, hr⟩

theorem Kept.seqs {x : List (Nat × CalSeq)} (h : Kept K s₀ s)
    (hx : cellWf (fun _ => CalSeq.init) s.cal.seqs = true → cellWf (fun _ => CalSeq.init) x = true) :
    Kept K s₀ { s with cal := { s.cal with seqs := x } } :=
  h.update ⟨rfl, fun _ => rfl⟩ fun ⟨hc, h1, h2, h3, h4, h5, h6, h7, h8, h9, h10, h11, h12, h13, h14, h15, h16, hr⟩ =>
    ⟨hc, h1, h2, h3, h4, h5, h6, h7, h8, h9, h10, h11, h12, h13, h14, h15, hx h16, hr⟩

theorem Kept.power {x : List (Nat × Nat)} (h : Kept K s₀ s) (hx : cellWf (fun _ => 0) s.dr.power = true → cellWf (fun _ => 0) x = true) :
    Kept K s₀ { s with dr := { s.dr with power := x } } :=
  h.update ⟨rfl, fun _ => rfl⟩ fun ⟨hc, h1, h2, h3, h4, h5, h6, h7, h8, h9, h10, h11, h12, h13, h14, h15, h16, h17, h18, hr⟩ =>
    ⟨hc, h1, h2, h3, h4, h5, h6, h7, h8, h9, h10, h11, h12, h13, h14, h15, h16, h17, hx h18, hr⟩

theorem Kept.refreshed {x : List (Nat × Nat)} (h : Kept K s₀ s) (hx : cellWf (fun _ => 0) s.dr.refreshed = true → cellWf (fun _ => 0) x = true) :
    Kept K s₀ { s with dr := { s.dr with refreshed := x } } :=
  h.update ⟨rfl, fun _ => rfl⟩ fun ⟨hc, h1, h2, h3, h4, h5, h6, h7, h8, h9, h10, h11, h12, h13, h14, h15, h16, h17, h18, h19, hr⟩ =>
    ⟨hc, h1, h2, h3, h4, h5, h6, h7, h8, h9, h10, h11, h12, h13, h14, h15, h16, h17, h18, hx h19, hr⟩

theorem Kept.piers {x : List (Nat × Pier)} (h : Kept K s₀ s)
    (hx : cellWf (fun _ => Pier.init) s.dr.piers = true → cellWf (fun _ => Pier.init) x = true) :
    Kept K s₀ { s with dr := { s.dr with piers := x } } :=
  h.update ⟨rfl, fun _ => rfl⟩ fun ⟨hc, h1, h2, h3, h4, h5, h6, h7, h8, h9, h10, h11, h12, h13, h14, h15, h16, h17, h18, h19, h20, hr⟩ =>
    ⟨hc, h1, h2, h3, h4, h5, h6, h7, h8, h9, h10, h11, h12, h13, h14, h15, h16, h17, h18, h19, hx h20, hr⟩

/-- A state whose other tables are empty. -/
theorem good_reset : State.reset.Good := by
  unfold State.Good State.Canon State.Tables
  decide

end

end Sys2Proof.Machine
namespace Sys2Proof.Machine

section
variable {K : Prop} {s₀ s : State}

/-! ### Ops -/

theorem Kept.wr {a : Nat} {v : Word} (h : Kept K s₀ s) : Kept K s₀ (wr s a v) := h.regs (cellWf_cellPut _ _ _ _)
theorem Kept.setF {f : Fld} {v : Nat} (h : Kept K s₀ s) : Kept K s₀ (setF s f v) := h.wr
theorem Kept.setFlag {f : Fld} {b : Bool} (h : Kept K s₀ s) : Kept K s₀ (setFlag s f b) := h.setF
theorem Kept.event {f : Fld} (h : Kept K s₀ s) : Kept K s₀ (event s f) := h.setF
theorem Kept.bumpBy {a n : Nat} (h : Kept K s₀ s) : Kept K s₀ (bumpBy s a n) := h.wr.wr
theorem Kept.bump {a : Nat} (h : Kept K s₀ s) : Kept K s₀ (bump s a) := h.bumpBy
theorem Kept.lifeBy {i n : Nat} (h : Kept K s₀ s) : Kept K s₀ (lifeBy s i n) := h.wr.when (·.ty.event.setFlag)
theorem Kept.life {i : Nat} (h : Kept K s₀ s) : Kept K s₀ (life s i) := h.lifeBy
theorem Kept.lifeRemainder {i unit n : Nat} (h : Kept K s₀ s) : Kept K s₀ (lifeRemainder s i unit n) := h.ty.unless (·.lifeBy)
theorem Kept.histogram {h' b : Nat} (h : Kept K s₀ s) : Kept K s₀ (histogram s h' b) := h.wr
theorem Kept.wrByte {a : Nat} {v : Byte} (h : Kept K s₀ s) : Kept K s₀ (wrByte s a v) := h.mem (cellWf_cellPut _ _ _ _)
theorem Kept.wrBytes {a : Nat} {bs : List Byte} (h : Kept K s₀ s) : Kept K s₀ (wrBytes s a bs) := by
  induction bs generalizing s a with
  | nil => exact h
  | cons b bs ih => exact ih h.wrByte
theorem Kept.wrMem {a n v : Nat} (h : Kept K s₀ s) : Kept K s₀ (wrMem s a n v) := h.wrBytes
theorem Kept.flashProgram {a : Nat} {bs : List Byte} (h : Kept False s₀ s) : Kept False s₀ (flashProgram s a bs) := by
  induction bs generalizing s a with
  | nil => exact h
  | cons b bs ih => exact ih (h.flash (cellWf_cellPut _ _ _ _))
theorem Kept.flashErase {a n : Nat} (h : Kept False s₀ s) : Kept False s₀ (flashErase s a n) := h.flash (cellWf_cellDrop _ _ _)
theorem Kept.disarm {t : Timer} (h : Kept K s₀ s) : Kept K s₀ (disarm s t) := h.timers
theorem Kept.armAt {t : Timer} {at_ : Nat} (h : Kept K s₀ s) : Kept K s₀ (armAt s t at_) := h.timers
theorem Kept.armIn {t : Timer} {n : Nat} (h : Kept K s₀ s) : Kept K s₀ (armIn s t n) := h.armAt
theorem Kept.fresh {m : Nat} (h : Kept K s₀ s) : Kept K s₀ (fresh s m).2 := h.free
theorem Kept.divFree {a : Int} {d : Nat} (h : Kept K s₀ s) : Kept K s₀ (divFree s a d).2 := by
  unfold Machine.divFree
  split
  · exact h.free
  · split
    · exact h
    · exact h.free
theorem Kept.setQueue {source : Nat} {q : List (BitVec 64)} (h : Kept K s₀ s) : Kept K s₀ (setQueue s source q) := h.update ⟨rfl, fun _ => rfl⟩ (good_setQueue _ _)
theorem Kept.report {m : BitVec 64} (h : Kept K s₀ s) : Kept K s₀ (report s m) := .ite h.event.bump h.setQueue
theorem Kept.raise {source kind cls : Nat} {deckB : Bool} {address : Nat} (h : Kept K s₀ s) : Kept K s₀ (raise s source kind cls deckB address) :=
  h.report
theorem Kept.meetUpset {u : MemUpset} (h : Kept K s₀ s) : Kept K s₀ (meetUpset s u) := .ite h.raise (.ite h.raise h.raise)
theorem Kept.meetEcc {us : List MemUpset} (h : Kept K s₀ s) : Kept K s₀ (meetEcc s us) := h.foldl (·.meetUpset)

/-! ### Matrix -/

theorem Kept.releaseLock {master : Nat} (h : Kept K s₀ s) : Kept K s₀ (releaseLock s master) := by
  unfold Machine.releaseLock
  split
  · exact .ite h.bm.setFlag.disarm h
  · exact h
theorem Kept.masterReset {master : Nat} {burst : Option Burst} (h : Kept K s₀ s) : Kept K s₀ (masterReset s master burst) :=
  h.bm.unless (·.setFlag.setF.setFlag.setF.releaseLock.event.bump.bumpBy.raise)
theorem Kept.jointDown {j : Nat} (h : Kept K s₀ s) : Kept K s₀ (jointDown s j) := .ite h.setF.event h

/-! ### Ports -/

/-- A port's part may be replaced but for its pauses, which are a table as well. -/
theorem Kept.setPort {p : Nat} {frames fwq : List Frame} {xoff : List (Nat × Bool)} {ptpq : List PtpOut} (h : Kept K s₀ s) :
    Kept K s₀ (setPort s p { portOf s p with frames := frames, fwq := fwq, xoff := xoff, ptpq := ptpq }) :=
  h.update ⟨rfl, fun _ => rfl⟩ fun hs => good_setPort hs (pauseEnd_wf hs p)

theorem Kept.setPauseEnd {p prio e : Nat} (h : Kept K s₀ s) :
    Kept K s₀ (Machine.setPort s p { portOf s p with pauseEnd := cellPut (fun _ => 0) (portOf s p).pauseEnd prio e }) :=
  h.update ⟨rfl, fun _ => rfl⟩ fun hs => good_setPort hs (cellWf_cellPut _ _ _ _ (pauseEnd_wf hs p))
theorem Kept.sendFrame {f : OutFrame} (h : Kept K s₀ s) : Kept K s₀ (sendFrame s f) := h.ad.bump.bumpBy
theorem Kept.sendPfc {p prio quanta : Nat} (h : Kept K s₀ s) : Kept K s₀ (sendPfc s p prio quanta) := .ite h h.bump.bump.bumpBy.ad
theorem Kept.setXoff {p prio : Nat} {b : Bool} (h : Kept K s₀ s) : Kept K s₀ (setXoff s p prio b) := h.setPort
theorem Kept.pfcRise {p prio : Nat} (h : Kept K s₀ s) : Kept K s₀ (pfcRise s p prio) := .ite h.sendPfc.setXoff.armIn h
theorem Kept.pfcFall {p prio : Nat} (h : Kept K s₀ s) : Kept K s₀ (pfcFall s p prio) := .ite h.sendPfc.setXoff.disarm h
theorem Kept.pfcFallAll {p : Nat} (h : Kept K s₀ s) : Kept K s₀ (pfcFallAll s p) := h.foldl (·.pfcFall)
theorem Kept.pfcSettle (h : Kept K s₀ s) : Kept K s₀ (pfcSettle s) := h.foldl (·.pfcFallAll)
@[simp] theorem Answers.execPfcXoffRepeat {p : Port} {prio : Prio} (h : Kept False s₀ s) : Answers s₀ (execPfcXoffRepeat p prio s) :=
  .ite (.next h.sendPfc.armIn) (.next h)
theorem Kept.startAttempt {p : Nat} {tenG : Bool} (h : Kept K s₀ s) : Kept K s₀ (startAttempt s p tenG) := h.setFlag.armIn
theorem Kept.setLink {p : Nat} {l : LinkStatus} (h : Kept K s₀ s) : Kept K s₀ (setLink s p l) :=
  .setFlag (.setFlag (.setFlag (.setFlag (.setFlag (.ite h h.event)))))
@[simp] theorem Answers.execPortLinkChange {p : Port} {l : LinkStatus} (h : Kept False s₀ s) : Answers s₀ (execPortLinkChange p l s) :=
  .ite (.next h.setLink) <|
  .ite (.ite (.next h.setLink.disarm.disarm.event) (.next h.setLink.disarm.disarm)) (.ite (.next h.setLink.armIn) (.next h.setLink))
@[simp] theorem Answers.execRateFallbackTimer {p : Port} (h : Kept False s₀ s) : Answers s₀ (execRateFallbackTimer p s) :=
  .ite (.next h) (.ite (.next h.disarm.startAttempt) (.ite (.next h.startAttempt) (.next h)))
theorem Kept.cpCtrlEffect {p : Nat} (h : Kept K s₀ s) : Kept K s₀ (cpCtrlEffect s p) :=
  .ite (.ite (.ite h h.startAttempt) h.setF.disarm.disarm) h.disarm.disarm
theorem Kept.toFirmware {p : Nat} {f : Frame} (h : Kept K s₀ s) : Kept K s₀ (toFirmware s p f) := .ite h.event.bump h.setPort
theorem Kept.defaultAction {p : Nat} {f : Frame} (h : Kept K s₀ s) : Kept K s₀ (defaultAction s p f) := .ite h.toFirmware h
theorem Kept.portLockLost {p : Nat} (h : Kept K s₀ s) : Kept K s₀ (portLockLost s p) := h.setLink.when (·.armIn)
theorem Kept.fwqPop (h : Kept K s₀ s) : Kept K s₀ (fwqPop s) := h.setPort.pfcFallAll

/-! ### Ptp -/

theorem Kept.ringSend {m : PtpMsg} {bytes : List Byte} (h : Kept K s₀ s) : Kept K s₀ (ringSend s m bytes) := h.sendFrame.bump
theorem Kept.residence {m : PtpMsg} (h : Kept K s₀ s) : Kept K s₀ (residence s m).2 := h.free.free
theorem Kept.ringEgress {m : PtpMsg} (h : Kept K s₀ s) : Kept K s₀ (ringEgress s m) :=
  have hr : Kept K s₀ (Machine.residence s m).2 := h.residence
  .ite (by split; exacts [h.nt.disarm.ringSend, h.ringSend.bump]) (.ite hr.nt.armIn.ringSend (.ite hr.ringSend h.ringSend))
theorem Kept.sendDelayReq {f : OutFrame} {seq frac : Nat} (h : Kept K s₀ s) : Kept K s₀ (sendDelayReq s f seq frac) := h.sendFrame.bump.nt
theorem Kept.holdPtp {p : Nat} {x : PtpOut} (h : Kept K s₀ s) : Kept K s₀ (holdPtp s p x) := h.setPort
theorem Kept.releasePtp {a : PtpOut} (h : Kept K s₀ s) : Kept K s₀ (releasePtp s a) := by
  unfold Machine.releasePtp
  split
  · exact h.ringEgress
  · exact h.free.sendDelayReq
theorem Kept.drainPtp {p : Nat} (h : Kept K s₀ s) : Kept K s₀ (drainPtp s p) := h.setPort.foldl (·.releasePtp)
theorem Kept.ringForward {m : PtpMsg} (h : Kept K s₀ s) : Kept K s₀ (ringForward s m) := .ite h.holdPtp h.ringEgress
theorem Kept.ptpArrive {m : PtpMsg} (h : Kept K s₀ s) : Kept K s₀ (ptpArrive s m) :=
  .unless (.ite h.ringForward h) (fun h => .ite h.bump (.ite h h.tg))
@[simp] theorem Answers.execRingFollowUpTimeout (h : Kept False s₀ s) : Answers s₀ (execRingFollowUpTimeout s) := by
  unfold Machine.execRingFollowUpTimeout
  split
  · exact .next h
  · exact .next h.nt.disarm

/-! ### Receive -/

theorem Kept.pausePrio {p prio quanta : Nat} (h : Kept K s₀ s) : Kept K s₀ (pausePrio s p prio quanta) := h.setPauseEnd.drainPtp
theorem Kept.pfcReceived {p enable : Nat} {quanta : List Nat} (h : Kept K s₀ s) : Kept K s₀ (pfcReceived s p enable quanta) :=
  .ite (h.bump.foldl (·.pausePrio)) h.bump
theorem Kept.frameIn {p : Nat} {bytes : List Byte} {fcsOk : Bool} (h : Kept K s₀ s) : Kept K s₀ (frameIn s p bytes fcsOk) :=
  .ite h.bump.bumpBy.bump <|
  .ite h.bump.bumpBy.bump <|
  .ite h.bump.bumpBy.bump <|
  .ite (.ite h.bump.bumpBy.pfcReceived h.bump.bumpBy.bump) (.ite h.bump.bumpBy.event.bump h.bump.bumpBy.setPort.pfcRise)
@[simp] theorem Answers.execFrameReceived {p : Port} {bytes : List Byte} {fcsOk : Bool} {fec : FecCount} (h : Kept False s₀ s) :
    Answers s₀ (execFrameReceived p bytes fcsOk fec s) :=
  .ite (.next h.bumpBy.bumpBy.frameIn) (.next h)
@[simp] theorem Answers.execPfcFrame {p : Port} {enable : BitVec 8} {quanta : List Nat} (h : Kept False s₀ s) : Answers s₀ (execPfcFrame p enable quanta s) :=
  .ite (.next h.bump.bumpBy.pfcReceived) (.next h)
@[simp] theorem Answers.execPfcPauseExpiry {p : Port} {prio : Prio} (h : Kept False s₀ s) : Answers s₀ (execPfcPauseExpiry p prio s) :=
  .ite (.next h) (.next h.setPauseEnd.drainPtp)

/-! ### Tollgate -/

theorem Kept.setRuleWord {bank i k : Nat} {w : Word} (h : Kept K s₀ s) : Kept K s₀ (setRuleWord s bank i k w) :=
  h.update ⟨rfl, fun _ => rfl⟩ fun ⟨hc, h1, h2, h3, hr⟩ => ⟨hc, h1, h2, cellWf_cellPut _ _ _ _ h3, hr⟩
theorem Kept.setPolicer {n : Nat} {level : Int} (h : Kept K s₀ s) : Kept K s₀ (setPolicer s n level) :=
  h.update ⟨rfl, fun _ => rfl⟩ fun ⟨hc, h1, h2, h3, h4, hr⟩ => ⟨hc, h1, h2, h3, cellWf_cellPut _ _ _ _ h4, hr⟩
theorem Kept.police {n len : Nat} (h : Kept K s₀ s) : Kept K s₀ (police s n len).2 := by
  unfold Machine.police
  split
  · exact h
  · dsimp only
    split
    · exact h.setPolicer
    · exact h.bump
theorem Kept.policerWritten {n : Nat} (h : Kept K s₀ s) : Kept K s₀ (policerWritten s n) := h.setPolicer
theorem Kept.setFrag {n : Nat} {e : Option FragEntry} (h : Kept K s₀ s) : Kept K s₀ (setFrag s n e) :=
  h.update ⟨rfl, fun _ => rfl⟩ fun ⟨hc, h1, h2, h3, h4, h5, hr⟩ => ⟨hc, h1, h2, h3, h4, cellWf_cellPut _ _ _ _ h5, hr⟩
theorem Kept.retire (h : Kept K s₀ s) : Kept K s₀ (retire s) := .ite h.setFlag h
theorem Kept.freeFrag {n : Nat} (h : Kept K s₀ s) : Kept K s₀ (freeFrag s n) := h.setFrag.retire
theorem Kept.discardFrags {k : Nat} (h : Kept K s₀ s) : Kept K s₀ (discardFrags s k) := h.bumpBy
theorem Kept.refuseFrag {q : Fragment} (h : Kept K s₀ s) : Kept K s₀ (refuseFrag s q) := .ite h.toFirmware h.discardFrags
theorem Kept.poison {n : Nat} {e : FragEntry} {more : Nat} (h : Kept K s₀ s) : Kept K s₀ (poison s n e more) := h.discardFrags.setFrag.retire
theorem Kept.followDecision {n : Nat} {q : Fragment} (h : Kept K s₀ s) : Kept K s₀ (followDecision s n q) := by
  unfold Machine.followDecision
  split
  · exact h
  refine .ite h ?_
  dsimp only
  split
  · exact h
  · split
    next he => exact .snd h.police he
    next he => exact .poison (.snd h.police he)
  · split
    next he => exact .discardFrags (.bump (.setFrag (.snd h.police he)))
    next he => exact .poison (.snd h.police he)
  · split
    next he => exact .toFirmware (.setFrag (.snd h.police he))
    next he => exact .poison (.snd h.police he)
  · exact h.setFrag.refuseFrag
theorem Kept.refuseDatagram {n : Nat} {e : FragEntry} {q : Fragment} {cause : Nat} (h : Kept K s₀ s) : Kept K s₀ (refuseDatagram s n e q cause) :=
  .ite (h.foldl (·.refuseFrag)).poison (h.setFrag.defaultAction.foldl (·.followDecision))
theorem Kept.decideFrag {n : Nat} {r : Route} {w : Walk} {proto : Nat} {e : FragEntry} {q : Fragment} (h : Kept K s₀ s) :
    Kept K s₀ (decideFrag s n r w proto e q) := by
  unfold Machine.decideFrag
  dsimp only
  split
  · exact h.bump.refuseDatagram
  · exact .ite h.poison (h.setFrag.foldl (·.followDecision))
theorem Kept.joinFrag {n : Nat} {r : Route} {w : Walk} {proto : Nat} {e : FragEntry} {q : Fragment} (h : Kept K s₀ s) :
    Kept K s₀ (joinFrag s n r w proto e q) :=
  .ite h.discardFrags <|
  .ite h.discardFrags (.ite h.poison (.ite h.poison (.ite (.ite h.decideFrag (.ite h.poison h.setFrag)) h.setFrag.followDecision)))
theorem Kept.fragmentIn {r : Route} {w : Walk} {ident proto off : Nat} {more : Bool} {data : List Byte} {f : Frame} (h : Kept K s₀ s) :
    Kept K s₀ (fragmentIn s r w ident proto off more data f) := by
  unfold Machine.fragmentIn
  dsimp only
  split
  · split
    · exact h.joinFrag
    · exact h
  · split
    · exact h.discardFrags
    · exact h.setFrag.joinFrag
theorem Kept.leaveBuffer {p : Nat} (h : Kept K s₀ s) : Kept K s₀ (leaveBuffer s p) := h.setPort
theorem Kept.classify {bank : Nat} {r : Route} {msg : List Byte} {f : Frame} {charge : Bool} (h : Kept K s₀ s) :
    Kept K s₀ (classify s bank r msg f charge) := by
  unfold Machine.classify
  split
  · exact h.bump.defaultAction
  next i _ =>
    have hs : Kept K s₀ (if charge then Machine.police s (ruleResult s bank i).policer f.len else (true, s)).2 := by
      split
      · exact h.police
      · exact h
    dsimp only
    split
    next he => exact .snd hs he
    next he =>
      have h := Kept.snd hs he
      exact .ite (h.unless (·.tg)) (.ite h.bump h.toFirmware)
theorem Kept.recoveryMsg {r : Route} {msg : List Byte} {f : Frame} (h : Kept K s₀ s) : Kept K s₀ (recoveryMsg s r msg f) :=
  .ite h.tg h.defaultAction
theorem Kept.applyVerdict {p : Nat} {f : Frame} {a : Verdict} (h : Kept K s₀ s) : Kept K s₀ (applyVerdict s p f a) := by
  unfold Machine.applyVerdict
  split
  · exact .ite h.recoveryMsg h.classify
  · exact h.ptpArrive
  · exact .ite h.defaultAction h.fragmentIn
  · exact h.bump.defaultAction
  · exact h.bump.defaultAction
  · exact h.bump.defaultAction
  · exact h.bump
@[simp] theorem Answers.execParseWalk {p : Port} {e : Engine} {bufferUe : Bool} {ecc : List MemUpset} (h : Kept False s₀ s) :
    Answers s₀ (execParseWalk p e bufferUe ecc s) := by
  unfold Machine.execParseWalk
  split
  · exact .next h
  · exact
      .ite (.next h) <|
      .ite (.next h.free.bump.leaveBuffer.raise.pfcSettle) <|
      .ite (.next h.leaveBuffer.bump.pfcSettle) (.next h.meetEcc.leaveBuffer.applyVerdict.pfcSettle)
@[simp] theorem Answers.execEngineFault {p : Port} {e : Engine} (h : Kept False s₀ s) : Answers s₀ (execEngineFault p e s) :=
  .ite (.next h) (.next h.setF.bump.raise)
@[simp] theorem Answers.execFragmentTimeout {n : FragSlot} (h : Kept False s₀ s) : Answers s₀ (execFragmentTimeout n s) := by
  unfold Machine.execFragmentTimeout
  split
  · exact .next h
  · exact .ite (.next h.bump.discardFrags.freeFrag.pfcSettle) (.next h)
@[simp] theorem Answers.execReassemblyPass {n : FragSlot} {e : Engine} {ecc : List MemUpset} (h : Kept False s₀ s) :
    Answers s₀ (execReassemblyPass n e ecc s) := by
  unfold Machine.execReassemblyPass
  split
  · exact .next h
  · exact
      .ite (.next h) <|
      (by split; exacts [.next (.pfcSettle (.retire (by split; exacts [h.meetEcc.setFrag.classify, h.meetEcc.setFrag.applyVerdict]))), .next h])
theorem Kept.commit (h : Kept K s₀ s) : Kept K s₀ (commit s) := .ite h.event h.setF.setF.setFlag.tg.retire
theorem Kept.ruleOp {op : Nat} (h : Kept K s₀ s) : Kept K s₀ (ruleOp s op) := by
  unfold Machine.ruleOp
  refine .ite (h.foldl (·.wr)) (.ite h ?_)
  split
  · exact h.event
  next hfree =>
    have hne : getF s TG_RULE_OP_BANK ≠ activeBank s := by
      intro he
      simp [bankFree, he] at hfree
    exact .ite (h.foldl (·.setRuleWord)) (h.rules fun hw => cellWf_copiedRules hw hne (getF_lt s TG_GEN_CTRL_ACTIVE_BANK) (getF_lt s TG_RULE_OP_BANK))

/-! ### Lanes -/

theorem Kept.setLane {l : Nat} {x : Lane} (h : Kept K s₀ s) : Kept K s₀ (setLane s l x) := h.update ⟨rfl, fun _ => rfl⟩ (good_setLane _ _)
theorem Kept.creditMoved {l : Nat} (h : Kept K s₀ s) : Kept K s₀ (creditMoved s l) := .ite h (.ite h h.armIn)
theorem Kept.setShaper {p : Nat} {x : Shaper} (h : Kept K s₀ s) : Kept K s₀ (setShaper s p x) := h.update ⟨rfl, fun _ => rfl⟩ (good_setShaper _ _)
theorem Kept.queueReply {p l typ seq echo time : Nat} {body : List Byte} {r : Route} {counts : Bool} (h : Kept K s₀ s) :
    Kept K s₀ (queueReply s p l typ seq echo time body r counts) :=
  h.setShaper.setLane.disarm
theorem Kept.retainAgain {l : Nat} {r : Retained} (h : Kept K s₀ s) : Kept K s₀ (retainAgain s l r) := h.setLane
theorem Kept.retainNew {l : Nat} {r : Retained} (h : Kept K s₀ s) : Kept K s₀ (retainNew s l r) := h.setLane
theorem Kept.queueUnsolicited {l typ time : Nat} {body : List Byte} (h : Kept K s₀ s) : Kept K s₀ (queueUnsolicited s l typ time body) := by
  unfold Machine.queueUnsolicited
  split
  · exact h
  · exact h.setLane.queueReply
theorem Kept.queueReport {q : Request} {typ time : Nat} {body : List Byte} (h : Kept K s₀ s) : Kept K s₀ (queueReport s q typ time body) := by
  unfold Machine.queueReport
  split
  · exact h
  · exact h.queueReply
theorem Kept.dropRequest {id : Nat} (h : Kept K s₀ s) : Kept K s₀ (dropRequest s id) := h
theorem Kept.cancelRequest {q : Request} {code index detail : Nat} (h : Kept K s₀ s) : Kept K s₀ (cancelRequest s q code index detail) :=
  h.dropRequest.bump.bump.life.retainAgain.queueReport.creditMoved
theorem Kept.discardRequests {p : Request → Bool} (h : Kept K s₀ s) : Kept K s₀ (discardRequests s p) := by
  unfold Machine.discardRequests
  extract_lets gone _ _ s1
  have h1 : Kept K s₀ s1 := h
  exact h1.foldl (·.bump.creditMoved)
theorem Kept.deliverRequest {q : Request} (h : Kept K s₀ s) : Kept K s₀ (deliverRequest s q) :=
  .creditMoved (.ite h.dropRequest.bump.bump.lifeRemainder.retainAgain.queueReport h.dropRequest.bump.bump.lifeRemainder.retainAgain)
@[simp] theorem Answers.execDelivery (h : Kept False s₀ s) : Answers s₀ (execDelivery s) := by
  unfold Machine.execDelivery
  split
  · exact .next h.deliverRequest
  · exact .next h
theorem Kept.shaperWritten {p : Nat} (h : Kept K s₀ s) : Kept K s₀ (shaperWritten s p) := h.setShaper
theorem Kept.startMsg {p : Nat} {m : OutMsg} (h : Kept K s₀ s) : Kept K s₀ (startMsg s p m) :=
  .ite h.sendFrame.bump (h.sendFrame.bump.bumpBy.setShaper.when (·.bump))
@[simp] theorem Answers.execEgressSend {n : Partner} (h : Kept False s₀ s) : Answers s₀ (execEgressSend n s) :=
  .ite (.next h) (by dsimp only; split; exacts [.next h.setShaper.startMsg, (by split; exacts [.next h.setShaper.startMsg, .next h])])
@[simp] theorem Answers.execCreditTimer {l : LaneIx} (h : Kept False s₀ s) : Answers s₀ (execCreditTimer l s) :=
  .ite (.next h.disarm.queueUnsolicited) (.next h)

/-! ### Ready -/

theorem Kept.showState (h : Kept K s₀ s) : Kept K s₀ (showState s) := h.setFlag.setF
theorem Kept.setReady {t : Nat} (h : Kept K s₀ s) : Kept K s₀ (setReady s t) := h.setF.setF
theorem Kept.refreshReady (h : Kept K s₀ s) : Kept K s₀ (refreshReady s) :=
  .ite (.ite h.showState h.setFlag.setReady.showState) h.setFlag.setReady.showState
theorem Kept.railWait (h : Kept K s₀ s) : Kept K s₀ (railWait s) := h.event.refreshReady
theorem Kept.stepReady (h : Kept K s₀ s) : Kept K s₀ (stepReady s) := .ite h.setFlag.setReady.showState h.refreshReady
theorem Kept.enterState {st : Nat} (h : Kept K s₀ s) : Kept K s₀ (enterState s st) := h.setF.refreshReady

/-! ### Admission -/

theorem Kept.countRefusal {code : Nat} (h : Kept K s₀ s) : Kept K s₀ (countRefusal s code) :=
  .ite h.bump.event (.ite h.bump.event (h.bump.when (·.event)))
theorem Kept.markStarved (h : Kept K s₀ s) : Kept K s₀ (markStarved s) := by
  unfold Machine.markStarved
  split
  · exact h.ad
  · exact h
theorem Kept.refuse {m : Msg} {code time detail : Nat} {retained : Bool} (h : Kept K s₀ s) : Kept K s₀ (refuse s m code time detail retained) :=
  (h.countRefusal.when (·.setLane.retainNew)).queueReply
theorem Kept.refuseNotOwned {m : Msg} (h : Kept K s₀ s) : Kept K s₀ (refuseNotOwned s m) := h.countRefusal.setShaper
theorem Kept.refuseAdmitFault {m : Msg} {owned : Bool} (h : Kept K s₀ s) : Kept K s₀ (refuseAdmitFault s m owned) :=
  .ite h.raise.refuse h.raise.countRefusal.setShaper
theorem Kept.consume {m : Msg} (h : Kept K s₀ s) : Kept K s₀ (consume s m) := h.setLane
theorem Kept.resend {m : Msg} {r : Retained} (h : Kept K s₀ s) : Kept K s₀ (resend s m r) := h.queueReply
theorem Kept.takeMsg (h : Kept K s₀ s) : Kept K s₀ (takeMsg s) := h.tg
theorem Kept.reportMismatch {m : Msg} {mm : Upsets} (h : Kept K s₀ s) : Kept K s₀ (reportMismatch s m mm) := .ite h h.bump.raise
theorem Kept.process {m : Msg} {mm : Upsets} {run : State → State} (hrun : ∀ {u}, Kept K s₀ u → Kept K s₀ (run u)) (h : Kept K s₀ s) :
    Kept K s₀ (process s m mm run) := by
  unfold Machine.process
  refine .ite h.takeMsg.defaultAction ?_
  have h2 := (h.takeMsg.meetEcc (us := mm.ecc)).reportMismatch (m := m) (mm := mm)
  refine .andThen (.ite h2.setLane h2) fun h => .ite h.refuseAdmitFault (.ite h.refuseNotOwned (.ite h.event.bump ?_))
  dsimp only
  split
  · exact h.refuse
  · exact h.refuse
  · exact h.refuse
  · exact h.resend
  · exact .ite h.consume.refuse (hrun h.consume)
  · exact .ite h.refuse (hrun h)
theorem Kept.accept {m : Msg} {a : Ask} {r : ReqWin} {d : Nat} (h : Kept K s₀ s) : Kept K s₀ (accept s m a r d) :=
  (h.ad.setLane.bump.lifeRemainder.ty.when (·.histogram)).retainNew.queueReply
theorem Kept.requestStep {m : Msg} (h : Kept K s₀ s) : Kept K s₀ (requestStep m s) := by
  unfold Machine.requestStep
  dsimp only
  split
  · exact h.refuse
  · split
    · exact h.refuse
    · split
      · exact h.ad.accept
      · exact .refuse (.ad (.ite h.markStarved h))
theorem Kept.admitRequest {typ : Nat} {mm : Upsets} (h : Kept K s₀ s) : Kept K s₀ (admitRequest typ mm s) := by
  unfold Machine.admitRequest
  split
  · exact h
  · exact h.process (·.requestStep)
@[simp] theorem Answers.execFull {mm : Upsets} (h : Kept False s₀ s) : Answers s₀ (execFull mm s) := .next h.admitRequest
@[simp] theorem Answers.execDelta {mm : Upsets} (h : Kept False s₀ s) : Answers s₀ (execDelta mm s) := .next h.admitRequest
@[simp] theorem Answers.execGroup {mm : Upsets} (h : Kept False s₀ s) : Answers s₀ (execGroup mm s) := .next h.admitRequest
theorem Kept.answer {m : Msg} {typ time : Nat} {body : List Byte} (h : Kept K s₀ s) : Kept K s₀ (answer s m typ time body) :=
  .queueReply (.ite h h.retainNew)
theorem Kept.refuseStep6 {m : Msg} {c d : Nat} (h : Kept K s₀ s) : Kept K s₀ (refuseStep6 s m c d) := h.refuse
theorem Kept.laneStatus {m : Msg} (h : Kept K s₀ s) : Kept K s₀ (laneStatus m s) := h.answer
theorem Kept.requestStatusReply {m : Msg} (h : Kept K s₀ s) : Kept K s₀ (requestStatusReply m s) := h.answer
theorem Kept.deviceState {m : Msg} (h : Kept K s₀ s) : Kept K s₀ (deviceState m s) := h.answer
theorem Kept.networkTime {m : Msg} (h : Kept K s₀ s) : Kept K s₀ (networkTime m s) := h.answer
theorem Kept.queryStep {m : Msg} {reply : State → State} (hreply : ∀ {u}, Kept K s₀ u → Kept K s₀ (reply u)) (h : Kept K s₀ s) :
    Kept K s₀ (queryStep m reply s) := by
  unfold Machine.queryStep
  split
  · exact h.refuseStep6
  · exact .ite (hreply h) h.refuseStep6
theorem Kept.answerQuery {kind : Nat} {reply : Msg → State → State} {mm : Upsets} (hreply : ∀ {m u}, Kept K s₀ u → Kept K s₀ (reply m u))
    (h : Kept K s₀ s) : Kept K s₀ (answerQuery kind reply mm s) := by
  unfold Machine.answerQuery
  split
  · exact h
  · exact h.process (·.queryStep hreply)
@[simp] theorem Answers.execQueryLaneStatus {mm : Upsets} (h : Kept False s₀ s) : Answers s₀ (execQueryLaneStatus mm s) := by
  unfold Machine.execQueryLaneStatus
  split
  · exact .next h
  · exact .next (h.process (·.queryStep (·.laneStatus)))
@[simp] theorem Answers.execQueryRequestStatus {mm : Upsets} (h : Kept False s₀ s) : Answers s₀ (execQueryRequestStatus mm s) :=
  .next (h.answerQuery (·.requestStatusReply))
@[simp] theorem Answers.execQueryDeviceState {mm : Upsets} (h : Kept False s₀ s) : Answers s₀ (execQueryDeviceState mm s) :=
  .next (h.answerQuery (·.deviceState))
@[simp] theorem Answers.execQueryNetworkTime {mm : Upsets} (h : Kept False s₀ s) : Answers s₀ (execQueryNetworkTime mm s) :=
  .next (h.answerQuery (·.networkTime))
theorem Kept.setSub {p k : Nat} {x : Option Sub} (h : Kept K s₀ s) : Kept K s₀ (setSub s p k x) := h.update ⟨rfl, fun _ => rfl⟩ (good_setSub _ _ _)
theorem Kept.subscribeStep {m : Msg} (h : Kept K s₀ s) : Kept K s₀ (subscribeStep m s) := by
  unfold Machine.subscribeStep
  split
  · exact h.refuseStep6
  · have hk : Kept K s₀ (if beAt (msgBody m) 0 1 < 4 then (beAt (msgBody m) 0 1, s) else Machine.fresh s 4).2 := by
      split
      · exact h
      · exact h.fresh
    exact .ite hk.answer (.answer (.ite hk.setSub.disarm hk.setSub.armIn))
@[simp] theorem Answers.execSubscribe {mm : Upsets} (h : Kept False s₀ s) : Answers s₀ (execSubscribe mm s) := by
  unfold Machine.execSubscribe
  split
  · exact .next h
  · exact .next (h.process (·.subscribeStep))
theorem Kept.updateRequest {id : Nat} {f : Request → Request} (h : Kept K s₀ s) : Kept K s₀ (updateRequest s id f) := h.ad
@[simp] theorem Answers.execDispatch {ecc : List MemUpset} (h : Kept False s₀ s) : Answers s₀ (execDispatch ecc s) := by
  unfold Machine.execDispatch
  split
  · exact .next h
  · exact .ite (.next h) (by dsimp only; split; exacts [.next h.meetEcc.ad, .next h.meetEcc.ad.updateRequest.setF.ks.setFlag])
@[simp] theorem Answers.execSlotClassify (h : Kept False s₀ s) : Answers s₀ (execSlotClassify s) :=
  .ite (.next h) (by split; exacts [.next h, .ite (.next h) (.next h.bumpBy.ad)])
theorem Kept.laneLoad (h : Kept K s₀ s) : Kept K s₀ (laneLoad s) := h.wr.wr.wr.setF.setF.setF.setF.setF
theorem Kept.applyLaneCfg {l : Nat} {c : LaneCfg} (h : Kept K s₀ s) : Kept K s₀ (applyLaneCfg s l c) := h.setLane.creditMoved
theorem Kept.laneWrite (h : Kept K s₀ s) : Kept K s₀ (laneWrite s) := .ite h.applyLaneCfg h.setLane
@[simp] theorem Answers.execLaneConfigApply {l : LaneIx} (h : Kept False s₀ s) : Answers s₀ (execLaneConfigApply l s) := by
  unfold Machine.execLaneConfigApply
  split
  · exact .ite (.next h.applyLaneCfg) (.next h)
  · exact .next h

/-! ### Capture -/

theorem Kept.enterArmed (h : Kept K s₀ s) : Kept K s₀ (enterArmed s) := by
  unfold Machine.enterArmed
  dsimp only
  split
  · exact h.tc.setF.tc.setF.setF
  · exact h.tc.setF
theorem Kept.enterPrefill {n : Nat} (h : Kept K s₀ s) : Kept K s₀ (enterPrefill s n) := h.tc.setF.setF.when (·.enterArmed)
theorem Kept.endSegment (h : Kept K s₀ s) : Kept K s₀ (endSegment s) := .ite h.enterPrefill h.setF.event.bump
theorem Kept.setCont {k : Nat} {b : Bool} (h : Kept K s₀ s) : Kept K s₀ (setCont s k b) := h.tc
theorem Kept.captureArm (h : Kept K s₀ s) : Kept K s₀ (captureArm s) := by
  unfold Machine.captureArm
  extract_lets _ s1
  have h1 : Kept K s₀ s1 := h.update ⟨rfl, fun _ => rfl⟩ fun ⟨⟨hr, hm, hf⟩, ht⟩ => ⟨⟨cellWf_filter hr, cellWf_filter hm, hf⟩, ht⟩
  exact h1.setF.setF.enterPrefill
theorem Kept.captureStop (h : Kept K s₀ s) : Kept K s₀ (captureStop s) := .ite h.endSegment h
theorem Kept.driveLines {src : Nat} (h : Kept K s₀ s) : Kept K s₀ (driveLines s src) := .when (.ite h.armIn h) (·.armIn)
theorem Kept.markRing {t : Nat} (h : Kept K s₀ s) : Kept K s₀ (markRing s t) := by
  unfold Machine.markRing
  dsimp only
  split
  · exact h
  · exact h.wrMem.tc.setF
theorem Kept.offerTrigger {src comp : Nat} (h : Kept K s₀ s) : Kept K s₀ (offerTrigger s src comp) :=
  .ite h (.ite h.tc.tc.setF.setF.setF.markRing.event.bump.driveLines h.tc.event.bump)
theorem Kept.captureForce (h : Kept K s₀ s) : Kept K s₀ (captureForce s) := h.offerTrigger
theorem Kept.captureWindow {entry cls : Nat} (h : Kept K s₀ s) : Kept K s₀ (captureWindow s entry cls) := .ite h.offerTrigger h
theorem Kept.captureFault (h : Kept K s₀ s) : Kept K s₀ (captureFault s) := h.offerTrigger
theorem Kept.settleBin {b : Nat} (h : Kept K s₀ s) : Kept K s₀ (settleBin s b) := h.wrMem
theorem Kept.setAwaited {k : Nat} {x : Option (Nat × List (Nat × Nat))} (h : Kept K s₀ s) : Kept K s₀ (setAwaited s k x) := h.tc
theorem Kept.awaitSettle {k : Nat} (h : Kept K s₀ s) : Kept K s₀ (awaitSettle s k) := .ite (.setAwaited (.ite h.settleBin h)) h
theorem Kept.captureRelease {g : Nat} (h : Kept K s₀ s) : Kept K s₀ (captureRelease s g) :=
  .ite h (.ite (h.foldl (·.awaitSettle)) (h.foldl (fun h => h.tc.awaitSettle.when (·.offerTrigger))))
theorem Kept.settleRecord {k : Nat} {w0 : Word} {w1 : Word} (h : Kept K s₀ s) : Kept K s₀ (settleRecord s k w0 w1) := by
  unfold Machine.settleRecord
  split
  · exact h
  · split
    extract_lets all last4 bin
    clear_value last4
    split
    · extract_lets near
      split_ifs
      exacts [h.settleBin.setAwaited, h.settleBin.setAwaited, h.setAwaited]
    · exact h.setAwaited
theorem Kept.mapRecord {k : Nat} {w0 w1 : Word} {rrat : Nat} (h : Kept K s₀ s) : Kept K s₀ (mapRecord s k w0 w1 rrat) := by
  unfold Machine.mapRecord
  split
  · exact h
  · exact .ite h h.wrMem
theorem Kept.raiseD (h : Kept K s₀ s) : Kept K s₀ (raiseD s) := .ite h.tc.setF.event h
theorem Kept.enqueueEntry {k : Nat} {w0 w1 : Word} (h : Kept K s₀ s) : Kept K s₀ (enqueueEntry s k w0 w1) := .ite h.event.bump h.tc.raiseD
theorem Kept.levelTrigger {k : Nat} {w0 : Word} (h : Kept K s₀ s) : Kept K s₀ (levelTrigger s k w0) := h.tc.when (·.offerTrigger)
theorem Kept.streamRecord {k : Nat} {w0 w1 : Word} {rrat : Nat} (h : Kept K s₀ s) : Kept K s₀ (streamRecord s k w0 w1 rrat) :=
  .ite (.enqueueEntry (.tc (.ite h.levelTrigger.settleRecord (h.levelTrigger.when (·.mapRecord))))) <|
  .bump (.tc (.ite h.levelTrigger.settleRecord (h.levelTrigger.when (·.mapRecord))))
theorem Kept.sampleStreams {g : Nat} {w0 w1 : Word} {isLoop : Bool} {rrat : Nat} (h : Kept K s₀ s) : Kept K s₀ (sampleStreams s g w0 w1 isLoop rrat) :=
  .ite h (h.foldl (fun h => .ite (.ite (.ite h.settleRecord h) h.streamRecord) h))
theorem Kept.captureSample {g : Nat} {w0 w1 : Word} {isLoop : Bool} {rrat : Nat} (h : Kept K s₀ s) : Kept K s₀ (captureSample s g w0 w1 isLoop rrat) :=
  .ite (h.sampleStreams.foldl (·.setCont)) h.sampleStreams
theorem Kept.putEntry {i : Nat} {e : Nat × Nat × Nat × Nat × Nat} {trig : Bool} (h : Kept K s₀ s) : Kept K s₀ (putEntry s i e trig) :=
  h.wrMem.wrMem.wrMem.wrMem
theorem Kept.showFill {n : Nat} (h : Kept K s₀ s) : Kept K s₀ (showFill s n) := h.tc.setF
theorem Kept.ringEntry {e : Nat × Nat × Nat × Nat × Nat} (h : Kept K s₀ s) : Kept K s₀ (ringEntry s e) := .ite h h.putEntry.tc.bump
theorem Kept.postEntry {e : Nat × Nat × Nat × Nat × Nat} (h : Kept K s₀ s) : Kept K s₀ (postEntry s e) :=
  (h.putEntry.unless (·.tc.setF)).bump.showFill.when (·.endSegment)
@[simp] theorem Answers.execCaptureStore (h : Kept False s₀ s) : Answers s₀ (execCaptureStore s) := by
  unfold Machine.execCaptureStore
  split
  · exact .next h
  · split
    · exact .next (h.tc.raiseD.putEntry.bump.showFill.when (·.enterArmed))
    · exact .next h.tc.raiseD.ringEntry
    · exact .ite (.next h.tc.raiseD.ringEntry) (.next h.tc.raiseD.postEntry)
    · exact .next h.tc.raiseD
@[simp] theorem Answers.execTrigBusEdge {line : Fin 2} (h : Kept False s₀ s) : Answers s₀ (execTrigBusEdge line s) := .next h.setF.offerTrigger
@[simp] theorem Answers.execCsyncLost (h : Kept False s₀ s) : Answers s₀ (execCsyncLost s) := .next (.ite h.setF h)
@[simp] theorem Answers.execTrigDriveEnd {line : Fin 2} (h : Kept False s₀ s) : Answers s₀ (execTrigDriveEnd line s) := .ite (.next h.disarm) (.next h)

/-! ### NetTime -/

theorem Kept.takePtp (h : Kept K s₀ s) : Kept K s₀ (takePtp s) := h.tg
theorem Kept.reselect (h : Kept K s₀ s) : Kept K s₀ (reselect s) := by
  unfold Machine.reselect
  split
  · exact h.setFlag.setF.setF.disarm
  · exact (h.setFlag.setF.setF.setF.unless (·.armIn)).when (·.event)
@[simp] theorem Answers.execAnnounce (h : Kept False s₀ s) : Answers s₀ (execAnnounce s) := by
  unfold Machine.execAnnounce
  split
  · exact .next h
  · exact .ite (.next h.takePtp.bump) (.next h.takePtp.bump.nt.armIn.reselect)
@[simp] theorem Answers.execAnnounceReceiptTimeout (h : Kept False s₀ s) : Answers s₀ (execAnnounceReceiptTimeout s) := by
  unfold Machine.execAnnounceReceiptTimeout
  split
  · exact .next h
  · exact .next h.nt.disarm.reselect
theorem Kept.feed {o : Int} (h : Kept K s₀ s) : Kept K s₀ (feed s o) := by
  unfold Machine.feed
  extract_lets tau
  split
  next h1 =>
  split
  next h2 =>
  split
  next h3 => exact .setF (.nt (.snd (.divFree (.snd (.divFree (.snd h.divFree h1)) h2)) h3))
theorem Kept.setClock {o : Int} (h : Kept K s₀ s) : Kept K s₀ (setClock s o) := (h.setF.setF.update ⟨rfl, fun _ => rfl⟩ id)
theorem Kept.enterLocked (h : Kept K s₀ s) : Kept K s₀ (enterLocked s) := h.setF.event.nt.refreshReady
theorem Kept.showRefused (h : Kept K s₀ s) : Kept K s₀ (showRefused s) := h.setF
theorem Kept.forgetRefused (h : Kept K s₀ s) : Kept K s₀ (forgetRefused s) := h.nt.showRefused
theorem Kept.dropPermit (h : Kept K s₀ s) : Kept K s₀ (dropPermit s) := h.setFlag
theorem Kept.stepBound (h : Kept K s₀ s) : Kept K s₀ (stepBound s).2 := by
  unfold Machine.stepBound
  split
  extract_lets t
  split
  · exact h.free
  · exact h
theorem Kept.decideStep {x : Refused} (h : Kept K s₀ s) : Kept K s₀ (decideStep s x) :=
  .setFlag (.nt (.setF (.setF (.setF (.setF h.dropPermit.stepBound)))))
theorem Kept.considerStep (h : Kept K s₀ s) : Kept K s₀ (considerStep s) := by
  unfold Machine.considerStep
  split
  · exact h
  · exact .ite h (.ite h.dropPermit.event h.decideStep)
theorem Kept.refuseMeasure {o : Int} (h : Kept K s₀ s) : Kept K s₀ (refuseMeasure s o) := by
  unfold Machine.refuseMeasure
  dsimp only
  split
  · exact h.bump.event.nt.showRefused
  · exact .considerStep (.unless (.nt h.bump.event.nt.showRefused.divFree) (·.setF.event))
theorem Kept.acceptMeasure {o : Int} (h : Kept K s₀ s) : Kept K s₀ (acceptMeasure s o) :=
  .ite h.nt.forgetRefused (.ite h.feed.forgetRefused.nt.enterLocked (h.feed.forgetRefused.when (·.enterLocked)))
theorem Kept.measure {o : Int} (h : Kept K s₀ s) : Kept K s₀ (measure s o) := by
  unfold Machine.measure
  split
  next he =>
  extract_lets s2 thr
  have h2 : Kept K s₀ s2 := .setF (.snd h.divFree he)
  split
  · exact h2.setClock.setF
  · exact .ite h2.setClock (h2.feed.nt.when (·.enterLocked))
  · exact .ite h2.acceptMeasure h2.refuseMeasure
theorem Kept.pathDelay (h : Kept K s₀ s) : Kept K s₀ (pathDelay s).2 := by
  unfold Machine.pathDelay
  dsimp only
  split
  · exact h
  · exact h.divFree
theorem Kept.syncDone {p : Nat} {delta : Int} (h : Kept K s₀ s) : Kept K s₀ (syncDone s p delta) := .measure h.nt.pathDelay
@[simp] theorem Answers.execSync {frac : Fin 256} (h : Kept False s₀ s) : Answers s₀ (execSync frac s) := by
  unfold Machine.execSync
  split
  · exact .next h
  · exact .ite (.next h.takePtp.bump) (.ite (.next h.takePtp.bump.nt.armIn) (.next h.takePtp.bump.syncDone))
@[simp] theorem Answers.execFollowUp (h : Kept False s₀ s) : Answers s₀ (execFollowUp s) := by
  unfold Machine.execFollowUp
  split
  · exact .next h
  · dsimp only
    split
    · exact .next h.takePtp
    · exact .ite (.next h.takePtp) (.next h.takePtp.nt.disarm.syncDone)
@[simp] theorem Answers.execFollowUpTimeout (h : Kept False s₀ s) : Answers s₀ (execFollowUpTimeout s) := by
  unfold Machine.execFollowUpTimeout
  split
  · exact .next h
  · exact .next h.nt.disarm.bump
@[simp] theorem Answers.execDelayReqTimer {frac : Fin 256} (h : Kept False s₀ s) : Answers s₀ (execDelayReqTimer frac s) :=
  .ite (.next h) (by split; exacts [.next h.disarm, .ite (.next h.armIn) (.next (.ite h.armIn.holdPtp h.armIn.sendDelayReq))])
@[simp] theorem Answers.execDelayResp (h : Kept False s₀ s) : Answers s₀ (execDelayResp s) := by
  unfold Machine.execDelayResp
  split
  · exact .next h
  · exact .ite (.next h.takePtp) (by split; exacts [.next (.setF h.takePtp.nt.divFree), .next h.takePtp])
@[simp] theorem Answers.execGmLossTimeout (h : Kept False s₀ s) : Answers s₀ (execGmLossTimeout s) := .ite (.next h.setF.event) (.next h)
@[simp] theorem Answers.execPermitExpiry (h : Kept False s₀ s) : Answers s₀ (execPermitExpiry s) := .ite (.next h.dropPermit) (.next h)
theorem Kept.swapBanks {b n : Nat} (h : Kept K s₀ s) : Kept K s₀ (swapBanks s b n) := h.setF.setFlag.bump.nt
@[simp] theorem Answers.execTimeStepExecute (h : Kept False s₀ s) : Answers s₀ (execTimeStepExecute s) := by
  unfold Machine.execTimeStepExecute
  split
  · exact .next h
  · refine .ite (.next h) ?_
    extract_lets s0 landed n move s1 _ _ s2 s3 s4
    have h0 : Kept False s₀ s0 := by
      unfold s0
      split
      · exact .ite h.swapBanks h
      · exact h
    have h1 : Kept False s₀ s1 := h0.setF.setFlag.event
    have h2 : Kept False s₀ s2 := h1.update ⟨rfl, fun _ => rfl⟩ id
    have h4 : Kept False s₀ s4 := h2.forgetRefused.when (·.enterLocked)
    exact .next (h4.when (·.setReady))
theorem Kept.storePermit {gm maxStep sec nano : Nat} (h : Kept K s₀ s) : Kept K s₀ (storePermit s gm maxStep sec nano) :=
  h.setF.setF.setF.setF.setF.setF.setFlag
theorem Kept.result {m : Msg} {status value time : Nat} (h : Kept K s₀ s) : Kept K s₀ (result s m status value time) := h.answer
theorem Kept.timeStepStep {m : Msg} (h : Kept K s₀ s) : Kept K s₀ (timeStepStep m s) := by
  unfold Machine.timeStepStep
  split
  · exact h.refuseStep6
  · exact
      .ite h.refuseStep6 <|
      .ite h.result <|
      (by split; exacts [.ite h.result h.result, (by split; exacts [.ite h.result (.ite h.result h.decideStep.result), .ite h.result h.storePermit.result])])
@[simp] theorem Answers.execTimeStep {mm : Upsets} (h : Kept False s₀ s) : Answers s₀ (execTimeStep mm s) := by
  unfold Machine.execTimeStep
  split
  · exact .next h
  · exact .next (h.process (·.timeStepStep))

/-! ### Keystone -/

theorem Kept.showKeystone (h : Kept K s₀ s) : Kept K s₀ (showKeystone s) :=
  (h.foldl (fun h => (by split <;> exact h.setF.setF.setF.setF))).setFlag.setF.setFlag
theorem Kept.showFailed (h : Kept K s₀ s) : Kept K s₀ (showFailed s) := .setFlag (.setFlag (.setF (.ite h.event h)))
theorem Kept.markFailed {g : Nat} (h : Kept K s₀ s) : Kept K s₀ (markFailed s g) := .ite h (h.wr.event.when (·.event)).showFailed
theorem Kept.clearFailed {g : Nat} (h : Kept K s₀ s) : Kept K s₀ (clearFailed s g) := .ite h.wr.showFailed h
theorem Kept.clearKeystone (h : Kept K s₀ s) : Kept K s₀ (clearKeystone s) := h.ks.showKeystone

/-! ### Pier -/

theorem Kept.setPier {g : Nat} {p : Pier} (h : Kept K s₀ s) : Kept K s₀ (setPier s g p) := h.update ⟨rfl, fun _ => rfl⟩ (good_setPier _ _)
theorem Kept.setPath {g d : Nat} {p : Path} (h : Kept K s₀ s) : Kept K s₀ (setPath s g d p) := h.update ⟨rfl, fun _ => rfl⟩ (good_setPath _ _ _)
theorem Kept.setMon {g : Nat} {m : Mon} (h : Kept K s₀ s) : Kept K s₀ (setMon s g m) := h.update ⟨rfl, fun _ => rfl⟩ (good_setMon _ _)
theorem Kept.setLiveF {n l d v : Nat} (h : Kept K s₀ s) : Kept K s₀ (setLiveF s n l d v) := h.setF.unless (·.dr)
theorem Kept.deglitch {n l : Nat} (h : Kept K s₀ s) : Kept K s₀ (deglitch s n l) := h.setPier
theorem Kept.unfreeze {n l : Nat} (h : Kept K s₀ s) : Kept K s₀ (unfreeze s n l) := by
  unfold Machine.unfreeze
  dsimp only
  split
  · exact h
  · exact h.setLiveF.setF.setPier
theorem Kept.dropHold {n l : Nat} (h : Kept K s₀ s) : Kept K s₀ (dropHold s n l) := h.setPier
theorem Kept.putWord {a : Nat} {w : Word} (h : Kept K s₀ s) : Kept K s₀ (putWord s a w) := h.wrMem
theorem Kept.putM {a : Nat} {f : MFld} {v : Nat} (h : Kept K s₀ s) : Kept K s₀ (putM s a f v) := h.putWord
theorem Kept.putMI {a : Nat} {f : MFld} {v : Int} (h : Kept K s₀ s) : Kept K s₀ (putMI s a f v) := h.putM
theorem Kept.fitInt {w : Nat} {v : Int} (h : Kept K s₀ s) : Kept K s₀ (fitInt s w v).2 := by
  unfold Machine.fitInt
  split
  · exact h
  · exact h.free
theorem Kept.phase18 {v : Int} (h : Kept K s₀ s) : Kept K s₀ (phase18 s v).2 := h.fitInt
theorem Kept.rangeFlag {n : Nat} {low : Bool} (h : Kept K s₀ s) : Kept K s₀ (rangeFlag s n low) := h.event.bump
theorem Kept.interp {n : Nat} {t : Nat → Nat} {start : Int} {step top : Nat} {phi : Int} (h : Kept K s₀ s) :
    Kept K s₀ (interp s n t start step top phi).2 := by
  unfold Machine.interp
  dsimp only
  split
  · exact h.rangeFlag
  · split
    · exact h.free
    · split
      · exact h.rangeFlag
      · exact h
theorem Kept.fastCode {n l : Nat} {delta v : Int} (h : Kept K s₀ s) : Kept K s₀ (fastCode s n l delta v).2 := .interp h.phase18
theorem Kept.trimCode {n l : Nat} {arg : Int} {vh : Nat} (h : Kept K s₀ s) : Kept K s₀ (trimCode s n l arg vh).2 := by
  unfold Machine.trimCode
  dsimp only
  split
  all_goals split_ifs
  all_goals simp only [h.phase18.interp, h.phase18.interp.fresh]
theorem Kept.discardStaged {n l : Nat} (h : Kept K s₀ s) : Kept K s₀ (discardStaged s n l) := h.setF.setF
theorem Kept.clampPier {n l : Nat} (h : Kept K s₀ s) : Kept K s₀ (clampPier s n l) := h.wr.discardStaged.setPier
theorem Kept.closeClamp {n : Nat} (h : Kept K s₀ s) : Kept K s₀ (closeClamp s n) := (h.foldl (·.clampPier)).setF.setF.setF.disarm
theorem Kept.closeClamps (h : Kept K s₀ s) : Kept K s₀ (closeClamps s) := h.foldl (·.closeClamp)
theorem Kept.parkPier {n l : Nat} (h : Kept K s₀ s) : Kept K s₀ (parkPier s n l) := h.discardStaged.unless (·.unfreeze.setF.setPier)
theorem Kept.parkSpan {n : Nat} (h : Kept K s₀ s) : Kept K s₀ (parkSpan s n) := .ite h ((h.foldl (·.parkPier)).dr.when (·.setF.setF.armIn))
theorem Kept.parkAll (h : Kept K s₀ s) : Kept K s₀ (parkAll s) := h.foldl (·.parkSpan)
theorem Kept.openAndRamp {n : Nat} (h : Kept K s₀ s) : Kept K s₀ (openAndRamp s n) := by
  unfold Machine.openAndRamp
  extract_lets one s1 _ s2
  have h1 : Kept K s₀ s1 := h.foldl (·.setLiveF.setLiveF.setF.setF.setF.setF.setPier)
  have h2 : Kept K s₀ s2 := h1.dr
  exact h2.setF.setF.armIn
theorem Kept.reachPark {n l : Nat} (h : Kept K s₀ s) : Kept K s₀ (reachPark s n l) := by
  unfold Machine.reachPark
  dsimp only
  split
  · exact h
  · exact (h.setF.setF.setF.when (·.setLiveF.setLiveF.setF)).setPier
theorem Kept.endRamp {n : Nat} (h : Kept K s₀ s) : Kept K s₀ (endRamp s n) := (h.foldl (·.reachPark)).setF.setFlag.disarm

/-! ### Decks -/

theorem Kept.showDecks (h : Kept K s₀ s) : Kept K s₀ (showDecks s) := h.setFlag.setFlag.setFlag
theorem Kept.setMism {n : Nat} {l : List Mismatch} (h : Kept K s₀ s) : Kept K s₀ (setMism s n l) := h.update ⟨rfl, fun _ => rfl⟩ (good_setMism _ _)
theorem Kept.abandonReplay {n : Nat} {drop : Bool} (h : Kept K s₀ s) : Kept K s₀ (abandonReplay s n drop) :=
  (h.foldl (fun h => .ite h.dropHold h.unfreeze)).dk.setMism.setFlag.disarm
theorem Kept.reown {n : Nat} (h : Kept K s₀ s) : Kept K s₀ (reown s n) := .ite h.setF.event.bump.life h
theorem Kept.bothFaulted {n : Nat} (h : Kept K s₀ s) : Kept K s₀ (bothFaulted s n) := .ite h.parkSpan.raise h
theorem Kept.setFailed {n d k : Nat} (h : Kept K s₀ s) : Kept K s₀ (setFailed s n d k) := h.dk
theorem Kept.failResync {n d : Nat} (h : Kept K s₀ s) : Kept K s₀ (failResync s n d) :=
  h.setF.setF.bump.bump.event.raise.disarm.disarm.showDecks.setFailed
theorem Kept.lowerSpan {n d cause v : Nat} (h : Kept K s₀ s) : Kept K s₀ (lowerSpan s n d cause v) :=
  .ite h.failResync (.when (.reown (.abandonReplay (.setF (.ite h.setF.setF.bump h)))) (·.bothFaulted))
theorem Kept.lowerOne {n d cause : Nat} (h : Kept K s₀ s) : Kept K s₀ (lowerOne s n d cause) :=
  (h.lowerSpan.unless (fun h => .ite h.raise h.raise)).showDecks
theorem Kept.passLead {d : Nat} (h : Kept K s₀ s) : Kept K s₀ (passLead s d) := .ite h.setF.event h
theorem Kept.lowerAll {d cause : Nat} (h : Kept K s₀ s) : Kept K s₀ (lowerAll s d cause) :=
  ((h.foldl (·.lowerSpan)).raise.when (·.setFlag.disarm.setF.jointDown.passLead)).showDecks
@[simp] theorem Answers.execClaimLower {d : Deck} {f : SelfFault} (h : Kept False s₀ s) : Answers s₀ (execClaimLower d f s) := by
  unfold Machine.execClaimLower
  split
  · exact .next h.masterReset.lowerAll
  · exact .next h.lowerOne
  · exact .ite (.next h.lowerOne) (.next h)
theorem Kept.residDiffers {n l wasA wasB : Nat} (h : Kept K s₀ s) : Kept K s₀ (residDiffers s n l wasA wasB) :=
  .ite h.lowerOne (.ite h.lowerOne h)
theorem Kept.kick {d : Nat} (h : Kept K s₀ s) : Kept K s₀ (kick s d) := h.armIn
@[simp] theorem Answers.execWatchdogExpiry {d : Deck} {burst : Option Burst} (h : Kept False s₀ s) : Answers s₀ (execWatchdogExpiry d burst s) :=
  .ite (.next h.masterReset.lowerAll) (.next h)
@[simp] theorem Answers.execSpanLoadedReport {d : Deck} {n : Span} (h : Kept False s₀ s) : Answers s₀ (execSpanLoadedReport d n s) :=
  .ite (.next h) (.next h.setF.setF)
theorem Kept.settleOwners (h : Kept K s₀ s) : Kept K s₀ (settleOwners s) :=
  (h.foldl (fun h => (h.foldl (fun h => .ite h h.setF)).setF.bothFaulted)).showDecks
theorem Kept.applyNom {old new : Nat} (h : Kept K s₀ s) : Kept K s₀ (applyNom s old new) :=
  (h.setF.foldl (fun h => h.foldl (fun h => .ite h.setF h))).showDecks
theorem Kept.logMismatch {n l : Nat} {trim : Bool} {a b : Nat} (h : Kept K s₀ s) : Kept K s₀ (logMismatch s n l trim a b) :=
  h.putWord.putWord.putWord.putWord.putWord.putWord.putWord.putWord.dk
theorem Kept.logOutcome {i outcome : Nat} (h : Kept K s₀ s) : Kept K s₀ (logOutcome s i outcome) := h.foldl (·.putWord)
theorem Kept.awaitReplay {n : Nat} (h : Kept K s₀ s) : Kept K s₀ (awaitReplay s n) := by
  unfold Machine.awaitReplay
  split
  · exact h.disarm
  · exact .ite h h.armAt
theorem Kept.startMismatch {n l : Nat} {trim : Bool} {a b : Nat} (h : Kept K s₀ s) : Kept K s₀ (startMismatch s n l trim a b) :=
  (h.event.bump.setMism.logMismatch.when (·.setPier)).awaitReplay
theorem Kept.endMismatch {n l : Nat} {trim : Bool} (h : Kept K s₀ s) : Kept K s₀ (endMismatch s n l trim) :=
  .ite h (h.setMism.unless (·.unfreeze)).awaitReplay
theorem Kept.compareCodes {n l : Nat} {trim : Bool} (h : Kept K s₀ s) : Kept K s₀ (compareCodes s n l trim) :=
  .ite (.ite h.endMismatch (.ite h h.startMismatch)) (.ite h.failResync (.ite h.failResync h))
@[simp] theorem Answers.execAbutmentMismatch {n : Span} {l : Local} {u : CodeUpset} (h : Kept False s₀ s) : Answers s₀ (execAbutmentMismatch n l u s) :=
  .next (.compareCodes (.ite h.setF.setPath h.setLiveF.setPath))
@[simp] theorem Answers.execReplayStart {n : Span} (h : Kept False s₀ s) : Answers s₀ (execReplayStart n s) :=
  .ite (.next h.setMism.dk.setFlag.setFlag.bump.disarm) (.next h)
theorem Kept.excludePath {g d : Nat} (h : Kept K s₀ s) : Kept K s₀ (excludePath s g d) :=
  .ite h (h.wr.event.bump.raise.when (·.raise.markFailed))
theorem Kept.returnPath {g d : Nat} (h : Kept K s₀ s) : Kept K s₀ (returnPath s g d) := .ite h.wr h
@[simp] theorem Answers.execAutofailTimeout {n : Span} {l : Local} (h : Kept False s₀ s) : Answers s₀ (execAutofailTimeout n l s) := by
  unfold Machine.execAutofailTimeout
  split
  · exact .ite (.next h.markFailed) (.next h)
  · exact .next h
theorem Kept.residMoved {n l : Nat} (h : Kept K s₀ s) : Kept K s₀ (residMoved s n l) := .ite h (.ite h.dk h.dk)
theorem Kept.handSpan {n : Nat} (h : Kept K s₀ s) : Kept K s₀ (handSpan s n) := .ite h.setF.setF.bump.setF.dk h.event
theorem Kept.handover (h : Kept K s₀ s) : Kept K s₀ (handover s) := .ite (h.foldl (·.handSpan)).showDecks (.ite h.handSpan.showDecks h.event)
theorem Kept.endHandover {n o : Nat} (h : Kept K s₀ s) : Kept K s₀ (endHandover s n o) := by
  unfold Machine.endHandover
  dsimp only
  split
  · exact (h.dk.when (·.setF.setF)).bump.showDecks.when (·.dk.applyNom)
  · exact (h.dk.when (·.setF.setF)).bump.showDecks
theorem Kept.pierSwitched {n l : Nat} (h : Kept K s₀ s) : Kept K s₀ (pierSwitched s n l) := by
  unfold Machine.pierSwitched
  split
  · exact h
  · exact .ite h.endHandover h.dk
theorem Kept.startResync {n d : Nat} (h : Kept K s₀ s) : Kept K s₀ (startResync s n d) := h.setF.armIn
theorem Kept.resync (h : Kept K s₀ s) : Kept K s₀ (resync s) := (h.foldl (·.startResync)).showDecks.when (·.event)
@[simp] theorem Answers.execResyncCopyEnd {n : Span} (h : Kept False s₀ s) : Answers s₀ (execResyncCopyEnd n s) := by
  unfold Machine.execResyncCopyEnd
  split
  · exact .next h
  · exact .ite (.next (h.wrBytes.foldl (·.wr.wr.setPath)).te.setF.disarm.armIn) (.next h)
theorem Kept.clearOpenWhere {p : Nat → Nat → Bool} (h : Kept K s₀ s) : Kept K s₀ (clearOpenWhere s p) :=
  h.foldl fun h => .ite (h.setF.windows cellWf_filter) h
@[simp] theorem Answers.execProbationEnd {n : Span} (h : Kept False s₀ s) : Answers s₀ (execProbationEnd n s) := by
  unfold Machine.execProbationEnd
  split
  · exact .next h
  · exact .ite (.next h.setF.setF.setF.disarm.event.bump.setFailed.clearOpenWhere.showDecks) (.next h)
theorem Kept.abandonResync {n : Nat} (h : Kept K s₀ s) : Kept K s₀ (abandonResync s n) := (h.foldl (fun h => .ite h.setF h)).disarm.disarm
theorem Kept.connectDeckA (h : Kept K s₀ s) : Kept K s₀ (connectDeckA s) := h.foldl (fun h => .ite h.wr h)

/-! ### Drive -/

theorem Kept.connectDeck {n l : Nat} (h : Kept K s₀ s) : Kept K s₀ (connectDeck s n l) := .ite h.setF.setF.setF h.setF.setF
theorem Kept.showOut {n l : Nat} (h : Kept K s₀ s) : Kept K s₀ (showOut s n l) := .ite h h.setF.setF
theorem Kept.slewFast {n l d : Nat} (h : Kept K s₀ s) : Kept K s₀ (slewFast s n l d) := .ite h.setLiveF h
theorem Kept.slewTrim {n l d : Nat} (h : Kept K s₀ s) : Kept K s₀ (slewTrim s n l d) := .ite h.setF h
theorem Kept.sweepCodes {n l : Nat} (h : Kept K s₀ s) : Kept K s₀ (sweepCodes s n l) := .setLiveF (.setLiveF (.ite h h.fastCode))
theorem Kept.endBoost {g d : Nat} (h : Kept K s₀ s) : Kept K s₀ (endBoost s g d) := h.setPath
theorem Kept.fastCodes {n l : Nat} (h : Kept K s₀ s) : Kept K s₀ (fastCodes s n l) :=
  .ite h.deglitch.endBoost.endBoost.setLiveF.setLiveF.setPier <|
  .ite (by split; exacts [.ite h.setLiveF.setLiveF.setPier h, h]) (.ite h.sweepCodes h.slewFast.slewFast)
theorem Kept.trimCodes {n l : Nat} (h : Kept K s₀ s) : Kept K s₀ (trimCodes s n l) :=
  .ite (by split; exacts [.ite h.setF.setF.setPier h, h]) (.ite h h.slewTrim.slewTrim)
@[simp] theorem Answers.execFastUpdateStrobe {n : Span} {l : Local} (h : Kept False s₀ s) : Answers s₀ (execFastUpdateStrobe n l s) :=
  .ite (.next h.setPier.setF.pierSwitched) (.next h.fastCodes.setPier.connectDeck.compareCodes.showOut.pierSwitched)
@[simp] theorem Answers.execTrimUpdateStrobe {n : Span} {l : Local} (h : Kept False s₀ s) : Answers s₀ (execTrimUpdateStrobe n l s) :=
  .ite (.next h.setPier) (.next h.trimCodes.setPier.compareCodes.showOut)
theorem Kept.forcePark {n l : Nat} (h : Kept K s₀ s) : Kept K s₀ (forcePark s n l) := .ite h (h.parkPier.when (·.setF.armIn))
theorem Kept.leavePark {n l : Nat} (h : Kept K s₀ s) : Kept K s₀ (leavePark s n l) := h.putM.putM.setF.setF.setPier
theorem Kept.releasePark {n l : Nat} (h : Kept K s₀ s) : Kept K s₀ (releasePark s n l) := .ite h h.leavePark
theorem Kept.recoveryClamps (h : Kept K s₀ s) : Kept K s₀ (recoveryClamps s) := .ite (h.closeClamps.when (·.setFlag.enterState)) h
@[simp] theorem Answers.execParkRampEnd {n : Span} (h : Kept False s₀ s) : Answers s₀ (execParkRampEnd n s) :=
  .ite (.next h.endRamp.recoveryClamps) (.next h)
theorem Kept.calCorrected {n a : Nat} (h : Kept K s₀ s) : Kept K s₀ (calCorrected s n a) := h.raise.bump
theorem Kept.calUncorrectable {n l : Nat} (h : Kept K s₀ s) : Kept K s₀ (calUncorrectable s n l) := h.event.bump.raise
theorem Kept.meetUpsets {n : Nat} {fs : List CalUpset} (h : Kept K s₀ s) : Kept K s₀ (meetUpsets s n fs) :=
  h.foldl (fun h => .ite h.calUncorrectable h.calCorrected)
theorem Kept.refreshPier {fs : List CalUpset} {n d l : Nat} (h : Kept K s₀ s) : Kept K s₀ (refreshPier fs n d s l) := .ite h (.putMI h.phase18)
@[simp] theorem Answers.execRefreshPass {n : Span} {d : Deck} {faults : List CalUpset} {late : Bool} (h : Kept False s₀ s) :
    Answers s₀ (execRefreshPass n d faults late s) := by
  unfold Machine.execRefreshPass
  extract_lets k lastRun
  refine .ite ?_ (.next h)
  extract_lets
  rename_i s1
  have h1 : Kept False s₀ s1 := h.meetUpsets.foldl (·.refreshPier)
  clear_value s1
  split
  next he =>
  have h2 := Kept.snd h1.divFree he
  extract_lets _ s3 s4 s5
  have h3 : Kept False s₀ s3 := (h2.refreshed (cellWf_cellPut _ _ _ _)).dr
  have h5 : Kept False s₀ s5 := (h3.when (·.setF)).bump
  exact .next (h5.when (·.event))
theorem Kept.filterRegion {as : List Activity} {d r : Nat} (h : Kept K s₀ s) : Kept K s₀ (filterRegion as d s r) :=
  (h.divFree.power (cellWf_cellPut _ _ _ _)).when (·.setF)
theorem Kept.meetThermal {fs : List ThermalUpset} (h : Kept K s₀ s) : Kept K s₀ (meetThermal s fs) := h.foldl (fun h => .ite h h.calCorrected)
@[simp] theorem Answers.execPowerMapUpdate {as : List Activity} {faults : List ThermalUpset} (h : Kept False s₀ s) :
    Answers s₀ (execPowerMapUpdate as faults s) :=
  .next (h.meetThermal.foldl (fun h => h.foldl (fun h => .ite h h.filterRegion))).dr
@[simp] theorem Answers.execVhtrMeasure {n : Span} {mv : BitVec 13} (h : Kept False s₀ s) : Answers s₀ (execVhtrMeasure n mv s) := .next h.setF

/-! ### Truss -/

theorem Kept.swapGains {n l : Nat} (h : Kept K s₀ s) : Kept K s₀ (swapGains s n l) := h.setF.setF
theorem Kept.openWindow {n l start stop : Nat} {isLoop : Bool} (h : Kept K s₀ s) : Kept K s₀ (openWindow s n l start stop isLoop) :=
  .setMon (.when (.ite h.swapGains h) (·.bump))
@[simp] theorem Answers.execMonitorWindowOpen {n : Span} {l : Local} (h : Kept False s₀ s) : Answers s₀ (execMonitorWindowOpen n l s) :=
  .ite (.next h) (by split; exacts [.next h.openWindow, .next h])
@[simp] theorem Answers.execDiversityChoice {n : Span} {l : Local} {countA countB : BitVec 16} (h : Kept False s₀ s) :
    Answers s₀ (execDiversityChoice n l countA countB s) :=
  .ite (.next h.setMon) (.next h)
theorem Kept.countMarks {n : Nat} {x : Sample} (h : Kept K s₀ s) : Kept K s₀ (countMarks s n x) := h.foldl (fun h => .ite h.bump h)
theorem Kept.gainAutorange {n l : Nat} {m : Mon} {x : Sample} (h : Kept K s₀ s) : Kept K s₀ (gainAutorange s n l m x) := .ite h.setF.setF h
theorem Kept.holdLoop {n l a : Nat} (h : Kept K s₀ s) : Kept K s₀ (holdLoop s n l a) := h.putM.putMI
theorem Kept.darkHold {a : Nat} (h : Kept K s₀ s) : Kept K s₀ (darkHold s a) := h.putM.putM.putM.putM.putM
theorem Kept.residTest {n d a : Nat} {e : Int} (h : Kept K s₀ s) : Kept K s₀ (residTest s n d a e) :=
  .ite (h.putM.when (fun h => .event (.putM (.ite h.bump h)))) h.putM.putM
theorem Kept.history {n l d : Nat} {x : Sample} {e : Int} (h : Kept K s₀ s) : Kept K s₀ (history s n l d x e) :=
  h.putWord.putWord.putWord.putWord.putWord.putWord.te
theorem Kept.computedUpdate {n l d a : Nat} {x : Sample} {e0 : Int} (h : Kept K s₀ s) : Kept K s₀ (computedUpdate s n l d a x e0) :=
  .bump (.history (.putMI (.putM (.when (.putMI (.putM (.putMI (.putM (.putMI (.fitInt h.residTest.fitInt)))))) (·.event)))))
theorem Kept.refreshPrev {a : Nat} {x : Sample} {v : Int} (h : Kept K s₀ s) : Kept K s₀ (refreshPrev s a x v) :=
  .ite h.putM.putM.putM.putM (by split; exacts [h.putM.putM.putM.putM, h.putM])
theorem Kept.applyCodes {n l d a : Nat} {vOld : Int} (h : Kept K s₀ s) : Kept K s₀ (applyCodes s n l d a vOld) :=
  .unless (.setPath (.putM ((h.trimCode.when (·.event.bump)).when (·.setFlag)))) (·.fastCode.setPath)
theorem Kept.applyPcfg {a : Nat} {w : Word × Word × Word × Word} (h : Kept K s₀ s) : Kept K s₀ (applyPcfg s a w) :=
  (h.putM.when (·.putM)).putWord.putWord.putM
theorem Kept.applyWaiting {a : Nat} {m : Mon} (h : Kept K s₀ s) : Kept K s₀ (applyWaiting s a m) := by
  unfold Machine.applyWaiting
  dsimp only
  split
  · exact .putM (by split; exacts [h.applyPcfg, h])
  · split
    · exact h.applyPcfg
    · exact h
theorem Kept.deckUpdate {n l d : Nat} {m : Mon} {x : Sample} (h : Kept K s₀ s) : Kept K s₀ (deckUpdate s n l d m x) := by
  unfold Machine.deckUpdate
  extract_lets a s0 v0 s1 mode sU s2 e s3
  have h1 : Kept K s₀ s1 := h.applyWaiting.putM.putM.applyCodes
  have h2 : Kept K s₀ s2 := (h1.unless (·.putM)).unless (·.putM.putM)
  have he : Kept K s₀ (match e with | none => Machine.holdLoop s2 n l a | some e => Machine.computedUpdate s2 n l d a x e) := by
    clear_value e
    split
    · exact h2.holdLoop
    · exact h2.computedUpdate
  have h3 : Kept K s₀ s3 := .ite h2.putM.putM.putM (.ite h2.holdLoop (.ite h2.darkHold (.ite h2.holdLoop he)))
  exact h3.refreshPrev
theorem Kept.setExt {g : Nat} {x : Ext} (h : Kept K s₀ s) : Kept K s₀ (setExt s g x) := h.te
theorem Kept.observe {n l : Nat} (h : Kept K s₀ s) : Kept K s₀ (observe s n l) := .ite (.ite h h.setExt) (.ite h (.ite h.setExt h.setExt))
theorem Kept.periodStep {n l : Nat} (h : Kept K s₀ s) : Kept K s₀ (periodStep s n l) := by
  unfold Machine.periodStep
  exact .ite ((h.period (cellWf_cellPut _ _ _ _)).foldl (·.setMon)) h
theorem Kept.loopClose {n l : Nat} {m : Mon} {x : Sample} (h : Kept K s₀ s) : Kept K s₀ (loopClose s n l m x) :=
  (h.periodStep.gainAutorange.when (·.event.event.bump)).deckUpdate.deckUpdate.residMoved.observe.residDiffers.when (·.setF)
@[simp] theorem Answers.execMonitorWindowClose {n : Span} {l : Local} {countA countB : BitVec 16} (h : Kept False s₀ s) :
    Answers s₀ (execMonitorWindowClose n l countA countB s) := by
  unfold Machine.execMonitorWindowClose
  dsimp only
  split
  · exact .ite (.next (h.wr.wr.countMarks.captureSample.when (·.loopClose)).setMon) (.next h)
  · exact .next h
theorem Kept.releaseRecord {n l d : Nat} (h : Kept K s₀ s) : Kept K s₀ (releaseRecord s n l d) := by
  unfold Machine.releaseRecord
  dsimp only
  split
  · exact h.fitInt.putMI.putMI.putM.putM.putM
  · exact h.fitInt.fitInt.putMI.putMI.putM.putM.putM
theorem Kept.pselOp {n op : Nat} (h : Kept K s₀ s) : Kept K s₀ (pselOp s n op) := by
  unfold Machine.pselOp
  dsimp only
  split
  · exact h.setF.setF.wr.wr.wr.wr.setF.setF.setF.setF.setF
  · exact h.setMon.setF
  · exact h
theorem Kept.periodWritten {n old : Nat} (h : Kept K s₀ s) : Kept K s₀ (periodWritten s n old) := .ite (h.period (cellWf_cellPut _ _ _ _)) h
theorem Kept.ttWritten {n l : Nat} (h : Kept K s₀ s) : Kept K s₀ (ttWritten s n l) := .ite h.te.event.event h.te

/-! ### Lift -/

theorem Kept.markDone {id n d : Nat} (h : Kept K s₀ s) : Kept K s₀ (markDone s id n d) := h.dr
theorem Kept.stagePier {fs : List CalUpset} {n d : Nat} {e : Nat × Nat} (h : Kept K s₀ s) : Kept K s₀ (stagePier fs n d s e) :=
  .ite h (h.setF.unless (fun h => .ite h.event.bump (.putM (.putM (.putMI (.setPath (.setF (.setF h.fastCode))))))))
@[simp] theorem Answers.execRequestPass {n : Span} {d : Deck} {faults : List CalUpset} (h : Kept False s₀ s) : Answers s₀ (execRequestPass n d faults s) := by
  unfold Machine.execRequestPass
  split
  · exact .next h
  · exact .next (h.meetUpsets.foldl (·.stagePier)).dr.markDone.bump
theorem Kept.abandonPasses {n d t : Nat} (h : Kept K s₀ s) : Kept K s₀ (abandonPasses s n d t) := h.dr
theorem Kept.lateDeck {n d t : Nat} (h : Kept K s₀ s) : Kept K s₀ (lateDeck s n d t) := h.abandonPasses.lowerOne
theorem Kept.stageTest {t n : Nat} (h : Kept K s₀ s) : Kept K s₀ (stageTest t s n) :=
  .ite h.event.bump.lateDeck.lateDeck.dr.raise (.ite h.event.bump.lateDeck (.ite h.event.bump.lateDeck h))
@[simp] theorem Answers.execStageReadyTest {n : Span} (h : Kept False s₀ s) : Answers s₀ (execStageReadyTest n s) := by
  unfold Machine.execStageReadyTest
  split
  · exact .next h
  · exact .ite (.next h) (.next h.stageTest)
theorem Kept.releaseDeck {n l d : Nat} (h : Kept K s₀ s) : Kept K s₀ (releaseDeck s n l d) := by
  unfold Machine.releaseDeck
  extract_lets g ds dl r cycles pe boost s1 s2 a
  have h2 : Kept K s₀ s2 := Kept.unless h.setLiveF (·.releaseRecord)
  split
  next he => exact (Kept.snd (.iteSnd h2 h2.fastCode) he).setPath
theorem Kept.releasePier {n l o : Nat} (h : Kept K s₀ s) : Kept K s₀ (releasePier s n l o) :=
  ((h.deglitch.releaseDeck.when (·.releaseDeck)).when (·.bump)).setPier.when (·.setMon.setExt.captureRelease)
theorem Kept.strobePier {own : Bool} {n o l : Nat} (h : Kept K s₀ s) : Kept K s₀ (strobePier own n o s l) :=
  .pierSwitched (.showOut (.compareCodes (.connectDeck (.setPier (.when (.ite h (.ite h.releasePier h)) (·.discardStaged))))))
theorem Kept.strobeSpan {own : Bool} {n : Nat} (h : Kept K s₀ s) : Kept K s₀ (strobeSpan own s n) :=
  .ite (h.foldl (·.discardStaged)) (h.foldl (·.strobePier))
theorem Kept.releaseStrobe {t : Nat} {treeA treeB : Bool} (h : Kept K s₀ s) : Kept K s₀ (releaseStrobe t s treeA treeB) :=
  .ite (.when (.foldl (.unless (.ite h h.raise) (·.bump)) (·.strobeSpan)) (·.dr)) (.ite h h.raise)
theorem Kept.runOff (h : Kept K s₀ s) : Kept K s₀ (runOff s) := .ite h.pw.setF h
theorem Kept.runFalls {t : Nat} (h : Kept K s₀ s) : Kept K s₀ (runFalls s t) := .ite h.runOff h
@[simp] theorem Answers.execLiftWindowStart {treeA treeB : Bool} (h : Kept False s₀ s) : Answers s₀ (execLiftWindowStart treeA treeB s) := by
  unfold Machine.execLiftWindowStart
  refine .ite (.next (.runFalls (.nt ?_))) (.next h)
  exact (Kept.when (.captureWindow (.setF (.setF (.bump (.ite (h.foldl (·.stageTest)) h))))) (·.releaseStrobe)).update ⟨rfl, fun _ => rfl⟩ id
@[simp] theorem Answers.execScheduleStart (h : Kept False s₀ s) : Answers s₀ (execScheduleStart s) :=
  .ite (.ite (.next (h.setF.update ⟨rfl, fun _ => rfl⟩ id)) (.next h.railWait)) (.next h)
theorem Kept.swapWritten (h : Kept K s₀ s) : Kept K s₀ (swapWritten s) := by
  unfold Machine.swapWritten
  refine .ite h.event (.ite h ?_)
  extract_lets t
  split
  next he => exact (Kept.snd (.iteSnd h.free h) he).setFlag.setF.setF.nt
@[simp] theorem Answers.execSwapExecute (h : Kept False s₀ s) : Answers s₀ (execSwapExecute s) := by
  unfold Machine.execSwapExecute
  split
  · exact .ite (.next h.swapBanks) (.next h)
  · exact .next h
theorem Kept.enCleared (h : Kept K s₀ s) : Kept K s₀ (enCleared s) := h.runFalls
theorem Kept.stopSchedule (h : Kept K s₀ s) : Kept K s₀ (stopSchedule s) := h.runOff

/-! ### Sequence -/

theorem Kept.setHkEntry {i : Nat} {e : HkEntry} (h : Kept K s₀ s) : Kept K s₀ (setHkEntry s i e) := h.update ⟨rfl, fun _ => rfl⟩ (good_setHkEntry _ _)
theorem Kept.hkFresh {i : Nat} (h : Kept K s₀ s) : Kept K s₀ (hkFresh s i) := h.setHkEntry
theorem Kept.showZones (h : Kept K s₀ s) : Kept K s₀ (showZones s) := h.foldl (fun h => (by split; exacts [.ite h.setF.setF h.setF, h.setF]))
theorem Kept.invalidEntry {i : Nat} (h : Kept K s₀ s) : Kept K s₀ (invalidEntry s i) := h.setHkEntry
theorem Kept.reservedEntry {i : Nat} (h : Kept K s₀ s) : Kept K s₀ (reservedEntry s i) := h.setF.setF.setF.setF.invalidEntry.showZones
theorem Kept.beginConversion (h : Kept K s₀ s) : Kept K s₀ (beginConversion s) := h.th
theorem Kept.showBusy (h : Kept K s₀ s) : Kept K s₀ (showBusy s) := h.setFlag
theorem Kept.endCycle (h : Kept K s₀ s) : Kept K s₀ (endCycle s) := h.th.setF.setF.showBusy
theorem Kept.seekEntry {fuel i : Nat} (h : Kept K s₀ s) : Kept K s₀ (seekEntry s fuel i) := by
  induction fuel generalizing s i with
  | zero => exact h.endCycle
  | succ fuel ih => exact .ite h.endCycle (.ite (ih h) (.ite (ih h.reservedEntry) h.setF.beginConversion.showBusy))
theorem Kept.abortConversion (h : Kept K s₀ s) : Kept K s₀ (abortConversion s) := .ite h.beginConversion.bump h
theorem Kept.requestUrgent {u : Urgent} (h : Kept K s₀ s) : Kept K s₀ (requestUrgent s u) :=
  .ite h.event h.abortConversion.beginConversion.setFlag.setFlag.th
theorem Kept.urgentWritten (h : Kept K s₀ s) : Kept K s₀ (urgentWritten s) := h.requestUrgent
theorem Kept.nextCalConversion (h : Kept K s₀ s) : Kept K s₀ (nextCalConversion s) := by
  unfold Machine.nextCalConversion
  split
  · exact h.th.requestUrgent
  · exact h
theorem Kept.calibrateHk (h : Kept K s₀ s) : Kept K s₀ (calibrateHk s) := .ite h.th.nextCalConversion h
theorem Kept.switchClock {crystal : Bool} (h : Kept K s₀ s) : Kept K s₀ (switchClock s crystal) := h.setFlag.setFlag.abortConversion
theorem Kept.sleepClock (h : Kept K s₀ s) : Kept K s₀ (sleepClock s) := by
  unfold Machine.sleepClock
  exact .when (.ite h.switchClock h) fun h => h.seekEntry.th

/-! ### Cal -/

theorem Kept.showSeq {n : Nat} {q : CalSeq} (h : Kept K s₀ s) : Kept K s₀ (showSeq s n q) := h.setF.setFlag.setF.setFlag
theorem Kept.setSeq {n : Nat} {q : CalSeq} (h : Kept K s₀ s) : Kept K s₀ (setSeq s n q) := by
  unfold Machine.setSeq
  exact (h.seqs (cellWf_cellPut _ _ _ _)).showSeq
theorem Kept.trigger {n k : Nat} (h : Kept K s₀ s) : Kept K s₀ (trigger s n k) := .ite h (h.setSeq.when (·.armIn))
theorem Kept.recordZone {n k z : Nat} {core : Bool} (h : Kept K s₀ s) : Kept K s₀ (recordZone s n k z core) := by
  unfold Machine.recordZone
  split
  · exact h.cal.setF
  · exact h.event
theorem Kept.recordTemps {n k : Nat} (h : Kept K s₀ s) : Kept K s₀ (recordTemps s n k) := h.recordZone.recordZone
theorem Kept.endRun {n k : Nat} (h : Kept K s₀ s) : Kept K s₀ (endRun s n k) := h.setSeq.recordTemps.when (·.disarm)
theorem Kept.calTemps (h : Kept K s₀ s) : Kept K s₀ (calTemps s) :=
  .ite (.ite (.when (.foldl (.ite h.event h) (fun h => .ite h.trigger h)) (·.calibrateHk)) (.ite h.event h)) h
theorem Kept.heldPiers {n : Nat} {a : CalStep} (h : Kept K s₀ s) : Kept K s₀ (heldPiers s n a).2 := by
  unfold Machine.heldPiers
  split
  · exact h
  · exact h.free
  · exact h
theorem Kept.holdFronts {b : Bool} {gs : List Nat} (h : Kept K s₀ s) : Kept K s₀ (holdFronts s b gs) := h.foldl (·.setMon)
theorem Kept.releaseFronts {n : Nat} (h : Kept K s₀ s) : Kept K s₀ (releaseFronts s n) := h.holdFronts
theorem Kept.freeFronts {n : Nat} (h : Kept K s₀ s) : Kept K s₀ (freeFronts s n) := .ite h h.releaseFronts
@[simp] theorem Answers.execCalStepStart {n : Span} (h : Kept False s₀ s) : Answers s₀ (execCalStepStart n s) :=
  .ite (by split; exacts [.next h, .next (.holdFronts (.setSeq h.heldPiers))]) (.next h)
theorem Kept.accepted (h : Kept K s₀ s) : Kept K s₀ (accepted s) := .ite h.cal h.setFlag
theorem Kept.setRetry {g item v : Nat} (h : Kept K s₀ s) : Kept K s₀ (setRetry s g item v) := h.cal
theorem Kept.disagree {g item : Nat} (h : Kept K s₀ s) : Kept K s₀ (disagree s g item) := .ite h.bump.setRetry.event.raise h.bump.setRetry
theorem Kept.rejectP {source address : Nat} (h : Kept K s₀ s) : Kept K s₀ (rejectP s source address) := h.bump.event.raise
theorem Kept.trimChannel {n l d : Nat} {e : Nat × Int × Int} (h : Kept K s₀ s) : Kept K s₀ (trimChannel n l d s e).1 := by
  unfold Machine.trimChannel
  dsimp only
  split
  · exact h.disagree
  · split
    · exact h.setRetry.setF.accepted
    · exact h.setRetry.excludePath
theorem Kept.comparePath {n l d : Nat} {t : PathTrims} (h : Kept K s₀ s) : Kept K s₀ (comparePath s n l d t).1 :=
  h.trimChannel.trimChannel.trimChannel
theorem Kept.endCompare {n l : Nat} {r : CalReading} (h : Kept K s₀ s) : Kept K s₀ (endCompare s n l r) := by
  unfold Machine.endCompare
  dsimp only
  refine .andThen (?_ : Kept K s₀ (Prod.fst _)) fun h => Kept.when h (·.setSeq)
  split_ifs
  exacts [h.comparePath.comparePath, h, h.comparePath, h.comparePath]
theorem Kept.digitizerTrim {n i : Nat} {e : Local × Int × Int} (h : Kept K s₀ s) : Kept K s₀ (digitizerTrim n i s e) :=
  .ite h (by split; exacts [h.disagree, .accepted (.setF h.setRetry.fitInt)])
theorem Kept.evaluate {n l : Nat} (h : Kept K s₀ s) : Kept K s₀ (evaluate n s l) := by
  unfold Machine.evaluate
  extract_lets g e
  split
  · refine .ite ?_ h
    extract_lets
    split
    · exact .ite (h.setExt.setRetry.when (·.putMI.bump.accepted)) h.setExt.disagree
    · exact h.setExt
  · exact h
theorem Kept.stepResult {n : Nat} {x : CalStep} {r : CalReading} (h : Kept K s₀ s) : Kept K s₀ (stepResult s n x r) := by
  unfold Machine.stepResult
  split
  · exact h.endCompare
  · exact .when (.ite h.excludePath h) (·.excludePath)
  · exact h.foldl (·.digitizerTrim)
  · exact .ite h.setF.accepted h.rejectP
  · exact h.foldl (·.evaluate)
theorem Kept.settleRun {n k : Nat} (h : Kept K s₀ s) : Kept K s₀ (settleRun s n k) := by
  unfold Machine.settleRun
  split
  · exact .ite h.endRun (.ite h (.ite h.setSeq h.endRun))
  · exact h
@[simp] theorem Answers.execCalStepEnd {n : Span} {r : CalReading} (h : Kept False s₀ s) : Answers s₀ (execCalStepEnd n r s) := by
  unfold Machine.execCalStepEnd
  dsimp only
  split
  · exact .next h
  · exact .next h.setSeq.freeFronts.bump.stepResult.settleRun
@[simp] theorem Answers.execExtRunEnd {n : Span} (h : Kept False s₀ s) : Answers s₀ (execExtRunEnd n s) := .ite (.next h.endRun) (.next h)
@[simp] theorem Answers.execCalStarved {n : Span} (h : Kept False s₀ s) : Answers s₀ (execCalStarved n s) := .next (.ite h.event h)
theorem Kept.abandonStep {n : Nat} (h : Kept K s₀ s) : Kept K s₀ (abandonStep s n) := by
  unfold Machine.abandonStep
  dsimp only
  split
  · exact h
  · exact h.setSeq.releaseFronts
theorem Kept.abandonCal (h : Kept K s₀ s) : Kept K s₀ (abandonCal s) := by
  unfold Machine.abandonCal
  refine .andThen (h.foldl (f := Machine.abandonStep) (l := List.range 36) (·.abandonStep)) fun h => ?_
  generalize (List.range 36).foldl Machine.abandonStep s = t at h ⊢
  dsimp only
  split
  · exact h.cal.releaseFronts.setFlag
  · exact h
theorem Kept.dropRuns (h : Kept K s₀ s) : Kept K s₀ (dropRuns s) := h.abandonCal.foldl (·.setSeq.disarm)
theorem Kept.beginPowerUp (h : Kept K s₀ s) : Kept K s₀ (beginPowerUp s) :=
  (h.te.foldl (fun h => .when (.ite h.trigger h) (·.trigger))).when (·.calibrateHk)
theorem Kept.beginSweep {n : Nat} {rest : List Nat} (h : Kept K s₀ s) : Kept K s₀ (beginSweep s n rest) := h.cal.setFlag.holdFronts
theorem Kept.sweepCommand (h : Kept K s₀ s) : Kept K s₀ (sweepCommand s) := by
  unfold Machine.sweepCommand
  dsimp only
  split
  · exact .ite h.beginSweep h.event
  · exact h
theorem Kept.vertexPhase {base : Int} {v : ℚ} (h : Kept K s₀ s) : Kept K s₀ (vertexPhase s base v).2 := h.divFree
theorem Kept.bothPhases {base : Int} {u d : Option Rat} (h : Kept K s₀ s) : Kept K s₀ (bothPhases s base u d).2 := by
  unfold Machine.bothPhases
  split
  · exact .vertexPhase h.vertexPhase
  · exact h
theorem Kept.sweepResult {n l item : Nat} {f : MFld} {m : Option (Int × Int)} (h : Kept K s₀ s) : Kept K s₀ (sweepResult s n l item f m) := by
  unfold Machine.sweepResult
  split
  · exact .accepted (.setRetry (.putMI h.phase18))
  · exact h.disagree
theorem Kept.sweepPier {n : Nat} {r : SweepReading} (h : Kept K s₀ s) : Kept K s₀ (sweepPier n s r) := by
  unfold Machine.sweepPier
  extract_lets l g up down sums low high
  refine .ite h.bump ?_
  extract_lets
  split
  next he =>
  have hA := Kept.snd h.bothPhases he
  split
  next he =>
  have hB := Kept.snd hA.bothPhases he
  extract_lets d s1 s2
  have h2 : Kept K s₀ s2 := hB.sweepResult.sweepResult
  clear_value s2
  split
  next he =>
  have h3 := Kept.snd (.iteSnd h2.free h2) he
  exact .ite h3.setMon.accepted h3.rejectP
theorem Kept.startStore (h : Kept K s₀ s) : Kept K s₀ (startStore s) := .ite (Kept.setFlag (h.update ⟨rfl, fun _ => rfl⟩ id)) h
@[simp] theorem Answers.execCalStoreTimer (h : Kept False s₀ s) : Answers s₀ (execCalStoreTimer s) := .next (.ite h.startStore h)
theorem Kept.storeAfterPowerUp (h : Kept K s₀ s) : Kept K s₀ (storeAfterPowerUp s) := .ite h.startStore h
@[simp] theorem Answers.execSweepEnd {n : Span} {readings : List SweepReading} (h : Kept False s₀ s) : Answers s₀ (execSweepEnd n readings s) := by
  unfold Machine.execSweepEnd
  split
  · exact .next h
  · refine .ite (.next h) ?_
    extract_lets s1
    have h1 : Kept False s₀ s1 := (h.foldl (·.sweepPier)).releaseFronts.recordTemps
    split
    · exact .next h1.beginSweep
    · exact .next h1.cal.setFlag.startStore
theorem Kept.applyRecord {b : List Byte} (h : Kept K s₀ s) : Kept K s₀ (applyRecord s b) :=
  ((h.foldl (fun h => h.wr.foldl (·.cal))).foldl (·.putM.putM.putM.putM.setF.setF.wr)).foldl (·.wr.wr)
theorem Kept.readSlots (h : Kept K s₀ s) : Kept K s₀ (readSlots s) := by
  unfold Machine.readSlots
  dsimp only
  split
  · exact .setFlag (.ite h h.event)
  · exact .applyRecord (.setF (.setF (.setFlag (.ite h h.event))))
theorem Kept.recordWritten (h : Kept K s₀ s) : Kept K s₀ (recordWritten s) := h.setFlag.setF.setF.setFlag.setFlag.event.cal.bump.bump.life
theorem Kept.recordAbandoned (h : Kept K s₀ s) : Kept K s₀ (recordAbandoned s) := h.setFlag

/-! ### Faults -/

theorem Kept.logFault {m : BitVec 64} (h : Kept K s₀ s) : Kept K s₀ (logFault s m) := .ite h.setF h.wr.wr.wr.wr.setF
theorem Kept.countFault {m : BitVec 64} (h : Kept K s₀ s) : Kept K s₀ (countFault s m) := .ite h.bump.bump.life (h.bump.bump.when (·.life))
theorem Kept.startQuiet (h : Kept K s₀ s) : Kept K s₀ (startQuiet s) := .ite h.setFlag.bump.armIn h
theorem Kept.recheckConditions (h : Kept K s₀ s) : Kept K s₀ (recheckConditions s) := h.fc.startQuiet
theorem Kept.parkRequest (h : Kept K s₀ s) : Kept K s₀ (parkRequest s) := h.parkAll.abandonCal.foldl (·.abandonResync)
theorem Kept.fatalAction {m : BitVec 64} (h : Kept K s₀ s) : Kept K s₀ (fatalAction s m) := by
  unfold Machine.fatalAction
  refine .ite h ?_
  extract_lets tf s1 s2 _ _ _ _ s3
  have h1 : Kept K s₀ s1 := h.parkRequest.stopSchedule.discardRequests
  have h2 : Kept K s₀ s2 := h1.unless (·.setFlag.setF.setF)
  have h3 : Kept K s₀ s3 := h2.update ⟨rfl, fun _ => rfl⟩ id
  exact h3.setFlag.disarm.enterState.recheckConditions
theorem Kept.recordFatal {m : BitVec 64} (h : Kept K s₀ s) : Kept K s₀ (recordFatal s m) :=
  h.logFault.countFault.event.captureFault.fatalAction
theorem Kept.countEscalation (h : Kept K s₀ s) : Kept K s₀ (countEscalation s) := h.event.bump.life
theorem Kept.openFault {m : BitVec 64} (h : Kept K s₀ s) : Kept K s₀ (openFault s m) := by
  unfold Machine.openFault
  split
  · exact (h.wr.wr.wr.wr.windows (cellWf_cellPut _ _ _ _)).setF
  · exact h.countEscalation.recordFatal
theorem Kept.closeSlot {i : Nat} (h : Kept K s₀ s) : Kept K s₀ (closeSlot s i) := h.setF.windows (cellWf_cellPut _ _ _ _)
theorem Kept.recordFault {m : BitVec 64} (h : Kept K s₀ s) : Kept K s₀ (recordFault s m) :=
  .ite h.recordFatal (h.logFault.countFault.event.when (·.captureFault.openFault))
@[simp] theorem Answers.execFaultRecord {src : SourceCode} (h : Kept False s₀ s) : Answers s₀ (execFaultRecord src s) := by
  unfold Machine.execFaultRecord
  split
  · exact .next h
  · exact .ite (.next h.setQueue.recordFault) (.next h)
@[simp] theorem Answers.execCorrectedDrop {msg : BitVec 64} (h : Kept False s₀ s) : Answers s₀ (execCorrectedDrop msg s) :=
  .ite (.next h.report) (.next h)
@[simp] theorem Answers.execEscalation {slot : OpenSlot} (h : Kept False s₀ s) : Answers s₀ (execEscalation slot s) :=
  .ite (.next h.closeSlot.countEscalation.recordFatal) (.next h)
theorem Kept.clearFault {master i : Nat} (h : Kept K s₀ s) : Kept K s₀ (clearFault s master i) := .ite h.event.bump (.ite h.closeSlot h)

/-! ### Toll -/

theorem Kept.appendLog {typ : Nat} {body : List Byte} (h : Kept K s₀ s) : Kept K s₀ (appendLog s typ body).2 := by
  unfold Machine.appendLog
  dsimp only
  split <;> exact h.th
theorem Kept.nextSector {len : Nat} (h : Kept K s₀ s) : Kept K s₀ (nextSector s len) := .ite h (.ite h h.th)
theorem Kept.queueJob {kind : JobKind} {body : List Byte} (h : Kept K s₀ s) : Kept K s₀ (queueJob s kind body) := h.th
theorem Kept.beginJob {j : Job} (h : Kept K s₀ s) : Kept K s₀ (beginJob s j) := .ite h.th (.ite h.th (.th h.nextSector.appendLog))
theorem Kept.nextFlash (h : Kept K s₀ s) : Kept K s₀ (nextFlash s) := by
  unfold Machine.nextFlash
  refine .ite h ?_
  split
  · exact h.bt
  · split
    · exact h
    · extract_lets
      rename_i s1 _
      have h1 : Kept K s₀ s1 := by
        unfold s1
        split
        · exact .ite h.th.beginJob h
        · exact h
      split
      · exact h1.th
      · exact h1
@[simp] theorem Answers.execTollhouseJob (h : Kept False s₀ s) : Answers s₀ (execTollhouseJob s) :=
  .ite (.next h) (by dsimp only; split; exacts [.next h, .next h.th.beginJob.setFlag.nextFlash])
theorem Kept.showWriting (h : Kept K s₀ s) : Kept K s₀ (showWriting s) := h.setFlag
theorem Kept.abandonJob {j : Job} (h : Kept K s₀ s) : Kept K s₀ (abandonJob s j) := by
  unfold Machine.abandonJob
  dsimp only
  split
  · exact h.bump.event
  · exact h.bump.event.setFlag
  · exact h.bump.recordAbandoned
  · exact h.bump
theorem Kept.abandonJobs (h : Kept K s₀ s) : Kept K s₀ (abandonJobs s) := (h.foldl (·.abandonJob)).th.showWriting
theorem Kept.flashUndefined {a n : Nat} (h : Kept False s₀ s) : Kept False s₀ (flashUndefined s a n) :=
  h.foldl fun h => h.free.flash (cellWf_cellPut _ _ _ _)
theorem Kept.pageUndefined {a : Nat} (h : Kept False s₀ s) : Kept False s₀ (pageUndefined s a) := h.flashUndefined
theorem Kept.footDirty {a n : Nat} (h : Kept K s₀ s) : Kept K s₀ (footDirty s a n) := .ite h.setFlag h
theorem Kept.breakHost {h' : HostOp} (h : Kept False s₀ s) : Kept False s₀ (breakHost s h') :=
  .ite h (.footDirty (.ite h.pageUndefined h.flashUndefined))
theorem Kept.abandonHost (h : Kept False s₀ s) : Kept False s₀ (abandonHost s) := by
  unfold Machine.abandonHost
  split
  · exact h.bt.breakHost.event.bump.setFlag
  · exact h
theorem Kept.breakFlash (h : Kept False s₀ s) : Kept False s₀ (breakFlash s) :=
  .abandonHost (.th (by split; exacts [h.pageUndefined, h.flashUndefined, h]))

/-! ### Power -/

theorem Kept.resetIslands {drives : Bool} (h : Kept K s₀ s) : Kept K s₀ (resetIslands s drives) := by
  unfold Machine.resetIslands
  refine h.update ⟨rfl, fun _ => rfl⟩ fun ⟨⟨hr, hm, hf⟩, ht⟩ => ⟨⟨cellWf_filter hr, hm, hf⟩, ?_⟩
  obtain ⟨-, -, -, -, -, -, -, -, -, -, -, h12, h13, -, -, -, -, -, -, h20, -⟩ := ht
  refine ⟨rfl, fun _ he => absurd he List.not_mem_nil, rfl, rfl, rfl, rfl, rfl, rfl, rfl, rfl, rfl, h12, h13, rfl, rfl, rfl, rfl, ?_⟩
  cases drives
  · exact ⟨rfl, rfl, rfl, rfl⟩
  · exact ⟨rfl, rfl, h20, rfl⟩
theorem Kept.resetForRecovery (h : Kept K s₀ s) : Kept K s₀ (resetForRecovery s) := h.resetIslands.connectDeckA
theorem Kept.resetWarm (h : Kept K s₀ s) : Kept K s₀ (resetWarm s) := by
  refine h.update ⟨rfl, fun _ => rfl⟩ fun ⟨⟨_, hm, hf⟩, ht⟩ => ⟨⟨cellWf_foldl (fun _ _ => cellWf_cellPut _ _ _ _) _ rfl, hm, hf⟩, ?_⟩
  obtain ⟨-, -, h3, -, -, -, -, -, -, -, -, h12, h13, -⟩ := ht
  exact ⟨rfl, fun _ he => absurd he List.not_mem_nil, h3, rfl, rfl, cellWf_foldl (fun _ _ => cellWf_cellPut _ _ _ _) _ rfl, rfl, rfl, rfl, rfl, rfl,
    h12, h13, rfl, rfl, rfl, rfl, rfl, rfl, rfl, rfl⟩
theorem Kept.setTries {i : Nat} {x : Option (Nat × Nat)} (h : Kept K s₀ s) : Kept K s₀ (setTries s i x) := h.tries (cellWf_cellPut _ _ _ _)
theorem Kept.startPll {i : Nat} (h : Kept K s₀ s) : Kept K s₀ (startPll s i) := h.setF.setTries
theorem Kept.stopPlls (h : Kept K s₀ s) : Kept K s₀ (stopPlls s) := h.foldl (·.setF.setTries)
theorem Kept.fixP0 {n : Nat} (h : Kept K s₀ s) : Kept K s₀ (fixP0 s n) :=
  (h.te.period (cellWf_cellPut _ _ _ _)).piers fun _ => cellWf_foldl (fun _ _ => cellWf_cellPut _ _ _ _) _ rfl
theorem Kept.pllRejected (h : Kept K s₀ s) : Kept K s₀ (pllRejected s) := h.rejectP
theorem Kept.attemptFailed {i k : Nat} (h : Kept K s₀ s) : Kept K s₀ (attemptFailed s i k) :=
  .ite h.pllRejected.setTries <|
  (by dsimp only; split; exacts [h.pllRejected.event.setTries.when (·.stopPlls.pw.setTries), h.pllRejected.event.setTries])
@[simp] theorem Answers.execPllLock {i : PllIx} {band : Fin 64} (h : Kept False s₀ s) : Answers s₀ (execPllLock i band s) := by
  unfold Machine.execPllLock
  split
  · exact
      .ite (.next h) <|
      .ite (.next h.attemptFailed) <|
      .next (.recheckConditions (.when (.ite (h.setF.setF.setF.setTries.foldl (fun h => .ite h h.startPll)) h.setF.setF.setF.setTries) (·.fixP0)))
  · exact .next h
@[simp] theorem Answers.execPllLockTimeout {i : PllIx} (h : Kept False s₀ s) : Answers s₀ (execPllLockTimeout i s) := by
  unfold Machine.execPllLockTimeout
  split
  · exact .next (.ite h h.attemptFailed)
  · exact .next h
@[simp] theorem Answers.execPllLoss {i : PllIx} {burst : Option Burst} (h : Kept False s₀ s) : Answers s₀ (execPllLoss i burst s) :=
  .ite (.next h) <|
  .ite (.next (h.event.event.bump.life.startPll.closeClamps.raise.unless (·.pw.enterState))) <|
  .ite (.next h.event.event.bump.life.startPll.raise.masterReset.lowerAll) <|
  .ite (.next h.event.event.bump.life.startPll.closeClamp.raise) (.next h.event.event.bump.life.startPll.portLockLost.raise)
theorem Kept.jointUp {j : Nat} {lost : optParam Nat 0} (h : Kept K s₀ s) : Kept K s₀ (jointUp s j lost) := .ite h h.setF.setF.setF.bump.bumpBy
theorem Kept.joinAll (h : Kept K s₀ s) : Kept K s₀ (joinAll s) := h.foldl (·.jointUp)
@[simp] theorem Answers.execJointUp {j : Joint} {lost : Lost} (h : Kept False s₀ s) : Answers s₀ (execJointUp j lost s) := .next (.ite h.jointUp h)
@[simp] theorem Answers.execJointSat {j : Joint} {lost : Lost} (h : Kept False s₀ s) : Answers s₀ (execJointSat j lost s) :=
  .ite (.next h) (.next h.event.event.bump.bumpBy.raise)
theorem Kept.beginMove {m : Move} {k : Nat} (h : Kept K s₀ s) : Kept K s₀ (beginMove s m k) := h.pw.refreshReady
theorem Kept.nextStep {k : Nat} (h : Kept K s₀ s) : Kept K s₀ (nextStep s k) := by
  unfold Machine.nextStep
  split
  · exact h.pw.stepReady
  · exact h
theorem Kept.armWake (h : Kept K s₀ s) : Kept K s₀ (armWake s) := .ite h.disarm h.armAt
theorem Kept.enterRest (h : Kept K s₀ s) : Kept K s₀ (enterRest s) := h.pw.armWake
theorem Kept.endMove {st : Nat} (h : Kept K s₀ s) : Kept K s₀ (endMove s st) :=
  .ite h.setF.setF.setF.pw.event.bump.setF.stepReady.enterRest h.setF.setF.setF.pw.event.bump.setF.stepReady.disarm
theorem Kept.sleepNow (h : Kept K s₀ s) : Kept K s₀ (sleepNow s) := h.endMove.sleepClock
@[simp] theorem Answers.execSleepToStandby (h : Kept False s₀ s) : Answers s₀ (execSleepToStandby s) :=
  .ite (.next (.ite h.beginMove h.railWait)) (.next h)
theorem Kept.holdPorts (h : Kept K s₀ s) : Kept K s₀ (holdPorts s) := h.foldl (fun h => .ite h.bt.setF h)
theorem Kept.trimOscillator {osc : OscReading} (h : Kept K s₀ s) : Kept K s₀ (trimOscillator s osc) := .ite h.pw h.rejectP
@[simp] theorem Answers.execStandbyToReady {osc : OscReading} (h : Kept False s₀ s) : Answers s₀ (execStandbyToReady osc s) := by
  unfold Machine.execStandbyToReady
  extract_lets failed
  refine .ite (.ite ?_ (.next h.railWait)) (.next h)
  extract_lets
  rename_i s1
  have h1 : Kept False s₀ s1 := .ite h.resetWarm.connectDeckA.holdPorts.setF h.resetIslands
  exact .next h1.trimOscillator.beginMove.startPll.startPll.startPll
theorem Kept.startWork {k : Nat} (h : Kept K s₀ s) : Kept K s₀ (startWork s k) := .ite h.beginPowerUp (.ite (h.foldl (·.openAndRamp)) h)
@[simp] theorem Answers.execReadyToHold (h : Kept False s₀ s) : Answers s₀ (execReadyToHold s) :=
  .ite (.ite (.next h.beginMove.startWork) (.next h.railWait)) (.next h)
theorem Kept.startCode {n l t d : Nat} (h : Kept K s₀ s) : Kept K s₀ (startCode n l t s d) := .setPath (.trimCode h.putMI.putM.putM.fastCode)
theorem Kept.keepCode {n l d : Nat} (h : Kept K s₀ s) : Kept K s₀ (keepCode n l s d) := h.setPath
theorem Kept.startPier {g : Nat} (h : Kept K s₀ s) : Kept K s₀ (startPier s g) :=
  .unless (.ite h.keepCode.keepCode (.ite h.setF.event.bump.keepCode.keepCode h.setF.startCode.startCode)) (·.leavePark)
theorem Kept.startPass (h : Kept K s₀ s) : Kept K s₀ (startPass s) := by
  unfold Machine.startPass
  dsimp only
  split
  · exact h.dr.clearKeystone.foldl (·.startPier)
  · exact h.dr.clearKeystone
theorem Kept.endPowerUp (h : Kept K s₀ s) : Kept K s₀ (endPowerUp s) :=
  ((h.foldl (·.abandonStep)).foldl (fun h => .when (.ite h.endRun h) (·.endRun))).storeAfterPowerUp
theorem Kept.descend (h : Kept K s₀ s) : Kept K s₀ (descend s) := h.beginMove.parkRequest.clearKeystone
theorem Kept.holdStepEnd {m : Moving} (h : Kept K s₀ s) : Kept K s₀ (holdStepEnd s m) := by
  unfold Machine.holdStepEnd
  dsimp only
  split
  · exact
      .ite (.ite h.pw.descend (.ite (.ite h h.railWait) h.nextStep.startWork)) <|
      .ite h.endPowerUp.pw.descend (.ite (h.endPowerUp.unless (·.railWait)) h.endPowerUp.nextStep.startWork)
  · exact
      .ite h <|
      .ite (.ite h.pw.descend (.ite (.ite h h.railWait) h.nextStep.startWork)) <|
      .startPass (.ite h.pw.descend (.ite (.ite h h.railWait) h.nextStep.startWork))
  · exact .ite h.pw.descend (.ite (.ite h h.railWait) h.nextStep.startWork)
  · exact .ite h (.ite (.ite h.pw.descend (.ite (.ite h h.railWait) h.nextStep.startWork)) h.endMove)
@[simp] theorem Answers.execTransitionStepEnd (h : Kept False s₀ s) : Answers s₀ (execTransitionStepEnd s) := by
  unfold Machine.execTransitionStepEnd
  split
  · exact .next h
  · split
    · exact .next (.ite h.endMove h)
    · exact .ite (.next (.ite h.nextStep h)) (.next h.joinAll.endMove.bt)
    · exact .next h.holdStepEnd
    · exact .next (.ite h.endMove h)
    · exact .next h.endMove
    · exact .next h.sleepNow
    · exact .next h
    · exact .next h
@[simp] theorem Answers.execHoldToService (h : Kept False s₀ s) : Answers s₀ (execHoldToService s) := .ite (.next (.ite h.endMove h.railWait)) (.next h)
@[simp] theorem Answers.execServiceToHold (h : Kept False s₀ s) : Answers s₀ (execServiceToHold s) := .ite (.next h.endMove) (.next h)
@[simp] theorem Answers.execHoldToReady (h : Kept False s₀ s) : Answers s₀ (execHoldToReady s) := .ite (.next h.descend) (.next h)
theorem Kept.leaveReady (h : Kept False s₀ s) : Kept False s₀ (leaveReady s) :=
  ((h.abandonHost.abandonJobs.stopPlls.foldl (·.setF)).dropRuns.closeClamps.foldl (·.setLink)).bt
@[simp] theorem Answers.execReadyToStandby (h : Kept False s₀ s) : Answers s₀ (execReadyToStandby s) := .ite (.next h.beginMove.leaveReady) (.next h)
theorem Kept.enterSleep {retain : Bool} (h : Kept K s₀ s) : Kept K s₀ (enterSleep s retain) := by
  unfold Machine.enterSleep
  extract_lets keep s1
  have h1 : Kept K s₀ s1 := h.setFlag
  refine h1.bt.mem fun hm => ?_
  split
  · exact hm
  · rfl
@[simp] theorem Answers.execStandbyToSleep (h : Kept False s₀ s) : Answers s₀ (execStandbyToSleep s) := .ite (.next h.enterSleep.beginMove) (.next h)
theorem Kept.wake (h : Kept K s₀ s) : Kept K s₀ (wake s) := .ite h (h.noTries.event.when (·.setF))
theorem Kept.collapse (h : Kept False s₀ s) : Kept False s₀ (collapse s) := by
  unfold Machine.collapse
  extract_lets s1 _
  have h1 : Kept False s₀ s1 := h.breakFlash.abandonJobs.stopPlls.resetIslands
  clear_value s1
  exact h1.bt.noTries
theorem Kept.restIn {st : Nat} (h : Kept K s₀ s) : Kept K s₀ (restIn s st) := .unless (.ite h.enterState.sleepClock h.enterState) (·.enterRest)
@[simp] theorem Answers.execRstNAssert (h : Kept False s₀ s) : Answers s₀ (execRstNAssert s) := .next h.collapse.pw.restIn
@[simp] theorem Answers.execRstNRise (h : Kept False s₀ s) : Answers s₀ (execRstNRise s) := .next h.pw.wake
@[simp] theorem Answers.execWakeTimer (h : Kept False s₀ s) : Answers s₀ (execWakeTimer s) := .ite (.next h.disarm.event.bump.wake) (.next h)
theorem Kept.setRail {i : Nat} {b : Bool} (h : Kept K s₀ s) : Kept K s₀ (setRail s i b) := h.setFlag
theorem Kept.loadFuses (h : Kept K s₀ s) : Kept K s₀ (loadFuses s) := (h.foldl (fun h => (by split; exacts [h.wr, h]))).setF.setFlag
@[simp] theorem Answers.execRailGood {r : Rail} (h : Kept False s₀ s) : Answers s₀ (execRailGood r s) :=
  .next (.ite (h.setRail.when (·.loadFuses)).recheckConditions.restIn (h.setRail.when (·.loadFuses)).recheckConditions.refreshReady)
theorem Kept.loseVdd (h : Kept False s₀ s) : Kept False s₀ (loseVdd s) := by
  unfold Machine.loseVdd
  extract_lets s1 s2
  have h2 : Kept False s₀ s2 := h.collapse.memRegs (x := []) (fun _ => rfl) (cellWf_cellDrop _ _ _)
  exact h2.setF.restIn
theorem Kept.tollPark (h : Kept K s₀ s) : Kept K s₀ (tollPark s) := h.parkRequest.bump
@[simp] theorem Answers.execRailBad {r : Rail} (h : Kept False s₀ s) : Answers s₀ (execRailBad r s) := by
  unfold Machine.execRailBad
  extract_lets i
  refine .ite (.next h) ?_
  extract_lets
  rename_i s1 s2 s3
  have h2 : Kept False s₀ s2 := h.setRail.when (·.event.bump)
  have h3 : Kept False s₀ s3 := by
    unfold s3
    split
    · exact h2.loseVdd
    · exact .ite h2.closeClamps.tollPark.raise h2.closeClamps
    · exact .ite h2.tollPark.raise h2
    · exact .ite h2.breakFlash.abandonJobs h2
    · exact h2
  exact .next h3.refreshReady
@[simp] theorem Answers.execHtrTrkUpdate (h : Kept False s₀ s) : Answers s₀ (execHtrTrkUpdate s) := by
  unfold Machine.execHtrTrkUpdate
  extract_lets want now
  split
  next he =>
  have h1 := Kept.snd (Kept.divFree (Kept.pw h)) he
  exact .next h1.setF.setF
@[simp] theorem Answers.execVthPowerLoss (h : Kept False s₀ s) : Answers s₀ (execVthPowerLoss s) :=
  .next (h.breakFlash.update ⟨rfl, fun _ => rfl⟩ fun ⟨⟨_, _, hf⟩, _⟩ => ⟨⟨good_reset.1.1, good_reset.1.2.1, hf⟩, good_reset.2⟩)
@[simp] theorem Answers.execVthPowerOn (h : Kept False s₀ s) : Answers s₀ (execVthPowerOn s) :=
  .next (h.update ⟨rfl, fun _ => rfl⟩ fun ⟨⟨_, _, hf⟩, _⟩ => ⟨⟨good_reset.1.1, good_reset.1.2.1, hf⟩, good_reset.2⟩)
@[simp] theorem Answers.execXtalValid (h : Kept False s₀ s) : Answers s₀ (execXtalValid s) := .ite (.next h) (.next h.switchClock)

/-! ### Flash -/

theorem Kept.refuseFlash (h : Kept K s₀ s) : Kept K s₀ (refuseFlash s) := h.event.bump
theorem Kept.nvCommand {op : Nat} {allowed : Bool} (h : Kept K s₀ s) : Kept K s₀ (nvCommand s op allowed).1 := by
  unfold Machine.nvCommand
  generalize opRange s op = r
  split
  · exact h
  · dsimp only
    split_ifs
    exacts [h.refuseFlash, h.refuseFlash, h.refuseFlash, h.bt.setFlag, h.bt.setFlag]
theorem Kept.readToBuf {a n : Nat} (h : Kept K s₀ s) : Kept K s₀ (readToBuf s a n) := by
  refine h.foldl fun h => ?_
  dsimp only
  split
  · exact h.setF
  · exact h.fresh.setF
theorem Kept.applyHost {h' : HostOp} {ok : Bool} (h : Kept False s₀ s) : Kept False s₀ (applyHost s h' ok) := by
  unfold Machine.applyHost
  split
  · exact .bump (.ite h.readToBuf h)
  · exact .footDirty (.bump (.ite h.flashProgram h.flashUndefined))
  · exact .footDirty (.bump (.ite h.flashErase h.flashUndefined))
@[simp] theorem Answers.execFlashOpDone {ok : Bool} (h : Kept False s₀ s) : Answers s₀ (execFlashOpDone ok s) := by
  unfold Machine.execFlashOpDone
  split
  · exact .ite (.next h) (.ite (.next h.bt.event.bump.setFlag) (.next (h.bt.applyHost.event.setFlag.unless (·.event.bump)).nextFlash))
  · exact .next h

/-! ### Route -/

theorem Kept.projectTargets {ts : List (Nat × Nat)} (h : Kept K s₀ s) : Kept K s₀ (projectTargets s ts) := h.ks
theorem Kept.countRoute {m : EMap} {q : Request} {ns : Nat} (h : Kept K s₀ s) : Kept K s₀ (countRoute s m q ns) := by
  unfold Machine.countRoute
  dsimp only
  split
  · exact h.bump.setF.setF.bump
  · exact h.bump.setF.setF.bump.histogram
  · exact h.bump.setF.setF.bump
theorem Kept.routeCancelled {q : Request} {code index detail : Nat} (h : Kept K s₀ s) : Kept K s₀ (routeCancelled s q code index detail) :=
  .cancelRequest (by split; exacts [h.event.bump, h.event.bump, h.bump])
theorem Kept.routeStaged {q : Request} {conns : List Conn} {cs : List Circuit} {gs : List Group} {ts dl : List (Nat × Nat)}
    {a b : Option (List (Nat × Nat))} (h : Kept K s₀ s) :
    Kept K s₀ (routeStaged s q conns cs gs ts dl a b) :=
  (h.projectTargets.ks.dr.updateRequest.when (·.queueReport.bumpBy)).showKeystone
theorem Kept.routeFaults {q : Request} {j : Judged} (h : Kept K s₀ s) : Kept K s₀ (routeFaults s q j) := by
  unfold Machine.routeFaults
  extract_lets s1 noA noB s2 s3
  have h1 : Kept K s₀ s1 := .ite h h.event.bump.raise
  have h2 : Kept K s₀ s2 := h1.when (·.event.bumpBy)
  have h3 : Kept K s₀ s3 := .ite h2.lowerAll.lowerAll.raise (.ite h2.lowerAll (h2.when (·.lowerAll)))
  split
  · exact h3.lowerAll
  · exact h3
@[simp] theorem Answers.execRouteDone {ns : Nat} {half0 half1 : RouteHalf} {checkA checkB : CheckerUpset} {ecc : List MemUpset} (h : Kept False s₀ s) :
    Answers s₀ (execRouteDone ns half0 half1 checkA checkB ecc s) := by
  unfold Machine.execRouteDone
  split
  · refine .ite (.next h) ?_
    dsimp only
    split
    · exact .next (Kept.unless h.meetEcc (·.ks)).fresh.countRoute.routeFaults.ks.showKeystone
    · split
      · exact .next (Kept.unless h.meetEcc (·.ks)).fresh.countRoute.routeFaults.routeCancelled.showKeystone
      · exact .next (Kept.unless h.meetEcc (·.ks)).fresh.countRoute.routeFaults.routeStaged
  · exact .next h
theorem Kept.failWord {i v : Nat} (h : Kept K s₀ s) : Kept K s₀ (failWord s i v) := h.foldl (·.markFailed)

/-! ### RegWrite -/

theorem Kept.storeWrite {a : Nat} {v : Word} (h : Kept K s₀ s) : Kept K s₀ (storeWrite s a v) := by
  unfold Machine.storeWrite
  split
  · exact h.wr
  · exact h
theorem Kept.partitionWritten {a : Nat} {v : Word} (h : Kept K s₀ s) : Kept K s₀ (partitionWritten s a v) := by
  unfold Machine.partitionWritten
  exact .ite h.event h.storeWrite
theorem Kept.lsCtrlWritten {v : Word} (h : Kept K s₀ s) : Kept K s₀ (lsCtrlWritten s v) :=
  .refreshReady (.unless (.ite h.swapWritten h) (·.enCleared))
theorem Kept.bankWritten {b a : Nat} {v : Word} (h : Kept K s₀ s) : Kept K s₀ (bankWritten s b a v) := .ite h.event h.storeWrite
theorem Kept.pipeWritten (h : Kept K s₀ s) : Kept K s₀ (pipeWritten s) := .refreshReady (.ite h h.stopSchedule)
theorem Kept.unfreezeAll (h : Kept K s₀ s) : Kept K s₀ (unfreezeAll s) := h.foldl (fun h => .ite h.unfreeze h)
theorem Kept.tcCtrlWritten {v : Word} (h : Kept K s₀ s) : Kept K s₀ (tcCtrlWritten s v) :=
  .unless (.when (.when (.ite h.captureArm h) (·.captureStop)) (·.captureForce)) (·.setF)
theorem Kept.streamWritten {k : Nat} (h : Kept K s₀ s) : Kept K s₀ (streamWritten s k) := .ite (h.tc.unless (·.setCont)) h
theorem Kept.cpWrite {p a : Nat} {v : Word} (h : Kept K s₀ s) : Kept K s₀ (cpWrite s p a v) := h.storeWrite.when (·.cpCtrlEffect)
theorem Kept.tgWrite {a : Nat} {v : Word} (h : Kept K s₀ s) : Kept K s₀ (tgWrite s a v) :=
  .ite (h.storeWrite.when (·.commit)) <|
  .ite (h.storeWrite.when (·.fwqPop)) (.ite h.storeWrite.ruleOp (h.storeWrite.when (·.policerWritten)))
theorem Kept.adWrite {a : Nat} {v : Word} (h : Kept K s₀ s) : Kept K s₀ (adWrite s a v) :=
  .ite h.partitionWritten <|
  .ite h.storeWrite.pipeWritten (.ite (.ite h.storeWrite.laneLoad (h.storeWrite.when (·.laneWrite))) (h.storeWrite.when (·.shaperWritten)))
theorem Kept.ntWrite {a : Nat} {v : Word} (h : Kept K s₀ s) : Kept K s₀ (ntWrite s a v) :=
  .ite h.bankWritten (.ite h.bankWritten (h.storeWrite.when (·.lsCtrlWritten)))
theorem Kept.ksWrite {a : Nat} {v : Word} (h : Kept K s₀ s) : Kept K s₀ (ksWrite s a v) := .ite h.failWord (.ite h.clearFailed h.storeWrite)
theorem Kept.exclWritten {r : State} {d i : Nat} {v : Word} (h : Kept K s₀ s) : Kept K s₀ (exclWritten r s d i v) :=
  h.foldl fun h => .ite h.raise.markFailed h

theorem Kept.dkCtrlWritten {r : State} (h : Kept K s₀ s) : Kept K s₀ (dkCtrlWritten r s) := by
  unfold Machine.dkCtrlWritten
  exact .andThen (.ite h.unfreezeAll h) fun h => .ite h.applyNom h.dk.setF

theorem Kept.dkWrite {a : Nat} {v : Word} (h : Kept K s₀ s) : Kept K s₀ (dkWrite s a v) := by
  unfold Machine.dkWrite
  refine .andThen (h.storeWrite (a := a) (v := v)) fun h => .ite h.dkCtrlWritten (.ite (h.when (·.kick)) (.ite (h.when (·.kick)) ?_))
  exact .ite ((h.when (·.handover)).when (·.resync)) <|
    .ite h.returnPath (.ite h.exclWritten (.ite h.exclWritten (.ite ((h.when (·.sweepCommand)).when (·.startStore)) h)))
theorem Kept.aliveWritten {r : State} (h : Kept K s₀ s) : Kept K s₀ (aliveWritten r s) := by
  unfold Machine.aliveWritten
  split
  · exact .ite h h.free.fc
  · exact h.fc

theorem Kept.fcWrite {master a : Nat} {v : Word} (h : Kept K s₀ s) : Kept K s₀ (fcWrite s master a v) :=
  .ite h.clearFault (.ite h.storeWrite.aliveWritten h.storeWrite)
theorem Kept.tcWrite {a : Nat} {v : Word} (h : Kept K s₀ s) : Kept K s₀ (tcWrite s a v) :=
  .ite h.storeWrite.tcCtrlWritten (h.storeWrite.when (·.streamWritten))
theorem Kept.nvWrite {mayFlash : Bool} {a : Nat} {v : Word} (h : Kept K s₀ s) : Kept K s₀ (nvWrite s mayFlash a v).1 := by
  unfold Machine.nvWrite
  split
  · exact h.nvCommand
  · exact h.storeWrite
theorem Kept.targetWritten {r : State} (h : Kept K s₀ s) : Kept K s₀ (targetWritten r s) := by
  unfold Machine.targetWritten
  exact .andThen (.ite h.setF h) fun h => h.runFalls.refreshReady

theorem Kept.hkCtrlWritten {r : State} (h : Kept K s₀ s) : Kept K s₀ (hkCtrlWritten r s) :=
  .showZones (.ite (h.th.foldl (·.hkFresh)) h)

theorem Kept.hkEntryWritten {r : State} {i : Nat} (h : Kept K s₀ s) : Kept K s₀ (hkEntryWritten r s i) :=
  .showZones (.hkFresh (.ite h h.setF))

theorem Kept.thWrite {a : Nat} {v : Word} (h : Kept K s₀ s) : Kept K s₀ (thWrite s a v) := by
  unfold Machine.thWrite
  refine .andThen (h.storeWrite (a := a) (v := v)) fun h => .ite h.targetWritten (.ite h.hkCtrlWritten (.ite (h.when (·.armWake)) ?_))
  exact .ite (h.when (·.urgentWritten)) (.ite h.hkEntryWritten h)
theorem Kept.spanWrite {n a : Nat} {v : Word} (h : Kept K s₀ s) : Kept K s₀ (spanWrite s n a v) :=
  .ite h.storeWrite.pselOp (.ite h.storeWrite.periodWritten (h.storeWrite.when (fun h => .ite (.ite h h.forcePark) (.ite h.releasePark h))))
theorem Kept.regWritten {master : Nat} {mayFlash : Bool} {a : Nat} {v : Word} (h : Kept K s₀ s) : Kept K s₀ (regWritten s master mayFlash a v).1 := by
  rw [regWritten_windows]
  refine .iteFst h (.iteFst h.spanWrite (.iteFst h.tgWrite (.iteFst h.adWrite (.iteFst h.ntWrite (.iteFst h.ksWrite (.iteFst h.dkWrite ?_))))))
  exact .iteFst h.fcWrite (.iteFst h.storeWrite (.iteFst h.tcWrite (.iteFst h.storeWrite (.iteFst h.nvWrite (.iteFst h.storeWrite
    (.iteFst h.cpWrite h.thWrite))))))

/-! ### Bus -/

theorem Kept.setLatch {master : Nat} {x : Option (Nat × Nat)} (h : Kept K s₀ s) : Kept K s₀ (setLatch s master x) := h.latches (cellWf_cellPut _ _ _ _)
theorem Kept.counterRead {master a : Nat} (h : Kept K s₀ s) : Kept K s₀ (counterRead s master a).2 := by
  unfold Machine.counterRead
  split
  · split
    · split
      · exact h.setLatch
      · exact h
    · exact h
  · split
    · exact h.setLatch
    · exact h
theorem Kept.clearOnRead {a : Nat} (h : Kept K s₀ s) : Kept K s₀ (clearOnRead s a) := by
  unfold Machine.clearOnRead
  split
  · exact .ite h.wr h
  · exact h
theorem Kept.registerRead {master a : Nat} (h : Kept K s₀ s) : Kept K s₀ (registerRead s master a).2 := by
  unfold Machine.registerRead
  dsimp only
  split
  · exact h.counterRead.nt
  · exact h.counterRead.clearOnRead
theorem Kept.memoryWrite {a key : Nat} {w : Word} (h : Kept K s₀ s) : Kept K s₀ (memoryWrite s a key w) := h.wrMem.when (·.ttWritten)
theorem Kept.busError {master a kind : Nat} {write : Bool} (h : Kept K s₀ s) : Kept K s₀ (busError s master a kind write) :=
  .bump (.event (.ite h h.wr.setFlag.setF.setF))
theorem Kept.noteWait {master ns : Nat} (h : Kept K s₀ s) : Kept K s₀ (noteWait s master ns) := h.setF
theorem Kept.beginLock {master target : Nat} (h : Kept K s₀ s) : Kept K s₀ (beginLock s master target) := h.bm.setFlag.setF.armAt
theorem Kept.brokenAccess {master : Nat} {u : LockUse} (h : Kept K s₀ s) : Kept K s₀ (brokenAccess s master u) := .ite h.bm h
@[simp] theorem Answers.execLockBreak (h : Kept False s₀ s) : Answers s₀ (execLockBreak s) := by
  unfold Machine.execLockBreak
  split
  · exact .ite (.next h.releaseLock.event.bump.bm) (.next h)
  · exact .next h
theorem Kept.placeWrite {master : Nat} {mayFlash : Bool} {a : Nat} {w : Word} {enables : BitVec 4} (h : Kept K s₀ s) :
    Kept K s₀ (placeWrite s master mayFlash a w enables).1 := by
  unfold Machine.placeWrite
  split
  · exact h.regWritten
  · exact h.memoryWrite
  · exact h
/-- A lock is granted, refused or left to wait with the queue and the tables as they are. -/
theorem Kept.arbitrate {master target : Nat} {u : LockUse} {t : State} (h : Kept K s₀ s)
    (ht : Machine.arbitrate s master target u = .granted t ∨ Machine.arbitrate s master target u = .refused t) : Kept K s₀ t := by
  unfold Machine.arbitrate at ht
  split at ht <;> split_ifs at ht <;> simp only [Grant.granted.injEq, Grant.refused.injEq, or_false, false_or, or_self] at ht <;> subst ht
  exacts [h.brokenAccess, h, h, h.releaseLock, h, h.releaseLock, h.bm, h, h.brokenAccess, h, h.beginLock]

theorem Kept.busWrite {master : Nat} {mayFlash : Bool} {a : Nat} {w : Word} {wait : Nat} {u : LockUse} {enables : BitVec 4} (h : Kept K s₀ s) :
    Kept K s₀ (busWrite s master mayFlash a w wait u enables).1 := by
  unfold Machine.busWrite
  split
  · exact h
  · split
    · exact h
    next he => exact (h.arbitrate (.inr he)).noteWait.busError
    next he =>
      have h := h.arbitrate (.inl he)
      dsimp only
      split
      · exact h.noteWait.busError
      · exact h.noteWait.placeWrite
theorem Kept.placeRead {master a : Nat} (h : Kept K s₀ s) : Kept K s₀ (placeRead s master a).2 := by
  unfold Machine.placeRead
  split
  · exact h.registerRead
  · exact h
theorem Kept.busRead {master a wait : Nat} {u : LockUse} {enables : BitVec 4} (h : Kept K s₀ s) :
    Kept K s₀ (busRead s master a wait u enables).1 := by
  unfold Machine.busRead
  dsimp only
  split
  · exact h
  · split
    · exact h
    next he => exact (h.arbitrate (.inr he)).noteWait.busError.bm
    next he =>
      have h := h.arbitrate (.inl he)
      split
      · exact h.noteWait.busError.bm
      · exact h.placeRead.noteWait.bm
theorem Kept.rowWrite {a : Nat} {w : RegWrite} (h : Kept K s₀ s) : Kept K s₀ (rowWrite s a w) := h.busWrite

/-! ### Boot -/

theorem Kept.loadPayload {slot d : Nat} (h : Kept K s₀ s) : Kept K s₀ (loadPayload s slot d) := h.wrBytes
theorem Kept.startCluster {d : Nat} (h : Kept K s₀ s) : Kept K s₀ (startCluster s d) := h.setF.setFlag.kick
theorem Kept.recoveryPort {p : Nat} (h : Kept K s₀ s) : Kept K s₀ (recoveryPort s p) := .ite h.wr.setF.setF.cpCtrlEffect h
theorem Kept.enterRecovery (h : Kept K s₀ s) : Kept K s₀ (enterRecovery s) := (h.setF.bt.foldl (·.recoveryPort)).recoveryClamps.refreshReady
theorem Kept.copyRecord {r : FootRec} (h : Kept K s₀ s) : Kept K s₀ (copyRecord s r) := h.wrBytes.when (·.wrBytes)
theorem Kept.judgeTables {n : Nat} (h : Kept K s₀ s) : Kept K s₀ (judgeTables s n) := h.foldl (·.ttWritten)
theorem Kept.loadRules {p : List Byte} (h : Kept K s₀ s) : Kept K s₀ (loadRules s p) := h.foldl (fun h => h.foldl (·.setRuleWord))
theorem Kept.loadLanes {p : List Byte} (h : Kept K s₀ s) : Kept K s₀ (loadLanes s p) := h.foldl (·.setLane)
theorem Kept.loadSched {p : List Byte} (h : Kept K s₀ s) : Kept K s₀ (loadSched s p) := h.setF.setF.setF.foldl (·.wr)
theorem Kept.loadPark {p : List Byte} (h : Kept K s₀ s) : Kept K s₀ (loadPark s p) := h.foldl (·.setF.setF)
theorem Kept.freshLoops (h : Kept K s₀ s) : Kept K s₀ (freshLoops s) := h.mem (cellWf_cellDrop _ _ s.mem)
theorem Kept.loadRecord {r : FootRec} (h : Kept K s₀ s) : Kept K s₀ (loadRecord s r) := by
  unfold Machine.loadRecord
  split
  · exact h.copyRecord
  · exact h.bt
  · exact h.ks
  · exact h.loadRules
  · exact h.loadLanes
  · exact h.loadSched
  · exact h.loadPark
  · exact h
theorem Kept.applyPairs {ps : List (Nat × Word)} (h : Kept K s₀ s) : Kept K s₀ (applyPairs s ps) :=
  h.foldl (fun h => (by split; exacts [.ite h.storeWrite.bt h.regWritten, h.memoryWrite, h]))
theorem Kept.clearDestinations {rs : List FootRec} (h : Kept K s₀ s) : Kept K s₀ (clearDestinations s rs) := by
  unfold Machine.clearDestinations
  extract_lets copies hit
  refine h.memRegs (cellWf_cellDrop _ _ s.mem) fun hr => ?_
  split
  · exact hr
  · exact cellWf_cellDrop _ _ _ hr
theorem Kept.joinLife {i v : Nat} (h : Kept K s₀ s) : Kept K s₀ (joinLife s i v) := h.wr.lifeBy
theorem Kept.joinHist {i v : Nat} (h : Kept K s₀ s) : Kept K s₀ (joinHist s i v) := h.wr
theorem Kept.loadLife {r : LogRec} (h : Kept K s₀ s) : Kept K s₀ (loadLife s r) := ((h.ty.foldl (·.joinLife)).foldl (·.joinHist)).setF.setFlag
/-- The readers of the log stay names here: the kernel would otherwise read a log of 4,096 bytes a sector to compare two states. -/
theorem Kept.readLog (h : Kept K s₀ s) : Kept K s₀ (readLog s) := by
  unfold Machine.readLog
  generalize newestRecord = newest, newestSector = sector
  revert newest sector
  refine id fun newest sector => .ite h ?_
  extract_lets _ s0
  have h0 : Kept K s₀ s0 := h.th
  clear_value s0
  split
  · exact h0.th.setFlag
  · extract_lets recent top next s1 s2
    have h1 : Kept K s₀ s1 := h0.th
    have h2 : Kept K s₀ s2 := by
      unfold s2
      split
      · exact h1.epoch
      · exact h1
    split
    · exact h2.loadLife
    · exact h2.setFlag
theorem Kept.epochStep (h : Kept K s₀ s) : Kept K s₀ (epochStep s) := h.readLog.bt.queueJob
theorem Kept.sfdpRead {x : Sfdp} (h : Kept K s₀ s) : Kept K s₀ (sfdpRead s x) := h.setF.setF.setFlag
theorem Kept.sfdpFailed (h : Kept K s₀ s) : Kept K s₀ (sfdpFailed s) := h.setF.setFlag.bt.when (·.setFlag.enterState)
@[simp] theorem Answers.execColdStart {sfdp : Sfdp} (h : Kept False s₀ s) : Answers s₀ (execColdStart sfdp s) := by
  unfold Machine.execColdStart
  refine .ite (.next h) ?_
  extract_lets s0 s1
  have h0 : Kept False s₀ s0 := .ite h.joinAll (h.mem (cellWf_cellDrop _ _ s.mem)).bump.life
  have h1 : Kept False s₀ s1 := h0.setF
  exact .ite (.next h1.sfdpFailed) (.ite (.next h1.sfdpRead.enterRecovery) (.next h1.sfdpRead.setF.bt))
@[simp] theorem Answers.execFirmwareVerifyDone (h : Kept False s₀ s) : Answers s₀ (execFirmwareVerifyDone s) := by
  unfold Machine.execFirmwareVerifyDone
  refine .ite (.next h) ?_
  split
  · exact .next h.enterRecovery
  · extract_lets s1
    have h1 : Kept False s₀ s1 := h.loadPayload.loadPayload
    exact .ite (.next h1.setF.setF.setFlag.startCluster.startCluster.setF.bt) (.ite (.next h1.enterRecovery) (.next h1.bt))
@[simp] theorem Answers.execFootingCheckDone (h : Kept False s₀ s) : Answers s₀ (execFootingCheckDone s) := by
  unfold Machine.execFootingCheckDone
  refine .ite (.next h) ?_
  dsimp only
  split
  · exact .next h.clearDestinations.setF.setF.enterRecovery
  · refine .next (.epochStep (.readSlots (.ks (.applyPairs (.setF (.setF ?_))))))
    exact (h.freshLoops.foldl (·.loadRecord)).foldl (·.judgeTables)
@[simp] theorem Answers.execWarmStart {sfdp : Sfdp} {scrubOk : Bool} (h : Kept False s₀ s) : Answers s₀ (execWarmStart sfdp scrubOk s) :=
  .ite (.next h) <|
  .ite (.next h.sfdpFailed) <|
  .ite (.next h.sfdpRead.setF.bump.life.bt.startCluster.startCluster.epochStep) (.next h.sfdpRead.bt.resetIslands.joinAll.setFlag.bt)
@[simp] theorem Answers.execClusterRestart {d : Deck} (h : Kept False s₀ s) : Answers s₀ (execClusterRestart d s) :=
  .ite (.next h) (.next (h.jointUp.loadPayload.when (·.startCluster)))
theorem Kept.endRecovery (h : Kept K s₀ s) : Kept K s₀ (endRecovery s) := h.setFlag.setF.fc.event.life.setF
theorem Kept.epochWritten (h : Kept K s₀ s) : Kept K s₀ (epochWritten s) :=
  .ite h (((h.epoch.life.setFlag.settleOwners.foldl (·.cpWrite)).setF.when (·.endRecovery)).bt.when (·.queueJob)).refreshReady
theorem Kept.epochFailed (h : Kept K s₀ s) : Kept K s₀ (epochFailed s) := h.bt
theorem Kept.jobDone {j : Job} (h : Kept K s₀ s) : Kept K s₀ (jobDone s j) := by
  unfold Machine.jobDone
  dsimp only
  split
  · exact h.bump.epochWritten
  · exact h.bump.setF.setF
  · exact h.bump.setFlag.setF.event
  · exact h.bump
theorem Kept.applyFlashOp {ok : Bool} {op : FlashOp} (h : Kept False s₀ s) : Kept False s₀ (applyFlashOp s ok op) :=
  .ite h (by split; exacts [.bump (.ite h.flashProgram h.flashUndefined), .when (.ite h.flashErase h.flashUndefined) (·.life)])
theorem Kept.dropJob {j : Job} (h : Kept K s₀ s) : Kept K s₀ (dropJob s j) := h.th.abandonJob.when (·.epochFailed)
theorem Kept.meetTollUe {ue : Option (BitVec 18)} (h : Kept K s₀ s) : Kept K s₀ (meetTollUe s ue) := by
  unfold Machine.meetTollUe
  split
  · exact h.raise
  · exact h
@[simp] theorem Answers.execTollhousePageDone {ok : Bool} {ue : Option (BitVec 18)} (h : Kept False s₀ s) : Answers s₀ (execTollhousePageDone ok ue s) := by
  unfold Machine.execTollhousePageDone
  split
  · exact .next (.nextFlash (.showWriting (.ite h.th.applyFlashOp.meetTollUe.dropJob (h.th.applyFlashOp.meetTollUe.when (·.th.jobDone)))))
  · exact .next h.th.applyFlashOp.meetTollUe.nextFlash
  · exact .next h
@[simp] theorem Answers.execCalRecordWriteDone (h : Kept False s₀ s) : Answers s₀ (execCalRecordWriteDone s) := by
  unfold Machine.execCalRecordWriteDone
  split
  · exact .ite (.next h.th.recordWritten.showWriting.nextFlash) (.next h)
  · exact .next h
@[simp] theorem Answers.execQuietPeriodEnd (h : Kept False s₀ s) : Answers s₀ (execQuietPeriodEnd s) :=
  .ite (.next h) <|
  .ite (.next h.disarm.setFlag.setFlag) (.next (h.disarm.setFlag.abandonHost.resetForRecovery.foldl (·.startPll)).setFlag.bt)

/-! ### Hk -/

theorem Kept.fillRecord {source entry temp : Nat} (h : Kept K s₀ s) : Kept K s₀ (fillRecord s source entry temp) :=
  h.setF.setF.setF.setFlag.setF.setF
theorem Kept.stopFlash (h : Kept False s₀ s) : Kept False s₀ (stopFlash s) := by
  unfold Machine.stopFlash
  split
  · exact h
  · exact .showWriting (by split; exacts [h.th.flashUndefined.dropJob, h.th.flashUndefined])
  · exact .showWriting (by split; exacts [h.dropJob, h])
theorem Kept.decideTsd {source entry temp : Nat} (h : Kept False s₀ s) : Kept False s₀ (decideTsd s source entry temp) := by
  unfold Machine.decideTsd
  refine .ite h (.ite (.ite h h.fillRecord.setFlag) ?_)
  extract_lets s1 s2 _ _ s3
  have h2 : Kept False s₀ s2 := h.fillRecord.setFlag.event.bump.life.tollPark.discardRequests
  clear_value s2
  have h3 : Kept False s₀ s3 := Kept.stopFlash (.abandonHost (h2.update ⟨rfl, fun _ => rfl⟩ id))
  exact h3.armIn.refreshReady
@[simp] theorem Answers.execTsdNoSensorTimeout (h : Kept False s₀ s) : Answers s₀ (execTsdNoSensorTimeout s) := .ite (.next h.free.decideTsd) (.next h)
theorem Kept.shutIslands (h : Kept False s₀ s) : Kept False s₀ (shutIslands s) := .disarm (.setFlag (.setFlag (.ite h.leaveReady h.closeClamps)))
@[simp] theorem Answers.execTsdClamp (h : Kept False s₀ s) : Answers s₀ (execTsdClamp s) := by
  unfold Machine.execTsdClamp
  refine .ite ?_ (.next h)
  extract_lets s1 _ s2 s3 s4
  have h1 : Kept False s₀ s1 := h.disarm.shutIslands
  clear_value s1
  have h2 : Kept False s₀ s2 := h1.noTries
  have h3 : Kept False s₀ s3 := .setF (.ite h2.endMove h2)
  have h4 : Kept False s₀ s4 := h3.when (·.enterSleep.sleepNow)
  exact .next h4.setFlag.setFlag.refreshReady
theorem Kept.autoWake (h : Kept K s₀ s) : Kept K s₀ (autoWake s) := .ite h.wake h
theorem Kept.thermistorValue {n : Nat} {x : Int} (h : Kept K s₀ s) : Kept K s₀ (thermistorValue s n x).2 := by
  unfold Machine.thermistorValue
  split <;> exact h.free
theorem Kept.hkMeasure {input gain : Nat} {owd : Bool} {r : HkReading} (h : Kept K s₀ s) : Kept K s₀ (hkMeasure s input gain owd r).2 := by
  unfold Machine.hkMeasure
  extract_lets
  refine .iteSnd h (.iteSnd h (.iteSnd h (.iteSnd ?_ (.iteSnd ?_ ?_))))
  · extract_lets
    split
    next he => exact .snd h.thermistorValue he
  · split
    next he => exact .snd h.divFree he
  · split
    next he => exact .snd h.divFree he
theorem Kept.countResult {r : HkResult} (h : Kept K s₀ s) : Kept K s₀ (countResult s r) := (h.bumpBy.when (·.event.bump)).when (·.bump)
theorem Kept.fireTest {i test : Nat} (h : Kept False s₀ s) : Kept False s₀ (fireTest s i test) :=
  (((h.setF.bump.when (·.event.raise)).when (·.bump.wake)).when (·.tollPark)).when (·.decideTsd)
theorem Kept.runTest {i test n : Nat} {holds rearm : Bool} (h : Kept False s₀ s) : Kept False s₀ (runTest s i test n holds rearm) :=
  .when (.ite h.setF h) (·.fireTest)
theorem Kept.filterResult {i : Nat} {x : Int} (h : Kept False s₀ s) : Kept False s₀ (filterResult s i x) := h.setF.setHkEntry.runTest.runTest.runTest
theorem Kept.applyResult {i : Nat} {r : HkResult} (h : Kept False s₀ s) : Kept False s₀ (applyResult s i r) := by
  unfold Machine.applyResult
  extract_lets s1 s2 s3 s4
  have h2 : Kept False s₀ s2 := by
    unfold s2
    split
    · exact h.countResult.setF
    · exact h.countResult
  have h3 : Kept False s₀ s3 := h2.setFlag.setFlag.setFlag.setFlag
  have h4 : Kept False s₀ s4 := by
    unfold s4
    split
    · exact h3.filterResult
    · exact h3.invalidEntry
  exact h4.showZones
@[simp] theorem Answers.execHkCycleStart (h : Kept False s₀ s) : Answers s₀ (execHkCycleStart s) := by
  unfold Machine.execHkCycleStart
  exact .ite (.next h.th.seekEntry.nextCalConversion.calTemps) (.next h)
theorem Kept.calMeasured {g : Nat} {x : Int} {big : Bool} (h : Kept K s₀ s) : Kept K s₀ (calMeasured s g x big) := by
  unfold Machine.calMeasured
  dsimp only
  split
  · exact .ite h.divFree.setF.setF.accepted h.divFree.rejectP
  · exact .ite h.setF.setF.accepted h.rejectP
theorem Kept.resumeEntry (h : Kept K s₀ s) : Kept K s₀ (resumeEntry s) := .ite h.beginConversion h
theorem Kept.urgentDone {u : Urgent} {r : HkReading} (h : Kept K s₀ s) : Kept K s₀ (urgentDone s u r) := by
  unfold Machine.urgentDone
  split
  next m s1 he =>
  extract_lets
  rename_i s2 s3 s4 _ s5 _
  have h3 : Kept K s₀ s3 := by
    unfold s3
    cases m.value with
    | some v => exact (Kept.snd h.hkMeasure he).countResult.bump.setF
    | none => exact (Kept.snd h.hkMeasure he).countResult.bump
  have h5 : Kept K s₀ s5 := h3.event.setFlag.setFlag.setFlag.th.setFlag.showBusy
  exact .ite h5 (.ite h5.th h5.calMeasured)
@[simp] theorem Answers.execHkConversionDone {r : HkReading} (h : Kept False s₀ s) : Answers s₀ (execHkConversionDone r s) := by
  unfold Machine.execHkConversionDone
  split
  · exact .next (.ite h.urgentDone.nextCalConversion.resumeEntry h)
  · exact .ite (.next h.hkMeasure.applyResult.seekEntry.nextCalConversion.calTemps.autoWake) (.next h)
@[simp] theorem Answers.execUrgentConversion {w : RegWrite} (h : Kept False s₀ s) : Answers s₀ (execUrgentConversion w s) := .next h.rowWrite
theorem Kept.sensorRead {x : JsReading × Nat} (h : Kept K s₀ s) : Kept K s₀ (sensorRead s x) := .ite h.setF.setF h.setF.event.raise
@[simp] theorem Answers.execJsUpdate {readings : List JsReading} (h : Kept False s₀ s) : Answers s₀ (execJsUpdate readings s) := by
  unfold Machine.execJsUpdate
  dsimp only
  split
  · exact .next (h.foldl (·.sensorRead)).setF.calTemps.autoWake
  · exact .next ((h.foldl (·.sensorRead)).th.setF.setF.calTemps.when (·.decideTsd)).autoWake

/-! ### Tally -/

theorem Kept.bankCounter {e : Nat × Nat} (h : Kept K s₀ s) : Kept K s₀ (bankCounter s e) := h.wr.wr
@[simp] theorem Answers.execTallySnapshot (h : Kept False s₀ s) : Answers s₀ (execTallySnapshot s) :=
  .ite (.next (h.ty.foldl (·.bankCounter)).setF.setF.armIn) (.next h)
@[simp] theorem Answers.execCheckpointTimer (h : Kept False s₀ s) : Answers s₀ (execCheckpointTimer s) := .ite (.next h.armIn.queueJob.setFlag) (.next h)
@[simp] theorem Answers.execHistSampleSecond (h : Kept False s₀ s) : Answers s₀ (execHistSampleSecond s) :=
  .next (h.foldl (fun h => (by split; exacts [h.histogram, h])))
@[simp] theorem Answers.execHistSampleHour (h : Kept False s₀ s) : Answers s₀ (execHistSampleHour s) := .next h.histogram
@[simp] theorem Answers.execUptimeSecond (h : Kept False s₀ s) : Answers s₀ (execUptimeSecond s) :=
  .next (((h.setF.when (·.lifeRemainder)).when (·.lifeRemainder)).when (·.lifeRemainder)).fc
@[simp] theorem Answers.execCounterLatchRead {addr : BitVec 32} {r : RegRead} (h : Kept False s₀ s) : Answers s₀ (execCounterLatchRead addr r s) :=
  .next h.busRead
@[simp] theorem Answers.execRcFieldRead {addr : BitVec 32} {r : RegRead} (h : Kept False s₀ s) : Answers s₀ (execRcFieldRead addr r s) := .next h.busRead

/-! ### Alp -/

theorem Kept.regReply {m : Msg} {x : RegRun} (h : Kept K s₀ x.state) : Kept K s₀ (regReply m x) := h.answer

theorem Kept.regRun {m : Msg} {one : RegRun → Nat → RegRun} (hone : ∀ {x k}, Kept K s₀ x.state → Kept K s₀ (one x k).state) (h : Kept K s₀ s) :
    Kept K s₀ (regRun m one s) := by
  refine .ite (.regReply h) (.ite (.regReply h) (.regReply ?_))
  suffices hl : ∀ (l : List Nat) (x : RegRun), Kept K s₀ x.state → Kept K s₀ (l.foldl one x).state from hl _ _ h
  intro l
  induction l with
  | nil => exact fun _ h => h
  | cons k l ih => exact fun _ h => ih _ (hone h)
theorem Kept.readWord {ecc : List MemUpset} {m : Msg} {x : RegRun} {k : Nat} (h : Kept K s₀ x.state) : Kept K s₀ (readWord ecc m x k).state := by
  unfold Machine.readWord
  dsimp only
  split_ifs
  exacts [h, h, h.busRead, h.busRead]

theorem Kept.writeWord {m : Msg} {x : RegRun} {k : Nat} (h : Kept K s₀ x.state) : Kept K s₀ (writeWord m x k).state := by
  unfold Machine.writeWord
  dsimp only
  split_ifs
  exacts [h, h, h.busWrite, h.busWrite]

theorem Kept.regReadStep {ecc : List MemUpset} {m : Msg} (h : Kept K s₀ s) : Kept K s₀ (regReadStep ecc m s) := by
  unfold Machine.regReadStep
  split
  · exact h.refuseStep6
  · exact h.regRun (·.readWord)
theorem Kept.regWriteStep {m : Msg} (h : Kept K s₀ s) : Kept K s₀ (regWriteStep m s) := by
  unfold Machine.regWriteStep
  split
  · exact h.refuseStep6
  · exact h.regRun (·.writeWord)
theorem Kept.regMessage {typ : Nat} {step : Msg → State → State} {mm : Upsets} (hstep : ∀ {m u}, Kept K s₀ u → Kept K s₀ (step m u)) (h : Kept K s₀ s) :
    Kept K s₀ (regMessage typ step mm s) := by
  unfold Machine.regMessage
  split
  · exact h
  · exact .ite h (h.process hstep)
@[simp] theorem Answers.execRegRead {mm : Upsets} (h : Kept False s₀ s) : Answers s₀ (execRegRead mm s) := .next (h.regMessage (·.regReadStep))
@[simp] theorem Answers.execRegWrite {mm : Upsets} (h : Kept False s₀ s) : Answers s₀ (execRegWrite mm s) := .next (h.regMessage (·.regWriteStep))
theorem Kept.queueTelemetry {p k : Nat} {msgs : List OutMsg} (h : Kept K s₀ s) : Kept K s₀ (queueTelemetry s p k msgs) :=
  .ite h.setShaper.bump h.setShaper
theorem Kept.sendTelemetry {p k : Nat} {b : Sub} (h : Kept K s₀ s) : Kept K s₀ (sendTelemetry s p k b) := by
  unfold Machine.sendTelemetry
  split
  · exact h
  · exact h.setLane.queueTelemetry.disarm
@[simp] theorem Answers.execTelemetryPeriod {n : Partner} {stream : Fin 4} (h : Kept False s₀ s) : Answers s₀ (execTelemetryPeriod n stream s) := by
  unfold Machine.execTelemetryPeriod
  split
  · exact .ite (.next h.sendTelemetry.armAt.setSub) (.next h)
  · exact .next h

/-! ### BusRows -/

@[simp] theorem Answers.execEngineReturn {w : RegWrite} (h : Kept False s₀ s) : Answers s₀ (execEngineReturn w s) := .next h.rowWrite
@[simp] theorem Answers.execGenCommit {w : RegWrite} (h : Kept False s₀ s) : Answers s₀ (execGenCommit w s) := .next h.rowWrite
@[simp] theorem Answers.execRuleRead {w : RegWrite} (h : Kept False s₀ s) : Answers s₀ (execRuleRead w s) := .next h.rowWrite
@[simp] theorem Answers.execRuleWrite {w : RegWrite} (h : Kept False s₀ s) : Answers s₀ (execRuleWrite w s) := .next h.rowWrite
@[simp] theorem Answers.execRuleCopy {w : RegWrite} (h : Kept False s₀ s) : Answers s₀ (execRuleCopy w s) := .next h.rowWrite
@[simp] theorem Answers.execPolicerWrite {n : PolicerIx} {word : Fin 2} {w : RegWrite} (h : Kept False s₀ s) : Answers s₀ (execPolicerWrite n word w s) :=
  .next h.rowWrite
@[simp] theorem Answers.execFwqPop {w : RegWrite} (h : Kept False s₀ s) : Answers s₀ (execFwqPop w s) := .next h.rowWrite
@[simp] theorem Answers.execLaneLoad {w : RegWrite} (h : Kept False s₀ s) : Answers s₀ (execLaneLoad w s) := .next h.rowWrite
@[simp] theorem Answers.execLaneWrite {w : RegWrite} (h : Kept False s₀ s) : Answers s₀ (execLaneWrite w s) := .next h.rowWrite
@[simp] theorem Answers.execPartitionWrite {n : Partner} {w : RegWrite} (h : Kept False s₀ s) : Answers s₀ (execPartitionWrite n w s) := .next h.rowWrite
@[simp] theorem Answers.execShaperWrite {n : Partner} {word : Fin 2} {w : RegWrite} (h : Kept False s₀ s) : Answers s₀ (execShaperWrite n word w s) :=
  .next h.rowWrite
@[simp] theorem Answers.execScheduleSwap {w : RegWrite} (h : Kept False s₀ s) : Answers s₀ (execScheduleSwap w s) := .next h.rowWrite
@[simp] theorem Answers.execScheduleDisable {w : RegWrite} (h : Kept False s₀ s) : Answers s₀ (execScheduleDisable w s) := .next h.rowWrite
@[simp] theorem Answers.execFailMark {i : Fin 576} {w : RegWrite} (h : Kept False s₀ s) : Answers s₀ (execFailMark i w s) := .next h.rowWrite
@[simp] theorem Answers.execFailClear {w : RegWrite} (h : Kept False s₀ s) : Answers s₀ (execFailClear w s) := .next h.rowWrite
@[simp] theorem Answers.execForcePark {n : Span} {l : Local} {w : RegWrite} (h : Kept False s₀ s) : Answers s₀ (execForcePark n l w s) :=
  .next h.rowWrite
@[simp] theorem Answers.execForceParkRelease {n : Span} {l : Local} {w : RegWrite} (h : Kept False s₀ s) : Answers s₀ (execForceParkRelease n l w s) :=
  .next h.rowWrite
@[simp] theorem Answers.execLoopRecordLoad {n : Span} {w : RegWrite} (h : Kept False s₀ s) : Answers s₀ (execLoopRecordLoad n w s) := .next h.rowWrite
@[simp] theorem Answers.execLoopRecordWrite {n : Span} {w : RegWrite} (h : Kept False s₀ s) : Answers s₀ (execLoopRecordWrite n w s) := .next h.rowWrite
@[simp] theorem Answers.execLoopPeriodWrite {n : Span} {w : RegWrite} (h : Kept False s₀ s) : Answers s₀ (execLoopPeriodWrite n w s) := .next h.rowWrite
@[simp] theorem Answers.execFilterChange {n : Span} {w : RegWrite} (h : Kept False s₀ s) : Answers s₀ (execFilterChange n w s) := .next h.rowWrite
@[simp] theorem Answers.execSweep {w : RegWrite} (h : Kept False s₀ s) : Answers s₀ (execSweep w s) := .next h.rowWrite
@[simp] theorem Answers.execStoreNow {w : RegWrite} (h : Kept False s₀ s) : Answers s₀ (execStoreNow w s) := .next h.rowWrite
@[simp] theorem Answers.execWatchdogKick {d : Deck} {w : RegWrite} (h : Kept False s₀ s) : Answers s₀ (execWatchdogKick d w s) := .next h.rowWrite
@[simp] theorem Answers.execHandover {w : RegWrite} (h : Kept False s₀ s) : Answers s₀ (execHandover w s) := .next h.rowWrite
@[simp] theorem Answers.execResync {w : RegWrite} (h : Kept False s₀ s) : Answers s₀ (execResync w s) := .next h.rowWrite
@[simp] theorem Answers.execPathReturn {w : RegWrite} (h : Kept False s₀ s) : Answers s₀ (execPathReturn w s) := .next h.rowWrite
@[simp] theorem Answers.execNomWrite {w : RegWrite} (h : Kept False s₀ s) : Answers s₀ (execNomWrite w s) := .next h.rowWrite
@[simp] theorem Answers.execTargetWrite {w : RegWrite} (h : Kept False s₀ s) : Answers s₀ (execTargetWrite w s) := .next h.rowWrite
@[simp] theorem Answers.execRemapSet {w : RegWrite} (h : Kept False s₀ s) : Answers s₀ (execRemapSet w s) := .next h.rowWrite
@[simp] theorem Answers.execFlashRead {w : RegWrite} (h : Kept False s₀ s) : Answers s₀ (execFlashRead w s) := .next h.rowWrite
@[simp] theorem Answers.execFlashProgram {w : RegWrite} (h : Kept False s₀ s) : Answers s₀ (execFlashProgram w s) := .next h.rowWrite
@[simp] theorem Answers.execFlashErase4k {w : RegWrite} (h : Kept False s₀ s) : Answers s₀ (execFlashErase4k w s) := .next h.rowWrite
@[simp] theorem Answers.execFlashErase64k {w : RegWrite} (h : Kept False s₀ s) : Answers s₀ (execFlashErase64k w s) := .next h.rowWrite
@[simp] theorem Answers.execFaultClear {w : RegWrite} (h : Kept False s₀ s) : Answers s₀ (execFaultClear w s) := .next h.rowWrite
@[simp] theorem Answers.execCaptureArm {w : RegWrite} (h : Kept False s₀ s) : Answers s₀ (execCaptureArm w s) := .next h.rowWrite
@[simp] theorem Answers.execCaptureStop {w : RegWrite} (h : Kept False s₀ s) : Answers s₀ (execCaptureStop w s) := .next h.rowWrite
@[simp] theorem Answers.execCaptureForce {w : RegWrite} (h : Kept False s₀ s) : Answers s₀ (execCaptureForce w s) := .next h.rowWrite
@[simp] theorem Answers.execRegisterWrite {addr : BitVec 32} {w : RegWrite} (h : Kept False s₀ s) : Answers s₀ (execRegisterWrite addr w s) :=
  .next h.rowWrite
@[simp] theorem Answers.execPortDmaReset {p : Port} {w : RegWrite} {burst : Option Burst} (h : Kept False s₀ s) : Answers s₀ (execPortDmaReset p w burst s) :=
  .next (h.rowWrite.when (·.masterReset))
@[simp] theorem Answers.execTapDebugReset {burst : Option Burst} (h : Kept False s₀ s) : Answers s₀ (execTapDebugReset burst s) :=
  .next (.ite h h.masterReset)

/-! ### Replay -/

@[simp] theorem Answers.execReplayEnd {n : Span} {histA histB : Bool} (h : Kept False s₀ s) : Answers s₀ (execReplayEnd n histA histB s) := by
  unfold Machine.execReplayEnd
  refine .ite ?_ (.next h)
  extract_lets
  rename_i outcome s1 s2 _ s3 s4 s5
  have h2 : Kept False s₀ s2 := (h.foldl (·.logOutcome.unfreeze)).setF.setF.setF.setF
  have h4 : Kept False s₀ s4 := h2.dk.setMism.setFlag.awaitReplay
  have h5 : Kept False s₀ s5 := by
    unfold s5
    clear_value outcome
    split
    · exact h4.event.bump.lowerOne
    · exact h4.lowerOne
    · exact h4.lowerOne
    · exact h4.lowerOne.lowerOne
  exact .next h5.showDecks

/-! ### Dispatch -/

/-- Every command answers with the queue and the tables as they were. -/
theorem Answers.exec {i : Instr} (h : Kept False s₀ s) : Answers s₀ (exec i s) := by
  cases i <;> simp [Machine.exec, h]

end

end Sys2Proof.Machine

namespace Sys2Proof.Machine

theorem Kept.tick {s₀ s : State} (h : Kept K s₀ s) : Kept K s₀ (tick s) := by
  unfold Machine.tick
  exact .ite h h

/-- Settles O6: every row answers, by the walk over its operations. -/
theorem commandsAnswer : Obligations.CommandsAnswer := by
  unfold Obligations.CommandsAnswer
  intro c s
  obtain ⟨t, he, hpending, -⟩ := Answers.exec (i := c) (Kept.refl s)
  exact ⟨t, he, hpending⟩

/-- Settles O3: every row keeps the tables' form, by the walk over its operations, and so does a tick. -/
theorem stepKeepsCanonical : Obligations.StepKeepsCanonical := by
  unfold Obligations.StepKeepsCanonical
  intro s t hc ht he
  have hs : s.Good := ⟨hc, ht⟩
  rw [step] at he
  split at he
  · cases he
    exact (Kept.refl (K := False) s).tick.2.1 hs
  next c rest _ =>
    obtain ⟨u, hu, -, hgood, -⟩ := Answers.exec (i := c) (Kept.refl { s with pending := rest })
    rw [hu] at he
    cases he
    exact hgood hs

end Sys2Proof.Machine

namespace Sys2Proof.Machine

/-! ### Lifetime counters (R476) -/

/-- A lifetime counter after an advance. -/
def lifeSum (s : State) (i n : Nat) : Nat := min ((rd s (aTY_LT i)).toNat + n) 0xFFFFFFFF

/-- The advance reaches the counter's end. -/
def LifeEnds (s : State) (i n : Nat) : Prop := (rd s (aTY_LT i)).toNat < 0xFFFFFFFF ∧ lifeSum s i n = 0xFFFFFFFF

/-- The counter shows its sum. -/
def lifeCounted (s : State) (i n : Nat) : State := wr s (aTY_LT i) (BitVec.ofNat 32 (lifeSum s i n))

/-- The end of a counter is marked. -/
def lifeMarked (s : State) (i : Nat) : State := { s with ty := { s.ty with mask := s.ty.mask ||| 2 ^ i } }

theorem lifeBy_ends {s : State} {i n : Nat} (h : LifeEnds s i n) :
    lifeBy s i n = setFlag (event (lifeMarked (lifeCounted s i n) i) TY_INT_LT_SAT) TY_STATUS_LT_SAT true := if_pos h

theorem lifeBy_counts {s : State} {i n : Nat} (h : ¬ LifeEnds s i n) : lifeBy s i n = lifeCounted s i n := if_neg h

theorem lifetime_apart (i : Nat) : aTY_LT i ≠ aTY_INT ∧ aTY_LT i ≠ aTY_STATUS := by
  unfold aTY_LT aTY_INT aTY_STATUS tyBase
  omega

theorem rd_lifeBy (s : State) (i n k : Nat) : rd (lifeBy s i n) (aTY_LT k) = rd (lifeCounted s i n) (aTY_LT k) := by
  obtain ⟨hint, hstatus⟩ := lifetime_apart k
  by_cases h : LifeEnds s i n
  · rw [lifeBy_ends h]
    exact (rd_setF_other _ TY_STATUS_LT_SAT _ _ hstatus).trans (rd_setF_other _ TY_INT_LT_SAT _ _ hint)
  · rw [lifeBy_counts h]

theorem rd_lifeBy_same {s : State} (i n : Nat) (hs : s.RegsWf) : (rd (lifeBy s i n) (aTY_LT i)).toNat = lifeSum s i n := by
  rw [rd_lifeBy, lifeCounted, rd_wr_same _ _ _ hs, BitVec.toNat_ofNat, Nat.mod_eq_of_lt]
  exact Nat.lt_of_le_of_lt (Nat.min_le_right _ _) (by decide)

theorem rd_lifeBy_other (s : State) (n : Nat) {i k : Nat} (h : k ≠ i) : rd (lifeBy s i n) (aTY_LT k) = rd s (aTY_LT k) := by
  rw [rd_lifeBy]
  refine rd_wr_other _ _ _ _ fun he => h ?_
  unfold aTY_LT at he
  omega

theorem flag_lifeBy_ends {s : State} {i n : Nat} (hs : s.RegsWf) (h : LifeEnds s i n) : flag (lifeBy s i n) TY_INT_LT_SAT = true := by
  have hcounted : (lifeMarked (lifeCounted s i n) i).RegsWf := regsWf_wr _ _ _ hs
  have hshown := RegWrites.setFlag (W := [TY_STATUS_LT_SAT]) (f := TY_STATUS_LT_SAT) (event (lifeMarked (lifeCounted s i n) i) TY_INT_LT_SAT) true (by simp)
  rw [lifeBy_ends h]
  exact (hshown.flag (regsWf_setF _ _ _ hcounted) (by decide) (by decide)).trans (flag_event_same _ _ hcounted (by decide) (by decide))

theorem flag_lifeCounted (s : State) (i n : Nat) : flag (lifeCounted s i n) TY_INT_LT_SAT = flag s TY_INT_LT_SAT := by
  have hrd : rd (lifeCounted s i n) TY_INT_LT_SAT.addr = rd s TY_INT_LT_SAT.addr := rd_wr_other _ _ _ _ (lifetime_apart i).1.symm
  rw [flag, getF, hrd]
  rfl

/-- Settles O59: a counter's sum is cut at its end, and only the advance that meets the end marks it. -/
theorem lifetimeCounters : Obligations.LifetimeCounters := by
  unfold Obligations.LifetimeCounters
  refine ⟨fun s i n hs _ => ⟨rd_lifeBy_same i n hs.1, fun k _ hk => rd_lifeBy_other s n hk⟩, fun s i n hs _ hlow hend => ?_, fun s i n _ _ hkept => ?_,
    fun s => ?_, fun s r => rfl⟩
  · have hends : LifeEnds s i n := ⟨hlow, Nat.min_eq_right hend⟩
    refine ⟨?_, flag_lifeBy_ends hs.1 hends⟩
    rw [lifeBy_ends hends]
    rfl
  · have hnot : ¬ LifeEnds s i n := by
      unfold LifeEnds lifeSum
      omega
    rw [lifeBy_counts hnot]
    exact ⟨rfl, flag_lifeCounted s i n⟩
  · rw [checkpointBody, List.append_assoc, List.take_append_of_le_length (length_leBytes 16 s.ty.mask).ge,
      List.take_of_length_le (length_leBytes 16 s.ty.mask).le]

end Sys2Proof.Machine

namespace Sys2Proof.Machine

/-! ### Snapshots, checkpoints, histograms and the seconds counter (R421, R470, R471, R477, R480) -/

/-- An address and the word after it outside the window of the snapshot bank. -/
def OutsideBank (a : Nat) : Prop := a + 4 < tyBase + 0x8000 ∨ tcBase ≤ a

theorem outsideBank_counterAddrs {a : Nat} (h : a ∈ counterAddrs) : OutsideBank a := by
  simp only [counterAddrs, List.mem_append, List.mem_map, List.mem_flatMap, List.mem_range] at h
  unfold cTG_CNT cAD_CNT cLN_CNT cNT_CNT cLS_CNT cKS_CNT cDK_CNT cCAL_CNT cFC_CNT cTY_SLOT cTC_CNT cBM_CNT cNV_CNT cCP_CNT cLZ_CNT cTE_CNT cTH_CNT
    cTHP_CNT cHK_CNT at h
  unfold tgBase adBase ntBase ksBase dkBase fcBase tyBase tcBase bmBase nvBase cpBase spBase thBase at h
  unfold OutsideBank tyBase tcBase
  omega

theorem length_counterAddrs : counterAddrs.length = 1420 := by
  simp [counterAddrs, List.length_flatMap]

/-- What the copy of one counter leaves. -/
theorem rd_bankCounter_other (s : State) (e : Nat × Nat) {b : Nat} (h0 : b ≠ aTY_SNAPBANK_w0 e.2) (h1 : b ≠ aTY_SNAPBANK_w1 e.2) :
    rd (bankCounter s e) b = rd s b :=
  (rd_wr_other _ _ _ _ h1).trans (rd_wr_other _ _ _ _ h0)

theorem snapBank_words_apart (i k : Nat) : aTY_SNAPBANK_w0 i ≠ aTY_SNAPBANK_w1 k := by
  unfold aTY_SNAPBANK_w0 aTY_SNAPBANK_w1
  omega

theorem rd_bankCounter_same {s : State} (a i : Nat) (hs : s.RegsWf) :
    rd (bankCounter s (a, i)) (aTY_SNAPBANK_w0 i) = rd s a ∧ rd (bankCounter s (a, i)) (aTY_SNAPBANK_w1 i) = rd s (a + 4) :=
  ⟨(rd_wr_other _ _ _ _ (snapBank_words_apart i i)).trans (rd_wr_same _ _ _ hs), rd_wr_same _ _ _ (regsWf_wr _ _ _ hs)⟩

theorem regsOnly_bankCounter (s : State) (e : Nat × Nat) : RegsOnly s (bankCounter s e) := ⟨_, rfl⟩

/-- The counters `l` go into the bank from index `k` on. -/
def bankFrom (s : State) (k : Nat) (l : List Nat) : State := (l.zipIdx k).foldl bankCounter s

theorem bankFrom_cons (s : State) (k a : Nat) (l : List Nat) : bankFrom s k (a :: l) = bankFrom (bankCounter s (a, k)) (k + 1) l := rfl

theorem regsWf_bankFrom {s : State} (k : Nat) (l : List Nat) (hs : s.RegsWf) : (bankFrom s k l).RegsWf := by
  induction l generalizing s k with
  | nil => exact hs
  | cons a l ih => exact ih (k + 1) (regsWf_wr _ _ _ (regsWf_wr _ _ _ hs))

theorem rd_bankFrom_other (s : State) (k : Nat) (l : List Nat) {b : Nat}
    (h : ∀ i, k ≤ i → i < k + l.length → b ≠ aTY_SNAPBANK_w0 i ∧ b ≠ aTY_SNAPBANK_w1 i) : rd (bankFrom s k l) b = rd s b := by
  induction l generalizing s k with
  | nil => rfl
  | cons a l ih =>
    simp only [List.length_cons] at h
    obtain ⟨h0, h1⟩ := h k le_rfl (by omega)
    exact (ih _ (k + 1) fun i hk hi => h i (by omega) (by omega)).trans (rd_bankCounter_other s (a, k) h0 h1)

/-- Each entry of the bank holds its counter as the copy found it. -/
theorem rd_bankFrom {s : State} (k : Nat) (l : List Nat) (hs : s.RegsWf) (hl : ∀ a ∈ l, OutsideBank a) (hk : k + l.length ≤ 1420)
    (i : Nat) (hi : i < l.length) :
    rd (bankFrom s k l) (aTY_SNAPBANK_w0 (k + i)) = rd s (l.getD i 0) ∧ rd (bankFrom s k l) (aTY_SNAPBANK_w1 (k + i)) = rd s (l.getD i 0 + 4) := by
  induction l generalizing s k i with
  | nil => exact absurd hi (Nat.not_lt_zero i)
  | cons a l ih =>
    simp only [List.length_cons] at hk hi
    rw [bankFrom_cons]
    have hcopied : (bankCounter s (a, k)).RegsWf := regsWf_wr _ _ _ (regsWf_wr _ _ _ hs)
    cases i with
    | zero =>
      obtain ⟨h0, h1⟩ := rd_bankCounter_same a k hs
      refine ⟨(rd_bankFrom_other _ _ _ fun j hj _ => ⟨?_, snapBank_words_apart _ _⟩).trans h0,
        (rd_bankFrom_other _ _ _ fun j hj _ => ⟨(snapBank_words_apart _ _).symm, ?_⟩).trans h1⟩
      · unfold aTY_SNAPBANK_w0
        omega
      · unfold aTY_SNAPBANK_w1
        omega
    | succ i =>
      have hnext := ih (k + 1) hcopied (fun b hb => hl b (List.mem_cons_of_mem _ hb)) (by omega) i (by omega)
      have hsrc : ∀ c, c = l.getD i 0 ∨ c = l.getD i 0 + 4 → rd (bankCounter s (a, k)) c = rd s c := by
        intro c hc
        have hout : OutsideBank (l.getD i 0) := by
          rw [List.getD_eq_getElem l 0 (show i < l.length by omega)]
          exact hl _ (List.mem_cons_of_mem _ (List.getElem_mem _))
        unfold OutsideBank tcBase tyBase at hout
        refine rd_bankCounter_other s (a, k) ?_ ?_
        · unfold aTY_SNAPBANK_w0 tyBase
          show c ≠ _ + _ + 8 * k
          omega
        · unfold aTY_SNAPBANK_w1 tyBase
          show c ≠ _ + _ + 8 * k
          omega
      rw [hsrc _ (.inl rfl), hsrc _ (.inr rfl), Nat.add_assoc, Nat.add_comm 1 i] at hnext
      exact hnext

/-- The instant of a snapshot, in nanoseconds (R470). -/
def snapInstant (s : State) : Nat := if timeValid s then netNs s / 1000000 * 1000000 else netNs s

theorem rd_setTally (s : State) (x : TallyState) (a : Nat) : rd { s with ty := x } a = rd s a := rfl

theorem regsWf_setTally {s : State} (x : TallyState) (hs : s.RegsWf) : State.RegsWf { s with ty := x } := hs

theorem regsOnly_setTally {s t : State} {x : TallyState} (h : RegsOnly { s with ty := x } t) :
    t.ty = x ∧ t.elapsed = s.elapsed ∧ t.mem = s.mem ∧ t.ad = s.ad := by
  obtain ⟨r, rfl⟩ := h
  exact ⟨rfl, rfl, rfl, rfl⟩

theorem armIn_parts (s : State) (x : Timer) (n : Nat) : (armIn s x n).ty = s.ty ∧ (armIn s x n).mem = s.mem ∧ (armIn s x n).ad = s.ad :=
  ⟨rfl, rfl, rfl⟩

theorem rd_armIn (s : State) (x : Timer) (n a : Nat) : rd (armIn s x n) a = rd s a := rfl

theorem getF_armIn (s : State) (x : Timer) (n : Nat) (f : Fld) : getF (armIn s x n) f = getF s f := rfl

/-- The words of the bank that stood go into the other. -/
def snapTaken (s : State) : State := { s with ty := { s.ty with bank := snapWords s, instant := snapInstant s } }

/-- The active bank holds the counters. -/
def snapBanked (s : State) : State := bankFrom (snapTaken s) 0 counterAddrs

/-- The snapshot shows its number and its time. -/
def snapShown (s : State) : State :=
  setF (setF (snapBanked s) TY_SNAP_SNAPSHOT (if (! armed s .snapshot) = true then 0 else getF s TY_SNAP_SNAPSHOT + 1)) TY_SNAP_T_STAMP (stampOf (snapInstant s))

theorem exec_tallySnapshot {s : State} (he : flag s TY_CTRL_SNAP_EN = true) (hp : 2 ≤ pstate s) (hd : armed s .snapshot = false ∨ due s .snapshot = true) :
    exec .tallySnapshot s = .next (armIn (snapShown s) .snapshot (toNextSnapshot s)) := by
  have hwhen : (! armed s .snapshot) = true ∨ due s .snapshot = true := hd.imp_left fun h => by rw [h]; rfl
  exact if_pos ⟨he, hp, hwhen⟩

theorem snapShown_rest (s : State) :
    (snapShown s).ty = { s.ty with bank := snapWords s, instant := snapInstant s } ∧ (snapShown s).elapsed = s.elapsed
      ∧ (snapShown s).mem = s.mem ∧ (snapShown s).ad = s.ad := by
  have hcopy : RegsOnly (snapTaken s) (snapBanked s) := RegsOnly.foldl regsOnly_bankCounter _ _
  exact regsOnly_setTally ((hcopy.trans (.setF _ TY_SNAP_SNAPSHOT _)).trans (.setF _ TY_SNAP_T_STAMP _))

theorem rd_snapShown_bank {s : State} (hs : s.RegsWf) {i : Nat} (hi : i < counterAddrs.length) :
    rd (snapShown s) (aTY_SNAPBANK_w0 i) = rd s (counterAddrs.getD i 0) ∧ rd (snapShown s) (aTY_SNAPBANK_w1 i) = rd s (counterAddrs.getD i 0 + 4) := by
  have hbank := rd_bankFrom (s := snapTaken s) 0 counterAddrs (regsWf_setTally _ hs) (fun a => outsideBank_counterAddrs) (by rw [length_counterAddrs]) i hi
  have htaken : ∀ a, rd (snapTaken s) a = rd s a := rd_setTally s _
  rw [Nat.zero_add, htaken, htaken] at hbank
  have hshown : ∀ b, tyBase + 0x8000 ≤ b → rd (snapShown s) b = rd (snapBanked s) b := fun b hb =>
    (rd_setF_other _ TY_SNAP_T_STAMP _ _ (by show b ≠ tyBase + 0x10; omega)).trans
      (rd_setF_other _ TY_SNAP_SNAPSHOT _ _ (by show b ≠ tyBase + 0xC; omega))
  rw [hshown (aTY_SNAPBANK_w0 i) (show _ ≤ tyBase + 0x8000 + 8 * i by omega), hshown (aTY_SNAPBANK_w1 i) (show _ ≤ tyBase + 0x8004 + 8 * i by omega)]
  exact hbank

theorem getF_snapShown_number {s : State} (hs : s.RegsWf) :
    getF (snapShown s) TY_SNAP_SNAPSHOT = if armed s .snapshot then (getF s TY_SNAP_SNAPSHOT + 1) % 2 ^ 32 else 0 := by
  have hbanked : (snapBanked s).RegsWf := regsWf_bankFrom 0 counterAddrs (regsWf_setTally _ hs)
  have hstamp := (RegWrites.setF (W := [TY_SNAP_T_STAMP]) (f := TY_SNAP_T_STAMP)
    (setF (snapBanked s) TY_SNAP_SNAPSHOT (if (! armed s .snapshot) = true then 0 else getF s TY_SNAP_SNAPSHOT + 1)) (stampOf (snapInstant s)) (by simp)).getF
    (regsWf_setF _ _ _ hbanked) (f := TY_SNAP_SNAPSHOT) (by decide) (by decide)
  rw [snapShown, hstamp, getF_setF_same _ _ _ hbanked (by decide)]
  cases armed s .snapshot <;> rfl

theorem exec_checkpointTimer {s : State} (hr : railGood s 0 = true) (hp : 2 ≤ pstate s) (hl : s.th.logRead = true) (hd : due s .checkpoint = true) :
    exec .checkpointTimer s
      = .next (setFlag (queueJob (armIn s .checkpoint (1000000000 * getF s TY_CKPT_INTERVAL)) .checkpoint (checkpointBody s)) TY_STATUS_CKPT_PEND true) :=
  if_pos ⟨hr, hp, hl, .inr hd⟩

/-! #### Histograms -/

/-- The word of a bin. -/
def binAddr (h b : Nat) : Nat := aTY_HIST (64 * h + min b 63)

theorem rd_histogram_same {s : State} (h b : Nat) (hs : s.RegsWf) :
    (rd (histogram s h b) (binAddr h b)).toNat = min ((rd s (binAddr h b)).toNat + 1) 0xFFFFFFFF := by
  have hword : rd (histogram s h b) (binAddr h b) = BitVec.ofNat 32 (min ((rd s (binAddr h b)).toNat + 1) 0xFFFFFFFF) := rd_wr_same _ _ _ hs
  rw [hword, BitVec.toNat_ofNat, Nat.mod_eq_of_lt]
  exact Nat.lt_of_le_of_lt (Nat.min_le_right _ _) (by decide)

theorem rd_histogram_other (s : State) (h b : Nat) {a : Nat} (ha : a ≠ binAddr h b) : rd (histogram s h b) a = rd s a := rd_wr_other _ _ _ _ ha

theorem tempBin_le (x : Int) : tempBin x ≤ 63 := by
  unfold tempBin clampInt
  omega

/-- The histogram of a zone (R477). -/
def zoneHist (z : Nat) : Nat := if z = 8 then 0 else z + 1

/-- One zone's sample of a second. -/
def sampleZone (s : State) (z : Nat) : State :=
  match zoneTemp s z with
  | some t => histogram s (zoneHist z) (tempBin t)
  | none => s

theorem exec_histSampleSecond (s : State) : exec .histSampleSecond s = .next ((List.range 9).foldl sampleZone s) := rfl

theorem sampleZone_cases (s : State) (z : Nat) : sampleZone s z = s ∨ ∃ x, sampleZone s z = histogram s (zoneHist z) (tempBin x) := by
  unfold sampleZone
  split
  · exact .inr ⟨_, rfl⟩
  · exact .inl rfl

theorem regsOnly_sampleZone (s : State) (z : Nat) : RegsOnly s (sampleZone s z) := by
  obtain h | ⟨x, h⟩ := sampleZone_cases s z
  · rw [h]
    exact .refl s
  · rw [h]
    exact .histogram _ _ _

theorem regsWf_sampleZone {s : State} (z : Nat) (hs : s.RegsWf) : (sampleZone s z).RegsWf := by
  obtain h | ⟨x, h⟩ := sampleZone_cases s z
  · rwa [h]
  · rw [h]
    exact regsWf_wr _ _ _ hs

/-- A sample changes words of its own zone's histogram only. -/
theorem rd_sampleZone_other (s : State) (z : Nat) {a : Nat} (ha : ∀ b, b ≤ 63 → a ≠ aTY_HIST (64 * zoneHist z + b)) : rd (sampleZone s z) a = rd s a := by
  obtain h | ⟨x, h⟩ := sampleZone_cases s z
  · rw [h]
  · rw [h]
    exact rd_histogram_other _ _ _ (ha _ (Nat.min_le_right _ _))

theorem rd_sampleZones_other (l : List Nat) (s : State) {a : Nat} (ha : ∀ z ∈ l, ∀ b, b ≤ 63 → a ≠ aTY_HIST (64 * zoneHist z + b)) :
    rd (l.foldl sampleZone s) a = rd s a := by
  induction l generalizing s with
  | nil => rfl
  | cons z l ih =>
    exact (ih _ fun y hy => ha y (List.mem_cons_of_mem _ hy)).trans (rd_sampleZone_other s z (ha z List.mem_cons_self))

theorem regsWf_sampleZones (l : List Nat) {s : State} (hs : s.RegsWf) : (l.foldl sampleZone s).RegsWf := by
  induction l generalizing s with
  | nil => exact hs
  | cons z l ih => exact ih (regsWf_sampleZone z hs)

theorem zoneHist_lt {z : Nat} (hz : z < 9) : zoneHist z < 9 := by
  unfold zoneHist
  split_ifs <;> omega

/-- The temperatures stand outside the histograms. -/
theorem zoneTemp_sampleZones {l : List Nat} (hl : ∀ y ∈ l, y < 9) (s : State) (z : Nat) (hz : z < 9) :
    zoneTemp (l.foldl sampleZone s) z = zoneTemp s z := by
  have hrd : rd (l.foldl sampleZone s) (aTH_ZONE z) = rd s (aTH_ZONE z) := rd_sampleZones_other l s fun y hy b _ => by
    have hhist := zoneHist_lt (hl y hy)
    unfold aTH_ZONE aTY_HIST thBase tyBase
    omega
  have hfld : ∀ f : Fld, f.addr = aTH_ZONE z → getF (l.foldl sampleZone s) f = getF s f := fun f hf => by rw [getF, hf, hrd, getF, hf]
  rw [zoneTemp, flag, hfld _ rfl, hfld _ rfl]
  rfl

theorem sampleZone_valid {s : State} {z : Nat} {x : Int} (h : zoneTemp s z = some x) : sampleZone s z = histogram s (zoneHist z) (tempBin x) := by
  unfold sampleZone
  rw [h]

theorem zoneHist_inj {y z : Nat} (h : zoneHist y = zoneHist z) : y = z := by
  unfold zoneHist at h
  split_ifs at h <;> omega

/-- A second's samples advance the bin of each valid zone by one. -/
theorem rd_sampleZones_same {s : State} (hs : s.RegsWf) {z : Nat} {x : Int} (hz : z < 9) (hx : zoneTemp s z = some x) :
    (rd ((List.range 9).foldl sampleZone s) (aTY_HIST (64 * zoneHist z + tempBin x))).toNat
      = min ((rd s (aTY_HIST (64 * zoneHist z + tempBin x))).toNat + 1) 0xFFFFFFFF := by
  have hbin := tempBin_le x
  have hself : binAddr (zoneHist z) (tempBin x) = aTY_HIST (64 * zoneHist z + tempBin x) := by rw [binAddr, Nat.min_eq_left hbin]
  have hothers : ∀ y, y ≠ z → ∀ b, b ≤ 63 → aTY_HIST (64 * zoneHist z + tempBin x) ≠ aTY_HIST (64 * zoneHist y + b) := by
    intro y hne b hb he
    refine hne (zoneHist_inj ?_)
    unfold aTY_HIST at he
    omega
  have hsplit : List.range 9 = List.range z ++ z :: List.range' (z + 1) (8 - z) := by
    interval_cases z <;> rfl
  rw [hsplit, List.foldl_append, List.foldl_cons, sampleZone_valid ((zoneTemp_sampleZones (fun y hy => (List.mem_range.mp hy).trans hz) _ _ hz).trans hx)]
  rw [rd_sampleZones_other _ _ fun y hy => hothers y (by rw [List.mem_range'_1] at hy; omega)]
  rw [← hself, rd_histogram_same _ _ (regsWf_sampleZones _ hs), hself]
  rw [rd_sampleZones_other _ _ fun y hy => hothers y (List.mem_range.mp hy).ne]

theorem exec_histSampleHour (s : State) : exec .histSampleHour s = .next (histogram s 11 (getF s KS_STATUS_FAILED)) := rfl

/-! #### The seconds counter -/

/-- The counters that a second may advance, with what their end shows. -/
def uptimeFields : List Fld := lifeFields 0 ++ lifeFields 1 ++ lifeFields 17

/-- The seconds counter has advanced. -/
def uptimeShown (s : State) : State := setF s TH_UPTIME_SECONDS (getF s TH_UPTIME_SECONDS + 1)

/-- Zone 8 stands at or above 125 °C (R475). -/
def zoneHot (s : State) : Bool := match zoneTemp s 8 with | some t => decide (2000 ≤ t) | none => false

/-- A second's counters of R475. -/
def uptimeCounted (s : State) : State :=
  let s1 := if railGood s 0 then lifeRemainder (uptimeShown s) 0 3600 1 else uptimeShown s
  let s2 := if pstate s = 4 then lifeRemainder s1 1 3600 1 else s1
  if zoneHot s then lifeRemainder s2 17 60 1 else s2

theorem exec_uptimeSecond (s : State) :
    exec .uptimeSecond s = .next { uptimeCounted s with fc := { (uptimeCounted s).fc with recoveries := recentRecoveries (uptimeCounted s) } } := rfl

theorem RegWrites.lifeBy (s : State) (i n : Nat) : RegWrites (lifeFields i) s (lifeBy s i n) := by
  have hlt : RegWrites (lifeFields i) s (lifeCounted s i n) := .wr s _ (by simp [lifeFields])
  by_cases h : LifeEnds s i n
  · rw [lifeBy_ends h]
    exact ((hlt.trans (setTally _ _)).trans (.event _ (by simp [lifeFields]))).trans (.setFlag _ true (by simp [lifeFields]))
  · rw [lifeBy_counts h]
    exact hlt

theorem RegWrites.lifeRemainder (s : State) (i unit n : Nat) : RegWrites (lifeFields i) s (lifeRemainder s i unit n) :=
  .ite (fun _ => .setTally _ _) fun _ => (RegWrites.setTally s _).trans (.lifeBy _ _ _)

theorem uptimeCounted_writes (s : State) : RegWrites uptimeFields (uptimeShown s) (uptimeCounted s) := by
  have hcount : ∀ (c : Prop) [Decidable c] (u : State) (i unit : Nat), lifeFields i ⊆ uptimeFields →
      RegWrites uptimeFields u (if c then lifeRemainder u i unit 1 else u) :=
    fun c _ u i unit hi => .ite (fun _ => (RegWrites.lifeRemainder u i unit 1).mono hi) fun _ => .refl u
  exact ((hcount _ _ 0 3600 (by simp [uptimeFields])).trans (hcount _ _ 1 3600 (by simp [uptimeFields]))).trans (hcount _ _ 17 60 (by simp [uptimeFields]))

theorem uptimeCounted_rest (s : State) : ∃ r x, uptimeCounted s = { s with regs := r, ty := x } := by
  have hcount : ∀ (c : Prop) [Decidable c] (u : State) (i unit : Nat), (∃ r x, u = { s with regs := r, ty := x }) →
      ∃ r x, (if c then lifeRemainder u i unit 1 else u) = { s with regs := r, ty := x } := by
    rintro c _ u i unit ⟨r, x, rfl⟩
    split
    · obtain ⟨r', x', h⟩ := lifeRemainder_rest { s with regs := r, ty := x } i unit 1
      exact ⟨r', x', h⟩
    · exact ⟨r, x, rfl⟩
  exact hcount _ _ _ _ (hcount _ _ _ _ (hcount _ _ _ _ ⟨_, _, rfl⟩))

theorem getF_uptimeCounted {s : State} (hs : s.RegsWf) : getF (uptimeCounted s) TH_UPTIME_SECONDS = (getF s TH_UPTIME_SECONDS + 1) % 2 ^ 32 :=
  ((uptimeCounted_writes s).getF (regsWf_setF _ _ _ hs) (by decide) (by decide)).trans (getF_setF_same _ _ _ hs (by decide))

/-- Settles O58: the copy into the bank reads no word it has written, and each sample changes one bin. -/
theorem tallyRows : Obligations.TallyRows := by
  unfold Obligations.TallyRows
  refine ⟨fun s hs he hp hd => ?_, fun s hs hr hp hl hd => ?_, fun s z x hs hz hx => ?_, fun s hs => ?_, fun s hs => ?_⟩
  · obtain ⟨hty, helapsed, hmem, had⟩ := snapShown_rest s
    obtain ⟨htyA, hmemA, hadA⟩ := armIn_parts (snapShown s) .snapshot (toNextSnapshot s)
    refine ⟨_, exec_tallySnapshot he hp hd, ?_, fun i hi => ?_, ?_, ?_, hmemA.trans hmem, hadA.trans had⟩
    · rw [htyA, hty]
    · rw [rd_armIn, rd_armIn]
      exact rd_snapShown_bank hs.1 hi
    · rw [getF_armIn]
      exact getF_snapShown_number hs.1
    · rw [armIn, timerAt_armAt_same, helapsed]
  · refine ⟨_, exec_checkpointTimer hr hp hl hd, rfl, flag_setFlag_same _ _ _ hs.1 (by decide) (by decide), ?_, rfl⟩
    exact (timerAt_armAt_same _ _ _).trans (by rw [← Nat.mul_assoc])
  · refine ⟨_, exec_histSampleSecond s, ?_, rd_sampleZones_same hs.1 hz hx, fun i hi _ => rd_sampleZones_other _ s fun y hy b hb => ?_⟩
    · obtain ⟨r, h⟩ := RegsOnly.foldl regsOnly_sampleZone (List.range 9) s
      rw [h]
    · have hhist := zoneHist_lt (List.mem_range.mp hy)
      unfold aTY_HIST
      omega
  · exact ⟨_, exec_histSampleHour s, rfl, rd_histogram_same 11 _ hs.1, fun a ha => rd_histogram_other s 11 _ ha⟩
  · obtain ⟨r, x, hrest⟩ := uptimeCounted_rest s
    refine ⟨_, exec_uptimeSecond s, getF_uptimeCounted hs.1, ?_, ?_, ?_, ?_⟩
    all_goals rw [hrest]

end Sys2Proof.Machine

namespace Sys2Proof.Machine.RegWrites

/-! ### One more update after those before it -/

variable {W : List Fld} {s t : State}

theorem andSetF {f : Fld} {v : Nat} (h : RegWrites W s t) (hf : f ∈ W) : RegWrites W s (Machine.setF t f v) := h.trans (setF t v hf)

theorem andSetFlag {f : Fld} {b : Bool} (h : RegWrites W s t) (hf : f ∈ W) : RegWrites W s (Machine.setFlag t f b) := h.trans (setFlag t b hf)

theorem andEvent {f : Fld} (h : RegWrites W s t) (hf : f ∈ W) : RegWrites W s (Machine.event t f) := h.trans (event t hf)

theorem andBump {a : Nat} (h : RegWrites W s t) (ha : counterFields a ⊆ W) : RegWrites W s (Machine.bump t a) := h.trans (bump t a ha)

theorem andBumpBy {a n : Nat} (h : RegWrites W s t) (ha : counterFields a ⊆ W) : RegWrites W s (Machine.bumpBy t a n) := h.trans (bumpBy t a n ha)

theorem andRaise {source kind cls addr : Nat} {b : Bool} (h : RegWrites W s t) (hW : reportFields ⊆ W) :
    RegWrites W s (Machine.raise t source kind cls b addr) := h.trans ((raise t source kind cls b addr).mono hW)

theorem andLife {i : Nat} (h : RegWrites W s t) (hW : lifeFields i ⊆ W) : RegWrites W s (Machine.life t i) := h.trans ((life t i).mono hW)

end Sys2Proof.Machine.RegWrites

namespace Sys2Proof.Machine

/-- An advanced counter, after updates of other fields on either side. -/
theorem count_bumped {W V : List Fld} {s u t : State} {a n : Nat} (hs : s.RegsWf) (hbefore : RegWrites W s u) (hafter : RegWrites V (bumpBy u a n) t)
    (hW : ∀ g ∈ W, Apart ⟨a, 31, 0⟩ g ∧ Apart ⟨a + 4, 15, 0⟩ g) (hV : ∀ g ∈ V, Apart ⟨a, 31, 0⟩ g ∧ Apart ⟨a + 4, 15, 0⟩ g) :
    count t a = (count s a + n) % 2 ^ 48 := by
  have hu := hbefore.wf hs
  rw [hafter.count (regsWf_wr _ _ _ (regsWf_wr _ _ _ hu)) hV, count_bumpBy _ _ _ hu, hbefore.count hs hW]

/-- A field written, after updates of other fields. -/
theorem getF_written {W : List Fld} {u t : State} {f : Fld} {v : Nat} (hu : u.RegsWf) (hafter : RegWrites W (setF u f v) t) (hf : InWord f)
    (hW : ∀ g ∈ W, Apart f g) : getF t f = v % 2 ^ width f.hi f.lo :=
  (hafter.getF (regsWf_setF _ _ _ hu) hf hW).trans (getF_setF_same _ _ _ hu hf.2)

/-- A flag set, after updates of other fields. -/
theorem flag_written {W : List Fld} {u t : State} {f : Fld} {b : Bool} (hu : u.RegsWf) (hafter : RegWrites W (setFlag u f b) t) (hf : InWord f)
    (hW : ∀ g ∈ W, Apart f g) : flag t f = b :=
  (hafter.flag (regsWf_setF _ _ _ hu) hf hW).trans (flag_setFlag_same _ _ _ hu hf.2 hf.1)

theorem flag_event_written {W : List Fld} {u t : State} {f : Fld} (hu : u.RegsWf) (hafter : RegWrites W (event u f) t) (hf : InWord f)
    (hW : ∀ g ∈ W, Apart f g) : flag t f = true :=
  (hafter.flag (regsWf_setF _ _ _ hu) hf hW).trans (flag_event_same _ _ hu hf.2 hf.1)

theorem raise_flash (s : State) (source kind cls : Nat) (b : Bool) (addr : Nat) : (raise s source kind cls b addr).flash = s.flash := by
  obtain h | h := report_cases s (faultMsg source kind cls b addr) <;> rw [raise, h] <;> rfl

end Sys2Proof.Machine

namespace Sys2Proof.Machine

/-! ### The capture unit (R485 to R489, R493, R494) -/

/-- A granted write to TC_CTRL stores the word and starts what its bits command. -/
theorem rowWrite_capture {s : State} {w : RegWrite} (h : Granted s w aTC_CTRL) :
    rowWrite s aTC_CTRL w = tcCtrlWritten (storeWrite (atGrant s w) aTC_CTRL w.value) w.value := by
  rw [rowWrite_granted s _ w h, regWritten_tc _ _ _ _ _ (by decide)]
  rfl

/-- FORCE alone is trigger source 0. -/
theorem tcCtrlWritten_force {u : State} {v : Word} (h0 : v.getLsbD 0 = false) (h1 : v.getLsbD 1 = false) (h2 : v.getLsbD 2 = true) :
    tcCtrlWritten u v = if flag (offerTrigger u 0 0) TC_CTRL_CSYNC_EN then offerTrigger u 0 0 else setF (offerTrigger u 0 0) TC_STATUS_CSYNC_LOST 0 := by
  simp only [tcCtrlWritten, h0, h1, h2, Bool.false_eq_true, if_false, if_true]
  rfl

/-! #### The fields of a segment -/

/-- An address outside the words of the 64 segments. -/
def OutsideSegments (a : Nat) : Prop := a < aTC_SEG_w0 0 ∨ aTC_SEG_w0 64 ≤ a

/-- The fields of segment `n` that a trigger writes. -/
def segFields (n : Nat) : List Fld := [TC_SEG_w0_TRIG_IDX n, TC_SEG_w1_T_TRIG n, TC_SEG_w3_VALID n]

theorem apart_segFields {f : Fld} {n : Nat} (hf : OutsideSegments f.addr) (hn : n < 64) : ∀ g ∈ segFields n, Apart f g := by
  unfold OutsideSegments aTC_SEG_w0 at hf
  simp only [segFields, List.forall_mem_cons, List.not_mem_nil, false_implies, implies_true, and_true]
  simp only [Apart, TC_SEG_w0_TRIG_IDX, TC_SEG_w1_T_TRIG, TC_SEG_w3_VALID, aTC_SEG_w0, aTC_SEG_w1, aTC_SEG_w3]
  refine ⟨.inl ?_, .inl ?_, .inl ?_⟩ <;> omega

theorem apart_valid_trigIdx (n k : Nat) : Apart (TC_SEG_w3_VALID n) (TC_SEG_w0_TRIG_IDX k) := by
  refine .inl ?_
  simp only [TC_SEG_w0_TRIG_IDX, TC_SEG_w3_VALID, aTC_SEG_w0, aTC_SEG_w3]
  omega

/-- The current segment is one of 64. -/
theorem segment_lt (s : State) : getF s TC_STATUS_SEG < 64 := getF_lt s TC_STATUS_SEG

/-! #### Arming -/

/-- ARM's clearing: the memory, the segments, the queue, and the streams in force. -/
def captureCleared (u : State) : State :=
  { u with
    mem := cellDrop (fun a => decide (capBase ≤ a ∧ a < capBase + 0x800000)) u.mem
    regs := cellDrop (fun a => decide (aTC_SEG_w0 0 ≤ a ∧ a < aTC_SEG_w0 0 + 0x400)) u.regs
    tc := { Capture.init with
      streams := (List.range 64).foldl (fun t k => cellPut (fun _ => 0) t k (rd u (aTC_STREAM k))) []
      deadFrom := u.tc.deadFrom
      cont := u.tc.cont.filter (fun e => samePier (streamOf u e.1) (rd u (aTC_STREAM e.1))) } }

/-- ARM's decimation and dead time. -/
def captureReady (u : State) : State := setF (setF (captureCleared u) TC_STATUS_D (getF u TC_CTRL_DECIM)) TC_DEAD_MAX_MAX 0

theorem regsWf_captureCleared {u : State} (hu : u.RegsWf) : (captureCleared u).RegsWf :=
  cellWf_cellDrop resetWord (fun a => decide (aTC_SEG_w0 0 ≤ a ∧ a < aTC_SEG_w0 0 + 0x400)) u.regs hu

theorem rd_captureCleared (u : State) (a : Nat) :
    rd (captureCleared u) a = if aTC_SEG_w0 0 ≤ a ∧ a < aTC_SEG_w0 0 + 0x400 then resetWord a else rd u a := by
  have hdrop := cellGet_cellDrop resetWord (fun a => decide (aTC_SEG_w0 0 ≤ a ∧ a < aTC_SEG_w0 0 + 0x400)) u.regs a
  simp only [decide_eq_true_eq] at hdrop
  exact hdrop

theorem segValid_reset : ∀ n < 64, bitsOf (resetWord (aTC_SEG_w3 n)) 0 0 = 0 := by decide

theorem getF_captureCleared_valid (u : State) {n : Nat} (hn : n < 64) : getF (captureCleared u) (TC_SEG_w3_VALID n) = 0 := by
  have hin : aTC_SEG_w0 0 ≤ aTC_SEG_w3 n ∧ aTC_SEG_w3 n < aTC_SEG_w0 0 + 0x400 := by
    unfold aTC_SEG_w0 aTC_SEG_w3
    omega
  have hword : rd (captureCleared u) (aTC_SEG_w3 n) = resetWord (aTC_SEG_w3 n) := by rw [rd_captureCleared, if_pos hin]
  exact (congrArg (bitsOf · 0 0) hword).trans (segValid_reset n hn)

/-- What entering the armed state writes. -/
def armedFields : List Fld := [TC_STATUS_STATE, TC_DEAD_LAST, TC_DEAD_MAX_MAX]

theorem enterArmed_writes (s : State) : RegWrites armedFields s (enterArmed s) := by
  have hstate : RegWrites armedFields s (setF { s with tc := { s.tc with pos := 0 } } TC_STATUS_STATE 2) :=
    .andSetF (.of_regs rfl) (by simp [armedFields])
  unfold enterArmed
  dsimp only
  split
  · exact .andSetF (.andSetF (hstate.regs_eq rfl) (by simp [armedFields])) (by simp [armedFields])
  · exact hstate

theorem enterArmed_queue (s : State) : (enterArmed s).tc.queue = s.tc.queue := by
  unfold enterArmed
  dsimp only
  split <;> rfl

theorem enterArmed_mem (s : State) : (enterArmed s).mem = s.mem := by
  unfold enterArmed
  dsimp only
  split <;> rfl

theorem tcState_enterArmed {s : State} (hs : s.RegsWf) : tcState (enterArmed s) = 2 := by
  have hstate : ∀ c, getF (setF { s with tc := c } TC_STATUS_STATE 2) TC_STATUS_STATE = 2 := fun _ => getF_setF_same _ _ _ hs (by decide)
  have hwf : ∀ c, (setF { s with tc := c } TC_STATUS_STATE 2).RegsWf := fun _ => regsWf_setF _ _ _ hs
  unfold enterArmed tcState
  dsimp only
  split
  · refine ((RegWrites.setF (W := [TC_DEAD_MAX_MAX]) (f := TC_DEAD_MAX_MAX) _ _ (by simp)).getF (regsWf_setF _ _ _ ?_) (by decide) (by decide)).trans
      (((RegWrites.setF (W := [TC_DEAD_LAST]) (f := TC_DEAD_LAST) _ _ (by simp)).getF ?_ (by decide) (by decide)).trans ?_)
    · exact hwf _
    · exact hwf _
    · exact hstate _
  · exact hstate _

/-- Pre-fill of segment `n` stands at its begin. -/
def prefillShown (s : State) (n : Nat) : State :=
  setF (setF { s with tc := { s.tc with fill := 0, pos := 0, trig := none, trigPlaced := false } } TC_STATUS_STATE 1) TC_STATUS_SEG n

theorem enterPrefill_eq (s : State) (n : Nat) :
    enterPrefill s n = if segPre (prefillShown s n) = 0 then enterArmed (prefillShown s n) else prefillShown s n := rfl

/-- What a pre-fill's begin writes. -/
def prefillFields : List Fld := TC_STATUS_SEG :: armedFields

theorem prefillShown_writes (s : State) (n : Nat) : RegWrites prefillFields s (prefillShown s n) :=
  .andSetF (.andSetF (.of_regs rfl) (by simp [prefillFields, armedFields])) (by simp [prefillFields])

theorem enterPrefill_writes (s : State) (n : Nat) : RegWrites prefillFields s (enterPrefill s n) := by
  rw [enterPrefill_eq]
  exact .ite (fun _ => (prefillShown_writes s n).trans ((enterArmed_writes _).mono (List.subset_cons_self _ _))) fun _ => prefillShown_writes s n

theorem enterPrefill_parts (s : State) (n : Nat) : (enterPrefill s n).tc.queue = s.tc.queue ∧ (enterPrefill s n).mem = s.mem := by
  rw [enterPrefill_eq]
  split
  · exact ⟨enterArmed_queue _, enterArmed_mem _⟩
  · exact ⟨rfl, rfl⟩

theorem segPre_congr {s t : State} (h : rd t aTC_CTRL = rd s aTC_CTRL) : segPre t = segPre s := by
  have hfld : ∀ f : Fld, f.addr = aTC_CTRL → getF t f = getF s f := fun f hf => getF_of_rd (by rw [hf, h])
  have hmode : tcMode t = tcMode s := by rw [tcMode, tcMode, hfld TC_CTRL_HMODE rfl]
  rw [segPre, segPre, segSize, segSize, hmode, hfld TC_CTRL_SEGS rfl, hfld TC_CTRL_PRE rfl]

theorem rd_prefillShown_ctrl (s : State) (n : Nat) : rd (prefillShown s n) aTC_CTRL = rd s aTC_CTRL :=
  (rd_setF_other _ TC_STATUS_SEG _ _ (by decide)).trans (rd_setF_other _ TC_STATUS_STATE _ _ (by decide))

theorem rd_captureReady_ctrl (u : State) : rd (captureReady u) aTC_CTRL = rd u aTC_CTRL :=
  ((rd_setF_other _ TC_DEAD_MAX_MAX _ _ (by decide)).trans (rd_setF_other _ TC_STATUS_D _ _ (by decide))).trans
    ((rd_captureCleared u aTC_CTRL).trans (if_neg (by decide)))

theorem getF_prefillShown {s : State} (n : Nat) (hs : s.RegsWf) :
    getF (prefillShown s n) TC_STATUS_STATE = 1 ∧ getF (prefillShown s n) TC_STATUS_SEG = n % 64 := by
  have hstate : ∀ c, (setF { s with tc := c } TC_STATUS_STATE 1).RegsWf := fun _ => regsWf_setF _ _ _ hs
  have hone : ∀ c, getF (setF { s with tc := c } TC_STATUS_STATE 1) TC_STATUS_STATE = 1 := fun _ => getF_setF_same _ _ _ hs (by decide)
  refine ⟨?_, getF_setF_same _ _ _ (hstate _) (by decide)⟩
  exact (getF_setF_apart (f := TC_STATUS_STATE) (g := TC_STATUS_SEG) n (hstate _) (by decide) (by decide)).trans (hone _)

/-- A pre-fill of no entries is armed at once. -/
theorem getF_enterPrefill {s : State} (n : Nat) (hs : s.RegsWf) :
    tcState (enterPrefill s n) = (if segPre s = 0 then 2 else 1) ∧ getF (enterPrefill s n) TC_STATUS_SEG = n % 64 := by
  have hwf : (prefillShown s n).RegsWf := (prefillShown_writes s n).wf hs
  obtain ⟨hstate, hseg⟩ := getF_prefillShown n hs
  rw [enterPrefill_eq, segPre_congr (rd_prefillShown_ctrl s n)]
  split_ifs
  · exact ⟨tcState_enterArmed hwf, ((enterArmed_writes _).getF hwf (by decide) (by decide)).trans hseg⟩
  · exact ⟨hstate, hseg⟩

theorem regsWf_captureReady {u : State} (hu : u.RegsWf) : (captureReady u).RegsWf := regsWf_setF _ _ _ (regsWf_setF _ _ _ (regsWf_captureCleared hu))

theorem captureReady_writes (u : State) : RegWrites [TC_STATUS_D, TC_DEAD_MAX_MAX] (captureCleared u) (captureReady u) :=
  .andSetF (.andSetF (.refl _) (by simp)) (by simp)

theorem getF_captureArm_D {u : State} (hu : u.RegsWf) : getF (captureArm u) TC_STATUS_D = getF u TC_CTRL_DECIM := by
  have hcleared := regsWf_captureCleared hu
  have hD : getF (captureReady u) TC_STATUS_D = getF u TC_CTRL_DECIM := by
    refine (getF_setF_apart (f := TC_STATUS_D) (g := TC_DEAD_MAX_MAX) 0 (regsWf_setF _ _ _ hcleared) (by decide) (by decide)).trans ?_
    refine (getF_setF_same _ TC_STATUS_D _ hcleared (by decide)).trans (Nat.mod_eq_of_lt ?_)
    exact getF_lt u TC_CTRL_DECIM
  exact ((enterPrefill_writes _ 0).getF (regsWf_captureReady hu) (by decide) (by decide)).trans hD

theorem flag_captureArm_valid {u : State} (hu : u.RegsWf) {n : Nat} (hn : n < 64) : flag (captureArm u) (TC_SEG_w3_VALID n) = false := by
  have hword : InWord (TC_SEG_w3_VALID n) := ⟨le_rfl, show 0 < 32 by decide⟩
  have haddr : aTC_SEG_w0 0 ≤ (TC_SEG_w3_VALID n).addr := by
    show aTC_SEG_w0 0 ≤ tcBase + 0x20C + 0x10 * n
    unfold aTC_SEG_w0
    omega
  have hlow : ∀ {g : Fld}, g.addr < aTC_SEG_w0 0 → Apart (TC_SEG_w3_VALID n) g := fun hg => .inl (hg.trans_le haddr).ne'
  have hprefill : ∀ g ∈ prefillFields, g.addr < aTC_SEG_w0 0 := by decide
  have hready : ∀ g ∈ [TC_STATUS_D, TC_DEAD_MAX_MAX], g.addr < aTC_SEG_w0 0 := by decide
  have hzero : getF (captureArm u) (TC_SEG_w3_VALID n) = 0 :=
    ((enterPrefill_writes _ 0).getF (regsWf_captureReady hu) hword fun g hg => hlow (hprefill g hg)).trans
      (((captureReady_writes u).getF (regsWf_captureCleared hu) hword fun g hg => hlow (hready g hg)).trans (getF_captureCleared_valid u hn))
  rw [flag, hzero]
  rfl

theorem captureArm_mem (u : State) (a : Nat) :
    cellGet memDefault (captureArm u).mem a = if capBase ≤ a ∧ a < capBase + 0x800000 then memDefault a else cellGet memDefault u.mem a := by
  have hmem : (captureArm u).mem = cellDrop (fun a => decide (capBase ≤ a ∧ a < capBase + 0x800000)) u.mem := (enterPrefill_parts _ 0).2
  rw [hmem, cellGet_cellDrop]
  simp only [decide_eq_true_eq]

theorem captureArm_arms {u : State} (hu : u.RegsWf) :
    tcState (captureArm u) = (if segPre u = 0 then 2 else 1) ∧ getF (captureArm u) TC_STATUS_SEG = 0 ∧ (captureArm u).tc.queue = [] := by
  obtain ⟨hstate, hseg⟩ := getF_enterPrefill 0 (regsWf_captureReady hu)
  rw [segPre_congr (rd_captureReady_ctrl u)] at hstate
  exact ⟨hstate, hseg, (enterPrefill_parts _ 0).1⟩

/-! #### Stopping -/

/-- A post-fill that no segment follows ends in done. -/
theorem captureStop_done {u : State} (h3 : tcState u = 3) (hlast : flag u TC_CTRL_REARM = false ∨ getF u TC_CTRL_SEGS ≤ getF u TC_STATUS_SEG) :
    captureStop u = bump (event (setF u TC_STATUS_STATE 4) TC_INT_DONE) (cTC_CNT 5) := by
  have hno : ¬ (flag u TC_CTRL_REARM = true ∧ getF u TC_STATUS_SEG < getF u TC_CTRL_SEGS) := by
    rintro ⟨hrearm, hlt⟩
    rcases hlast with h | h
    · rw [h] at hrearm
      exact Bool.false_ne_true hrearm
    · omega
  exact (if_pos h3).trans (if_neg hno)

/-- The state and the event of a segment's end, after its counter. -/
theorem captureStop_shows {u : State} (hu : u.RegsWf) (h3 : tcState u = 3)
    (hlast : flag u TC_CTRL_REARM = false ∨ getF u TC_CTRL_SEGS ≤ getF u TC_STATUS_SEG) :
    tcState (captureStop u) = 4 ∧ flag (captureStop u) TC_INT_DONE = true := by
  have hstate : (setF u TC_STATUS_STATE 4).RegsWf := regsWf_setF _ _ _ hu
  have hevent : (event (setF u TC_STATUS_STATE 4) TC_INT_DONE).RegsWf := regsWf_setF _ _ _ hstate
  have hcount := RegWrites.bump (W := counterFields (cTC_CNT 5)) (event (setF u TC_STATUS_STATE 4) TC_INT_DONE) (cTC_CNT 5) (List.Subset.refl _)
  rw [captureStop_done h3 hlast]
  refine ⟨(hcount.getF hevent (by decide) (by decide)).trans ?_, (hcount.flag hevent (by decide) (by decide)).trans (flag_event_same _ _ hstate (by decide) (by decide))⟩
  exact (getF_setF_apart (f := TC_STATUS_STATE) (g := TC_INT_DONE) 1 hstate (by decide) (by decide)).trans (getF_setF_same _ _ _ hu (by decide))

/-! #### Triggers -/

/-- The trigger's cycle is noted, and two in one cycle count as one (R487). -/
def triggerNoted (s : State) : State := { s with tc := { s.tc with lastTrig := some (s.elapsed / 5) } }

/-- The accepted trigger's time is fixed and post-fill begins. -/
def triggerFixed (s : State) (comp : Nat) : State :=
  { triggerNoted s with tc := { (triggerNoted s).tc with trig := some (netNs s - comp), trigPlaced := false, deadFrom := some (s.elapsed - 4 * comp) } }

/-- Post-fill shows its segment's time. -/
def triggerShown (s : State) (comp : Nat) : State :=
  setF (setF (setF (triggerFixed s comp) TC_STATUS_STATE 3) (TC_SEG_w1_T_TRIG (getF s TC_STATUS_SEG)) (stampOf (netNs s - comp)))
    (TC_SEG_w3_VALID (getF s TC_STATUS_SEG)) 1

/-- The accepted trigger before its event. -/
def triggerMarked (s : State) (comp : Nat) : State := markRing (triggerShown s comp) (netNs s - comp)

theorem offerTrigger_deaf {s : State} {src : Nat} (comp : Nat) (h : (getF s TC_TRIG_SRC).testBit src = false) : offerTrigger s src comp = s := if_pos (.inl h)

section
variable {s : State} {src : Nat} (comp : Nat) (hsrc : (getF s TC_TRIG_SRC).testBit src = true) (hlast : s.tc.lastTrig ≠ some (s.elapsed / 5))
include hsrc hlast

theorem offerTrigger_armed (h2 : tcState s = 2) :
    offerTrigger s src comp = driveLines (bump (event (triggerMarked s comp) TC_INT_TRIG) (cTC_CNT 0)) src := by
  have hgo : ¬ ((getF s TC_TRIG_SRC).testBit src = false ∨ tcState s = 0 ∨ tcState s = 4 ∨ s.tc.lastTrig = some (s.elapsed / 5)) := by
    simp [hsrc, hlast, h2]
  exact (if_neg hgo).trans (if_pos h2)

theorem offerTrigger_prefill (h1 : tcState s = 1) :
    offerTrigger s src comp = bump (event (triggerNoted s) TC_INT_IGNORED) (cTC_CNT 1) := by
  have hgo : ¬ ((getF s TC_TRIG_SRC).testBit src = false ∨ tcState s = 0 ∨ tcState s = 4 ∨ s.tc.lastTrig = some (s.elapsed / 5)) := by
    simp [hsrc, hlast, h1]
  exact (if_neg hgo).trans (if_neg (by rw [h1]; decide))

end

theorem RegWrites.wrMem {W : List Fld} (s : State) (a n v : Nat) : RegWrites W s (wrMem s a n v) := by
  obtain ⟨m, f, h⟩ := MemOnly.wrBytes (leBytes n v) s a
  rw [Machine.wrMem, h]
  exact .of_regs rfl

theorem markRing_writes (s : State) (t : Nat) : RegWrites [TC_SEG_w0_TRIG_IDX (getF s TC_STATUS_SEG)] s (markRing s t) := by
  unfold markRing
  dsimp only
  split
  · exact .refl s
  · exact .andSetF (.regs_eq (.wrMem s _ _ _) rfl) (by simp)

theorem markRing_trig (s : State) (t : Nat) : (markRing s t).tc.trig = s.tc.trig := by
  unfold markRing
  dsimp only
  split
  · rfl
  · rfl

theorem driveLines_parts (s : State) (src : Nat) : (driveLines s src).regs = s.regs ∧ (driveLines s src).tc = s.tc := by
  unfold driveLines
  dsimp only
  split_ifs <;> exact ⟨rfl, rfl⟩

/-- The fields of segment `n`, and the unit's state. -/
def triggerFields (n : Nat) : List Fld := TC_STATUS_STATE :: segFields n

theorem triggerShown_writes (s : State) (comp : Nat) : RegWrites (triggerFields (getF s TC_STATUS_SEG)) s (triggerShown s comp) :=
  .andSetF (.andSetF (.andSetF (.of_regs rfl) (by simp [triggerFields])) (by simp [triggerFields, segFields])) (by simp [triggerFields, segFields])

section
variable {s : State} (comp : Nat) (hs : s.RegsWf)
include hs

theorem getF_triggerShown_state : tcState (triggerShown s comp) = 3 := by
  have hfixed : (triggerFixed s comp).RegsWf := hs
  have hstate := regsWf_setF (triggerFixed s comp) TC_STATUS_STATE 3 hfixed
  have hout := apart_segFields (f := TC_STATUS_STATE) (.inl (by decide)) (segment_lt s)
  refine (getF_setF_apart 1 (regsWf_setF _ _ _ hstate) (by decide) (hout _ (by simp [segFields]))).trans ?_
  exact (getF_setF_apart _ hstate (by decide) (hout _ (by simp [segFields]))).trans (getF_setF_same _ _ _ hfixed (by decide))

theorem flag_triggerShown_valid : flag (triggerShown s comp) (TC_SEG_w3_VALID (getF s TC_STATUS_SEG)) = true := by
  have hfixed : (triggerFixed s comp).RegsWf := hs
  exact flag_event_same _ (TC_SEG_w3_VALID (getF s TC_STATUS_SEG)) (regsWf_setF _ _ _ (regsWf_setF _ _ _ hfixed)) (show 0 < 32 by decide) le_rfl

/-- A field outside the segments reads after the mark in the ring as before it. -/
theorem triggerMarked_kept {f : Fld} (hf : InWord f) (hout : OutsideSegments f.addr) :
    getF (triggerMarked s comp) f = getF (triggerShown s comp) f :=
  (markRing_writes _ _).getF ((triggerShown_writes s comp).wf hs) hf fun g hg =>
    apart_segFields hout (segment_lt (triggerShown s comp)) g (by rw [List.mem_singleton.mp hg]; simp [segFields])

theorem regsWf_triggerMarked : (triggerMarked s comp).RegsWf := (markRing_writes _ _).wf ((triggerShown_writes s comp).wf hs)

theorem flag_triggerMarked_valid : flag (triggerMarked s comp) (TC_SEG_w3_VALID (getF s TC_STATUS_SEG)) = true := by
  refine ((markRing_writes _ _).flag ((triggerShown_writes s comp).wf hs) ⟨le_rfl, show 0 < 32 by decide⟩ fun g hg => ?_).trans (flag_triggerShown_valid comp hs)
  rw [List.mem_singleton.mp hg]
  exact apart_valid_trigIdx _ _

theorem count_triggerMarked : count (triggerMarked s comp) (cTC_CNT 0) = count s (cTC_CNT 0) := by
  have hout : OutsideSegments (cTC_CNT 0) ∧ OutsideSegments (cTC_CNT 0 + 4) := by
    refine ⟨.inr ?_, .inr ?_⟩ <;> decide
  have hmark := (markRing_writes (triggerShown s comp) (netNs s - comp)).count ((triggerShown_writes s comp).wf hs) (a := cTC_CNT 0) fun g hg => by
    rw [List.mem_singleton.mp hg]
    have hseg := segment_lt (triggerShown s comp)
    exact ⟨apart_segFields hout.1 hseg _ (by simp [segFields]), apart_segFields hout.2 hseg _ (by simp [segFields])⟩
  refine hmark.trans ((triggerShown_writes s comp).count hs fun g hg => ?_)
  rcases List.mem_cons.mp hg with rfl | hg
  · exact ⟨.inl (by decide), .inl (by decide)⟩
  · exact ⟨apart_segFields hout.1 (segment_lt s) g hg, apart_segFields hout.2 (segment_lt s) g hg⟩

/-- What an accepted trigger shows. -/
theorem triggered_shows (src : Nat) :
    let t := driveLines (bump (event (triggerMarked s comp) TC_INT_TRIG) (cTC_CNT 0)) src
    tcState t = 3 ∧ t.tc.trig = some (netNs s - comp) ∧ flag t (TC_SEG_w3_VALID (getF s TC_STATUS_SEG)) = true ∧ flag t TC_INT_TRIG = true
      ∧ count t (cTC_CNT 0) = (count s (cTC_CNT 0) + 1) % 2 ^ 48 := by
  intro t
  have hregs : t.regs = (bump (event (triggerMarked s comp) TC_INT_TRIG) (cTC_CNT 0)).regs := (driveLines_parts _ src).1
  have htc : t.tc = (triggerMarked s comp).tc := (driveLines_parts _ src).2
  have hmarked := regsWf_triggerMarked comp hs
  have hevent : (event (triggerMarked s comp) TC_INT_TRIG).RegsWf := regsWf_setF _ _ _ hmarked
  have hcounted : RegWrites (counterFields (cTC_CNT 0)) (event (triggerMarked s comp) TC_INT_TRIG) t :=
    (RegWrites.bump _ _ (List.Subset.refl _)).regs_eq hregs
  have hall : RegWrites (TC_INT_TRIG :: counterFields (cTC_CNT 0)) (triggerMarked s comp) t :=
    .trans (.andEvent (.refl _) (by simp)) (hcounted.mono (List.subset_cons_self _ _))
  refine ⟨?_, ?_, ?_, (hcounted.flag hevent (by decide) (by decide)).trans (flag_event_same _ _ hmarked (by decide) (by decide)), ?_⟩
  · exact ((hall.getF hmarked (by decide) (by decide)).trans (triggerMarked_kept comp hs (by decide) (.inl (by decide)))).trans (getF_triggerShown_state comp hs)
  · rw [htc, triggerMarked, markRing_trig]
    rfl
  · have hseg := segment_lt s
    refine (hall.flag hmarked ⟨le_rfl, show 0 < 32 by decide⟩ fun g hg => .inl ?_).trans (flag_triggerMarked_valid comp hs)
    have hg : g.addr < aTC_SEG_w0 0 ∨ aTC_SEG_w0 64 ≤ g.addr := by
      revert g
      decide
    simp only [TC_SEG_w3_VALID, aTC_SEG_w3]
    unfold aTC_SEG_w0 at hg
    omega
  · have hbump : count t (cTC_CNT 0) = count (bump (event (triggerMarked s comp) TC_INT_TRIG) (cTC_CNT 0)) (cTC_CNT 0) :=
      count_of_rd (rd_of_regs hregs _) (rd_of_regs hregs _)
    rw [hbump, bump, count_bumpBy _ _ _ hevent]
    have hevents : count (event (triggerMarked s comp) TC_INT_TRIG) (cTC_CNT 0) = count (triggerMarked s comp) (cTC_CNT 0) :=
      count_setF_other _ TC_INT_TRIG 1 (cTC_CNT 0) (by decide) (by decide)
    rw [hevents, count_triggerMarked comp hs]

end

/-- A trigger in pre-fill is counted and changes nothing else. -/
theorem ignored_shows {s : State} (hs : s.RegsWf) (h1 : tcState s = 1) :
    let t := bump (event (triggerNoted s) TC_INT_IGNORED) (cTC_CNT 1)
    flag t TC_INT_IGNORED = true ∧ tcState t = 1 ∧ count t (cTC_CNT 1) = (count s (cTC_CNT 1) + 1) % 2 ^ 48 := by
  intro t
  have hnoted : (triggerNoted s).RegsWf := hs
  have hevent : (event (triggerNoted s) TC_INT_IGNORED).RegsWf := regsWf_setF _ _ _ hnoted
  have hcounted : RegWrites (counterFields (cTC_CNT 1)) (event (triggerNoted s) TC_INT_IGNORED) t := .bump _ _ (List.Subset.refl _)
  have hall : RegWrites (TC_INT_IGNORED :: counterFields (cTC_CNT 1)) s t := .andBump (.andEvent (.of_regs rfl) (by simp)) (List.subset_cons_self _ _)
  refine ⟨(hcounted.flag hevent (by decide) (by decide)).trans (flag_event_same _ _ hnoted (by decide) (by decide)),
    (hall.getF hs (by decide) (by decide)).trans h1, ?_⟩
  have hevents : count (event (triggerNoted s) TC_INT_IGNORED) (cTC_CNT 1) = count s (cTC_CNT 1) :=
    count_setF_other _ TC_INT_IGNORED 1 (cTC_CNT 1) (by decide) (by decide)
  exact (count_bumpBy _ _ _ hevent).trans (by rw [hevents])

/-! #### The store -/

theorem raiseD_parts (s : State) : (raiseD s).tc.queue = s.tc.queue ∧ RegWrites [TC_STATUS_D, TC_INT_DECIM] s (raiseD s) := by
  refine ⟨?_, .ite (fun _ => .andEvent (.andSetF (.of_regs rfl) (by simp)) (by simp)) fun _ => .refl s⟩
  unfold raiseD
  dsimp only
  split <;> rfl

theorem putEntry_parts (s : State) (i : Nat) (e : Nat × Nat × Nat × Nat × Nat) (b : Bool) :
    (putEntry s i e b).tc = s.tc ∧ (putEntry s i e b).regs = s.regs := by
  have hmem : MemOnly s (putEntry s i e b) := (((MemOnly.wrBytes _ s _).trans (.wrBytes _ _ _)).trans (.wrBytes _ _ _)).trans (.wrBytes _ _ _)
  obtain ⟨m, f, h⟩ := hmem
  rw [h]
  exact ⟨rfl, rfl⟩

theorem bump_pos_queue (s : State) (p a : Nat) : (bump { s with tc := { s.tc with pos := p } } a).tc.queue = s.tc.queue := rfl

theorem bump_pos_writes {s u : State} (hu : u.regs = s.regs) (p a : Nat) :
    RegWrites (counterFields a) s (bump { u with tc := { u.tc with pos := p } } a) := .andBump (.of_regs hu) (List.Subset.refl _)

theorem ringEntry_parts (s : State) (e : Nat × Nat × Nat × Nat × Nat) :
    (ringEntry s e).tc.queue = s.tc.queue ∧ RegWrites (counterFields (cTC_CNT 2)) s (ringEntry s e) := by
  have hput := putEntry_parts s (getF s TC_STATUS_SEG * segSize s + s.tc.pos % segPre s) e false
  refine ⟨?_, .ite (fun _ => .refl s) fun _ => bump_pos_writes hput.2 _ _⟩
  unfold ringEntry
  dsimp only
  split
  · rfl
  · exact (bump_pos_queue _ _ _).trans (by rw [hput.1])

/-- In the armed state the front entry goes into the ring. -/
theorem exec_captureStore_armed {s : State} {e : Nat × Nat × Nat × Nat × Nat} {rest : List (Nat × Nat × Nat × Nat × Nat)}
    (hq : s.tc.queue = e :: rest) (h2 : tcState s = 2) :
    exec .captureStore s = .next (ringEntry (raiseD { s with tc := { s.tc with queue := rest } }) e) := by
  show execCaptureStore s = _
  simp only [execCaptureStore, hq, h2]

theorem captureStore_armed {s : State} {e : Nat × Nat × Nat × Nat × Nat} (rest : List (Nat × Nat × Nat × Nat × Nat)) (hs : s.RegsWf) (h2 : tcState s = 2) :
    let t := ringEntry (raiseD { s with tc := { s.tc with queue := rest } }) e
    t.tc.queue = rest ∧ tcState t = 2 := by
  intro t
  obtain ⟨hqueue, hraise⟩ := raiseD_parts { s with tc := { s.tc with queue := rest } }
  obtain ⟨hringQueue, hring⟩ := ringEntry_parts (raiseD { s with tc := { s.tc with queue := rest } }) e
  have htaken : State.RegsWf { s with tc := { s.tc with queue := rest } } := hs
  refine ⟨hringQueue.trans hqueue, ?_⟩
  exact ((hring.getF (hraise.wf htaken) (by decide) (by decide)).trans (hraise.getF htaken (by decide) (by decide))).trans h2

/-! #### The trigger bus -/

/-- An edge on a trigger line ends a loss of CSYNC. -/
def edgeSeen (s : State) : State := setF s TC_STATUS_CSYNC_LOST 0

/-- The compensation of a line. -/
def lineComp (s : State) (line : Fin 2) : Nat := if line.val = 0 then getF s TC_BUS_COMP0 else getF s TC_BUS_COMP1

theorem exec_trigBusEdge (s : State) (line : Fin 2) :
    exec (.trigBusEdge line) s = .next (offerTrigger (edgeSeen s) (4 + line.val) (lineComp s line)) := rfl

theorem edgeSeen_writes (s : State) : RegWrites [TC_STATUS_CSYNC_LOST] s (edgeSeen s) := .setF s 0 (by simp)

theorem exec_trigDriveEnd {s : State} {line : Fin 2} (h : due s (.trigDrive line) = true) :
    exec (.trigDriveEnd line) s = .next (disarm s (.trigDrive line)) := by
  have harmed : armed s (.trigDrive line) = true := by
    unfold due at h
    unfold armed
    split at h
    · next d hd => rw [hd]; rfl
    · exact absurd h Bool.false_ne_true
  exact if_pos ⟨harmed, .inr h⟩

theorem triggered_csync {s : State} (comp src : Nat) (hs : s.RegsWf) :
    flag (driveLines (bump (event (triggerMarked s comp) TC_INT_TRIG) (cTC_CNT 0)) src) TC_STATUS_CSYNC_LOST = flag s TC_STATUS_CSYNC_LOST := by
  have hregs := (driveLines_parts (bump (event (triggerMarked s comp) TC_INT_TRIG) (cTC_CNT 0)) src).1
  have hall : RegWrites (TC_INT_TRIG :: counterFields (cTC_CNT 0)) (triggerMarked s comp)
      (driveLines (bump (event (triggerMarked s comp) TC_INT_TRIG) (cTC_CNT 0)) src) :=
    .regs_eq (.andBump (.andEvent (.refl _) (by simp)) (List.subset_cons_self _ _)) hregs
  have hshown : getF (triggerShown s comp) TC_STATUS_CSYNC_LOST = getF s TC_STATUS_CSYNC_LOST :=
    (triggerShown_writes s comp).getF hs (by decide) fun g hg => by
      rcases List.mem_cons.mp hg with rfl | hg
      · decide
      · exact apart_segFields (.inl (by decide)) (segment_lt s) g hg
  rw [hall.flag (regsWf_triggerMarked comp hs) (by decide) (by decide), flag, triggerMarked_kept comp hs (by decide) (.inl (by decide)), hshown]
  rfl

/-- Settles O60: each row is followed through the fields it writes, which lie apart from those the statement reads. -/
theorem captureRows : Obligations.CaptureRows := by
  unfold Obligations.CaptureRows
  refine ⟨fun s u w hg hu => ?_, fun u hu => ?_, fun u hu h3 hlast => captureStop_shows hu.1 h3 hlast, fun u h3 => if_neg h3,
    fun s src comp hs _ hsrc hlast => ⟨fun h2 => ?_, fun h1 => ?_⟩, fun s src comp h => offerTrigger_deaf comp h, fun s hq => ?_, fun s hs hq h2 => ?_,
    fun s line hs hsrc h2 hlast => ?_, fun s hs he => ?_, fun s line hdue => ?_⟩
  · have hexec : rowWrite s aTC_CTRL w = tcCtrlWritten u w.value := by rw [rowWrite_capture hg, hu]
    exact ⟨fun _ => congrArg Host.Outcome.next hexec, fun _ _ => congrArg Host.Outcome.next hexec,
      fun h0 h1 h2 => congrArg Host.Outcome.next (hexec.trans (tcCtrlWritten_force h0 h1 h2))⟩
  · obtain ⟨hstate, hseg, hqueue⟩ := captureArm_arms hu.1
    refine ⟨hstate, hseg, hqueue, fun n hn => flag_captureArm_valid hu.1 hn, getF_captureArm_D hu.1, fun a h0 h1 => ?_, fun a ha => ?_⟩
    · rw [captureArm_mem, if_pos ⟨h0, h1⟩]
    · rw [captureArm_mem, if_neg (by omega)]
  · rw [offerTrigger_armed comp hsrc hlast h2]
    exact triggered_shows comp hs.1 src
  · rw [offerTrigger_prefill comp hsrc hlast h1]
    exact ignored_shows hs.1 h1
  · show execCaptureStore s = _
    rw [execCaptureStore, hq]
  · obtain ⟨e, rest, hcons⟩ := List.exists_cons_of_ne_nil hq
    obtain ⟨hqueue, hstate⟩ := captureStore_armed (e := e) rest hs.1 h2
    exact ⟨_, exec_captureStore_armed hcons h2, hqueue.trans (by rw [hcons]; rfl), hstate⟩
  · have hseen := edgeSeen_writes s
    have hwf : (edgeSeen s).RegsWf := hseen.wf hs.1
    have hsrc' : (getF (edgeSeen s) TC_TRIG_SRC).testBit (4 + line.val) = true := by rwa [hseen.getF hs.1 (by decide) (by decide)]
    have h2' : tcState (edgeSeen s) = 2 := (hseen.getF hs.1 (by decide) (by decide)).trans h2
    have hlast' : (edgeSeen s).tc.lastTrig ≠ some ((edgeSeen s).elapsed / 5) := hlast
    obtain ⟨hstate, htrig, -, -, -⟩ := triggered_shows (lineComp s line) hwf (4 + line.val)
    have hcsync := triggered_csync (lineComp s line) (4 + line.val) hwf
    rw [← offerTrigger_armed (lineComp s line) hsrc' hlast' h2'] at hstate htrig hcsync
    exact ⟨_, exec_trigBusEdge s line, hstate, hcsync.trans (flag_setFlag_same s TC_STATUS_CSYNC_LOST false hs.1 (by decide) (by decide)), htrig⟩
  · have hexec : exec .csyncLost s = .next (setF s TC_STATUS_CSYNC_LOST 1) := congrArg Host.Outcome.next (if_pos he)
    exact ⟨_, hexec, flag_event_same s TC_STATUS_CSYNC_LOST hs.1 (by decide) (by decide), rfl⟩
  · refine ⟨_, exec_trigDriveEnd hdue, ?_, rfl⟩
    rw [armed, timerAt_disarm_same]
    rfl

end Sys2Proof.Machine

namespace Sys2Proof.Machine

/-! ### Events of the bus matrix (R371, R499, R500, R504 to R506) -/

/-! #### Locks -/

theorem releaseLock_held {s : State} {m target k : Nat} (h : s.bm.lock = some (m, target, k)) :
    releaseLock s m = disarm (setFlag { s with bm := { s.bm with lock := none } } BM_STATUS_LOCKED false) .lock := by
  simp only [releaseLock, h, if_true]

theorem holdsLock_iff {s : State} {m : Nat} : holdsLock s m = true ↔ ∃ target k, s.bm.lock = some (m, target, k) := by
  unfold holdsLock
  split
  · next x target k h =>
    simp only [decide_eq_true_eq, h, Option.some.injEq, Prod.mk.injEq]
    exact ⟨fun hx => ⟨target, k, hx, rfl, rfl⟩, fun ⟨_, _, hx, _⟩ => hx⟩
  · next h => simp [h]

theorem releaseLock_not_held {s : State} {m : Nat} (h : holdsLock s m = false) : releaseLock s m = s := by
  unfold releaseLock
  split
  · next x target k hlock =>
    refine if_neg fun hx => ?_
    rw [holdsLock_iff.mpr ⟨target, k, hx ▸ hlock⟩] at h
    exact Bool.false_ne_true h.symm
  · rfl

/-- No master holds a lock that it released. -/
theorem holdsLock_releaseLock (s : State) (m : Nat) : holdsLock (releaseLock s m) m = false := by
  cases h : holdsLock s m
  · rw [releaseLock_not_held h, h]
  · obtain ⟨target, k, hlock⟩ := holdsLock_iff.mp h
    rw [releaseLock_held hlock]
    rfl

theorem releaseLock_writes (s : State) (m : Nat) : RegWrites [BM_STATUS_LOCKED] s (releaseLock s m) := by
  cases h : holdsLock s m
  · rw [releaseLock_not_held h]
    exact .refl s
  · obtain ⟨target, k, hlock⟩ := holdsLock_iff.mp h
    rw [releaseLock_held hlock]
    exact .regs_eq (.andSetFlag (f := BM_STATUS_LOCKED) (b := false) (.of_regs rfl) (by simp)) rfl

theorem holdsLock_congr {s t : State} (h : t.bm = s.bm) (m : Nat) : holdsLock t m = holdsLock s m := by rw [holdsLock, holdsLock, h]

/-! #### Master resets -/

/-- A master that is reset has no broken sequence any more. -/
def unbroken (s : State) (m : Nat) : State := { s with bm := { s.bm with broken := s.bm.broken.filter (fun k => decide (k ≠ m)) } }

/-- Whether the burst writes, and the beats it leaves over. -/
def burstWrites (burst : Option Burst) : Bool := match burst with | some b => b.write | none => false

def beatsLeft (burst : Option Burst) : Nat := match burst with | some b => burstLeft b | none => 0

/-- BM_MRST's record of the reset, first the write mark and the master. -/
def resetNamed (s : State) (m : Nat) (burst : Option Burst) : State := setF (setFlag (unbroken s m) BM_MRST_WRITE (burstWrites burst)) BM_MRST_MASTER m

/-- The whole record, with the lock released. -/
def resetRecorded (s : State) (m : Nat) (burst : Option Burst) : State :=
  releaseLock (setF (setFlag (resetNamed s m burst) BM_MRST_LOCK_REL (holdsLock s m)) BM_MRST_BEATS (beatsLeft burst)) m

/-- The event and its counts. -/
def resetCounted (s : State) (m : Nat) (burst : Option Burst) : State :=
  bumpBy (bump (event (resetRecorded s m burst) BM_INT_MASTER_RESET) (cBM_CNT 5)) (if burstWrites burst then cBM_CNT 6 else cBM_CNT 7) (beatsLeft burst)

theorem countedEvent_bm (s : State) (f : Fld) (a b n : Nat) : (bumpBy (bump (event s f) a) b n).bm = s.bm := rfl

theorem resetCounted_bm (s : State) (m : Nat) (burst : Option Burst) : (resetCounted s m burst).bm = (resetRecorded s m burst).bm :=
  countedEvent_bm _ _ _ _ _

theorem masterReset_idle {s : State} {m : Nat} (h : holdsLock s m = false) : masterReset s m none = unbroken s m := if_pos ⟨rfl, h⟩

theorem masterReset_busy {s : State} {m : Nat} {burst : Option Burst} (h : burst.isSome = true ∨ holdsLock s m = true) :
    masterReset s m burst = raise (resetCounted s m burst) 0x008 0x60 clsContained (decide (m = 1)) m := by
  refine if_neg ?_
  rintro ⟨hnone, hfree⟩
  rcases h with h | h
  · rw [Option.isSome_eq_false_iff.mpr hnone] at h
    exact Bool.false_ne_true h
  · rw [hfree] at h
    exact Bool.false_ne_true h

/-- The counts and the report that end a master's reset. -/
def resetCountFields : List Fld := counterFields (cBM_CNT 5) ++ counterFields (cBM_CNT 6) ++ counterFields (cBM_CNT 7) ++ reportFields

theorem masterReset_counts {s : State} {m : Nat} {burst : Option Burst} (h : burst.isSome = true ∨ holdsLock s m = true) :
    RegWrites resetCountFields (event (resetRecorded s m burst) BM_INT_MASTER_RESET) (masterReset s m burst) := by
  rw [masterReset_busy h]
  refine .andRaise (.andBumpBy (.andBump (.refl _) (fun _ hg => by simp [resetCountFields, hg])) fun _ hg => ?_) fun _ hg => by simp [resetCountFields, hg]
  cases hw : burstWrites burst <;> rw [hw] at hg
  · exact List.mem_append_left _ (List.mem_append_right _ hg)
  · exact List.mem_append_left _ (List.mem_append_left _ (List.mem_append_right _ hg))

theorem getF_masterReset_master {s : State} {m : Nat} {burst : Option Burst} (hs : s.RegsWf) (hm : m < 64)
    (h : burst.isSome = true ∨ holdsLock s m = true) : getF (masterReset s m burst) BM_MRST_MASTER = m := by
  have hnamed : State.RegsWf (setFlag (unbroken s m) BM_MRST_WRITE (burstWrites burst)) := regsWf_setF (unbroken s m) _ _ hs
  have hrecorded : RegWrites [BM_MRST_LOCK_REL, BM_MRST_BEATS, BM_STATUS_LOCKED] (resetNamed s m burst) (resetRecorded s m burst) :=
    .trans (.andSetF (.andSetFlag (.refl _) (by simp)) (by simp)) ((releaseLock_writes _ m).mono (by simp))
  have hall : RegWrites ([BM_MRST_LOCK_REL, BM_MRST_BEATS, BM_STATUS_LOCKED, BM_INT_MASTER_RESET] ++ resetCountFields) (resetNamed s m burst) (masterReset s m burst) :=
    .trans (.andEvent (hrecorded.mono (by simp)) (by simp)) ((masterReset_counts h).mono (List.subset_append_right _ _))
  exact (getF_written hnamed hall (by decide) (by decide)).trans (Nat.mod_eq_of_lt hm)

theorem flag_masterReset_event {s : State} {m : Nat} {burst : Option Burst} (hs : s.RegsWf) (h : burst.isSome = true ∨ holdsLock s m = true) :
    flag (masterReset s m burst) BM_INT_MASTER_RESET = true := by
  have hnamed : (resetNamed s m burst).RegsWf := regsWf_setF _ _ _ (regsWf_setF (unbroken s m) _ _ hs)
  have hrecorded : (resetRecorded s m burst).RegsWf := (releaseLock_writes _ m).wf (regsWf_setF _ _ _ (regsWf_setF _ _ _ hnamed))
  exact flag_event_written hrecorded (masterReset_counts h) (by decide) (by decide)

theorem holdsLock_masterReset {s : State} {m : Nat} {burst : Option Burst} (h : burst.isSome = true ∨ holdsLock s m = true) :
    holdsLock (masterReset s m burst) m = false := by
  rw [masterReset_busy h, holdsLock_congr (raise_bm _ _ _ _ _ _), holdsLock_congr (resetCounted_bm s m burst)]
  exact holdsLock_releaseLock _ m

/-! #### Broken locks -/

/-- The lock is broken, with its event and its count (R499). -/
def lockBroken (s : State) (m : Nat) : State := bump (event (releaseLock s m) BM_INT_LOCK_BREAK) (cBM_CNT 4)

theorem exec_lockBreak {s : State} {m target k : Nat} (h : s.bm.lock = some (m, target, k)) (hd : due s .lock = true) :
    exec .lockBreak s
      = .next { lockBroken s m with bm := { (lockBroken s m).bm with broken := m :: (lockBroken s m).bm.broken.filter (fun x => decide (x ≠ m)) } } := by
  show execLockBreak s = _
  simp only [execLockBreak, h, hd, if_true]
  rfl

theorem lockBreak_shows {s : State} {m target k : Nat} (hs : s.RegsWf) (h : s.bm.lock = some (m, target, k)) :
    (lockBroken s m).bm.lock = none ∧ flag (lockBroken s m) BM_INT_LOCK_BREAK = true ∧ flag (lockBroken s m) BM_STATUS_LOCKED = false
      ∧ count (lockBroken s m) (cBM_CNT 4) = (count s (cBM_CNT 4) + 1) % 2 ^ 48 ∧ (lockBroken s m).mem = s.mem ∧ (lockBroken s m).flash = s.flash := by
  have hreleased : (releaseLock s m).RegsWf := (releaseLock_writes s m).wf hs
  have hlocked : flag (releaseLock s m) BM_STATUS_LOCKED = false := by
    rw [releaseLock_held h]
    exact flag_setFlag_same _ BM_STATUS_LOCKED false hs (by decide) (by decide)
  have hafter : RegWrites (BM_INT_LOCK_BREAK :: counterFields (cBM_CNT 4)) (releaseLock s m) (lockBroken s m) :=
    .andBump (.andEvent (.refl _) (by simp)) (List.subset_cons_self _ _)
  have hcounted : RegWrites (counterFields (cBM_CNT 4)) (event (releaseLock s m) BM_INT_LOCK_BREAK) (lockBroken s m) := .bump _ _ (List.Subset.refl _)
  have hbefore : RegWrites [BM_STATUS_LOCKED, BM_INT_LOCK_BREAK] s (event (releaseLock s m) BM_INT_LOCK_BREAK) :=
    .andEvent ((releaseLock_writes s m).mono (by simp)) (by simp)
  refine ⟨?_, flag_event_written hreleased hcounted (by decide) (by decide), (hafter.flag hreleased (by decide) (by decide)).trans hlocked,
    count_bumped hs hbefore (.refl (lockBroken s m)) (by decide) (List.forall_mem_nil _), ?_, ?_⟩
  all_goals rw [lockBroken, releaseLock_held h]; rfl

/-! #### Joints -/

/-- A joint's status words lie below the counters. -/
theorem jstat_lt (j : Joint) : aBM_JSTAT j < cBM_CNT 0 := by
  have hj := j.isLt
  unfold aBM_JSTAT cBM_CNT
  omega

theorem exec_jointUp {s : State} {j : Joint} {lost : Lost} (hrun : islandsRun s = true)
    (hbefore : ∀ k < 91, joinRank k < joinRank j → flag s (BM_JSTAT_UP k) = true) : exec (.jointUp j lost) s = .next (jointUp s j lost) := by
  refine congrArg Host.Outcome.next (if_pos ⟨hrun, List.all_eq_true.mpr fun k hk => ?_⟩)
  rw [Bool.or_eq_true, decide_eq_true_eq]
  rcases Nat.lt_or_ge (joinRank k) (joinRank j) with h | h
  · exact .inr (hbefore k (List.mem_range.mp hk) h)
  · exact .inl h

/-- The joint shows up, with the depths of its sides. -/
def jointShown (s : State) (j : Nat) : State :=
  setF (setF (setF s (BM_JSTAT_UP j) 1) (BM_JSTAT_DEPTH_A j) (deepSide (jointSides j).1)) (BM_JSTAT_DEPTH_B j) (deepSide (jointSides j).2)

theorem jointUp_down {s : State} {j : Nat} (lost : Nat) (h : flag s (BM_JSTAT_UP j) = false) :
    jointUp s j lost = bumpBy (bump (jointShown s j) (cBM_CNT 10)) (cBM_CNT 11) lost := if_neg (by rw [h]; exact Bool.false_ne_true)

/-- The fields of joint `j`. -/
def jointFields (j : Nat) : List Fld := [BM_JSTAT_UP j, BM_JSTAT_DEPTH_A j, BM_JSTAT_DEPTH_B j, BM_JSTAT_SAT j]

theorem jointShown_writes (s : State) (j : Nat) : RegWrites (jointFields j) s (jointShown s j) :=
  .andSetF (.andSetF (.andSetF (.refl s) (by simp [jointFields])) (by simp [jointFields])) (by simp [jointFields])

/-- A word from the counters on is no joint's. -/
theorem apart_jointFields {f : Fld} (j : Joint) (hf : cBM_CNT 0 ≤ f.addr) : ∀ g ∈ jointFields j, Apart f g := by
  have hlt := jstat_lt j
  have haddr : ∀ g ∈ jointFields j, g.addr = aBM_JSTAT j := by simp [jointFields, BM_JSTAT_UP, BM_JSTAT_DEPTH_A, BM_JSTAT_DEPTH_B, BM_JSTAT_SAT]
  exact fun g hg => .inl (by rw [haddr g hg]; omega)

theorem apart_counter_jointFields (j : Joint) (i : Nat) :
    ∀ g ∈ jointFields j, Apart ⟨cBM_CNT i, 31, 0⟩ g ∧ Apart ⟨cBM_CNT i + 4, 15, 0⟩ g := fun g hg =>
  ⟨apart_jointFields j (f := ⟨cBM_CNT i, 31, 0⟩) (by unfold cBM_CNT; dsimp only; omega) g hg,
    apart_jointFields j (f := ⟨cBM_CNT i + 4, 15, 0⟩) (by unfold cBM_CNT; dsimp only; omega) g hg⟩

theorem jointUp_up {s : State} (j : Joint) (lost : Nat) (hs : s.RegsWf) : flag (jointUp s j lost) (BM_JSTAT_UP j) = true := by
  cases h : flag s (BM_JSTAT_UP j)
  · have hin : InWord (BM_JSTAT_UP j) := ⟨le_rfl, show 0 < 32 by decide⟩
    have hafter : RegWrites ([BM_JSTAT_DEPTH_A j, BM_JSTAT_DEPTH_B j] ++ (counterFields (cBM_CNT 10) ++ counterFields (cBM_CNT 11)))
        (event s (BM_JSTAT_UP j)) (jointUp s j lost) := by
      rw [jointUp_down lost h]
      exact .andBumpBy (.andBump (.andSetF (.andSetF (.refl _) (by simp)) (by simp)) fun _ hg => by simp [hg]) fun _ hg => by simp [hg]
    refine flag_event_written hs hafter hin fun g hg => ?_
    rcases List.mem_append.mp hg with hg | hg
    · have hdepths : ∀ g ∈ [BM_JSTAT_DEPTH_A j, BM_JSTAT_DEPTH_B j], 0 < g.lo := by simp [BM_JSTAT_DEPTH_A, BM_JSTAT_DEPTH_B]
      exact .inr (.inl (hdepths g hg))
    · have hcounters : ∀ g ∈ counterFields (cBM_CNT 10) ++ counterFields (cBM_CNT 11), cBM_CNT 0 ≤ g.addr := by decide
      exact .inl ((jstat_lt j).trans_le (hcounters g hg)).ne
  · exact (congrArg (flag · (BM_JSTAT_UP j)) (if_pos h)).trans h

theorem jointUp_counts {s : State} (j : Joint) (lost : Nat) (hs : s.RegsWf) (h : flag s (BM_JSTAT_UP j) = false) :
    count (jointUp s j lost) (cBM_CNT 10) = (count s (cBM_CNT 10) + 1) % 2 ^ 48
      ∧ count (jointUp s j lost) (cBM_CNT 11) = (count s (cBM_CNT 11) + lost) % 2 ^ 48 := by
  have hlost : RegWrites (counterFields (cBM_CNT 11)) (bump (jointShown s j) (cBM_CNT 10)) (jointUp s j lost) := by
    rw [jointUp_down lost h]
    exact .bumpBy _ _ _ (List.Subset.refl _)
  have hup : RegWrites (jointFields j ++ counterFields (cBM_CNT 10)) s (bump (jointShown s j) (cBM_CNT 10)) :=
    .andBump ((jointShown_writes s j).mono (List.subset_append_left _ _)) (List.subset_append_right _ _)
  refine ⟨count_bumped hs (jointShown_writes s j) hlost (apart_counter_jointFields j 10) (by decide), ?_⟩
  refine count_bumped hs hup (by rw [jointUp_down lost h]; exact .refl _) (fun g hg => ?_) (List.forall_mem_nil _)
  rcases List.mem_append.mp hg with hg | hg
  · exact apart_counter_jointFields j 11 g hg
  · have hten : ∀ g ∈ counterFields (cBM_CNT 10), Apart ⟨cBM_CNT 11, 31, 0⟩ g ∧ Apart ⟨cBM_CNT 11 + 4, 15, 0⟩ g := by decide
    exact hten g hg

/-- The saturated joint's marks (R504). -/
def satMarked (s : State) (j : Nat) : State := event (event s (BM_JSTAT_SAT j)) BM_INT_JOINT_SAT

/-- The saturated joint's event and lost events are counted. -/
def satCounted (s : State) (j lost : Nat) : State := bumpBy (bump (satMarked s j) (cBM_CNT 8)) (cBM_CNT 9) lost

theorem countedMarks_parts (s : State) (f g : Fld) (a b n : Nat) :
    (bumpBy (bump (event (event s f) g) a) b n).mem = s.mem ∧ (bumpBy (bump (event (event s f) g) a) b n).flash = s.flash := ⟨rfl, rfl⟩

theorem satCounted_parts (s : State) (j lost : Nat) : (satCounted s j lost).mem = s.mem ∧ (satCounted s j lost).flash = s.flash :=
  countedMarks_parts _ _ _ _ _ _

theorem exec_jointSat {s : State} {j : Joint} {lost : Lost} (h : lost ≠ 0) :
    exec (.jointSat j lost) s = .next (raise (satCounted s j lost) 0x008 0x61 clsCorrected false j) := if_neg h

/-- What the counts and the report of a saturated joint write. -/
def satFields : List Fld := counterFields (cBM_CNT 8) ++ counterFields (cBM_CNT 9) ++ reportFields

theorem jointSat_shows {s : State} (j : Joint) (lost : Nat) (hs : s.RegsWf) :
    let t := raise (satCounted s j lost) 0x008 0x61 clsCorrected false j
    flag t (BM_JSTAT_SAT j) = true ∧ flag t BM_INT_JOINT_SAT = true ∧ count t (cBM_CNT 8) = (count s (cBM_CNT 8) + 1) % 2 ^ 48
      ∧ count t (cBM_CNT 9) = (count s (cBM_CNT 9) + lost) % 2 ^ 48 := by
  intro t
  have hmarks : RegWrites (jointFields j ++ [BM_INT_JOINT_SAT]) s (satMarked s j) :=
    .andEvent (.andEvent (.refl s) (by simp [jointFields])) (by simp)
  have hsat : RegWrites satFields (satMarked s j) t :=
    .andRaise (.andBumpBy (.andBump (.refl _) fun _ hg => by simp [satFields, hg]) fun _ hg => by simp [satFields, hg]) fun _ hg => by simp [satFields, hg]
  have hlost : RegWrites (counterFields (cBM_CNT 9) ++ reportFields) (bump (satMarked s j) (cBM_CNT 8)) t :=
    .andRaise (.andBumpBy (.refl _) (List.subset_append_left _ _)) (List.subset_append_right _ _)
  have hbumped : RegWrites (jointFields j ++ [BM_INT_JOINT_SAT] ++ counterFields (cBM_CNT 8)) s (bump (satMarked s j) (cBM_CNT 8)) :=
    .andBump (hmarks.mono (List.subset_append_left _ _)) (List.subset_append_right _ _)
  have hapart : ∀ i, 8 ≤ i → ∀ g ∈ jointFields j ++ [BM_INT_JOINT_SAT], Apart ⟨cBM_CNT i, 31, 0⟩ g ∧ Apart ⟨cBM_CNT i + 4, 15, 0⟩ g := by
    intro i _ g hg
    rcases List.mem_append.mp hg with hg | hg
    · exact apart_counter_jointFields j i g hg
    · rw [List.mem_singleton.mp hg]
      simp only [Apart, cBM_CNT, BM_INT_JOINT_SAT, aBM_INT]
      omega
  refine ⟨?_, flag_event_written (regsWf_setF _ _ _ hs) hsat (by decide) (by decide), count_bumped hs hmarks hlost (hapart 8 le_rfl) (by decide), ?_⟩
  · have hafter : RegWrites (BM_INT_JOINT_SAT :: satFields) (event s (BM_JSTAT_SAT j)) t := .trans (.andEvent (.refl _) (by simp)) (hsat.mono (List.subset_cons_self _ _))
    refine flag_event_written hs hafter ⟨le_rfl, show 1 < 32 by decide⟩ fun g hg => .inl ?_
    have hout : ∀ g ∈ BM_INT_JOINT_SAT :: satFields, g.addr < aBM_JSTAT 0 ∨ cBM_CNT 0 ≤ g.addr := by decide
    have hlt := jstat_lt j
    have hge : aBM_JSTAT 0 ≤ aBM_JSTAT j := by
      unfold aBM_JSTAT
      omega
    show aBM_JSTAT j ≠ g.addr
    have := hout g hg
    omega
  · refine count_bumped hs hbumped (.raise _ _ _ _ _ _) (fun g hg => ?_) (by decide)
    rcases List.mem_append.mp hg with hg | hg
    · exact hapart 9 (by decide) g hg
    · have height : ∀ g ∈ counterFields (cBM_CNT 8), Apart ⟨cBM_CNT 9, 31, 0⟩ g ∧ Apart ⟨cBM_CNT 9 + 4, 15, 0⟩ g := by decide
      exact height g hg

/-- Settles O10: each event is followed through the fields it writes. -/
theorem matrixEvents : Obligations.MatrixEvents := by
  unfold Obligations.MatrixEvents
  refine ⟨fun s burst h => ?_, fun s p w burst h0 h1 => congrArg Host.Outcome.next (if_pos ⟨h0, h1⟩), fun s m h => masterReset_idle h,
    fun s m burst hs hm h => ⟨getF_masterReset_master hs.1 hm h, flag_masterReset_event hs.1 h, holdsLock_masterReset h⟩,
    fun s m target k hs hl hd => ?_, fun s j lost hrun hbefore => exec_jointUp hrun hbefore,
    fun s j lost hs => ⟨jointUp_up j lost hs.1, jointUp_counts j lost hs.1⟩, fun s j lost hs hlost => ?_⟩
  · refine congrArg Host.Outcome.next (if_neg ?_)
    rw [h]
    exact Bool.false_ne_true
  · obtain ⟨hlock, hevent, hlocked, hcount, hmem, hflash⟩ := lockBreak_shows hs.1 hl
    exact ⟨_, exec_lockBreak hl hd, hlock, List.mem_cons_self, hevent, hlocked, hcount, hmem, hflash⟩
  · obtain ⟨hsat, hevent, hcount, hcountLost⟩ := jointSat_shows j lost hs.1
    obtain ⟨hmem, hflash⟩ := satCounted_parts s j lost
    exact ⟨_, exec_jointSat hlost, hsat, hevent, hcount, hcountLost, (raise_mem _ _ _ _ _ _).trans hmem,
      (raise_flash _ _ _ _ _ _).trans hflash⟩

end Sys2Proof.Machine

namespace Sys2Proof.Machine

/-! ### The host's flash operations (R389, R410, R416 to R419) -/

/-! #### What a command reads -/

/-- The registers of the NVM window, the fuses and the Tollhouse stand as they were. -/
def NvmKept (s t : State) : Prop := ∀ a, nvBase ≤ a → rd t a = rd s a

theorem nvmKept_atGrant (s : State) (w : RegWrite) : NvmKept s (atGrant s w) := fun a ha => by
  refine rd_setF_other _ _ _ _ ?_
  have hm := w.master.isLt
  simp only [BM_WAIT_MAX, aBM_WAIT, bmBase]
  unfold nvBase at ha
  omega

namespace NvmKept
variable {s t : State} (h : NvmKept s t)
include h

theorem getF {f : Fld} (hf : nvBase ≤ f.addr) : getF t f = Machine.getF s f := getF_of_rd (h _ hf)

theorem flag {f : Fld} (hf : nvBase ≤ f.addr) : flag t f = Machine.flag s f := flag_of_rd (h _ hf)

theorem opRange (op : Nat) : opRange t op = Machine.opRange s op := by
  rw [Machine.opRange, Machine.opRange, h.getF (f := NV_ADDR_ADDR) (by decide), h.getF (f := NV_LEN_LEN) (by decide)]

theorem bufBytes (n : Nat) : bufBytes t n = Machine.bufBytes s n := by
  unfold Machine.bufBytes
  refine List.map_congr_left fun i _ => ?_
  rw [h (aNV_BUF (i / 4)) (by unfold aNV_BUF; omega)]

theorem writeProtected (a n : Nat) : writeProtected t a n = Machine.writeProtected s a n := by
  have hfuse : ∀ i, nvBase ≤ (FU_WP_EN i).addr ∧ nvBase ≤ (FU_WP_START i).addr ∧ nvBase ≤ (FU_WP_END i).addr := fun i => by
    simp only [FU_WP_EN, FU_WP_START, FU_WP_END, aFU_WP, fuBase, nvBase]
    omega
  unfold Machine.writeProtected
  rw [h.flag (f := FU_STATUS_CRC_ERR) (by decide)]
  refine congrArg (Machine.flag s FU_STATUS_CRC_ERR || ·) (congrArg (List.any _) (funext fun i => ?_))
  obtain ⟨hen, hstart, hend⟩ := hfuse i
  rw [h.flag hen, h.getF hstart, h.getF hend]

theorem firmwareStands : firmwareStands t = Machine.firmwareStands s := by
  rw [Machine.firmwareStands, Machine.firmwareStands, h.getF (f := NV_STATUS_STAGE) (by decide), h.getF (f := NV_STATUS_FOOT_ERR) (by decide)]

theorem admits {op : Nat} (ha : FlashAdmits s op) : FlashAdmits t op := by
  unfold FlashAdmits at ha ⊢
  rwa [h.opRange, h.writeProtected, h.firmwareStands, h.getF (f := NV_STATUS_FW_SLOT) (by decide), pageSize, h.getF (f := NV_FLASH_PAGE) (by decide),
    h.getF (f := NV_FLASH_DENSITY) (by decide)]

end NvmKept

/-! #### Commands -/

/-- A granted write to NV_CMD is the command in its low bits. -/
theorem rowWrite_flash {s : State} {w : RegWrite} {op : Nat} (hg : Granted s w aNV_CMD) (hop : bitsOf w.value 2 0 = op) :
    rowWrite s aNV_CMD w = (nvCommand (atGrant s w) op (mayFlash s w.master.val)).1 := by
  rw [rowWrite_granted s _ w hg, regWritten_nv _ _ _ _ _ (by decide), ← hop]
  rfl

/-- The operation that a command asks for. -/
def commanded (s : State) (op : Nat) : HostOp :=
  ⟨op, (opRange s op).1, if op = 2 then bufBytes s (opRange s op).2 else [], (opRange s op).2, s.th.op.isSome⟩

/-- The command stands as the host's operation. -/
def commandTaken (s : State) (op : Nat) : State := setFlag { s with bt := { s.bt with host := some (commanded s op) } } NV_STATUS_BUSY true

theorem nvCommand_read {s : State} (allowed : Bool) (hhost : s.bt.host = none) : nvCommand s 1 allowed = (commandTaken s 1, false) := by
  simp [nvCommand, hhost, commandTaken, commanded]

theorem nvCommand_admitted {s : State} {op : Nat} (h2 : 2 ≤ op) (h4 : op ≤ 4) (hhost : s.bt.host = none) (ha : FlashAdmits s op) :
    nvCommand s op true = (commandTaken s op, false) := by
  obtain ⟨hprotected, hmeets, hslot, hpage, hdensity⟩ := ha
  have hop : ¬ (op = 0 ∨ 4 < op) := by omega
  have hrefused : ¬ (decide (2 ≤ op) = true ∧ (true = false ∨ writeProtected s (opRange s op).1 (opRange s op).2 = true)) := by simp [hprotected]
  have hhost' : ¬ s.bt.host.isSome = true := by simp [hhost]
  have hbad : ¬ (decide (2 ≤ op) = true ∧ (meets (opRange s op).1 (opRange s op).2 0x01800000 0xFE800000 = true
      ∨ (firmwareStands s = true ∧ meets (opRange s op).1 (opRange s op).2 (fwAddr (getF s NV_STATUS_FW_SLOT)) 0x400000 = true)
      ∨ (op = 2 ∧ (opRange s op).1 / pageSize s ≠ ((opRange s op).1 + (opRange s op).2 - 1) / pageSize s)
      ∨ 2 ^ getF s NV_FLASH_DENSITY < (opRange s op).1 + (opRange s op).2)) := by
    rintro ⟨-, h | ⟨hstands, h⟩ | ⟨htwo, h⟩ | h⟩
    · exact Bool.false_ne_true (hmeets.symm.trans h)
    · exact Bool.false_ne_true ((hslot hstands).symm.trans h)
    · exact h (hpage htwo)
    · omega
  exact (if_neg hop).trans ((if_neg hrefused).trans ((if_neg hhost').trans (if_neg hbad)))

theorem nvCommand_refused {s : State} {op : Nat} {allowed : Bool} (h2 : 2 ≤ op) (h4 : op ≤ 4)
    (h : allowed = false ∨ writeProtected s (opRange s op).1 (opRange s op).2 = true) : nvCommand s op allowed = (refuseFlash s, true) := by
  have hop : ¬ (op = 0 ∨ 4 < op) := by omega
  exact (if_neg hop).trans (if_pos ⟨decide_eq_true h2, h⟩)

theorem nvCommand_busy {s : State} {op : Nat} {allowed : Bool} (h1 : 1 ≤ op) (h4 : op ≤ 4) (hhost : s.bt.host.isSome = true)
    (h : 2 ≤ op → allowed = true ∧ writeProtected s (opRange s op).1 (opRange s op).2 = false) : nvCommand s op allowed = (refuseFlash s, false) := by
  have hop : ¬ (op = 0 ∨ 4 < op) := by omega
  have hrefused : ¬ (decide (2 ≤ op) = true ∧ (allowed = false ∨ writeProtected s (opRange s op).1 (opRange s op).2 = true)) := by
    rintro ⟨h2, hbad⟩
    obtain ⟨hallowed, hprotected⟩ := h (of_decide_eq_true h2)
    simp [hallowed, hprotected] at hbad
  exact (if_neg hop).trans ((if_neg hrefused).trans (if_pos hhost))

/-- BUSY shows in any table of registers, as its reset value is 0. -/
theorem flag_commandTaken (s : State) (op : Nat) : flag (commandTaken s op) NV_STATUS_BUSY = true := by
  have hne : withBits (rd s aNV_STATUS) 9 9 1 ≠ resetWord aNV_STATUS := by
    intro he
    have hbit := congrArg (bitsOf · 9 9) he
    rw [bitsOf_withBits_same _ _ _ _ (by decide)] at hbit
    have hreset : bitsOf (resetWord aNV_STATUS) 9 9 = 0 := by decide
    exact absurd (hbit.trans hreset) (by decide)
  have hword : rd (commandTaken s op) aNV_STATUS = withBits (rd s aNV_STATUS) 9 9 1 := cellGet_cellPut_of_ne resetWord s.regs aNV_STATUS _ hne
  have hfield : getF (commandTaken s op) NV_STATUS_BUSY = 1 := by
    rw [getF]
    exact (congrArg (bitsOf · 9 9) hword).trans (bitsOf_withBits_same _ _ _ _ (by decide))
  rw [flag, hfield]
  rfl

theorem flashBegun_commandTaken (s : State) (w : RegWrite) (op : Nat) : FlashBegun s (commandTaken (atGrant s w) op) op := by
  have hkept := nvmKept_atGrant s w
  refine ⟨?_, flag_commandTaken _ op, rfl, rfl, rfl⟩
  show some (commanded (atGrant s w) op) = _
  rw [commanded, hkept.opRange, hkept.bufBytes]
  rfl

/-! #### The end of an operation -/

/-- The end of an operation whose bytes are on the flash. -/
def hostShown (s : State) (h : HostOp) : State :=
  setFlag (event (applyHost { s with bt := { s.bt with host := none } } h true) NV_INT_DONE) NV_STATUS_BUSY false

theorem exec_flashOpDone {s : State} {h : HostOp} (hh : s.bt.host = some h) (hw : h.waits = false) (hd : flashDriven s = true) :
    exec (.flashOpDone true) s = .next (nextFlash (hostShown s h)) := by
  show execFlashOpDone true s = _
  simp only [execFlashOpDone, hh, hw, hd, Bool.false_eq_true, Bool.true_eq_false, if_false, if_true]
  rfl

/-- The end of an operation that does not reach the flash. -/
def hostFailed (s : State) : State :=
  setFlag (bump (event { s with bt := { s.bt with host := none } } NV_INT_ERR) (cNV_CNT 5)) NV_STATUS_BUSY false

theorem exec_flashOpDone_undriven {s : State} {h : HostOp} (ok : Bool) (hh : s.bt.host = some h) (hw : h.waits = false) (hd : flashDriven s = false) :
    exec (.flashOpDone ok) s = .next (hostFailed s) := by
  show execFlashOpDone ok s = _
  simp only [execFlashOpDone, hh, hw, hd, Bool.false_eq_true, if_false, if_true]
  rfl

theorem nextFlash_unhosted {s : State} (h : s.bt.host = none) :
    nextFlash s = s ∨ ∃ j, s.th.job = some j ∧ nextFlash s = opStarted (logFirst s j) := by
  unfold nextFlash
  split
  · exact .inl rfl
  cases hhost : s.bt.host with
  | some x => exact absurd (h.symm.trans hhost) (by simp)
  | none =>
    cases hjob : s.th.job with
    | none => exact .inl rfl
    | some j => exact .inr ⟨j, rfl, rfl⟩

theorem nextFlash_host {s : State} (h : s.bt.host = none) : (nextFlash s).bt.host = none := by
  obtain hnext | ⟨j, hjob, hnext⟩ := nextFlash_unhosted h
  · rwa [hnext]
  · obtain ⟨th, k, hlog, hk⟩ := logFirst_rest hjob
    obtain ⟨o, ops, hop⟩ := opStarted_rest (s := { s with th := th }) hk
    rw [hnext, hlog, hop]
    exact h

theorem nextFlash_ad (s : State) : (nextFlash s).ad = s.ad := by obtain ⟨b, th, h, -⟩ := nextFlash_rest s; rw [h]

theorem footDirty_rest (s : State) (a n : Nat) : RegsOnly s (footDirty s a n) := by
  unfold footDirty
  split
  · exact .setFlag _ _ _
  · exact .refl s

theorem regsWf_footDirty {s : State} (a n : Nat) (hs : s.RegsWf) : (footDirty s a n).RegsWf := by
  unfold footDirty
  split
  · exact regsWf_setF _ _ _ hs
  · exact hs

theorem regsWf_bump {s : State} (a : Nat) (hs : s.RegsWf) : (bump s a).RegsWf := regsWf_wr _ _ _ (regsWf_wr _ _ _ hs)

/-- One byte of a read. -/
def readByte (a : Nat) (s : State) (i : Nat) : State :=
  let (v, s1) := if a + i < 2 ^ getF s NV_FLASH_DENSITY then ((cellGet flashDefault s.flash (a + i)).toNat, s) else fresh s 256
  setF s1 ⟨aNV_BUF (i / 4), 8 * (i % 4) + 7, 8 * (i % 4)⟩ v

theorem readByte_parts (a : Nat) (s : State) (i : Nat) :
    (s.RegsWf → (readByte a s i).RegsWf) ∧ (readByte a s i).flash = s.flash ∧ (readByte a s i).ad = s.ad ∧ (readByte a s i).bt = s.bt := by
  unfold readByte
  split_ifs
  · exact ⟨regsWf_setF _ _ _, rfl, rfl, rfl⟩
  · exact ⟨regsWf_setF (fresh s 256).2 _ _, rfl, rfl, rfl⟩

theorem readToBuf_parts (s : State) (a n : Nat) :
    (s.RegsWf → (readToBuf s a n).RegsWf) ∧ (readToBuf s a n).flash = s.flash ∧ (readToBuf s a n).ad = s.ad ∧ (readToBuf s a n).bt = s.bt := by
  show (s.RegsWf → ((List.range n).foldl (readByte a) s).RegsWf) ∧ ((List.range n).foldl (readByte a) s).flash = s.flash
    ∧ ((List.range n).foldl (readByte a) s).ad = s.ad ∧ ((List.range n).foldl (readByte a) s).bt = s.bt
  generalize List.range n = l
  induction l generalizing s with
  | nil => exact ⟨id, rfl, rfl, rfl⟩
  | cons i l ih =>
    obtain ⟨hwf, hflash, had, hbt⟩ := readByte_parts a s i
    obtain ⟨hwf', hflash', had', hbt'⟩ := ih (readByte a s i)
    exact ⟨hwf' ∘ hwf, hflash'.trans hflash, had'.trans had, hbt'.trans hbt⟩

theorem applyHost_read {s : State} {h : HostOp} (hop : h.op = 1) : applyHost s h true = bump (readToBuf s h.addr h.len) (cNV_CNT 0) := by
  unfold applyHost
  rw [hop]
  rfl

theorem applyHost_program {s : State} {h : HostOp} (hop : h.op = 2) :
    applyHost s h true = footDirty (bump (flashProgram s h.addr h.data) (cNV_CNT 1)) h.addr h.len := by
  unfold applyHost
  rw [hop]
  rfl

theorem applyHost_erase {s : State} {h : HostOp} (h1 : h.op ≠ 1) (h2 : h.op ≠ 2) :
    applyHost s h true = footDirty (bump (flashErase s h.addr h.len) (cNV_CNT 2)) h.addr h.len := by
  unfold applyHost
  split
  · exact absurd ‹_› h1
  · exact absurd ‹_› h2
  · rfl

/-- What a successful operation leaves of the flash. -/
def hostFlash (s : State) (h : HostOp) : List (Nat × Byte) :=
  if h.op = 1 then s.flash else if h.op = 2 then (flashProgram s h.addr h.data).flash else (flashErase s h.addr h.len).flash

theorem footDirty_parts (s : State) (a n : Nat) :
    (footDirty s a n).flash = s.flash ∧ (footDirty s a n).ad = s.ad ∧ (footDirty s a n).bt = s.bt := by
  obtain ⟨r, h⟩ := footDirty_rest s a n
  rw [h]
  exact ⟨rfl, rfl, rfl⟩

theorem applyHost_parts (s : State) (h : HostOp) :
    (s.RegsWf → (applyHost s h true).RegsWf) ∧ (applyHost s h true).flash = hostFlash s h ∧ (applyHost s h true).ad = s.ad
      ∧ (applyHost s h true).bt = s.bt := by
  by_cases h1 : h.op = 1
  · obtain ⟨hwf, hflash, had, hbt⟩ := readToBuf_parts s h.addr h.len
    rw [applyHost_read h1, hostFlash, if_pos h1]
    exact ⟨fun hs => regsWf_bump _ (hwf hs), hflash, had, hbt⟩
  by_cases h2 : h.op = 2
  · obtain ⟨l, hprog⟩ := flashProgram_rest s h.addr h.data
    obtain ⟨hflash, had, hbt⟩ := footDirty_parts (bump (flashProgram s h.addr h.data) (cNV_CNT 1)) h.addr h.len
    rw [applyHost_program h2, hostFlash, if_neg h1, if_pos h2, hflash, had, hbt]
    rw [hprog]
    exact ⟨fun hs => regsWf_footDirty _ _ (regsWf_bump _ hs), rfl, rfl, rfl⟩
  · obtain ⟨hflash, had, hbt⟩ := footDirty_parts (bump (flashErase s h.addr h.len) (cNV_CNT 2)) h.addr h.len
    rw [applyHost_erase h1 h2, hostFlash, if_neg h1, if_neg h2, hflash, had, hbt]
    exact ⟨fun hs => regsWf_footDirty _ _ (regsWf_bump _ hs), rfl, rfl, rfl⟩

/-- An erase leaves ones in its range and every other byte as it was. -/
theorem cellGet_flashErase (s : State) (a n b : Nat) :
    cellGet flashDefault (flashErase s a n).flash b = if a ≤ b ∧ b < a + n then 0xFF#8 else cellGet flashDefault s.flash b := by
  have hdrop := cellGet_cellDrop flashDefault (fun k => decide (a ≤ k ∧ k < a + n)) s.flash b
  simp only [decide_eq_true_eq] at hdrop
  exact hdrop

theorem hostShown_shows {s : State} (h : HostOp) (hs : s.RegsWf) :
    flag (hostShown s h) NV_STATUS_BUSY = false ∧ flag (hostShown s h) NV_INT_DONE = true ∧ (hostShown s h).bt.host = none ∧ (hostShown s h).ad = s.ad
      ∧ (hostShown s h).flash = hostFlash { s with bt := { s.bt with host := none } } h := by
  obtain ⟨hwf, hflash, had, hbt⟩ := applyHost_parts { s with bt := { s.bt with host := none } } h
  have happlied := hwf hs
  have hdone := regsWf_setF _ NV_INT_DONE 1 happlied
  refine ⟨flag_setFlag_same _ _ _ hdone (by decide) (by decide), ?_, (congrArg Boot.host hbt).trans rfl, had, hflash⟩
  have hbusy := (RegWrites.refl (W := [NV_STATUS_BUSY]) (event (applyHost { s with bt := { s.bt with host := none } } h true) NV_INT_DONE)).andSetFlag
    (f := NV_STATUS_BUSY) (b := false) (by simp)
  exact flag_event_written happlied hbusy (by decide) (by decide)

theorem hostFailed_shows {s : State} (hs : s.RegsWf) : flag (hostFailed s) NV_STATUS_BUSY = false ∧ flag (hostFailed s) NV_INT_ERR = true := by
  have hhost : State.RegsWf { s with bt := { s.bt with host := none } } := hs
  have hcounted := regsWf_bump (cNV_CNT 5) (regsWf_setF _ NV_INT_ERR 1 hhost)
  have hafter : RegWrites (NV_STATUS_BUSY :: counterFields (cNV_CNT 5)) (event { s with bt := { s.bt with host := none } } NV_INT_ERR) (hostFailed s) :=
    .andSetFlag (.andBump (.refl _) (List.subset_cons_self _ _)) (by simp)
  exact ⟨flag_setFlag_same _ _ _ hcounted (by decide) (by decide), flag_event_written hhost hafter (by decide) (by decide)⟩

/-- Settles O53: a command is taken as R417 lets it, and its end changes the flash by its own rule alone. -/
theorem flashOperations : Obligations.FlashOperations := by
  unfold Obligations.FlashOperations
  have hexec : ∀ (s : State) (w : RegWrite) (op : Nat), Granted s w aNV_CMD → bitsOf w.value 2 0 = op →
      (.next (rowWrite s aNV_CMD w) : Out) = .next (nvCommand (atGrant s w) op (mayFlash s w.master.val)).1 :=
    fun s w op hg hop => congrArg Host.Outcome.next (rowWrite_flash hg hop)
  refine ⟨fun s w hg => ⟨hexec s w 1 hg, hexec s w 2 hg, hexec s w 3 hg, hexec s w 4 hg⟩, fun s allowed hs hhost => ?_, fun s w hg hmay hhost => ?_,
    fun s op allowed h2 h4 h => nvCommand_refused h2 h4 h, fun s op allowed h1 h4 hhost h => nvCommand_busy h1 h4 hhost h,
    fun s h hs hh hw hd => ?_, fun s h ok hs hh hw hd => ?_, fun s w hg => ?_⟩
  · rw [nvCommand_read allowed hhost]
    exact ⟨commanded s 1, rfl, rfl, rfl, rfl, flag_commandTaken s 1⟩
  · have hbegun : ∀ op, 2 ≤ op → op ≤ 4 → bitsOf w.value 2 0 = op → FlashAdmits s op →
        ∃ t, (.next (rowWrite s aNV_CMD w) : Out) = .next t ∧ FlashBegun s t op := by
      intro op h2 h4 hop ha
      refine ⟨_, hexec s w op hg hop, ?_⟩
      rw [hmay, nvCommand_admitted (s := atGrant s w) h2 h4 hhost ((nvmKept_atGrant s w).admits ha)]
      exact flashBegun_commandTaken s w op
    exact ⟨hbegun 2 (by decide) (by decide), hbegun 3 (by decide) (by decide), hbegun 4 (by decide) (by decide)⟩
  · obtain ⟨hbusy, hdone, hhost, had, hflash⟩ := hostShown_shows h hs.1
    have hregs : ∀ f, flag (nextFlash (hostShown s h)) f = flag (hostShown s h) f := fun f => flag_of_rd (rd_of_regs (nextFlash_regs _) _)
    have hflash' := (nextFlash_flash (hostShown s h)).trans hflash
    refine ⟨_, exec_flashOpDone hh hw hd, (hregs _).trans hbusy, (hregs _).trans hdone, nextFlash_host hhost, (nextFlash_ad _).trans had, fun hop => ?_,
      fun hop a => ?_, fun hop a => ?_⟩
    · rw [hflash', hostFlash, if_pos hop]
    · rw [hflash', hostFlash, hop, if_neg (by decide), if_pos rfl]
      exact cellGet_flashProgram h.data { s with bt := { s.bt with host := none } } h.addr a hs.2.2
    · have hne : h.op ≠ 1 ∧ h.op ≠ 2 := by omega
      rw [hflash', hostFlash, if_neg hne.1, if_neg hne.2]
      exact cellGet_flashErase { s with bt := { s.bt with host := none } } h.addr h.len a
  · obtain ⟨hbusy, herr⟩ := hostFailed_shows hs.1
    exact ⟨_, exec_flashOpDone_undriven ok hh hw hd, rfl, hbusy, herr, rfl, rfl⟩
  · refine congrArg Host.Outcome.next ?_
    rw [rowWrite_granted s _ w hg, regWritten_nv _ _ _ _ _ (by decide)]
    rfl

end Sys2Proof.Machine

namespace Sys2Proof.Machine

/-! ### What the converter's requests and the tests of zones leave (R292, R425, R430) -/

/-- The Tollhouse's words that a request of the converter writes: its state, its aborts, and the busy event. -/
def converterWords : List Nat := [aHK_STATUS, cHK_CNT 2, cHK_CNT 2 + 4, aTH_INT]

theorem not_converterWords {a : Nat} (h : a < aTH_INT ∨ aTH_INT < a ∧ a < aHK_STATUS) : a ∉ converterWords := by
  have hwords : ∀ b ∈ converterWords, b = aTH_INT ∨ aHK_STATUS ≤ b := by decide
  have horder : aTH_INT < aHK_STATUS := by decide
  intro hmem
  have := hwords a hmem
  omega

/-- From the Tollhouse's window on, the second state's registers are the first's but for the converter's words; the memories, the requests, the power and the times of the
sequence stand. -/
structure TempFrame (s t : State) : Prop where
  wf : s.RegsWf → t.RegsWf
  word : ∀ a, thBase ≤ a → a ∉ converterWords → rd t a = rd s a
  mem : t.mem = s.mem
  flash : t.flash = s.flash
  ad : t.ad = s.ad
  pw : t.pw = s.pw
  elapsed : t.elapsed = s.elapsed
  clock : t.clock = s.clock
  cycle : t.th.cycle = s.th.cycle
  jsSeen : t.th.jsSeen = s.th.jsSeen

namespace TempFrame
variable {s t u : State}

theorem refl (s : State) : TempFrame s s := ⟨id, fun _ _ _ => rfl, rfl, rfl, rfl, rfl, rfl, rfl, rfl, rfl⟩

theorem trans (h : TempFrame s t) (k : TempFrame t u) : TempFrame s u :=
  ⟨k.wf ∘ h.wf, fun a ha hn => (k.word a ha hn).trans (h.word a ha hn), k.mem.trans h.mem, k.flash.trans h.flash, k.ad.trans h.ad, k.pw.trans h.pw,
    k.elapsed.trans h.elapsed, k.clock.trans h.clock, k.cycle.trans h.cycle, k.jsSeen.trans h.jsSeen⟩

theorem ite {c : Prop} [Decidable c] (ht : TempFrame s t) (hu : TempFrame s u) : TempFrame s (if c then t else u) := by
  split
  · exact ht
  · exact hu

theorem foldl {α : Type} {f : State → α → State} (l : List α) (hf : ∀ s, ∀ a ∈ l, TempFrame s (f s a)) (s : State) : TempFrame s (l.foldl f s) := by
  induction l generalizing s with
  | nil => exact refl s
  | cons a l ih => exact (hf s a List.mem_cons_self).trans (ih (fun s b hb => hf s b (List.mem_cons_of_mem _ hb)) _)

theorem wr (s : State) {a : Nat} (v : Word) (h : a < thBase ∨ a ∈ converterWords) : TempFrame s (wr s a v) := by
  refine ⟨regsWf_wr s a v, fun b hb hn => rd_wr_other s a b v fun he => ?_, rfl, rfl, rfl, rfl, rfl, rfl, rfl, rfl⟩
  subst he
  rcases h with h | h
  · exact absurd h (Nat.not_lt.mpr hb)
  · exact hn h

theorem setF (s : State) {f : Fld} (v : Nat) (h : f.addr < thBase ∨ f.addr ∈ converterWords) : TempFrame s (setF s f v) := wr s _ h

theorem setFlag (s : State) {f : Fld} (b : Bool) (h : f.addr < thBase ∨ f.addr ∈ converterWords) : TempFrame s (setFlag s f b) := setF s _ h

theorem event (s : State) {f : Fld} (h : f.addr < thBase ∨ f.addr ∈ converterWords) : TempFrame s (event s f) := setF s _ h

theorem bump (s : State) {a : Nat} (h : a ∈ converterWords) (h4 : a + 4 ∈ converterWords) : TempFrame s (bump s a) :=
  (wr s _ (.inr h)).trans (wr _ _ (.inr h4))

theorem armIn (s : State) (x : Timer) (n : Nat) : TempFrame s (armIn s x n) := ⟨id, fun _ _ _ => rfl, rfl, rfl, rfl, rfl, rfl, rfl, rfl, rfl⟩

theorem setCal (s : State) (c : Cal) : TempFrame s { s with cal := c } := ⟨id, fun _ _ _ => rfl, rfl, rfl, rfl, rfl, rfl, rfl, rfl, rfl⟩

theorem setConverter (s : State) (b : Nat) (q : List (Nat × Nat)) (x : Option Urgent) :
    TempFrame s { s with th := { s.th with began := b, calQueue := q, urgent := x } } := ⟨id, fun _ _ _ => rfl, rfl, rfl, rfl, rfl, rfl, rfl, rfl, rfl⟩

theorem getF (h : TempFrame s t) {f : Fld} (hf : thBase ≤ f.addr) (hn : f.addr ∉ converterWords) : getF t f = Machine.getF s f := getF_of_rd (h.word _ hf hn)

theorem flag (h : TempFrame s t) {f : Fld} (hf : thBase ≤ f.addr) (hn : f.addr ∉ converterWords) : flag t f = Machine.flag s f := flag_of_rd (h.word _ hf hn)

theorem pstate (h : TempFrame s t) : pstate t = Machine.pstate s :=
  h.getF (f := TH_PSTATE_STATE) (by decide) (not_converterWords (by decide))

theorem zoneTemp (h : TempFrame s t) {z : Nat} (hlt : z < 9) : zoneTemp t z = Machine.zoneTemp s z := by
  have hz : thBase ≤ aTH_ZONE z ∧ aTH_ZONE z ∉ converterWords := by
    refine ⟨?_, not_converterWords (.inr ?_)⟩
    all_goals unfold aTH_ZONE
    · omega
    · unfold aTH_INT aHK_STATUS
      omega
  rw [Machine.zoneTemp, h.flag (f := TH_ZONE_VALID z) hz.1 hz.2, h.getF (f := TH_ZONE_TEMP z) hz.1 hz.2]
  rfl

/-! #### The converter -/

theorem abortConversion (s : State) : TempFrame s (abortConversion s) :=
  ite ((setConverter s s.elapsed s.th.calQueue s.th.urgent).trans (bump _ (by decide) (by decide))) (refl s)

theorem requestUrgent (s : State) (x : Urgent) : TempFrame s (requestUrgent s x) := by
  refine ite (event s (by decide)) ?_
  exact (((abortConversion s).trans (setConverter _ _ _ _)).trans ((setFlag _ true (by decide)).trans (setFlag _ true (by decide)))).trans (setConverter _ _ _ _)

theorem nextCalConversion (s : State) : TempFrame s (nextCalConversion s) := by
  unfold Machine.nextCalConversion
  split
  · exact (setConverter s s.th.began _ s.th.urgent).trans (requestUrgent _ _)
  · exact refl s

theorem calibrateHk (s : State) : TempFrame s (calibrateHk s) := ite ((setConverter s s.th.began _ s.th.urgent).trans (nextCalConversion _)) (refl s)

/-! #### The runs that a temperature makes due -/

theorem showSeq (s : State) {n : Nat} (hn : n < 36) (q : CalSeq) : TempFrame s (showSeq s n q) := by
  have hstatus : aCAL_SPAN_STATUS n < thBase := by
    unfold aCAL_SPAN_STATUS spBase thBase
    omega
  refine (((setF s _ (.inl hstatus)).trans (setFlag _ _ (.inl hstatus))).trans (setF _ _ (.inl hstatus))).trans (setFlag _ _ (.inl ?_))
  have hdue : aCAL_DUE_LO < thBase ∧ aCAL_DUE_HI < thBase := by decide
  split
  · exact hdue.1
  · exact hdue.2

theorem setSeq (s : State) {n : Nat} (hn : n < 36) (q : CalSeq) : TempFrame s (setSeq s n q) := (setCal s _).trans (showSeq _ hn q)

theorem trigger (s : State) {n : Nat} (hn : n < 36) (k : Nat) : TempFrame s (trigger s n k) :=
  ite (refl s) (ite ((setSeq s hn _).trans (armIn _ _ _)) (setSeq s hn _))

end TempFrame

/-- A zone without a temperature shows. -/
def zonesTested (s : State) : State := if (List.range 9).any (fun z => (zoneTemp s z).isNone) then event s CAL_INT_ZONE_ERR else s

/-- One span's kind is tested against its delta (R292). -/
def kindTested (s : State) (e : Nat × Nat) : State := if kindEn s e.2 ∧ moved s e.1 e.2 then trigger s e.1 e.2 else s

/-- Each span's kinds are tested. -/
def kindsTested (s : State) : State := ((List.range 36).flatMap (fun n => (List.range 3).map (fun k => (n, k)))).foldl kindTested s

theorem calTemps_eq (s : State) : calTemps s =
    if 2 ≤ pstate s then
      (if flag (zonesTested s) CAL_CTRL_TEMP_EN then
        (if (List.range 36).any (fun n => (seqOf (zonesTested s) n).ofs.isNone && (seqOf (kindsTested (zonesTested s)) n).ofs.isSome)
          then calibrateHk (kindsTested (zonesTested s)) else kindsTested (zonesTested s))
      else zonesTested s)
    else s := rfl

theorem calTemps_frame (s : State) : TempFrame s (calTemps s) := by
  have hzones : TempFrame s (zonesTested s) := .ite (.event s (by decide)) (.refl s)
  have hkinds : ∀ u, TempFrame u (kindsTested u) := fun u => .foldl _ (fun v e he => by
    obtain ⟨n, hn, he⟩ := List.mem_flatMap.mp he
    obtain ⟨k, -, rfl⟩ := List.mem_map.mp he
    exact .ite (.trigger v (List.mem_range.mp hn) k) (.refl v)) u
  have htested := hzones.trans (hkinds _)
  rw [calTemps_eq]
  exact .ite (.ite (.ite (htested.trans (.calibrateHk _)) htested) hzones) (.refl s)

end Sys2Proof.Machine

namespace Sys2Proof.Machine

/-! ### Housekeeping (R423, R429, R430, R434) -/

/-! #### Cycles -/

/-- The time of the cycle, the memories and the flash stand. -/
structure CycleFrame (s t : State) : Prop where
  cycle : t.th.cycle = s.th.cycle
  mem : t.mem = s.mem
  flash : t.flash = s.flash

namespace CycleFrame
variable {s t u : State}

theorem trans (h : CycleFrame s t) (k : CycleFrame t u) : CycleFrame s u := ⟨k.cycle.trans h.cycle, k.mem.trans h.mem, k.flash.trans h.flash⟩

theorem of_regs (h : RegsOnly s t) : CycleFrame s t := by
  obtain ⟨r, rfl⟩ := h
  exact ⟨rfl, rfl, rfl⟩

theorem of_temp (h : TempFrame s t) : CycleFrame s t := ⟨h.cycle, h.mem, h.flash⟩

theorem showZones (s : State) : CycleFrame s (showZones s) := by
  refine of_regs (.foldl (fun s z => ?_) _ s)
  split
  · split
    · exact (RegsOnly.setF _ _ _).trans (.setF _ _ _)
    · exact .setF _ _ _
  · exact .setF _ _ _

theorem reservedEntry (s : State) (i : Nat) : CycleFrame s (reservedEntry s i) := by
  have hmarks : ∀ a b c d : Fld, RegsOnly s (setF (setF (setF (setF s a 0) b 0) c 0) d 0) := fun _ _ _ _ =>
    (((RegsOnly.setF s _ _).trans (.setF _ _ _)).trans (.setF _ _ _)).trans (.setF _ _ _)
  have hinvalid : ∀ u, CycleFrame u (invalidEntry u i) := fun _ => ⟨rfl, rfl, rfl⟩
  exact ((of_regs (hmarks _ _ _ _)).trans (hinvalid _)).trans (showZones _)

theorem endCycle (s : State) : CycleFrame s (endCycle s) := ⟨rfl, rfl, rfl⟩

/-- Seeking the next entry keeps the frame, by induction on the fuel. -/
theorem seekEntry (fuel : Nat) (s : State) (i : Nat) : CycleFrame s (seekEntry s fuel i) := by
  induction fuel generalizing s i with
  | zero => exact endCycle s
  | succ fuel ih =>
    unfold Machine.seekEntry
    split_ifs
    · exact endCycle s
    · exact ih s (i + 1)
    · exact (reservedEntry s i).trans (ih _ (i + 1))
    · exact ⟨rfl, rfl, rfl⟩

end CycleFrame

/-- A cycle begins at its first entry. -/
def cycleBegun (s : State) : State := seekEntry { s with th := { s.th with cycle := some s.elapsed, cycling := true } } 17 0

/-- The next cycle is due (R429). -/
def cycleLate (s : State) : Bool := match s.th.cycle with | some t => decide (t + 4000000 * hkInterval s ≤ s.elapsed) | none => true

theorem exec_hkCycleStart (s : State) :
    exec .hkCycleStart s = if flag s HK_CTRL_EN ∧ s.th.cycling = false ∧ cycleLate s then .next (calTemps (nextCalConversion (cycleBegun s))) else .next s := rfl

theorem cycleLate_of_all {s : State} (h : ∀ t, s.th.cycle = some t → t + 4000000 * hkInterval s ≤ s.elapsed) : cycleLate s = true := by
  unfold cycleLate
  split
  · next t ht => exact decide_eq_true (h t ht)
  · rfl

theorem cycleLate_before {s : State} {t : Nat} (ht : s.th.cycle = some t) (h : s.elapsed < t + 4000000 * hkInterval s) : cycleLate s = false := by
  unfold cycleLate
  rw [ht]
  exact decide_eq_false (Nat.not_le.mpr h)

theorem hkCycleStart_begins {s : State} (he : flag s HK_CTRL_EN = true) (hc : s.th.cycling = false)
    (hl : ∀ t, s.th.cycle = some t → t + 4000000 * hkInterval s ≤ s.elapsed) :
    ∃ t, exec .hkCycleStart s = .next t ∧ t.th.cycle = some s.elapsed ∧ t.mem = s.mem ∧ t.flash = s.flash := by
  have hframe := ((CycleFrame.seekEntry 17 { s with th := { s.th with cycle := some s.elapsed, cycling := true } } 0).trans
    (.of_temp (TempFrame.nextCalConversion _))).trans (.of_temp (calTemps_frame _))
  exact ⟨_, (exec_hkCycleStart s).trans (if_pos ⟨he, hc, cycleLate_of_all hl⟩), hframe.cycle, hframe.mem, hframe.flash⟩

theorem hkCycleStart_waits {s : State} (h : flag s HK_CTRL_EN = false ∨ s.th.cycling = true ∨ (∃ t, s.th.cycle = some t ∧ s.elapsed < t + 4000000 * hkInterval s)) :
    exec .hkCycleStart s = .next s := by
  refine (exec_hkCycleStart s).trans (if_neg ?_)
  rintro ⟨he, hc, hl⟩
  obtain h | h | ⟨t, ht, hlt⟩ := h
  · exact Bool.false_ne_true (h.symm.trans he)
  · exact Bool.false_ne_true (hc.symm.trans h)
  · exact Bool.false_ne_true ((cycleLate_before ht hlt).symm.trans hl)

/-! #### Urgent requests -/

/-- A granted write to HK_URG with GO makes the request that its word names. -/
theorem rowWrite_urgent {s : State} {w : RegWrite} (hg : Granted s w aHK_URG) (hgo : w.value.getLsbD 12 = true) :
    rowWrite s aHK_URG w = urgentWritten (storeWrite (atGrant s w) aHK_URG w.value) := by
  rw [rowWrite_granted s _ w hg, regWritten_th _ _ _ _ _ (by decide)]
  have hgoes : thWrite (atGrant s w) aHK_URG w.value = if w.value.getLsbD 12 then urgentWritten (storeWrite (atGrant s w) aHK_URG w.value)
      else storeWrite (atGrant s w) aHK_URG w.value := rfl
  exact hgoes.trans (if_pos hgo)

/-- The request stands, with its flags. -/
def urgentBegun (s : State) : State := setFlag (setFlag (beginConversion (abortConversion s)) HK_STATUS_BUSY true) HK_STATUS_URGENT true

theorem requestUrgent_free {s : State} (x : Urgent) (h : s.th.urgent = none) :
    requestUrgent s x = { urgentBegun s with th := { (urgentBegun s).th with urgent := some x } } := if_neg (by rw [h]; exact Bool.false_ne_true)

theorem requestUrgent_busy {s : State} (x : Urgent) (h : s.th.urgent.isSome = true) : requestUrgent s x = event s TH_INT_URG_BUSY := if_pos h

theorem regsWf_abortConversion {s : State} (hs : s.RegsWf) : (abortConversion s).RegsWf := (TempFrame.abortConversion s).wf hs

theorem abortConversion_elapsed (s : State) : (abortConversion s).elapsed = s.elapsed := (TempFrame.abortConversion s).elapsed

theorem urgentBegun_shows {s : State} (hs : s.RegsWf) :
    flag (urgentBegun s) HK_STATUS_URGENT = true ∧ flag (urgentBegun s) HK_STATUS_BUSY = true ∧ (urgentBegun s).th.began = s.elapsed := by
  have hbegun : (beginConversion (abortConversion s)).RegsWf := regsWf_abortConversion hs
  have hafter : RegWrites [HK_STATUS_URGENT] (setFlag (beginConversion (abortConversion s)) HK_STATUS_BUSY true) (urgentBegun s) := .setFlag _ true (by simp)
  exact ⟨flag_setFlag_same _ _ _ (regsWf_setF _ _ _ hbegun) (by decide) (by decide), flag_written hbegun hafter (by decide) (by decide),
    abortConversion_elapsed s⟩

/-! #### Results -/

theorem thermistorValue_rest (s : State) (n : Nat) (x : Int) : ∃ f, (thermistorValue s n x).2 = { s with free := f } := by
  unfold thermistorValue
  split <;> exact ⟨_, rfl⟩

/-- A measurement takes free values alone. -/
theorem hkMeasure_rest (s : State) (input gain : Nat) (owd : Bool) (r : HkReading) : ∃ f, (hkMeasure s input gain owd r).2 = { s with free := f } := by
  have chosen {c : Prop} [Decidable c] {x y : HkResult × State} (hx : ∃ f, x.2 = { s with free := f }) (hy : ∃ f, y.2 = { s with free := f }) :
      ∃ f, (if c then x else y).2 = { s with free := f } := by
    split <;> assumption
  have heated {n : Nat} {x v : Int} {u : State} (h : thermistorValue s n x = (v, u)) : ∃ f, u = { s with free := f } := by
    have hrest := thermistorValue_rest s n x
    rwa [h] at hrest
  have divided {a : Int} {d : Nat} {v : Int} {u : State} (h : divFree s a d = (v, u)) : ∃ f, u = { s with free := f } := by
    have hrest := divFree_free s a d
    rwa [h] at hrest
  have hsame : ∃ f, s = { s with free := f } := ⟨s.free, rfl⟩
  unfold hkMeasure
  refine chosen hsame (chosen hsame (chosen hsame (chosen ?_ (chosen ?_ ?_))))
  · extract_lets x
    split
    next h => exact heated h
  · split
    next h => exact divided h
  · split
    next h => exact divided h

/-- What every result counts and marks (R431). -/
def resultFields : List Fld := TH_INT_OPEN :: (counterFields (cHK_CNT 0) ++ counterFields (cHK_CNT 3) ++ counterFields (cHK_CNT 4))

theorem countResult_writes (s : State) (r : HkResult) : RegWrites resultFields s (countResult s r) := by
  have hconversions : RegWrites resultFields s (bumpBy s (cHK_CNT 0) r.conversions) := .bumpBy _ _ _ fun _ hg => by simp [resultFields, hg]
  have hopen : RegWrites resultFields s (if r.opened ∧ r.conversions = 0 then bump (event (bumpBy s (cHK_CNT 0) r.conversions) TH_INT_OPEN) (cHK_CNT 3)
      else bumpBy s (cHK_CNT 0) r.conversions) :=
    .ite (fun _ => .andBump (.andEvent hconversions (by simp [resultFields])) fun _ hg => by simp [resultFields, hg]) fun _ => hconversions
  exact .ite (fun _ => .andBump hopen fun _ hg => by simp [resultFields, hg]) fun _ => hopen

theorem RegsOnly.ite {c : Prop} [Decidable c] {s t u : State} (ht : RegsOnly s t) (hu : RegsOnly s u) : RegsOnly s (if c then t else u) := by
  split
  · exact ht
  · exact hu

theorem countResult_regs (s : State) (r : HkResult) : RegsOnly s (countResult s r) := by
  have hconversions : RegsOnly s (bumpBy s (cHK_CNT 0) r.conversions) := .bumpBy _ _ _
  have hopen : RegsOnly s (if r.opened ∧ r.conversions = 0 then bump (event (bumpBy s (cHK_CNT 0) r.conversions) TH_INT_OPEN) (cHK_CNT 3)
      else bumpBy s (cHK_CNT 0) r.conversions) := .ite ((hconversions.trans (.event _ _)).trans (.bump _ _)) hconversions
  exact .ite (hopen.trans (.bump _ _)) hopen

/-- The result of an urgent conversion is counted. -/
def urgentCounted (s : State) (u : Urgent) (r : HkReading) : State :=
  bump (countResult (hkMeasure s u.input u.gain u.owd r).2 (hkMeasure s u.input u.gain u.owd r).1) (cHK_CNT 1)

/-- Its value shows, where it has one. -/
def urgentValued (s : State) (u : Urgent) (r : HkReading) : State :=
  match (hkMeasure s u.input u.gain u.owd r).1.value with
  | some v => setF (urgentCounted s u r) HK_URG_RES_VALUE (unsigned 32 v)
  | none => urgentCounted s u r

/-- Its marks show. -/
def urgentMarked (s : State) (u : Urgent) (r : HkReading) : State :=
  setFlag (setFlag (setFlag (event (urgentValued s u r) HK_URG_STAT_DONE) HK_URG_STAT_VALID (hkMeasure s u.input u.gain u.owd r).1.valid) HK_URG_STAT_OPEN
    (hkMeasure s u.input u.gain u.owd r).1.opened) HK_URG_STAT_OVER (hkMeasure s u.input u.gain u.owd r).1.tooBig

/-- The request stands no longer. -/
def urgentOver (s : State) : State := setFlag { s with th := { s.th with urgent := none } } HK_STATUS_URGENT false

theorem urgentDone_host {u : Urgent} (s : State) (r : HkReading) (h : u.cal = false) : urgentDone s u r = showBusy (urgentOver (urgentMarked s u r)) := if_pos h

theorem urgentValued_writes (s : State) (u : Urgent) (r : HkReading) : RegWrites [HK_URG_RES_VALUE] (urgentCounted s u r) (urgentValued s u r) := by
  unfold urgentValued
  split
  · exact .setF _ _ (by simp)
  · exact .refl _

theorem measured_writes {W : List Fld} (s : State) (u : Urgent) (r : HkReading) : RegWrites W s (hkMeasure s u.input u.gain u.owd r).2 := by
  obtain ⟨f, h⟩ := hkMeasure_rest s u.input u.gain u.owd r
  rw [h]
  exact .of_regs rfl

/-- What the marks of an urgent result write. -/
def urgentFields : List Fld :=
  [HK_URG_RES_VALUE, HK_URG_STAT_DONE, HK_URG_STAT_VALID, HK_URG_STAT_OPEN, HK_URG_STAT_OVER, HK_STATUS_URGENT, HK_STATUS_BUSY]

theorem urgentMarked_writes (s : State) (u : Urgent) (r : HkReading) : RegWrites urgentFields (urgentCounted s u r) (urgentMarked s u r) :=
  .andSetFlag (.andSetFlag (.andSetFlag (.andEvent ((urgentValued_writes s u r).mono (by simp [urgentFields])) (by simp [urgentFields]))
    (by simp [urgentFields])) (by simp [urgentFields])) (by simp [urgentFields])

/-- The marks of an urgent result leave the Tollhouse's records. -/
theorem urgentMarked_th (s : State) (u : Urgent) (r : HkReading) : (urgentMarked s u r).th = s.th := by
  obtain ⟨f, hfree⟩ := hkMeasure_rest s u.input u.gain u.owd r
  obtain ⟨x, hcount⟩ := countResult_regs (hkMeasure s u.input u.gain u.owd r).2 (hkMeasure s u.input u.gain u.owd r).1
  have hvalued : RegsOnly (urgentCounted s u r) (urgentValued s u r) := by
    unfold urgentValued
    split
    · exact .setF _ _ _
    · exact .refl _
  obtain ⟨y, hmarked⟩ := (((hvalued.trans (.event _ _)).trans (.setFlag _ _ _)).trans (.setFlag _ _ _)).trans (.setFlag _ _ _)
  obtain ⟨z, hcounted⟩ := RegsOnly.bump (countResult (hkMeasure s u.input u.gain u.owd r).2 (hkMeasure s u.input u.gain u.owd r).1) (cHK_CNT 1)
  rw [urgentMarked, hmarked, urgentCounted, hcounted, hcount, hfree]

/-- The end of a request, from any state. -/
theorem urgentOver_shows {s : State} (hs : s.RegsWf) :
    (showBusy (urgentOver s)).th = { s.th with urgent := none } ∧ flag (showBusy (urgentOver s)) HK_STATUS_URGENT = false
      ∧ RegWrites [HK_STATUS_URGENT, HK_STATUS_BUSY] s (showBusy (urgentOver s)) := by
  have hfree : State.RegsWf { s with th := { s.th with urgent := none } } := hs
  have hbusy : RegWrites [HK_STATUS_BUSY] (urgentOver s) (showBusy (urgentOver s)) := .setFlag _ _ (by simp)
  exact ⟨rfl, flag_written hfree hbusy (by decide) (by decide), .andSetFlag (.andSetFlag (.of_regs rfl) (by simp)) (by simp)⟩

theorem urgentCounted_writes (s : State) (u : Urgent) (r : HkReading) : RegWrites (resultFields ++ counterFields (cHK_CNT 1)) s (urgentCounted s u r) :=
  .andBump (((measured_writes s u r).trans (countResult_writes _ _)).mono (List.subset_append_left _ _)) (List.subset_append_right _ _)

theorem urgentShown_writes {s : State} (u : Urgent) (r : HkReading) (hs : s.RegsWf) :
    RegWrites urgentFields (urgentCounted s u r) (showBusy (urgentOver (urgentMarked s u r))) := by
  have hmarked := urgentMarked_writes s u r
  obtain ⟨-, -, hover⟩ := urgentOver_shows (hmarked.wf ((urgentCounted_writes s u r).wf hs))
  exact hmarked.trans (hover.mono (by simp [urgentFields]))

theorem flag_urgentDone {s : State} (u : Urgent) (r : HkReading) (hs : s.RegsWf) :
    flag (showBusy (urgentOver (urgentMarked s u r))) HK_URG_STAT_DONE = true := by
  have hvalued := (urgentValued_writes s u r).wf ((urgentCounted_writes s u r).wf hs)
  have hmarks : RegWrites [HK_URG_STAT_VALID, HK_URG_STAT_OPEN, HK_URG_STAT_OVER] (event (urgentValued s u r) HK_URG_STAT_DONE) (urgentMarked s u r) :=
    .andSetFlag (.andSetFlag (.andSetFlag (.refl _) (by simp)) (by simp)) (by simp)
  have hmarked := hmarks.wf (regsWf_setF _ _ _ hvalued)
  obtain ⟨-, -, hover⟩ := urgentOver_shows hmarked
  exact (hover.flag hmarked (by decide) (by decide)).trans (flag_event_written hvalued hmarks (by decide) (by decide))

/-- The entries' words stand after an urgent result. -/
theorem rd_urgentDone {s : State} (u : Urgent) (r : HkReading) (hs : s.RegsWf) {a : Nat} (ha : aHK_ENTRY_w0 0 ≤ a) (hb : a < aHK_ENTRY_w0 16) :
    rd (showBusy (urgentOver (urgentMarked s u r))) a = rd s a := by
  have hout : ∀ g ∈ resultFields ++ counterFields (cHK_CNT 1) ++ urgentFields, g.addr < aHK_ENTRY_w0 0 ∨ aHK_ENTRY_w0 16 ≤ g.addr := by decide
  have hne : ∀ g ∈ resultFields ++ counterFields (cHK_CNT 1) ++ urgentFields, a ≠ g.addr := fun g hg => by
    have := hout g hg
    omega
  have hcounted := urgentCounted_writes s u r
  exact ((urgentShown_writes u r hs).rd (hcounted.wf hs) fun g hg => hne g (List.mem_append_right _ hg)).trans
    (hcounted.rd hs fun g hg => hne g (List.mem_append_left _ hg))

theorem count_urgentDone {s : State} (u : Urgent) (r : HkReading) (hs : s.RegsWf) :
    count (showBusy (urgentOver (urgentMarked s u r))) (cHK_CNT 1) = (count s (cHK_CNT 1) + 1) % 2 ^ 48 :=
  count_bumped hs ((measured_writes s u r).trans (countResult_writes _ _)) (urgentShown_writes u r hs) (by decide) (by decide)

theorem exec_hkConversionDone {s : State} {u : Urgent} (r : HkReading) (h : s.th.urgent = some u) :
    exec (.hkConversionDone r) s = .next (if converted s u.input u.ncyc u.owd r then resumeEntry (nextCalConversion (urgentDone s u r)) else s) := by
  show execHkConversionDone r s = _
  rw [execHkConversionDone, h]

theorem nextCalConversion_none {s : State} (h : s.th.calQueue = []) : nextCalConversion s = s := by
  rw [nextCalConversion, h]

theorem resumeEntry_parts (s : State) :
    (resumeEntry s).regs = s.regs ∧ (resumeEntry s).th.urgent = s.th.urgent ∧ (resumeEntry s).th.entries = s.th.entries := by
  unfold resumeEntry
  split <;> exact ⟨rfl, rfl, rfl⟩

/-! #### The filter -/

theorem unsigned_word_lt (x : Int) : unsigned 32 x < 2 ^ 32 := by
  unfold unsigned
  omega

/-- The new y of an entry (R434). -/
def filteredValue (s : State) (i : Nat) (x : Int) : Int :=
  if (hkEntryOf s i).fresh then x else getI s (HK_ENTRY_w6_FILTERED i) + (x - getI s (HK_ENTRY_w6_FILTERED i)) / 2 ^ getF s (HK_ENTRY_w0_FILT i)

/-- The entry's y shows and its counts are kept. -/
def filterShown (s : State) (i : Nat) (x : Int) (e : HkEntry) : State :=
  setHkEntry (setF s (HK_ENTRY_w6_FILTERED i) (unsigned 32 (filteredValue s i x))) i e

/-- A filtered result is followed by the three tests. -/
theorem filterResult_tests (s : State) (i : Nat) (x : Int) : ∃ (e : HkEntry) (n₀ n₁ n₂ : Nat) (h₀ h₁ h₂ r₀ r₁ r₂ : Bool),
    e.fresh = false ∧ e.last = some s.elapsed
      ∧ filterResult s i x = runTest (runTest (runTest (filterShown s i x e) i 0 n₀ h₀ r₀) i 1 n₁ h₁ r₁) i 2 n₂ h₂ r₂ :=
  ⟨_, _, _, _, _, _, _, _, _, _, rfl, rfl, rfl⟩

/-- What the tests of entry `i` write where they have no actions. -/
def testFields (i : Nat) : List Fld := [testFlag i 0, testFlag i 1, testFlag i 2] ++ counterFields (cHK_CNT 5)

theorem testFlag_mem {i k : Nat} (hk : k < 3) : testFlag i k ∈ testFields i := by
  interval_cases k <;> simp [testFields]

theorem fireTest_quiet {s : State} {i k : Nat} (h : testActions s i k = 0) : fireTest s i k = bump (setF s (testFlag i k) 1) (cHK_CNT 5) := by
  simp [fireTest, h]

theorem testActions_setFlag (s : State) (i k j v : Nat) : testActions (setF s (testFlag i k) v) i j = testActions s i j := by
  refine getF_of_rd (rd_setF_other s (testFlag i k) v (aHK_ENTRY_w4 i) ?_)
  simp only [testFlag, aHK_ENTRY_w4, aHK_ENTRY_w7]
  omega

theorem testActions_bump (s : State) (i j : Nat) : testActions (bump s (cHK_CNT 5)) i j = testActions s i j := by
  have hne : aHK_ENTRY_w4 i ≠ cHK_CNT 5 ∧ aHK_ENTRY_w4 i ≠ cHK_CNT 5 + 4 := by
    unfold aHK_ENTRY_w4 cHK_CNT
    omega
  exact getF_of_rd (rd_bumpBy_other s (cHK_CNT 5) 1 (aHK_ENTRY_w4 i) hne.1 hne.2)

/-- A test without actions writes its flag and its count. -/
theorem runTest_quiet {s : State} {i k : Nat} (n : Nat) (holds rearm : Bool) (hk : k < 3) (h : testActions s i k = 0) :
    RegWrites (testFields i) s (runTest s i k n holds rearm) ∧ (runTest s i k n holds rearm).th = s.th
      ∧ ∀ j, testActions (runTest s i k n holds rearm) i j = testActions s i j := by
  have hrearmed : ∀ u, testActions u i k = 0 → RegWrites (testFields i) u (fireTest u i k) ∧ (fireTest u i k).th = u.th
      ∧ ∀ j, testActions (fireTest u i k) i j = testActions u i j := by
    intro u hu
    rw [fireTest_quiet hu]
    exact ⟨.andBump (.andSetF (.refl u) (testFlag_mem hk)) (List.subset_append_right _ _), rfl,
      fun j => (testActions_bump _ i j).trans (testActions_setFlag u i k j 1)⟩
  have hoff : RegWrites (testFields i) s (setF s (testFlag i k) 0) := .setF s 0 (testFlag_mem hk)
  obtain ⟨hfire, hfireTh, hfireActs⟩ := hrearmed _ ((testActions_setFlag s i k k 0).trans h)
  unfold runTest
  dsimp only
  split_ifs
  · exact ⟨hoff.trans hfire, hfireTh, fun j => (hfireActs j).trans (testActions_setFlag s i k j 0)⟩
  · exact ⟨hoff, rfl, fun j => testActions_setFlag s i k j 0⟩
  · exact hrearmed s h
  · exact ⟨.refl s, rfl, fun _ => rfl⟩

theorem hkEntryOf_setHkEntry {s : State} {i : Nat} {e : HkEntry} (h : cellWf (fun _ => HkEntry.init) s.th.entries = true) (k : Nat) :
    hkEntryOf (setHkEntry s i e) k = if k = i then e else hkEntryOf s k := by
  unfold hkEntryOf setHkEntry
  dsimp only
  split_ifs with hk
  · rw [hk, cellGet_cellPut_same _ _ _ _ h]
  · exact cellGet_cellPut_other _ _ _ _ _ hk

theorem apart_filtered_tests (i : Nat) : ∀ g ∈ testFields i, Apart (HK_ENTRY_w6_FILTERED i) g := by
  simp only [testFields, counterFields, List.cons_append, List.nil_append, List.forall_mem_cons, List.not_mem_nil, false_implies, implies_true, and_true, Apart,
    HK_ENTRY_w6_FILTERED, testFlag, aHK_ENTRY_w6, aHK_ENTRY_w7, cHK_CNT]
  omega

theorem filterResult_quiet {s : State} {i : Nat} (x : Int) (hs : s.RegsWf) (he : cellWf (fun _ => HkEntry.init) s.th.entries = true)
    (h : ∀ k < 3, testActions s i k = 0) :
    getF (filterResult s i x) (HK_ENTRY_w6_FILTERED i) = unsigned 32 (filteredValue s i x) % 2 ^ 32
      ∧ ∃ e : HkEntry, e.fresh = false ∧ e.last = some s.elapsed ∧ ∀ k, hkEntryOf (filterResult s i x) k = if k = i then e else hkEntryOf s k := by
  obtain ⟨e, n₀, n₁, n₂, h₀, h₁, h₂, r₀, r₁, r₂, hfresh, hlast, htests⟩ := filterResult_tests s i x
  have hacts : ∀ k, testActions (filterShown s i x e) i k = testActions s i k := fun k => by
    refine getF_of_rd (rd_setF_other s (HK_ENTRY_w6_FILTERED i) _ (aHK_ENTRY_w4 i) ?_)
    simp only [HK_ENTRY_w6_FILTERED, aHK_ENTRY_w4, aHK_ENTRY_w6]
    omega
  obtain ⟨hw₀, hth₀, ha₀⟩ := runTest_quiet (s := filterShown s i x e) n₀ h₀ r₀ (show 0 < 3 by decide) ((hacts 0).trans (h 0 (by decide)))
  obtain ⟨hw₁, hth₁, ha₁⟩ := runTest_quiet n₁ h₁ r₁ (show 1 < 3 by decide) (((ha₀ 1).trans (hacts 1)).trans (h 1 (by decide)))
  obtain ⟨hw₂, hth₂, -⟩ := runTest_quiet n₂ h₂ r₂ (show 2 < 3 by decide) ((((ha₁ 2).trans (ha₀ 2)).trans (hacts 2)).trans (h 2 (by decide)))
  rw [htests]
  have hafter := (hw₀.trans hw₁).trans hw₂
  have hth := (hth₂.trans hth₁).trans hth₀
  refine ⟨?_, e, hfresh, hlast, fun k => ?_⟩
  · have hshown : RegWrites (testFields i) (setF s (HK_ENTRY_w6_FILTERED i) (unsigned 32 (filteredValue s i x))) (filterShown s i x e) := .of_regs rfl
    exact getF_written hs (hshown.trans hafter) ⟨Nat.zero_le _, show 31 < 32 by decide⟩ (apart_filtered_tests i)
  · rw [hkEntryOf, hth]
    exact hkEntryOf_setHkEntry he k

/-! #### Invalid results -/

/-- The temperatures that the zones show. -/
def zoneFields : List Fld := (List.range 8).flatMap fun z => [TH_ZONE_TEMP z, TH_ZONE_VALID z]

theorem showZones_writes (s : State) : RegWrites zoneFields s (showZones s) := by
  refine .foldl _ (fun u z hz => ?_) s
  have htemp : TH_ZONE_TEMP z ∈ zoneFields := List.mem_flatMap.mpr ⟨z, hz, by simp⟩
  have hvalid : TH_ZONE_VALID z ∈ zoneFields := List.mem_flatMap.mpr ⟨z, hz, by simp⟩
  split
  · split
    · exact .andSetF (.andSetF (.refl u) htemp) hvalid
    · exact .setF u 0 hvalid
  · exact .setF u 0 hvalid

theorem showZones_regs (s : State) : RegsOnly s (showZones s) := by
  refine .foldl (fun s z => ?_) _ s
  split
  · split
    · exact (RegsOnly.setF _ _ _).trans (.setF _ _ _)
    · exact .setF _ _ _
  · exact .setF _ _ _

/-- The value of entry `i`'s result shows, where it has one. -/
def resultValued (s : State) (i : Nat) (r : HkResult) : State :=
  match r.value with
  | some v => setF (countResult s r) (HK_ENTRY_w5_VALUE i) (unsigned 32 v)
  | none => countResult s r

/-- The marks of entry `i`'s result. -/
def resultMarked (s : State) (i : Nat) (r : HkResult) : State :=
  setFlag (setFlag (setFlag (setFlag (resultValued s i r) (HK_ENTRY_w7_VALID i) r.valid) (HK_ENTRY_w7_OPEN i) r.opened) (HK_ENTRY_w7_SHORT i) r.short)
    (HK_ENTRY_w7_OVER i) r.tooBig

theorem applyResult_invalid {s : State} {r : HkResult} (i : Nat) (h : r.valid = false) : applyResult s i r = showZones (invalidEntry (resultMarked s i r) i) := by
  unfold applyResult
  rw [h]
  unfold resultMarked
  rw [h]
  rfl

theorem resultValued_writes (s : State) (i : Nat) (r : HkResult) :
    RegWrites (HK_ENTRY_w5_VALUE i :: resultFields) s (resultValued s i r) ∧ RegsOnly s (resultValued s i r) := by
  have hcount := (countResult_writes s r).mono (List.subset_cons_self (HK_ENTRY_w5_VALUE i) _)
  unfold resultValued
  split
  · exact ⟨.andSetF hcount (by simp), (countResult_regs s r).trans (.setF _ _ _)⟩
  · exact ⟨hcount, countResult_regs s r⟩

/-- The marks after VALID. -/
def laterMarks (i : Nat) : List Fld := [HK_ENTRY_w7_OPEN i, HK_ENTRY_w7_SHORT i, HK_ENTRY_w7_OVER i]

theorem resultMarked_writes (s : State) (i : Nat) (r : HkResult) :
    RegWrites (laterMarks i) (setFlag (resultValued s i r) (HK_ENTRY_w7_VALID i) r.valid) (resultMarked s i r) :=
  .andSetFlag (.andSetFlag (.andSetFlag (.refl _) (by simp [laterMarks])) (by simp [laterMarks])) (by simp [laterMarks])

theorem resultMarked_regs (s : State) (i : Nat) (r : HkResult) : RegsOnly s (resultMarked s i r) :=
  ((((resultValued_writes s i r).2.trans (.setFlag _ _ _)).trans (.setFlag _ _ _)).trans (.setFlag _ _ _)).trans (.setFlag _ _ _)

/-- The words of the entries lie outside the counters, the events and the zones. -/
theorem entry_outside {f : Fld} (hf : aHK_ENTRY_w0 0 ≤ f.addr ∧ f.addr < aHK_ENTRY_w0 16) : ∀ g ∈ resultFields ++ zoneFields, Apart f g := by
  have hout : ∀ g ∈ resultFields ++ zoneFields, g.addr < aHK_ENTRY_w0 0 ∨ aHK_ENTRY_w0 16 ≤ g.addr := by decide
  exact fun g hg => .inl (by have := hout g hg; omega)

section
variable {i : Nat} (hi : i < 16)
include hi

theorem filtered_in_entries : aHK_ENTRY_w0 0 ≤ (HK_ENTRY_w6_FILTERED i).addr ∧ (HK_ENTRY_w6_FILTERED i).addr < aHK_ENTRY_w0 16 := by
  simp only [HK_ENTRY_w6_FILTERED, aHK_ENTRY_w0, aHK_ENTRY_w6]
  omega

theorem valid_in_entries : aHK_ENTRY_w0 0 ≤ (HK_ENTRY_w7_VALID i).addr ∧ (HK_ENTRY_w7_VALID i).addr < aHK_ENTRY_w0 16 := by
  simp only [HK_ENTRY_w7_VALID, aHK_ENTRY_w0, aHK_ENTRY_w7]
  omega

end

/-- An entry's y stands in a word of its own. -/
theorem filtered_apart (i : Nat) : ∀ g ∈ HK_ENTRY_w5_VALUE i :: HK_ENTRY_w7_VALID i :: laterMarks i, Apart (HK_ENTRY_w6_FILTERED i) g := by
  simp only [laterMarks, List.forall_mem_cons, List.not_mem_nil, false_implies, implies_true, and_true, Apart, HK_ENTRY_w5_VALUE, HK_ENTRY_w6_FILTERED,
    HK_ENTRY_w7_VALID, HK_ENTRY_w7_OPEN, HK_ENTRY_w7_SHORT, HK_ENTRY_w7_OVER, aHK_ENTRY_w5, aHK_ENTRY_w6, aHK_ENTRY_w7]
  omega

theorem invalidEntry_writes {W : List Fld} (s : State) (i : Nat) : RegWrites W s (invalidEntry s i) := .of_regs rfl

theorem applyResult_invalid_writes {s : State} {r : HkResult} (i : Nat) (h : r.valid = false) :
    RegWrites (laterMarks i ++ zoneFields) (setFlag (resultValued s i r) (HK_ENTRY_w7_VALID i) r.valid) (applyResult s i r) := by
  rw [applyResult_invalid i h]
  exact (((resultMarked_writes s i r).mono (List.subset_append_left _ _)).trans (invalidEntry_writes _ i)).trans
    ((showZones_writes _).mono (List.subset_append_right _ _))

theorem getF_applyResult_invalid {s : State} {i : Nat} {r : HkResult} (hs : s.RegsWf) (hi : i < 16) (h : r.valid = false) :
    getF (applyResult s i r) (HK_ENTRY_w6_FILTERED i) = getF s (HK_ENTRY_w6_FILTERED i) := by
  have hword : InWord (HK_ENTRY_w6_FILTERED i) := ⟨Nat.zero_le _, show 31 < 32 by decide⟩
  have hvalued := (resultValued_writes s i r).1
  have hmarked : RegWrites (HK_ENTRY_w5_VALUE i :: HK_ENTRY_w7_VALID i :: laterMarks i ++ (resultFields ++ zoneFields)) s (applyResult s i r) :=
    .trans (.andSetFlag (hvalued.mono fun g hg => by
      rcases List.mem_cons.mp hg with rfl | hg
      · simp
      · simp [hg]) (by simp)) ((applyResult_invalid_writes i h).mono fun g hg => by
      rcases List.mem_append.mp hg with hg | hg <;> simp [hg])
  refine hmarked.getF hs hword fun g hg => ?_
  rcases List.mem_append.mp hg with hg | hg
  · exact filtered_apart i g hg
  · exact entry_outside (filtered_in_entries hi) g hg

theorem flag_applyResult_invalid {s : State} {i : Nat} {r : HkResult} (hs : s.RegsWf) (hi : i < 16) (h : r.valid = false) :
    flag (applyResult s i r) (HK_ENTRY_w7_VALID i) = false := by
  refine (flag_written ((resultValued_writes s i r).1.wf hs) (applyResult_invalid_writes i h) ⟨le_rfl, show 0 < 32 by decide⟩ fun g hg => ?_).trans h
  rcases List.mem_append.mp hg with hg | hg
  · have hbits : ∀ g ∈ laterMarks i, 0 < g.lo := by simp [laterMarks, HK_ENTRY_w7_OPEN, HK_ENTRY_w7_SHORT, HK_ENTRY_w7_OVER]
    exact .inr (.inl (hbits g hg))
  · exact entry_outside (valid_in_entries hi) g (List.mem_append_right _ hg)

theorem RegsOnly.th {s t : State} (h : RegsOnly s t) : t.th = s.th := by
  obtain ⟨r, rfl⟩ := h
  rfl

theorem hkEntryOf_congr {s t : State} (h : t.th = s.th) (k : Nat) : hkEntryOf t k = hkEntryOf s k := by rw [hkEntryOf, h]; rfl

theorem hkEntryOf_applyResult_invalid {s : State} {i : Nat} {r : HkResult} (he : cellWf (fun _ => HkEntry.init) s.th.entries = true) (h : r.valid = false) :
    hkEntryOf (applyResult s i r) i = { hkEntryOf s i with hiN := 0, loN := 0, rateN := 0 } := by
  have hmarked := (resultMarked_regs s i r).th
  rw [applyResult_invalid i h, hkEntryOf_congr (showZones_regs _).th, invalidEntry, hkEntryOf_setHkEntry (by rw [hmarked]; exact he), if_pos rfl,
    hkEntryOf_congr hmarked]

/-- Settles O55: cycles and requests by their conditions, results by the fields and entries they write. -/
theorem hkSequence : Obligations.HkSequence := by
  unfold Obligations.HkSequence
  refine ⟨fun s he hc hl => hkCycleStart_begins he hc hl, fun s h => hkCycleStart_waits h, fun s u w hs hg hu hgo => ?_, fun s u r hs hu hcal hqueue => ?_,
    fun s i x hs hi he h => ?_, fun s i r hs hi he h => ?_⟩
  · obtain ⟨r, hstored⟩ := storeWrite_regs (atGrant s w) aHK_URG w.value
    have hwf : u.RegsWf := hu ▸ regsWf_storeWrite aHK_URG w.value (regsWf_setF s _ _ hs.1)
    have hth : u.th = s.th := by rw [hu, hstored]; rfl
    have helapsed : u.elapsed = s.elapsed := by rw [hu, hstored]; rfl
    have hexec : exec (.urgentConversion w) s = .next (urgentWritten u) := congrArg Host.Outcome.next (by rw [rowWrite_urgent hg hgo, hu])
    refine ⟨fun hfree => ?_, fun hbusy => ?_⟩
    · obtain ⟨hurgent, hshown, hbegan⟩ := urgentBegun_shows hwf
      refine ⟨_, hexec, ?_⟩
      rw [urgentWritten, requestUrgent_free _ (hth ▸ hfree)]
      exact ⟨rfl, hurgent, hshown, hbegan.trans helapsed⟩
    · refine ⟨_, hexec, ?_⟩
      rw [urgentWritten, requestUrgent_busy _ (hth ▸ hbusy)]
      exact ⟨congrArg Toll.urgent hth, flag_event_same _ _ hwf (by decide) (by decide)⟩
  · refine ⟨fun h => (exec_hkConversionDone r hu).trans (by rw [h]; rfl), fun h => ?_⟩
    have hmarked := (urgentMarked_writes s u r).wf ((urgentCounted_writes s u r).wf hs.1)
    obtain ⟨hth, hurgent, -⟩ := urgentOver_shows hmarked
    rw [urgentMarked_th] at hth
    have hcalQueue : (showBusy (urgentOver (urgentMarked s u r))).th.calQueue = [] := (congrArg Toll.calQueue hth).trans hqueue
    have hnext : nextCalConversion (urgentDone s u r) = showBusy (urgentOver (urgentMarked s u r)) := by
      rw [urgentDone_host s r hcal, nextCalConversion_none hcalQueue]
    obtain ⟨hregs, hnone, hentries⟩ := resumeEntry_parts (showBusy (urgentOver (urgentMarked s u r)))
    have hentriesU : (showBusy (urgentOver (urgentMarked s u r))).th.entries = s.th.entries := by rw [hth]
    have hrd := rd_of_regs hregs
    refine ⟨_, (exec_hkConversionDone r hu).trans (by rw [h, if_pos rfl, hnext]), hnone.trans (congrArg Toll.urgent hth),
      (flag_of_rd (hrd _)).trans (flag_urgentDone u r hs.1), (flag_of_rd (hrd _)).trans hurgent, hentries.trans hentriesU,
      fun i hi k hk => (hrd _).trans (rd_urgentDone u r hs.1 ?_ ?_), (count_of_rd (hrd _) (hrd _)).trans (count_urgentDone u r hs.1)⟩
    all_goals unfold aHK_ENTRY_w0
    all_goals omega
  · obtain ⟨hy, e, hfresh, hlast, hentries⟩ := filterResult_quiet x hs.1 he h
    have hsame := (hentries i).trans (if_pos rfl)
    refine ⟨?_, hsame ▸ hfresh, hsame ▸ hlast, fun k hk => (hentries k).trans (if_neg hk)⟩
    rw [getI, hy, Nat.mod_eq_of_lt (unsigned_word_lt _)]
    rfl
  · exact ⟨congrArg (signed 32) (getF_applyResult_invalid hs.1 hi h), hkEntryOf_applyResult_invalid he h, flag_applyResult_invalid hs.1 hi h⟩

end Sys2Proof.Machine

namespace Sys2Proof.Machine

/-! ### What the sequence and the clock's switch leave (R420, R429) -/

/-- The marks of the entries' results. -/
def entryMarks : List Fld := (List.range 16).flatMap fun i => [HK_ENTRY_w7_VALID i, HK_ENTRY_w7_OPEN i, HK_ENTRY_w7_SHORT i, HK_ENTRY_w7_OVER i]

/-- The fields that the sequence writes as it goes on. -/
def sequenceFields : List Fld := HK_STATUS_ENTRY :: HK_STATUS_BUSY :: HK_STATUS_CYCLE_MS :: (counterFields (cHK_CNT 2) ++ zoneFields ++ entryMarks)

/-- An entry's result carries no mark. -/
def marksCleared (s : State) (i : Nat) : State :=
  setF (setF (setF (setF s (HK_ENTRY_w7_VALID i) 0) (HK_ENTRY_w7_OPEN i) 0) (HK_ENTRY_w7_SHORT i) 0) (HK_ENTRY_w7_OVER i) 0

theorem markCleared_mem {i : Nat} {f : Fld} (hi : i < 16) (hf : f ∈ [HK_ENTRY_w7_VALID i, HK_ENTRY_w7_OPEN i, HK_ENTRY_w7_SHORT i, HK_ENTRY_w7_OVER i]) :
    f ∈ sequenceFields := by
  have hmarks : f ∈ entryMarks := List.mem_flatMap.mpr ⟨i, List.mem_range.mpr hi, hf⟩
  simp [sequenceFields, hmarks]

/-- The second state is the first but for the sequence's own registers and state. -/
structure SeqFrame (s t : State) : Prop where
  writes : RegWrites sequenceFields s t
  rest : ∃ e c b, t = { s with regs := t.regs, th := { s.th with entries := e, cycling := c, began := b } }

namespace SeqFrame
variable {s t u : State}

theorem refl (s : State) : SeqFrame s s := ⟨.refl s, _, _, _, rfl⟩

theorem trans (h : SeqFrame s t) (k : SeqFrame t u) : SeqFrame s u := by
  obtain ⟨e, c, b, ht⟩ := h.rest
  obtain ⟨e', c', b', hu⟩ := k.rest
  refine ⟨h.writes.trans k.writes, e', c', b', ?_⟩
  rw [hu, ht]

theorem ite {c : Prop} [Decidable c] (ht : SeqFrame s t) (hu : SeqFrame s u) : SeqFrame s (if c then t else u) := by
  split
  · exact ht
  · exact hu

theorem of_regs (hr : RegsOnly s t) (hw : RegWrites sequenceFields s t) : SeqFrame s t := by
  refine ⟨hw, s.th.entries, s.th.cycling, s.th.began, ?_⟩
  obtain ⟨r, rfl⟩ := hr
  rfl

theorem setF (s : State) {f : Fld} (v : Nat) (h : f ∈ sequenceFields) : SeqFrame s (setF s f v) := of_regs (.setF s f v) (.setF s v h)

theorem setTh (s : State) (e : List (Nat × HkEntry)) (c : Bool) (b : Nat) : SeqFrame s { s with th := { s.th with entries := e, cycling := c, began := b } } :=
  ⟨.of_regs rfl, _, _, _, rfl⟩

theorem abortConversion (s : State) : SeqFrame s (abortConversion s) := by
  have hcount : counterFields (cHK_CNT 2) ⊆ sequenceFields := fun _ hg => by simp [sequenceFields, hg]
  exact ite ((setTh s s.th.entries s.th.cycling s.elapsed).trans (of_regs (.bump _ _) (.bump _ _ hcount))) (refl s)

theorem showZones (s : State) : SeqFrame s (showZones s) :=
  of_regs (showZones_regs s) ((showZones_writes s).mono fun _ hg => by simp [sequenceFields, hg])

theorem reservedEntry (s : State) {i : Nat} (hi : i < 16) : SeqFrame s (reservedEntry s i) := by
  have hmarked : SeqFrame s (marksCleared s i) := by
    have hmark : ∀ (u : State) (f : Fld), f ∈ [HK_ENTRY_w7_VALID i, HK_ENTRY_w7_OPEN i, HK_ENTRY_w7_SHORT i, HK_ENTRY_w7_OVER i] → SeqFrame u (Machine.setF u f 0) :=
      fun u f hf => setF u 0 (markCleared_mem hi hf)
    exact (((hmark s _ (by simp)).trans (hmark _ _ (by simp))).trans (hmark _ _ (by simp))).trans (hmark _ _ (by simp))
  exact (hmarked.trans (setTh _ _ _ _)).trans (showZones _)

theorem showBusy (s : State) : SeqFrame s (showBusy s) := setF s _ (by simp [sequenceFields])

theorem endCycle (s : State) : SeqFrame s (endCycle s) := by
  have hduration : HK_STATUS_CYCLE_MS ∈ sequenceFields := by simp [sequenceFields]
  have hentry : HK_STATUS_ENTRY ∈ sequenceFields := by simp [sequenceFields]
  exact (((setTh s s.th.entries false s.th.began).trans (setF _ _ hduration)).trans (setF _ _ hentry)).trans (showBusy _)

theorem seekEntry (fuel : Nat) (s : State) (i : Nat) : SeqFrame s (seekEntry s fuel i) := by
  induction fuel generalizing s i with
  | zero => exact endCycle s
  | succ fuel ih =>
    unfold Machine.seekEntry
    split
    · exact endCycle s
    · split
      · exact ih s (i + 1)
      · split
        · exact (reservedEntry s (by omega)).trans (ih _ (i + 1))
        · exact ((setF s (f := HK_STATUS_ENTRY) i (by simp [sequenceFields])).trans (setTh _ _ _ _)).trans (showBusy _)

end SeqFrame

/-- The clock's two flags as they are set. -/
def clockSet (s : State) (crystal : Bool) : State := setFlag (setFlag s TH_STATUS_XTAL_VALID crystal) TH_STATUS_CLK crystal

/-- The sequence, whose clock stands, passes over an entry that is none of Sleep's. -/
def entryPassed (s : State) : State :=
  if s.th.cycling ∧ entrySkipped s (getF s HK_STATUS_ENTRY) then
    let s2 := seekEntry s 17 (getF s HK_STATUS_ENTRY + 1)
    { s2 with th := { s2.th with began := if s.th.urgent.isSome then s.th.began else s2.th.began } }
  else s

theorem entryPassed_frame (s : State) : SeqFrame s (entryPassed s) := .ite ((SeqFrame.seekEntry 17 s _).trans (.setTh _ _ _ _)) (.refl s)

theorem sleepClock_eq (s : State) :
    sleepClock s = entryPassed (if flag s TH_STATUS_CLK ∨ flag s TH_STATUS_XTAL_VALID then abortConversion (clockSet s false) else s) := rfl

/-- The fields that entering Sleep writes beside the state. -/
def sleepFields : List Fld := TH_STATUS_XTAL_VALID :: TH_STATUS_CLK :: sequenceFields

theorem clockSet_writes (s : State) (b : Bool) : RegWrites sleepFields s (clockSet s b) :=
  .andSetFlag (.andSetFlag (.refl s) (by simp [sleepFields])) (by simp [sleepFields])

theorem sleepClock_writes (s : State) : RegWrites sleepFields s (sleepClock s) := by
  have hseq : ∀ {u v : State}, SeqFrame u v → RegWrites sleepFields u v := fun h => h.writes.mono fun _ hg => by simp [sleepFields, hg]
  rw [sleepClock_eq]
  split
  · exact ((clockSet_writes s false).trans (hseq (.abortConversion _))).trans (hseq (entryPassed_frame _))
  · exact hseq (entryPassed_frame s)

theorem sleepClock_rest (s : State) : ∃ e c b, sleepClock s = { s with regs := (sleepClock s).regs, th := { s.th with entries := e, cycling := c, began := b } } := by
  rw [sleepClock_eq]
  split
  · obtain ⟨e, c, b, h⟩ := ((SeqFrame.abortConversion (clockSet s false)).trans (entryPassed_frame _)).rest
    exact ⟨e, c, b, h.trans rfl⟩
  · exact (entryPassed_frame s).rest

theorem clockFlags_apart : (∀ g ∈ sequenceFields, Apart TH_STATUS_CLK g) ∧ (∀ g ∈ sequenceFields, Apart TH_STATUS_XTAL_VALID g) := by decide

theorem SeqFrame.clockFlags {s t : State} (h : SeqFrame s t) (hs : s.RegsWf) :
    flag t TH_STATUS_CLK = flag s TH_STATUS_CLK ∧ flag t TH_STATUS_XTAL_VALID = flag s TH_STATUS_XTAL_VALID :=
  ⟨h.writes.flag hs (by decide) clockFlags_apart.1, h.writes.flag hs (by decide) clockFlags_apart.2⟩

theorem clockSet_flags {s : State} (b : Bool) (hs : s.RegsWf) :
    flag (clockSet s b) TH_STATUS_CLK = b ∧ flag (clockSet s b) TH_STATUS_XTAL_VALID = b := by
  have hvalid := regsWf_setF s TH_STATUS_XTAL_VALID (if b then 1 else 0) hs
  refine ⟨flag_setFlag_same _ _ b hvalid (by decide) (by decide), ?_⟩
  exact flag_written (W := [TH_STATUS_CLK]) hs (.setFlag _ _ (by simp)) (by decide) (by decide)

/-- In Sleep the Tollhouse runs from the RC oscillator, and the crystal stands still. -/
theorem sleepClock_flags {s : State} (hs : s.RegsWf) : flag (sleepClock s) TH_STATUS_CLK = false ∧ flag (sleepClock s) TH_STATUS_XTAL_VALID = false := by
  rw [sleepClock_eq]
  split
  next =>
    have hset := (clockSet_writes s false).wf hs
    obtain ⟨hclk, hxtal⟩ := clockSet_flags false hs
    obtain ⟨h1, h2⟩ := ((SeqFrame.abortConversion (clockSet s false)).trans (entryPassed_frame _)).clockFlags hset
    exact ⟨h1.trans hclk, h2.trans hxtal⟩
  next hstill =>
    rw [not_or, Bool.not_eq_true, Bool.not_eq_true] at hstill
    obtain ⟨h1, h2⟩ := (entryPassed_frame s).clockFlags hs
    exact ⟨h1.trans hstill.1, h2.trans hstill.2⟩

end Sys2Proof.Machine

namespace Sys2Proof.Machine

/-! ### A transition ends in any state (R374, R439) -/

/-- What follows an arrival: the wake timer runs in Sleep and Standby, and stands above. -/
def wakeSet (s : State) (x : Nat) : State := if x ≤ 1 then enterRest s else disarm s .wake

theorem wakeSet_rest (s : State) (x : Nat) : ∃ n l, wakeSet s x = { s with pw := { s.pw with restAt := n }, timers := l } := by
  unfold wakeSet
  split
  · unfold enterRest armWake
    split
    · exact ⟨s.elapsed, _, rfl⟩
    · exact ⟨s.elapsed, _, rfl⟩
  · exact ⟨s.pw.restAt, _, rfl⟩

theorem endMove_as (s : State) (x : Nat) : ∃ dur, endMove s x = wakeSet (arrivedIn (moveDropped (lastShown s x dur)) x) x := by
  refine ⟨min ((s.elapsed - (match s.pw.moving with | some m => m.began | none => s.elapsed)) / 4000) 0xFFFFFF, ?_⟩
  unfold endMove wakeSet
  dsimp only
  split
  · rfl
  · rfl

/-- The fields that the end of a transition writes. -/
def endFields (x : Nat) : List Fld := [TH_PLAST_DUR, TH_PLAST_FROM, TH_PLAST_TO] ++ arrivalFields x ++ readyFields

theorem lastShown_writes (s : State) (x dur : Nat) : RegWrites (endFields x) s (lastShown s x dur) :=
  .andSetF (.andSetF (.andSetF (.refl s) (by simp [endFields])) (by simp [endFields])) (by simp [endFields])

theorem arrivedIn_writes (s : State) (x : Nat) : RegWrites (endFields x) s (arrivedIn s x) :=
  ((arrivalShown_writes s x).mono fun _ hg => by simp [endFields, hg]).trans ((stepReady_writes _).mono fun _ hg => by simp [endFields, hg])

theorem endMove_writes (s : State) (x : Nat) : RegWrites (endFields x) s (endMove s x) := by
  obtain ⟨dur, h⟩ := endMove_as s x
  obtain ⟨n, l, hwake⟩ := wakeSet_rest (arrivedIn (moveDropped (lastShown s x dur)) x) x
  rw [h, hwake]
  have hdropped : RegWrites (endFields x) s (moveDropped (lastShown s x dur)) := (lastShown_writes s x dur).regs_eq rfl
  exact (hdropped.trans (arrivedIn_writes _ x)).regs_eq rfl

theorem endMove_rest (s : State) (x : Nat) : ∃ n l, endMove s x = { s with regs := (endMove s x).regs, pw := { s.pw with moving := none, restAt := n }, timers := l } := by
  obtain ⟨dur, h⟩ := endMove_as s x
  obtain ⟨n, l, hwake⟩ := wakeSet_rest (arrivedIn (moveDropped (lastShown s x dur)) x) x
  obtain ⟨r, hlast⟩ : RegsOnly s (lastShown s x dur) := ((RegsOnly.setF s _ _).trans (.setF _ _ _)).trans (.setF _ _ _)
  obtain ⟨r', harrived⟩ := arrivedIn_regs (moveDropped (lastShown s x dur)) x
  refine ⟨n, l, ?_⟩
  rw [h, hwake, harrived, hlast]
  rfl

/-- A transition ends in its state. -/
theorem arrived_endMove {s : State} (hs : s.RegsWf) {x : Nat} (hx : x < 8) : Arrived s (endMove s x) x := by
  obtain ⟨dur, h⟩ := endMove_as s x
  obtain ⟨hlast, hto, hfrom⟩ := lastShown_fields x dur hs hx
  have hdropped : (moveDropped (lastShown s x dur)).RegsWf := (moveDropped_kept _).1.wf hlast
  obtain ⟨hpstate, hchanged, hkeptTo, hkeptFrom⟩ := arrivedIn_fields hdropped hx
  rw [getF_moveDropped] at hkeptTo hkeptFrom
  obtain ⟨n, l, hrest⟩ := endMove_rest s x
  have hregs : (endMove s x).regs = (arrivedIn (moveDropped (lastShown s x dur)) x).regs := by
    obtain ⟨n, l, hwake⟩ := wakeSet_rest (arrivedIn (moveDropped (lastShown s x dur)) x) x
    rw [h, hwake]
  have hf : ∀ f, getF (endMove s x) f = getF (arrivedIn (moveDropped (lastShown s x dur)) x) f := fun f => getF_of_rd (rd_of_regs hregs f.addr)
  refine ⟨(hf _).trans hpstate, by rw [hrest], (hf _).trans (hkeptTo.trans hto), (hf _).trans (hkeptFrom.trans hfrom), ?_⟩
  exact (flag_of_rd (rd_of_regs hregs _)).trans hchanged

/-! ### Sleep is entered (R369, R420) -/

theorem apart_sleepFields : (∀ g ∈ sleepFields, Apart TH_PSTATE_STATE g) ∧ (∀ g ∈ sleepFields, Apart TH_PLAST_TO g) ∧ (∀ g ∈ sleepFields, Apart TH_PLAST_FROM g)
    ∧ (∀ g ∈ sleepFields, Apart TH_PINT_STATE_CHG g) := by decide

theorem arrived_sleepNow {s : State} (hs : s.RegsWf) : Arrived s (sleepNow s) 0 := by
  obtain ⟨hpstate, hmoving, hto, hfrom, hchanged⟩ := arrived_endMove hs (show 0 < 8 by decide)
  have hended : (endMove s 0).RegsWf := (endMove_writes s 0).wf hs
  have hsleep := sleepClock_writes (endMove s 0)
  obtain ⟨e, c, b, hrest⟩ := sleepClock_rest (endMove s 0)
  obtain ⟨a1, a2, a3, a4⟩ := apart_sleepFields
  refine ⟨(hsleep.getF hended (by decide) a1).trans hpstate, ?_, (hsleep.getF hended (by decide) a2).trans hto, (hsleep.getF hended (by decide) a3).trans hfrom,
    (hsleep.flag hended (by decide) a4).trans hchanged⟩
  calc (sleepNow s).pw.moving
    _ = (endMove s 0).pw.moving := congrArg (·.pw.moving) hrest
    _ = none := hmoving

end Sys2Proof.Machine

namespace Sys2Proof.Machine

/-! ### The ends of transition steps (R375 to R377) -/

section Steps
variable {s : State} {m : Moving}

theorem exec_transitionStepEnd_sleepStandby (h : s.pw.moving = some m) (hm : m.move = .sleepStandby) :
    exec .transitionStepEnd s = .next (if flag s TH_STATUS_XTAL_VALID then endMove s 1 else s) := by
  change execTransitionStepEnd s = _
  simp only [execTransitionStepEnd, h, hm]

theorem exec_transitionStepEnd_start (h : s.pw.moving = some m) (hm : m.move = .standbyReady) (hstep : m.step = 1) :
    exec .transitionStepEnd s = .next (if allLocked s then nextStep s 2 else s) := by
  change execTransitionStepEnd s = _
  simp only [execTransitionStepEnd, h, hm, hstep, if_true]

/-- The boot sequence that follows a start: a warm one where contents are retained, else a cold one. -/
def bootBegun (s : State) : State :=
  { s with bt := { s.bt with step := if s.bt.retained.isSome then 8 else 1, reason := if s.bt.retained.isSome then 1 else 0 } }

theorem exec_transitionStepEnd_joined (h : s.pw.moving = some m) (hm : m.move = .standbyReady) (hstep : m.step ≠ 1) :
    exec .transitionStepEnd s = .next (bootBegun (endMove (joinAll s) 2)) := by
  change execTransitionStepEnd s = _
  simp only [execTransitionStepEnd, h, hm, if_neg hstep, bootBegun]

theorem exec_transitionStepEnd_readyHold (h : s.pw.moving = some m) (hm : m.move = .readyHold) : exec .transitionStepEnd s = .next (holdStepEnd s m) := by
  change execTransitionStepEnd s = _
  simp only [execTransitionStepEnd, h, hm]

theorem exec_transitionStepEnd_holdReady (h : s.pw.moving = some m) (hm : m.move = .holdReady) :
    exec .transitionStepEnd s = .next (if allHeld s m.began then endMove s 2 else s) := by
  change execTransitionStepEnd s = _
  simp only [execTransitionStepEnd, h, hm]

theorem exec_transitionStepEnd_readyStandby (h : s.pw.moving = some m) (hm : m.move = .readyStandby) : exec .transitionStepEnd s = .next (endMove s 1) := by
  change execTransitionStepEnd s = _
  simp only [execTransitionStepEnd, h, hm]

theorem exec_transitionStepEnd_standbySleep (h : s.pw.moving = some m) (hm : m.move = .standbySleep) : exec .transitionStepEnd s = .next (sleepNow s) := by
  change execTransitionStepEnd s = _
  simp only [execTransitionStepEnd, h, hm]

theorem holdStepEnd_last (hstep : 4 ≤ m.step) (htime : m.stepAt + 8 * longestT s ≤ s.elapsed) (hstays : breaksOff s = false) : holdStepEnd s m = endMove s 3 := by
  unfold holdStepEnd
  split
  · omega
  · omega
  · omega
  · rw [if_neg (by omega), if_neg (by simp [hstays])]

theorem nextStep_moving (h : s.pw.moving = some m) (k : Nat) : (nextStep s k).pw.moving = some { m with step := k, stepAt := s.elapsed } := by
  obtain ⟨r, hr⟩ := stepReady_regs { s with pw := { s.pw with moving := some { m with step := k, stepAt := s.elapsed } } }
  have hnext : nextStep s k = stepReady { s with pw := { s.pw with moving := some { m with step := k, stepAt := s.elapsed } } } := by
    simp only [nextStep, h]
  rw [hnext, hr]

theorem regsWf_jointUp {s : State} (j lost : Nat) (hs : s.RegsWf) : (jointUp s j lost).RegsWf := by
  unfold jointUp
  split
  · exact hs
  · exact regsWf_bumpBy _ _ _ (regsWf_bump _ (regsWf_setF _ _ _ (regsWf_setF _ _ _ (regsWf_setF _ _ _ hs))))

theorem regsWf_joinAll {s : State} (hs : s.RegsWf) : (joinAll s).RegsWf := by
  have hjoined : ∀ (l : List Nat) (u : State), u.RegsWf → (l.foldl (fun s j => jointUp s j) u).RegsWf := fun l => by
    induction l with
    | nil => exact fun u hu => hu
    | cons j l ih => exact fun u hu => ih _ (regsWf_jointUp j 0 hu)
  exact hjoined joinOrder s hs

/-- Joined islands stand in Ready, and the boot sequence begins. -/
theorem joined_ready (hs : s.RegsWf) : pstate (bootBegun (endMove (joinAll s) 2)) = 2 ∧ (bootBegun (endMove (joinAll s) 2)).pw.moving = none
    ∧ ((bootBegun (endMove (joinAll s) 2)).bt.step = 1 ∨ (bootBegun (endMove (joinAll s) 2)).bt.step = 8) := by
  obtain ⟨hpstate, hmoving, -, -, -⟩ := arrived_endMove (regsWf_joinAll hs) (show 2 < 8 by decide)
  refine ⟨hpstate, hmoving, ?_⟩
  generalize endMove (joinAll s) 2 = u
  change (if u.bt.retained.isSome then 8 else 1) = 1 ∨ (if u.bt.retained.isSome then 8 else 1) = 8
  split
  · exact .inr rfl
  · exact .inl rfl

theorem allHeld_late {since : Nat} (h : since + 4 * longestT s + 4000 ≤ s.elapsed) : allHeld s since = true := by simp [allHeld, h]

end Steps

/-- Settles O48: the step that ends leads to its state, or waits, by the transition in progress. -/
theorem transitionsEnd : Obligations.TransitionsEnd := by
  unfold Obligations.TransitionsEnd
  refine ⟨fun s h => ?_, fun s m hc h => ?_⟩
  · change execTransitionStepEnd s = _
    simp only [execTransitionStepEnd, h]
  have hs : s.RegsWf := hc.1
  have hends : ∀ x < 8, Arrived s (endMove s x) x := fun x hx => arrived_endMove hs hx
  refine ⟨fun hm hx => ⟨_, (exec_transitionStepEnd_sleepStandby h hm).trans (congrArg Host.Outcome.next (if_pos hx)), hends 1 (by decide)⟩,
    fun hm hx => (exec_transitionStepEnd_sleepStandby h hm).trans (congrArg Host.Outcome.next (if_neg (by simp [hx]))),
    fun hm hstep hlocked => ⟨_, (exec_transitionStepEnd_start h hm hstep).trans (congrArg Host.Outcome.next (if_pos hlocked)), nextStep_moving h 2⟩,
    fun hm hstep hopen => (exec_transitionStepEnd_start h hm hstep).trans (congrArg Host.Outcome.next (if_neg (by simp [hopen]))),
    fun hm hstep => ⟨_, exec_transitionStepEnd_joined h hm hstep, joined_ready hs⟩,
    fun hm => exec_transitionStepEnd_readyHold h hm,
    fun hm hstep htime hstays => ⟨_, (exec_transitionStepEnd_readyHold h hm).trans (congrArg Host.Outcome.next (holdStepEnd_last hstep htime hstays)), hends 3 (by decide)⟩,
    fun hm hheld => ⟨_, (exec_transitionStepEnd_holdReady h hm).trans (congrArg Host.Outcome.next (if_pos hheld)), hends 2 (by decide)⟩,
    fun _ hlate => allHeld_late hlate,
    fun hm hopen => (exec_transitionStepEnd_holdReady h hm).trans (congrArg Host.Outcome.next (if_neg (by simp [hopen]))),
    fun hm => ⟨_, exec_transitionStepEnd_readyStandby h hm, hends 1 (by decide)⟩,
    fun hm => ⟨_, exec_transitionStepEnd_standbySleep h hm, arrived_sleepNow hs⟩⟩

end Sys2Proof.Machine

namespace Sys2Proof.Machine

/-! ### What a park request and the closing of the islands leave in the Tollhouse (R244, R310, R329, R446) -/

/-- The second state's registers are the first's but for addresses below the Tollhouse; the time since VTH stands. -/
structure ParkFrame (s t : State) : Prop where
  below : BelowTh s t
  elapsed : t.elapsed = s.elapsed

namespace ParkFrame
variable {s t u : State}

theorem of_regs (h : t.regs = s.regs) (he : t.elapsed = s.elapsed) : ParkFrame s t := ⟨.of_regs h, he⟩

theorem refl (s : State) : ParkFrame s s := of_regs rfl rfl

theorem trans (h : ParkFrame s t) (k : ParkFrame t u) : ParkFrame s u := ⟨h.below.trans k.below, k.elapsed.trans h.elapsed⟩

theorem ite {c : Prop} [Decidable c] (ht : ParkFrame s t) (hu : ParkFrame s u) : ParkFrame s (if c then t else u) := by
  split
  · exact ht
  · exact hu

theorem foldl {α : Type} {f : State → α → State} (l : List α) (hf : ∀ s, ∀ a ∈ l, ParkFrame s (f s a)) (s : State) : ParkFrame s (l.foldl f s) := by
  induction l generalizing s with
  | nil => exact refl s
  | cons a l ih => exact (hf s a List.mem_cons_self).trans (ih (fun s b hb => hf s b (List.mem_cons_of_mem _ hb)) _)

theorem setF (s : State) {f : Fld} (v : Nat) (h : f.addr < thBase) : ParkFrame s (setF s f v) := ⟨.setF s v h, rfl⟩

theorem setFlag (s : State) {f : Fld} (b : Bool) (h : f.addr < thBase) : ParkFrame s (setFlag s f b) := setF s _ h

theorem setPier (s : State) (g : Nat) (p : Pier) : ParkFrame s (setPier s g p) := of_regs rfl rfl

theorem setDrive (s : State) (d : Drive) : ParkFrame s { s with dr := d } := of_regs rfl rfl

theorem setTruss (s : State) (x : Truss) : ParkFrame s { s with te := x } := of_regs rfl rfl

theorem setCal (s : State) (c : Cal) : ParkFrame s { s with cal := c } := of_regs rfl rfl

theorem disarm (s : State) (x : Timer) : ParkFrame s (disarm s x) := of_regs rfl rfl

theorem armIn (s : State) (x : Timer) (n : Nat) : ParkFrame s (armIn s x n) := of_regs rfl rfl

section Pier
variable {n l : Nat} (hn : n < 36) (hl : l < 512)
include hn hl

theorem liveWord_lt (d : Nat) : liveWord n l d < thBase := by
  unfold liveWord aPR_LIVE_A aPR_LIVE_B spBase thBase
  split <;> omega

theorem stagedWord_lt (d : Nat) : stagedWord n l d < thBase := by
  unfold stagedWord aPR_STAGED_A aPR_STAGED_B spBase thBase
  split <;> omega

theorem discardStaged (s : State) : ParkFrame s (discardStaged s n l) :=
  (setF s 0 (stagedWord_lt hn hl 0)).trans (setF _ 0 (stagedWord_lt hn hl 1))

theorem setLiveF (s : State) (d v : Nat) : ParkFrame s (setLiveF s n l d v) := by
  have hlive : ParkFrame s (Machine.setF s (liveF n l d) v) := setF s v (liveWord_lt hn hl d)
  exact ite hlive (hlive.trans (setDrive _ _))

theorem unfreeze (s : State) : ParkFrame s (unfreeze s n l) := by
  have hlive : ∀ u d v, ParkFrame u (Machine.setF u (liveT n l d) v) := fun u d v => setF u v (liveWord_lt hn hl d)
  unfold Machine.unfreeze
  dsimp only
  split
  · exact refl s
  · exact ((setLiveF hn hl s _ _).trans (hlive _ _ _)).trans (setPier _ _ _)

theorem parkPier (s : State) : ParkFrame s (parkPier s n l) := by
  have hout : aPR_OUT n l < thBase := by
    unfold aPR_OUT spBase thBase
    omega
  have hparked : ∀ u, ParkFrame u (Machine.setF u (PR_OUT_PARKED n l) 1) := fun u => setF u 1 hout
  exact ite (discardStaged hn hl s) ((((discardStaged hn hl s).trans (unfreeze hn hl _)).trans (hparked _)).trans (setPier _ _ _))

end Pier

theorem status_lt {n : Nat} (hn : n < 36) : aLZ_STATUS n < thBase := by
  unfold aLZ_STATUS spBase thBase
  omega

/-- The piers of a span park. -/
theorem parkPiers (s : State) {n : Nat} (hn : n < 36) : ParkFrame s ((List.range 512).foldl (fun s l => Machine.parkPier s n l) s) :=
  foldl _ (fun s _ hl => parkPier hn (List.mem_range.mp hl) s) s

theorem parkSpan (s : State) {n : Nat} (hn : n < 36) : ParkFrame s (parkSpan s n) := by
  have hshown : ∀ (u : State) (k : Nat), ParkFrame u (Machine.armIn (Machine.setF (Machine.setF u (LZ_STATUS_RAMPING n) 1) (LZ_STATUS_PARKED n) 0) (.ramp n) k) :=
    fun u k => ((setF u 1 (status_lt hn)).trans (setF _ 0 (status_lt hn))).trans (armIn _ _ k)
  have hparked : ∀ d, ParkFrame s { (List.range 512).foldl (fun s l => Machine.parkPier s n l) s with dr := d } := fun d => (parkPiers s hn).trans (setDrive _ d)
  exact ite (refl s) (ite ((hparked _).trans (hshown _ _)) (hparked _))

theorem parkAll (s : State) : ParkFrame s (parkAll s) := foldl _ (fun s _ hn => parkSpan s (List.mem_range.mp hn)) s

theorem showSeq (s : State) {n : Nat} (hn : n < 36) (q : CalSeq) : ParkFrame s (showSeq s n q) := by
  have hspan : aCAL_SPAN_STATUS n < thBase := by
    unfold aCAL_SPAN_STATUS spBase thBase
    omega
  have hdue : (if n < 32 then (⟨aCAL_DUE_LO, n, n⟩ : Fld) else ⟨aCAL_DUE_HI, n - 32, n - 32⟩).addr < thBase := by
    split
    · exact (by decide : aCAL_DUE_LO < thBase)
    · exact (by decide : aCAL_DUE_HI < thBase)
  exact (((setF s _ hspan).trans (setFlag _ _ hspan)).trans (setF _ _ hspan)).trans (setFlag _ _ hdue)

theorem setSeq (s : State) {n : Nat} (hn : n < 36) (q : CalSeq) : ParkFrame s (setSeq s n q) := (setCal s _).trans (showSeq _ hn q)

theorem releaseFronts (s : State) (n : Nat) : ParkFrame s (releaseFronts s n) := by
  obtain ⟨x, h⟩ := releaseFronts_rest s n
  rw [h]
  exact setTruss s x

theorem abandonStep (s : State) {n : Nat} (hn : n < 36) : ParkFrame s (abandonStep s n) := by
  unfold Machine.abandonStep
  dsimp only
  split
  · exact refl s
  · exact (setSeq s hn _).trans (releaseFronts _ n)

theorem abandonCal (s : State) : ParkFrame s (abandonCal s) := by
  have hsteps : ParkFrame s ((List.range 36).foldl Machine.abandonStep s) := foldl _ (fun s _ hn => abandonStep s (List.mem_range.mp hn)) s
  unfold Machine.abandonCal
  dsimp only
  split
  · exact ((hsteps.trans (setCal _ _)).trans (releaseFronts _ _)).trans (setFlag _ _ (by decide))
  · exact hsteps

theorem dropRuns (s : State) : ParkFrame s (dropRuns s) :=
  (abandonCal s).trans (foldl _ (fun s _ hn => (setSeq s (List.mem_range.mp hn) _).trans (disarm _ _)) _)

theorem abandonResync (s : State) {n : Nat} (hn : n < 36) : ParkFrame s (abandonResync s n) := by
  have hclaim : aDK_CLAIM n < thBase := by
    unfold aDK_CLAIM dkBase thBase
    omega
  have hstate : ∀ d, (stateFld n d).addr < thBase := fun d => by
    unfold stateFld
    split <;> exact hclaim
  exact ((foldl _ (fun s d _ => ite (setF s 1 (hstate d)) (refl s)) s).trans (disarm _ _)).trans (disarm _ _)

theorem parkRequest (s : State) : ParkFrame s (parkRequest s) :=
  ((parkAll s).trans (abandonCal _)).trans (foldl _ (fun s _ hn => abandonResync s (List.mem_range.mp hn)) _)

theorem of_clamp (hc : ClampFrame s t) (hb : BelowTh s t) : ParkFrame s t := by
  refine ⟨hb, ?_⟩
  obtain ⟨r, d, x, rfl⟩ := hc.rest
  rfl

theorem closeClamps (s : State) : ParkFrame s (closeClamps s) :=
  of_clamp (.closeClamps s) (.foldl _ (fun s _ hn => .closeClamp s (List.mem_range.mp hn)) s)

theorem creditMoved (s : State) (l : Nat) : ParkFrame s (creditMoved s l) := ite (refl s) (ite (refl s) (armIn s _ _))

theorem discardRequests (s : State) (p : Request → Bool) : ParkFrame s (discardRequests s p) := by
  have hlost : ∀ u, ParkFrame u (bump u (cTY_SLOT 1)) := fun u => ⟨(BelowTh.wr u _ (by decide)).trans (.wr _ _ (by decide)), rfl⟩
  have hgone : ∀ (l : List Request) (u : State), ParkFrame u (l.foldl (fun s r => Machine.creditMoved (bump s (cTY_SLOT 1)) r.lane) u) :=
    fun l u => foldl l (fun s r _ => (hlost s).trans (creditMoved _ _)) u
  have hleft : ∀ a k, ParkFrame s { s with ad := a, ks := k } := fun _ _ => of_regs rfl rfl
  exact (hleft _ _).trans (hgone (s.ad.inflight.filter p) _)

end ParkFrame

/-! ### The registers of the Tollhouse -/

/-- An address of the Tollhouse's window. -/
abbrev InToll (a : Nat) : Prop := thBase ≤ a ∧ a < thBase + 0x10000

/-- In the Tollhouse's window the second state's registers are the first's but for fields of `W`. -/
structure TollFrame (W : List Fld) (s t : State) : Prop where
  wf : s.RegsWf → t.RegsWf
  keeps : s.RegsWf → ∀ f : Fld, InWord f → InToll f.addr → (∀ g ∈ W, Apart f g) → getF t f = getF s f

namespace TollFrame
variable {W V : List Fld} {s t u : State}

theorem of_writes (h : RegWrites W s t) : TollFrame W s t := ⟨h.wf, fun hs f hf _ hW => h.keeps hs f hf hW⟩

theorem of_below (h : BelowTh s t) : TollFrame W s t := ⟨h.wf, fun _ f _ hf _ => getF_of_rd (h.word f.addr hf.1)⟩

theorem of_park (h : ParkFrame s t) : TollFrame W s t := of_below h.below

theorem of_regs (h : t.regs = s.regs) : TollFrame W s t := of_below (.of_regs h)

theorem refl (s : State) : TollFrame W s s := of_regs rfl

theorem trans (h : TollFrame W s t) (k : TollFrame W t u) : TollFrame W s u :=
  ⟨k.wf ∘ h.wf, fun hs f hf ha hW => (k.keeps (h.wf hs) f hf ha hW).trans (h.keeps hs f hf ha hW)⟩

theorem ite {c : Prop} [Decidable c] (ht : TollFrame W s t) (hu : TollFrame W s u) : TollFrame W s (if c then t else u) := by
  split
  · exact ht
  · exact hu

theorem mono (h : TollFrame V s t) (hVW : V ⊆ W) : TollFrame W s t := ⟨h.wf, fun hs f hf ha hW => h.keeps hs f hf ha fun g hg => hW g (hVW hg)⟩

theorem andWrites (h : TollFrame W s t) (k : RegWrites V t u) (hVW : V ⊆ W) : TollFrame W s u := h.trans (of_writes (k.mono hVW))

theorem andPark (h : TollFrame W s t) (k : ParkFrame t u) : TollFrame W s u := h.trans (of_park k)

theorem andRegs (h : TollFrame W s t) (k : u.regs = t.regs) : TollFrame W s u := h.trans (of_regs k)

theorem flag (h : TollFrame W s t) (hs : s.RegsWf) {f : Fld} (hf : InWord f) (ha : InToll f.addr) (hW : ∀ g ∈ W, Apart f g) :
    flag t f = Machine.flag s f := congrArg (fun n => decide (n ≠ 0)) (h.keeps hs f hf ha hW)

/-- Words outside the Tollhouse's window return to their reset values. -/
theorem of_drop {p : Nat → Bool} (hregs : t.regs = cellDrop p s.regs) (hp : ∀ a, InToll a → p a = false) : TollFrame W s t := by
  refine ⟨fun hs => ?_, fun _ f _ ha _ => getF_of_rd ?_⟩
  · rw [State.RegsWf, hregs]
    exact cellWf_cellDrop _ p s.regs hs
  · rw [rd, hregs, cellGet_cellDrop, hp _ ha]
    rfl

theorem resetIslands (s : State) (drives : Bool) : TollFrame W s (resetIslands s drives) :=
  of_drop (p := fun a => ! (tollRegister a || (drives && (driveRegister a || captureRegister a)))) rfl fun a ha => by simp [tollRegister, ha.1, ha.2]

end TollFrame

/-! ### The Tollhouse's jobs and the flash end (R382, R419, R446) -/

/-- The fields that abandoned jobs write. -/
def jobFields : List Fld :=
  TH_STATUS_WRITING :: NV_INT_ERR :: TY_INT_CKPT_FAIL :: TY_STATUS_CKPT_PEND :: CAL_STATUS_WRITING :: counterFields (cTH_CNT 7)

theorem abandonJob_writes (s : State) (j : Job) : RegWrites jobFields s (abandonJob s j) := by
  have hcounted : RegWrites jobFields s (bump s (cTH_CNT 7)) := .bump s _ fun _ hg => by simp [jobFields, hg]
  unfold abandonJob
  dsimp only
  split
  · exact hcounted.andEvent (by simp [jobFields])
  · exact (hcounted.andEvent (by simp [jobFields])).andSetFlag (by simp [jobFields])
  · exact hcounted.andSetFlag (by simp [jobFields])
  · exact hcounted

theorem showWriting_writes (s : State) : RegWrites jobFields s (showWriting s) := .setFlag s _ (by simp [jobFields])

theorem abandonJobs_writes (s : State) : RegWrites jobFields s (abandonJobs s) := by
  have hall : ∀ l : List Job, RegWrites jobFields s (tollCleared (l.foldl abandonJob s)) := fun l =>
    (RegWrites.foldl l (fun s j _ => abandonJob_writes s j) s).regs_eq rfl
  exact (hall _).trans (showWriting_writes _)

/-- No job runs. -/
def jobOver (s : State) : State := { s with th := { s.th with job := none } }

theorem dropJob_writes (s : State) (j : Job) : RegWrites jobFields s (dropJob s j) := by
  have htaken : RegWrites jobFields s (jobOver s) := .of_regs rfl
  have hdropped := htaken.trans (abandonJob_writes (jobOver s) j)
  exact .ite (fun _ => hdropped.regs_eq rfl) (fun _ => hdropped)

/-- The fields that a host operation writes as it is abandoned. -/
def hostFields : List Fld := NV_STATUS_FOOT_DIRTY :: NV_INT_ERR :: NV_STATUS_BUSY :: counterFields (cNV_CNT 5)

theorem flashUndefined_regs (s : State) (a n : Nat) : (flashUndefined s a n).regs = s.regs := by
  obtain ⟨f, l, h⟩ := flashUndefined_rest s a n
  rw [h]

theorem breakHost_writes (s : State) (h : HostOp) : RegWrites hostFields s (breakHost s h) := by
  have hdirty : ∀ u a n, RegWrites hostFields u (footDirty u a n) := fun u a n => .ite (fun _ => .setFlag u _ (by simp [hostFields])) (fun _ => .refl u)
  refine .ite (fun _ => .refl s) (fun _ => RegWrites.trans (.of_regs ?_) (hdirty _ _ _))
  split
  · exact flashUndefined_regs s _ _
  · exact flashUndefined_regs s _ _

/-- No host operation runs. -/
def hostTaken (s : State) : State := { s with bt := { s.bt with host := none } }

theorem abandonHost_writes (s : State) : RegWrites hostFields s (abandonHost s) := by
  unfold abandonHost
  split
  next h _ =>
    have htaken : RegWrites hostFields s (hostTaken s) := .of_regs rfl
    have hbroken := htaken.trans (breakHost_writes (hostTaken s) h)
    exact ((hbroken.andEvent (by simp [hostFields])).andBump fun _ hg => by simp [hostFields, hg]).andSetFlag (by simp [hostFields])
  · exact .refl s

/-- A host operation that is abandoned leaves registers, free values, the flash and the boot's record of it. -/
theorem abandonHost_rest (s : State) : ∃ r f l b, abandonHost s = { s with regs := r, free := f, flash := l, bt := { s.bt with host := b } } := by
  unfold abandonHost
  split
  next h _ =>
    obtain ⟨r, f, l, hbroken⟩ := breakHost_rest { s with bt := { s.bt with host := none } } h
    rw [hbroken]
    exact ⟨_, f, l, none, rfl⟩
  next h => exact ⟨s.regs, s.free, s.flash, s.bt.host, rfl⟩

/-- The Tollhouse's operation is off the flash, and the region it was at is undefined. -/
def operationBroken (s : State) : State :=
  let u := match s.th.op with
    | some (.program a _) => pageUndefined s a
    | some (.erase a n) => flashUndefined s a n
    | none => s
  { u with th := { u.th with op := none } }

theorem operationBroken_rest (s : State) : ∃ f l, operationBroken s = { s with free := f, flash := l, th := { s.th with op := none } } := by
  unfold operationBroken
  dsimp only
  split
  next a _ _ =>
    obtain ⟨f, l, h⟩ := flashUndefined_rest s (a / pageSize s * pageSize s) (pageSize s)
    exact ⟨f, l, by rw [pageUndefined, h]⟩
  next a n _ =>
    obtain ⟨f, l, h⟩ := flashUndefined_rest s a n
    exact ⟨f, l, by rw [h]⟩
  · exact ⟨s.free, s.flash, rfl⟩

theorem breakFlash_eq (s : State) : breakFlash s = abandonHost (operationBroken s) := rfl

theorem breakFlash_writes (s : State) : RegWrites hostFields s (breakFlash s) := by
  obtain ⟨f, l, h⟩ := operationBroken_rest s
  have hbroken : (operationBroken s).regs = s.regs := by rw [h]
  rw [breakFlash_eq]
  exact (RegWrites.of_regs hbroken).trans (abandonHost_writes _)

theorem breakFlash_rest (s : State) : ∃ r f l b, breakFlash s = { s with regs := r, free := f, flash := l, bt := { s.bt with host := b }, th := { s.th with op := none } } := by
  obtain ⟨f, l, h⟩ := operationBroken_rest s
  obtain ⟨r, f', l', b, h'⟩ := abandonHost_rest (operationBroken s)
  refine ⟨r, f', l', b, ?_⟩
  rw [breakFlash_eq, h', h]

theorem stopPlls_rest (s : State) : ∃ r x, stopPlls s = { s with regs := r, pw := { s.pw with tries := x } } := by
  have hstop : ∀ (l : List Nat) (u : State), ∃ r x, l.foldl (fun s i => setTries (setF s (TH_PLL_LOCK i) 0) i none) u = { u with regs := r, pw := { u.pw with tries := x } } := by
    intro l
    induction l with
    | nil => exact fun u => ⟨_, _, rfl⟩
    | cons i l ih =>
      intro u
      obtain ⟨r, x, h⟩ := ih (setTries (setF u (TH_PLL_LOCK i) 0) i none)
      exact ⟨r, x, h⟩
  exact hstop _ s

/-! ### Everything falls with the islands (R382, R438) -/

/-- What is over before the islands are reset: the operation on the flash, the jobs and the PLLs. -/
def fallBegun (s : State) : State := stopPlls (abandonJobs (breakFlash s))

/-- The islands are reset. -/
def islandsFallen (s : State) : State := resetIslands (fallBegun s) false

theorem collapse_eq (s : State) : collapse s =
    { islandsFallen s with bt := Boot.init, pw := { (islandsFallen s).pw with moving := none, tries := [] } } := rfl

/-- The Tollhouse's fields that a collapse writes. -/
def fallFields : List Fld := hostFields ++ jobFields ++ lockFields

theorem fallBegun_writes (s : State) : RegWrites fallFields s (fallBegun s) :=
  (((breakFlash_writes s).mono fun _ hg => by simp [fallFields, hg]).trans ((abandonJobs_writes _).mono fun _ hg => by simp [fallFields, hg])).trans
    ((stopPlls_kept _).1.mono fun _ hg => by simp [fallFields, hg])

theorem fallBegun_rest (s : State) : ∃ r f l b x, fallBegun s =
    { s with regs := r, free := f, flash := l, bt := b, pw := { s.pw with tries := x }, th := { s.th with jobs := [], job := none, op := none } } := by
  obtain ⟨r, f, l, b, hbroken⟩ := breakFlash_rest s
  obtain ⟨r', hjobs⟩ := abandonJobs_rest (breakFlash s)
  obtain ⟨r'', x, hplls⟩ := stopPlls_rest (abandonJobs (breakFlash s))
  refine ⟨r'', f, l, { s.bt with host := b }, x, ?_⟩
  rw [fallBegun, hplls, hjobs, hbroken]

theorem collapse_toll (s : State) : TollFrame fallFields s (collapse s) := by
  have hbegun : TollFrame fallFields s (fallBegun s) := .of_writes (fallBegun_writes s)
  have hreset : TollFrame fallFields s (islandsFallen s) := hbegun.trans (.resetIslands (fallBegun s) false)
  rw [collapse_eq]
  generalize islandsFallen s = u at hreset ⊢
  exact hreset.andRegs rfl

/-- What a collapse leaves beside the registers. -/
theorem collapse_parts (s : State) : (collapse s).clock = 0 ∧ (collapse s).ad = State.reset.ad ∧ (collapse s).pw.moving = none ∧ (collapse s).mem = s.mem
    ∧ (collapse s).th.jobs = [] ∧ (collapse s).th.job = none ∧ (collapse s).pw.rstLow = s.pw.rstLow := by
  obtain ⟨r, f, l, b, x, h⟩ := fallBegun_rest s
  rw [collapse_eq, islandsFallen, h]
  exact ⟨rfl, rfl, rfl, rfl, rfl, rfl, rfl⟩

/-! ### The device comes to rest in a state (R369, R420, R439) -/

/-- The fields that rest in a state writes. -/
def restFields : List Fld := TH_PSTATE_STATE :: (readyFields ++ sleepFields)

theorem enterState_writes (s : State) (x : Nat) : RegWrites restFields s (enterState s x) :=
  (RegWrites.setF s _ (by simp [restFields])).trans ((RegWrites.of_nt (refreshReady_writes _)).mono fun _ hg => by simp [restFields, hg])

/-- The state as it shows once it is entered, with the clock of Sleep. -/
def restShown (s : State) (st : Nat) : State := if st = 0 then sleepClock (enterState s 0) else enterState s st

theorem restShown_writes (s : State) (st : Nat) : RegWrites restFields s (restShown s st) :=
  .ite (fun _ => (enterState_writes s 0).trans ((sleepClock_writes _).mono fun _ hg => by simp [restFields, hg])) (fun _ => enterState_writes s st)

theorem enterRest_rest (s : State) : ∃ n l, enterRest s = { s with pw := { s.pw with restAt := n }, timers := l } := by
  unfold enterRest armWake
  split
  · exact ⟨s.elapsed, _, rfl⟩
  · exact ⟨s.elapsed, _, rfl⟩

theorem restIn_as (s : State) (st : Nat) : ∃ n l, restIn s st = { restShown s st with pw := { (restShown s st).pw with restAt := n }, timers := l } := by
  have hrest : restIn s st = if pstate s = st then restShown s st else enterRest (restShown s st) := rfl
  rw [hrest]
  generalize restShown s st = u
  split
  · exact ⟨u.pw.restAt, u.timers, rfl⟩
  · exact enterRest_rest u

theorem restShown_rest (s : State) (st : Nat) : ∃ e c b, restShown s st = { s with regs := (restShown s st).regs, th := { s.th with entries := e, cycling := c, began := b } } := by
  unfold restShown
  split
  · obtain ⟨r, hentered⟩ := enterState_regs s 0
    obtain ⟨e, c, b, hsleep⟩ := sleepClock_rest (enterState s 0)
    refine ⟨e, c, b, hsleep.trans ?_⟩
    generalize (sleepClock (enterState s 0)).regs = r'
    rw [hentered]
  · obtain ⟨r, hentered⟩ := enterState_regs s st
    refine ⟨s.th.entries, s.th.cycling, s.th.began, ?_⟩
    rw [hentered]

theorem restIn_rest (s : State) (st : Nat) : ∃ e c b n l, restIn s st =
    { s with regs := (restShown s st).regs, th := { s.th with entries := e, cycling := c, began := b }, pw := { s.pw with restAt := n }, timers := l } := by
  obtain ⟨n, l, h⟩ := restIn_as s st
  obtain ⟨e, c, b, hshown⟩ := restShown_rest s st
  refine ⟨e, c, b, n, l, h.trans ?_⟩
  generalize (restShown s st).regs = r at hshown ⊢
  rw [hshown]

theorem restIn_parts (s : State) (st : Nat) : (restIn s st).clock = s.clock ∧ (restIn s st).ad = s.ad ∧ (restIn s st).mem = s.mem
    ∧ (restIn s st).pw.moving = s.pw.moving ∧ (restIn s st).pw.rstLow = s.pw.rstLow ∧ (restIn s st).th.jobs = s.th.jobs ∧ (restIn s st).th.job = s.th.job := by
  obtain ⟨e, c, b, n, l, h⟩ := restIn_rest s st
  rw [h]
  exact ⟨rfl, rfl, rfl, rfl, rfl, rfl, rfl⟩

theorem restIn_regs (s : State) (st : Nat) : (restIn s st).regs = (restShown s st).regs := by
  obtain ⟨e, c, b, n, l, h⟩ := restIn_rest s st
  rw [h]

theorem restIn_writes (s : State) (st : Nat) : RegWrites restFields s (restIn s st) := (restShown_writes s st).regs_eq (restIn_regs s st)

theorem pstate_restIn {s : State} (hs : s.RegsWf) {st : Nat} (hst : st < 8) : pstate (restIn s st) = st := by
  have hshown : pstate (restShown s st) = st := by
    unfold restShown
    split
    next h =>
      subst h
      have hentered := (enterState_writes s 0).wf hs
      exact ((sleepClock_writes _).getF hentered (by decide) apart_sleepFields.1).trans (pstate_enterState hs (by decide))
    · exact pstate_enterState hs hst
  exact (getF_of_rd (rd_of_regs (restIn_regs s st) _)).trans hshown

theorem restIn_clock {s : State} (hs : s.RegsWf) : flag (restIn s 0) TH_STATUS_CLK = false ∧ flag (restIn s 0) TH_STATUS_XTAL_VALID = false := by
  obtain ⟨hclk, hxtal⟩ := sleepClock_flags ((enterState_writes s 0).wf hs)
  exact ⟨(flag_of_rd (rd_of_regs (restIn_regs s 0) _)).trans hclk, (flag_of_rd (rd_of_regs (restIn_regs s 0) _)).trans hxtal⟩

end Sys2Proof.Machine

namespace Sys2Proof.Machine

/-! ### RST_N, wakes, the crystal and VTH (R379, R382, R420, R422, R437, R439) -/

section ResetPin
variable {s : State}

/-- RST_N is low. -/
def pinLow (s : State) : State := { s with pw := { s.pw with rstLow := true } }

theorem regsWf_pinLow (hs : s.RegsWf) : (pinLow s).RegsWf := hs

theorem exec_rstNAssert (s : State) : exec .rstNAssert s = .next (restIn (pinLow (collapse s)) (restState s)) := rfl

theorem restState_lt (s : State) : restState s < 8 := by
  unfold restState
  split
  · decide
  · decide

theorem rstNAssert_rests (hs : s.RegsWf) : ∃ t, exec .rstNAssert s = .next t ∧ t.clock = 0 ∧ t.ad.inflight = [] ∧ t.pw.rstLow = true ∧ t.pw.moving = none
    ∧ t.mem = s.mem ∧ pstate t = (if railGood s 0 then 1 else 0) ∧ t.th.jobs = [] ∧ t.th.job = none ∧ t.epoch = s.epoch
    ∧ (railGood s 0 = false → flag t TH_STATUS_CLK = false ∧ flag t TH_STATUS_XTAL_VALID = false) := by
  obtain ⟨hclock, had, hmoving, hmem, hjobs, hjob, -⟩ := collapse_parts s
  have hlow := regsWf_pinLow ((collapse_toll s).wf hs)
  have hepoch : (collapse s).epoch = s.epoch := collapse_epoch s
  rw [exec_rstNAssert]
  generalize collapse s = u at hclock had hmoving hmem hjobs hjob hlow hepoch ⊢
  obtain ⟨hclock', had', hmem', hmoving', hpin', hjobs', hjob'⟩ := restIn_parts (pinLow u) (restState s)
  refine ⟨_, rfl, hclock'.trans hclock, congrArg (·.inflight) (had'.trans had), hpin', hmoving'.trans hmoving, hmem'.trans hmem, pstate_restIn hlow (restState_lt s),
    hjobs'.trans hjobs, hjob'.trans hjob, ?_, fun h => ?_⟩
  · rw [restIn_epoch]
    exact hepoch
  · have hsleep : restState s = 0 := if_neg (by simp [h])
    rw [hsleep]
    exact restIn_clock hlow

end ResetPin

section Wakes
variable {s : State}

/-- The wake is noted, and the PLLs may be tried again. -/
def wakeNoted (s : State) : State := event { s with pw := { s.pw with tries := [] } } TH_PINT_WAKE

theorem wake_cases (s : State) : wake s = s ∨ wake s = wakeNoted s ∨ wake s = setF (wakeNoted s) TH_PCTRL_TARGET (getF s TH_PCTRL_WAKE_TARGET) := by
  change (if _ then s else if _ then setF (wakeNoted s) TH_PCTRL_TARGET (getF s TH_PCTRL_WAKE_TARGET) else wakeNoted s) = s ∨ _
  split
  · exact .inl rfl
  · split
    · exact .inr (.inr (if_neg ‹_› |>.trans (if_pos ‹_›)))
    · exact .inr (.inl (if_neg ‹_› |>.trans (if_neg ‹_›)))

/-- The fields that a wake writes. -/
def wakeFields : List Fld := [TH_PINT_WAKE, TH_PCTRL_TARGET]

theorem wakeNoted_writes (s : State) : RegWrites wakeFields s (wakeNoted s) := by
  have hnoted : RegWrites wakeFields s { s with pw := { s.pw with tries := [] } } := .of_regs rfl
  exact hnoted.andEvent (by simp [wakeFields])

theorem wake_writes (s : State) : RegWrites wakeFields s (wake s) := by
  rcases wake_cases s with h | h | h
  · rw [h]
    exact .refl s
  · rw [h]
    exact wakeNoted_writes s
  · rw [h]
    exact (wakeNoted_writes s).andSetF (by simp [wakeFields])

theorem wake_rest (s : State) : ∃ r x, wake s = { s with regs := r, pw := { s.pw with tries := x } } := by
  rcases wake_cases s with h | h | h
  · exact ⟨s.regs, s.pw.tries, h⟩
  · exact ⟨_, [], h⟩
  · exact ⟨_, [], h⟩

theorem wake_above (h : 2 ≤ pstate s) : wake s = s := if_pos (.inl h)

theorem wake_raises (hs : s.RegsWf) (hstate : pstate s ≤ 1) (hpend : flag s TH_STATUS_TSD_PEND = false)
    (hcool : flag s TH_STATUS_TSD_LATCH = false ∨ cooled s = true) :
    getF (wake s) TH_PCTRL_TARGET = max (getF s TH_PCTRL_TARGET) (getF s TH_PCTRL_WAKE_TARGET) ∧ flag (wake s) TH_PINT_WAKE = true := by
  have hnoted := (wakeNoted_writes s).wf hs
  have hshown : flag (wakeNoted s) TH_PINT_WAKE = true := flag_event_same { s with pw := { s.pw with tries := [] } } _ hs (by decide) (by decide)
  have hkept : getF (wakeNoted s) TH_PCTRL_TARGET = getF s TH_PCTRL_TARGET :=
    RegWrites.getF (W := [TH_PINT_WAKE]) (.setF { s with pw := { s.pw with tries := [] } } 1 (by simp)) hs (by decide) (by decide)
  have hawake : ¬ (2 ≤ pstate s ∨ (flag s TH_STATUS_TSD_LATCH ∧ cooled s = false) ∨ flag s TH_STATUS_TSD_PEND) := by
    rintro (h | ⟨h, h'⟩ | h)
    · omega
    · rcases hcool with hl | hl
      · exact absurd h (by simp [hl])
      · exact absurd h' (by simp [hl])
    · exact absurd h (by simp [hpend])
  have hwake : wake s = if getF s TH_PCTRL_TARGET < getF s TH_PCTRL_WAKE_TARGET then setF (wakeNoted s) TH_PCTRL_TARGET (getF s TH_PCTRL_WAKE_TARGET) else wakeNoted s :=
    if_neg hawake
  have hlt : getF s TH_PCTRL_WAKE_TARGET < 2 ^ 3 := getF_lt s TH_PCTRL_WAKE_TARGET
  rw [hwake]
  split
  next h =>
    refine ⟨?_, ?_⟩
    · rw [Nat.max_eq_right (Nat.le_of_lt h)]
      exact (getF_setF_same _ _ _ hnoted (by decide)).trans (Nat.mod_eq_of_lt hlt)
    · exact (RegWrites.flag (W := [TH_PCTRL_TARGET]) (.setF _ _ (by simp)) hnoted (by decide) (by decide)).trans hshown
  next h => exact ⟨hkept.trans (Nat.max_eq_left (Nat.le_of_not_lt h)).symm, hshown⟩

theorem exec_wakeTimer (hdue : due s .wake = true) (hstate : pstate s ≤ 1) :
    exec .wakeTimer s = .next (wake (bump (event (disarm s .wake) TH_INT_WAKE_TMR) (cTH_CNT 2))) := if_pos ⟨hdue, hstate⟩

theorem wakeTimer_wakes (hs : s.RegsWf) (hdue : due s .wake = true) (hstate : pstate s ≤ 1) : ∃ t, exec .wakeTimer s = .next t ∧ timerAt .wake t.timers = none
    ∧ flag t TH_INT_WAKE_TMR = true ∧ count t (cTH_CNT 2) = (count s (cTH_CNT 2) + 1) % 2 ^ 48 := by
  have hdone : (disarm s .wake).RegsWf := hs
  have hnoted : RegWrites [TH_INT_WAKE_TMR] (disarm s .wake) (event (disarm s .wake) TH_INT_WAKE_TMR) := .event _ (by simp)
  have hwake := wake_writes (bump (event (disarm s .wake) TH_INT_WAKE_TMR) (cTH_CNT 2))
  refine ⟨_, exec_wakeTimer hdue hstate, ?_, ?_, ?_⟩
  · obtain ⟨r, x, hrest⟩ := wake_rest (bump (event (disarm s .wake) TH_INT_WAKE_TMR) (cTH_CNT 2))
    rw [hrest]
    exact timerAt_disarm_same s .wake
  · have hafter : RegWrites (counterFields (cTH_CNT 2) ++ wakeFields) (event (disarm s .wake) TH_INT_WAKE_TMR) _ :=
      (RegWrites.bump _ _ fun _ hg => by simp [hg]).trans (hwake.mono fun _ hg => by simp [hg])
    exact flag_event_written hdone hafter (by decide) (by decide)
  · exact count_bumped (s := disarm s .wake) hdone hnoted hwake (by decide) (by decide)

end Wakes

section Supply
variable {s : State}

theorem exec_xtalValid (hx : flag s TH_STATUS_XTAL_VALID = false) (h : pstate s ≠ 0 ∨ s.pw.moving.isSome = true) :
    exec .xtalValid s = .next (abortConversion (clockSet s true)) := by
  refine if_neg ?_
  rintro (hvalid | ⟨hsleep, hstill⟩)
  · exact absurd hvalid (by simp [hx])
  · rcases h with h | h
    · exact h hsleep
    · exact absurd hstill (by simp [Option.isNone_iff_eq_none, Option.isSome_iff_ne_none.mp h])

theorem clockSet_kept (b : Bool) (hs : s.RegsWf) :
    flag (clockSet s b) HK_STATUS_BUSY = flag s HK_STATUS_BUSY ∧ count (clockSet s b) (cHK_CNT 2) = count s (cHK_CNT 2) := by
  have hset : RegWrites [TH_STATUS_XTAL_VALID, TH_STATUS_CLK] s (clockSet s b) := .andSetFlag (.andSetFlag (.refl s) (by simp)) (by simp)
  exact ⟨hset.flag hs (by decide) (by decide), hset.count hs (by decide)⟩

theorem xtalValid_moves (hs : s.RegsWf) (hx : flag s TH_STATUS_XTAL_VALID = false) (h : pstate s ≠ 0 ∨ s.pw.moving.isSome = true) :
    ∃ t, exec .xtalValid s = .next t ∧ flag t TH_STATUS_XTAL_VALID = true ∧ flag t TH_STATUS_CLK = true ∧ t = { s with regs := t.regs, th := t.th }
      ∧ (flag s HK_STATUS_BUSY = true → t.th.began = s.elapsed ∧ count t (cHK_CNT 2) = (count s (cHK_CNT 2) + 1) % 2 ^ 48) := by
  have hset := (clockSet_writes s true).wf hs
  obtain ⟨hbusy, hcount⟩ := clockSet_kept true hs
  obtain ⟨hclk, hxtal⟩ := clockSet_flags true hs
  have haborted := SeqFrame.abortConversion (clockSet s true)
  obtain ⟨hclkKept, hxtalKept⟩ := haborted.clockFlags hset
  refine ⟨_, exec_xtalValid hx h, hxtalKept.trans hxtal, hclkKept.trans hclk, ?_, fun hruns => ?_⟩
  · obtain ⟨e, c, b, hrest⟩ := haborted.rest
    rw [hrest]
    rfl
  · have hbegun : abortConversion (clockSet s true) = bump (beginConversion (clockSet s true)) (cHK_CNT 2) := if_pos (hbusy.trans hruns)
    rw [hbegun]
    exact ⟨rfl, (count_bumpBy (beginConversion (clockSet s true)) _ 1 hset).trans (congrArg (fun c => (c + 1) % 2 ^ 48) hcount)⟩

theorem vthPowerLoss_resets (s : State) : ∃ t, exec .vthPowerLoss s = .next t
    ∧ t = { State.reset with pending := s.pending, elapsed := s.elapsed, free := t.free, flash := t.flash } ∧ (s.th.op = none → s.bt.host = none → t.flash = s.flash) := by
  refine ⟨_, rfl, ?_, fun hop hhost => ?_⟩
  · obtain ⟨r, f, l, b, h⟩ := breakFlash_rest s
    rw [h]
  · have hbroken : operationBroken s = { s with th := { s.th with op := none } } := by
      unfold operationBroken
      rw [hop]
    have hfree : breakFlash s = { s with th := { s.th with op := none } } := by
      rw [breakFlash_eq, hbroken]
      exact abandonHost_none hhost
    change (breakFlash s).flash = s.flash
    rw [hfree]

end Supply

/-! ### Writes of TARGET (R383) -/

section Target
variable {s u : State} {w : RegWrite}

/-- A raised TARGET is taken back where the device rests. -/
def targetHeld (s0 s : State) : State :=
  if pstate s ≤ 1 ∧ getF s0 TH_PCTRL_TARGET < getF s TH_PCTRL_TARGET then setF s TH_PCTRL_TARGET (getF s0 TH_PCTRL_TARGET) else s

theorem targetWritten_eq (s0 s : State) : targetWritten s0 s = refreshReady (runFalls (targetHeld s0 s) (netNs (targetHeld s0 s))) := rfl

theorem targetWritten_kept {s0 : State} (hs : s.RegsWf) : getF (targetWritten s0 s) TH_PCTRL_TARGET = getF (targetHeld s0 s) TH_PCTRL_TARGET
    ∧ (targetWritten s0 s).mem = s.mem ∧ (targetWritten s0 s).ad = s.ad := by
  have hheld : RegsOnly s (targetHeld s0 s) := .ite (.setF _ _ _) (.refl s)
  have hheldWf : (targetHeld s0 s).RegsWf := by
    unfold targetHeld
    split
    · exact regsWf_setF _ _ _ hs
    · exact hs
  have hmem := hheld.mem
  have had := hheld.ad
  rw [targetWritten_eq]
  generalize targetHeld s0 s = v at hheldWf hmem had ⊢
  have hfallsWf : (runFalls v (netNs v)).RegsWf := by
    unfold runFalls
    split
    · unfold runOff
      split
      · exact regsWf_setF { v with pw := _ } LS_CTRL_RUN 0 hheldWf
      · exact hheldWf
    · exact hheldWf
  have hready : RegWrites readyFields (runFalls v (netNs v)) (refreshReady (runFalls v (netNs v))) := .of_nt (refreshReady_writes _)
  obtain ⟨r, p, hfalls⟩ := runFalls_rest v (netNs v)
  obtain ⟨r', hshown⟩ := refreshReady_regs (runFalls v (netNs v))
  refine ⟨(hready.getF hfallsWf (by decide) (by decide)).trans (getF_of_rd (rd_runFalls v _ (by decide))), ?_, ?_⟩
  · rw [hshown, hfalls]
    exact hmem
  · rw [hshown, hfalls]
    exact had

theorem rowWrite_target (hg : Granted s w aTH_PCTRL) :
    rowWrite s aTH_PCTRL w = targetWritten (atGrant s w) (storeWrite (atGrant s w) aTH_PCTRL w.value) := by
  rw [rowWrite_granted s _ w hg, regWritten_th _ _ _ _ _ (by decide)]
  have hgoes : thWrite (atGrant s w) aTH_PCTRL w.value = targetWritten (atGrant s w) (storeWrite (atGrant s w) aTH_PCTRL w.value) := by
    unfold thWrite
    dsimp only
    rw [if_pos rfl]
  exact hgoes

theorem target_written (hs : s.RegsWf) (hg : Granted s w aTH_PCTRL) (hu : u = storeWrite (atGrant s w) aTH_PCTRL w.value) :
    ∃ t, exec (.targetWrite w) s = .next t ∧
      getF t TH_PCTRL_TARGET = (if pstate s ≤ 1 ∧ getF s TH_PCTRL_TARGET < getF u TH_PCTRL_TARGET then getF s TH_PCTRL_TARGET else getF u TH_PCTRL_TARGET)
      ∧ t.mem = s.mem ∧ t.ad = s.ad := by
  have hexec : exec (.targetWrite w) s = .next (targetWritten (atGrant s w) u) := by
    rw [hu, ← rowWrite_target hg]
    rfl
  have hgrant := nvmKept_atGrant s w
  have hgrantWf : (atGrant s w).RegsWf := regsWf_setF s _ _ hs
  have huWf : u.RegsWf := hu ▸ regsWf_storeWrite _ _ hgrantWf
  have hpstate : pstate u = pstate s := by
    have hstored : rd u aTH_PSTATE = rd (atGrant s w) aTH_PSTATE := hu ▸ rd_storeWrite_other _ _ _ _ (by decide)
    exact getF_of_rd (f := TH_PSTATE_STATE) (hstored.trans (hgrant _ (by decide)))
  have hbefore : getF (atGrant s w) TH_PCTRL_TARGET = getF s TH_PCTRL_TARGET := hgrant.getF (by decide)
  have hstored : u.mem = s.mem ∧ u.ad = s.ad := by
    have hregs := storeWrite_regs (atGrant s w) aTH_PCTRL w.value
    rw [← hu] at hregs
    exact ⟨hregs.mem, hregs.ad⟩
  have hlt : getF s TH_PCTRL_TARGET < 2 ^ 3 := getF_lt s TH_PCTRL_TARGET
  obtain ⟨htarget, hmem, had⟩ := targetWritten_kept (s0 := atGrant s w) huWf
  refine ⟨_, hexec, htarget.trans ?_, hmem.trans hstored.1, had.trans hstored.2⟩
  unfold targetHeld
  rw [hpstate, hbefore]
  split
  · exact (getF_setF_same _ _ _ huWf (by decide)).trans (Nat.mod_eq_of_lt hlt)
  · rfl

end Target

/-- Settles O51, by what a collapse, a wake and the clock's switch do. -/
theorem resets : Obligations.Resets := by
  unfold Obligations.Resets
  refine ⟨fun s hc => rstNAssert_rests hc.1, fun _ => rfl, fun s hc hstate hpend hcool => ?_, fun _ h => wake_above h,
    fun s hc hdue hstate => wakeTimer_wakes hc.1 hdue hstate, fun s hc hx h => xtalValid_moves hc.1 hx h, fun _ => rfl, vthPowerLoss_resets,
    fun s u w hc hg hu => target_written hc.1 hg hu⟩
  obtain ⟨htarget, hwoken⟩ := wake_raises hc.1 hstate hpend hcool
  obtain ⟨r, x, hrest⟩ := wake_rest s
  exact ⟨htarget, hwoken, by rw [hrest]⟩

end Sys2Proof.Machine

namespace Sys2Proof.Machine

/-! ### Rails that become good or fail (R362, R437, R438) -/

/-- A rail's flag in TH_PSTATE.RAILS. -/
def railFld (i : Nat) : Fld := ⟨aTH_PSTATE, 8 + i, 8 + i⟩

theorem railFld_inWord {i : Nat} (hi : i < 6) : InWord (railFld i) := ⟨le_rfl, show 8 + i < 32 by omega⟩

theorem railGood_eq (s : State) {i : Nat} (hi : i < 6) : railGood s i = flag s (railFld i) := by
  have hwidth : width (8 + i) (8 + i) = 1 := by
    unfold width
    omega
  change ((rd s aTH_PSTATE).toNat / 2 ^ 8 % 2 ^ 6).testBit i = decide ((rd s aTH_PSTATE).toNat / 2 ^ (8 + i) % 2 ^ width (8 + i) (8 + i) ≠ 0)
  rw [hwidth, Nat.testBit_mod_two_pow, Nat.testBit_div_two_pow, decide_eq_true hi, Bool.true_and, Nat.testBit_eq_decide_div_mod_eq, Nat.add_comm i 8]
  exact decide_eq_decide.mpr (by omega)

theorem railNum_lt (r : Rail) : railNum r < 6 := by cases r <;> decide

theorem setRail_eq (s : State) (i : Nat) (b : Bool) : setRail s i b = setFlag s (railFld i) b := rfl

theorem railGood_setRail {s : State} (hs : s.RegsWf) {i : Nat} (hi : i < 6) (b : Bool) : railGood (setRail s i b) i = b := by
  rw [railGood_eq _ hi, setRail_eq]
  exact flag_setFlag_same s _ b hs (railFld_inWord hi).2 le_rfl

theorem railGood_setRail_other {s : State} (hs : s.RegsWf) {i k : Nat} (hi : i < 6) (hk : k ≠ i) (b : Bool) : railGood (setRail s k b) i = railGood s i := by
  have hapart : ∀ g ∈ [railFld k], Apart (railFld i) g := by
    simp only [List.mem_singleton, forall_eq, Apart, railFld]
    omega
  rw [railGood_eq _ hi, railGood_eq _ hi, setRail_eq]
  exact RegWrites.flag (W := [railFld k]) (.setFlag s b (by simp)) hs (railFld_inWord hi) hapart

/-- A rail's flag stands where nothing writes it. -/
theorem TollFrame.railGood {W : List Fld} {s t : State} (h : TollFrame W s t) (hs : s.RegsWf) (i : Nat) (hW : ∀ g ∈ W, Apart ⟨aTH_PSTATE, 13, 8⟩ g) :
    railGood t i = Machine.railGood s i := congrArg (·.testBit i) (h.keeps hs TH_PSTATE_RAILS (by decide) (by decide) hW)

/-! #### Good -/

/-- One fuse word is loaded into its shadow. -/
def fuseLoaded (s : State) (i : Nat) : State :=
  match rowAt (fuBase + 4 * i) with
  | some r => wr s (fuBase + 4 * i) (r.fields.foldl (fun w f => withBits w f.hi f.lo (bitsOf (Config.fuseWord i) f.hi f.lo)) 0)
  | none => s

theorem loadFuses_eq (s : State) :
    loadFuses s = setFlag (setF ((List.range 24).foldl fuseLoaded s) FU_STATUS_VALID 1) FU_STATUS_CRC_ERR (! Config.fusesGood) := rfl

theorem fuseLoaded_regs (s : State) (i : Nat) : RegsOnly s (fuseLoaded s i) := by
  unfold fuseLoaded
  split
  · exact ⟨_, rfl⟩
  · exact .refl s

theorem fuseLoaded_park (s : State) {i : Nat} (hi : i < 24) : ParkFrame s (fuseLoaded s i) := by
  have hfuse : fuBase + 4 * i < thBase := by
    unfold fuBase thBase
    omega
  unfold fuseLoaded
  split
  · exact ⟨.wr _ _ hfuse, rfl⟩
  · exact .refl s

theorem fuseWords_park (s : State) : ParkFrame s ((List.range 24).foldl fuseLoaded s) :=
  .foldl _ (fun u _ hi => fuseLoaded_park u (List.mem_range.mp hi)) s

theorem loadFuses_regs (s : State) : RegsOnly s (loadFuses s) := ((RegsOnly.foldl fuseLoaded_regs _ s).trans (.setF _ _ _)).trans (.setFlag _ _ _)

theorem loadFuses_park (s : State) : ParkFrame s (loadFuses s) :=
  ((fuseWords_park s).trans (.setF _ 1 (by decide))).trans (.setFlag _ _ (by decide))

theorem loadFuses_valid {s : State} (hs : s.RegsWf) : flag (loadFuses s) FU_STATUS_VALID = true := by
  rw [loadFuses_eq]
  exact flag_event_written (W := [FU_STATUS_CRC_ERR]) ((fuseWords_park s).below.wf hs) (.setFlag _ _ (by simp)) (by decide) (by decide)

/-- The fields that the judging of fatal conditions writes. -/
def quietFields : List Fld := FC_STATUS_QUIET :: counterFields (cFC_CNT 4)

theorem recheckConditions_writes (s : State) : RegWrites quietFields s (recheckConditions s) := by
  have hjudged : ∀ f, RegWrites quietFields s { s with fc := f } := fun _ => .of_regs rfl
  have hquiet : ∀ u, RegWrites quietFields u (startQuiet u) := fun u =>
    .ite (fun _ => (RegWrites.andBump (.setFlag u _ (by simp [quietFields])) fun _ hg => by simp [quietFields, hg]).regs_eq rfl) (fun _ => .refl u)
  exact (hjudged _).trans (hquiet _)

theorem recheckConditions_rest (s : State) : ∃ r f x, recheckConditions s = { s with regs := r, fc := f, timers := x } := by
  have hquiet : ∀ u, ∃ r x, startQuiet u = { u with regs := r, timers := x } := fun u => by
    unfold startQuiet
    split
    · exact ⟨_, _, rfl⟩
    · exact ⟨u.regs, u.timers, rfl⟩
  obtain ⟨r, x, h⟩ := hquiet { s with fc := { s.fc with conditions := s.fc.conditions.filter (conditionHolds s) } }
  exact ⟨r, _, x, h⟩

/-- The fuses are loaded as VDD becomes good. -/
def fusesLoaded (s : State) (i : Nat) : State := if i = 0 ∧ railGood s 0 = false then loadFuses (setRail s i true) else setRail s i true

/-- A rail is good, and the fatal conditions are judged. -/
def railRisen (s : State) (i : Nat) : State := recheckConditions (fusesLoaded s i)

theorem exec_railGood (r : Rail) (s : State) : exec (.railGood r) s =
    .next (if railNum r = 0 ∧ s.pw.rstLow then restIn (railRisen s (railNum r)) 1 else refreshReady (railRisen s (railNum r))) := rfl

theorem fusesLoaded_keeps (s : State) (i : Nat) : RegsOnly s (fusesLoaded s i) :=
  .ite ((RegsOnly.setFlag s _ _).trans (loadFuses_regs _)) (.setFlag s _ _)

theorem fusesLoaded_park (s : State) (i : Nat) : ParkFrame (setRail s i true) (fusesLoaded s i) := .ite (loadFuses_park _) (.refl _)

theorem railRisen_toll (s : State) (i : Nat) : TollFrame quietFields (setRail s i true) (railRisen s i) :=
  (TollFrame.of_park (fusesLoaded_park s i)).andWrites (recheckConditions_writes _) (List.Subset.refl _)

theorem railRisen_keeps (s : State) (i : Nat) : (railRisen s i).mem = s.mem ∧ (railRisen s i).ad = s.ad := by
  obtain ⟨r, hloaded⟩ := fusesLoaded_keeps s i
  obtain ⟨r', f, x, h⟩ := recheckConditions_rest (fusesLoaded s i)
  rw [railRisen, h, hloaded]
  exact ⟨rfl, rfl⟩

theorem railRisen_fuses {s : State} (hs : s.RegsWf) (h : railGood s 0 = false) : flag (railRisen s 0) FU_STATUS_VALID = true := by
  have hset : (setRail s 0 true).RegsWf := regsWf_setF _ _ _ hs
  have hloaded : fusesLoaded s 0 = loadFuses (setRail s 0 true) := if_pos ⟨rfl, h⟩
  rw [railRisen, hloaded]
  exact ((recheckConditions_writes _).flag ((loadFuses_park _).below.wf hset) (by decide) (by decide)).trans (loadFuses_valid hset)

/-- What follows a rail's rise: rest in Standby where RST_N is low with VDD, else the readiness. -/
def railShown (s u : State) (i : Nat) : State := if i = 0 ∧ s.pw.rstLow then restIn u 1 else refreshReady u

theorem railShown_writes (s u : State) (i : Nat) : RegWrites restFields u (railShown s u i) :=
  .ite (fun _ => restIn_writes u 1) (fun _ => (RegWrites.of_nt (refreshReady_writes u)).mono fun _ hg => by simp [restFields, hg])

theorem railShown_keeps (s u : State) (i : Nat) : (railShown s u i).mem = u.mem ∧ (railShown s u i).ad = u.ad := by
  unfold railShown
  split
  · obtain ⟨-, had, hmem, -⟩ := restIn_parts u 1
    exact ⟨hmem, had⟩
  · obtain ⟨r, h⟩ := refreshReady_regs u
    rw [h]
    exact ⟨rfl, rfl⟩

theorem railGood_shows {s : State} (r : Rail) (hs : s.RegsWf) : ∃ t, exec (.railGood r) s = .next t ∧ railGood t (railNum r) = true
    ∧ (∀ i < 6, i ≠ railNum r → railGood t i = railGood s i) ∧ t.mem = s.mem ∧ t.ad = s.ad ∧ (r = .vdd → railGood s 0 = false → flag t FU_STATUS_VALID = true)
    ∧ (r = .vdd → s.pw.rstLow = true → pstate t = 1) := by
  have hset : (setRail s (railNum r) true).RegsWf := regsWf_setF _ _ _ hs
  have hrisen := railRisen_toll s (railNum r)
  have hwf := hrisen.wf hset
  have hshown := railShown_writes s (railRisen s (railNum r)) (railNum r)
  obtain ⟨hmem, had⟩ := railRisen_keeps s (railNum r)
  obtain ⟨hmem', had'⟩ := railShown_keeps s (railRisen s (railNum r)) (railNum r)
  have hkept : ∀ i, railGood (railShown s (railRisen s (railNum r)) (railNum r)) i = railGood (setRail s (railNum r) true) i := fun i =>
    ((TollFrame.of_writes hshown).railGood hwf i (by decide)).trans (hrisen.railGood hset i (by decide))
  refine ⟨_, exec_railGood r s, (hkept _).trans (railGood_setRail hs (railNum_lt r) true),
    fun i hi hne => (hkept i).trans (railGood_setRail_other hs hi hne.symm true), hmem'.trans hmem, had'.trans had, ?_, ?_⟩
  · rintro rfl hbad
    exact (hshown.flag hwf (by decide) (by decide)).trans (railRisen_fuses hs hbad)
  · rintro rfl hlow
    rw [if_pos ⟨rfl, hlow⟩]
    exact pstate_restIn hwf (by decide)

/-! #### Bad -/

/-- A rail that fails shows; one that is required is counted. -/
def railFailed (s : State) (i : Nat) : State :=
  if railRequired s i then bump (event (setRail s i false) TH_INT_SUP_BAD) (cTH_CNT 4) else setRail s i false

/-- The fields that the failure of a rail writes beside its flag. -/
def supplyFields : List Fld := TH_INT_SUP_BAD :: counterFields (cTH_CNT 4)

theorem railFailed_writes (s : State) (i : Nat) : RegWrites supplyFields (setRail s i false) (railFailed s i) :=
  .ite (fun _ => RegWrites.andBump (.event _ (by simp [supplyFields])) fun _ hg => by simp [supplyFields, hg]) (fun _ => .refl _)

theorem railFailed_regs (s : State) (i : Nat) : RegsOnly s (railFailed s i) :=
  .ite (((RegsOnly.setFlag s _ _).trans (.event _ _)).trans (.bump _ _)) (.setFlag s _ _)

/-- What the failure of a rail does beside its record (R438). -/
def railReaction (s u : State) (r : Rail) : State :=
  match r with
  | .vdd => loseVdd u
  | .vdrv => if railRequired s (railNum r) then raise (tollPark (closeClamps u)) 0x400 0x50 clsFatal false 0 else closeClamps u
  | .vdda => if railRequired s (railNum r) then raise (tollPark u) 0x400 0x51 clsFatal false 0 else u
  | .vio => if railRequired s (railNum r) then abandonJobs (breakFlash u) else u
  | _ => u

theorem exec_railBad {s : State} {r : Rail} (h : railGood s (railNum r) = true) :
    exec (.railBad r) s = .next (refreshReady (railReaction s (railFailed s (railNum r)) r)) := by
  refine (if_neg (by simp [h])).trans ?_
  cases r <;> rfl

/-- VDD takes the memories and the fuses with it. -/
def memoriesLost (s : State) : State := { s with mem := [], regs := cellDrop (fun a => decide (fuBase ≤ a ∧ a < fuBase + 0x10000)) s.regs }

/-- Nothing is retained. -/
def contentsLost (s : State) : State := setF (memoriesLost s) TH_PSTATE_RETAINED 0

theorem loseVdd_eq (s : State) : loseVdd s = restIn (contentsLost (collapse s)) (stateWithoutVdd s) := rfl

theorem memoriesLost_toll {W : List Fld} (s : State) : TollFrame W s (memoriesLost s) :=
  .of_drop (p := fun a => decide (fuBase ≤ a ∧ a < fuBase + 0x10000)) rfl fun a ha => by
    have hlow : fuBase + 0x10000 ≤ thBase := by decide
    exact decide_eq_false fun h => absurd (Nat.lt_of_lt_of_le h.2 hlow) (Nat.not_lt.mpr ha.1)

theorem contentsLost_toll (s : State) : TollFrame [TH_PSTATE_RETAINED] s (contentsLost s) :=
  (memoriesLost_toll s).andWrites (.setF _ 0 (by simp)) (List.Subset.refl _)

theorem flag_contentsLost {s : State} (hs : s.RegsWf) : flag (contentsLost s) TH_PSTATE_RETAINED = false :=
  flag_setFlag_same _ TH_PSTATE_RETAINED false ((memoriesLost_toll (W := []) s).wf hs) (by decide) (by decide)

theorem stateWithoutVdd_lt (s : State) : stateWithoutVdd s < 8 := by
  unfold stateWithoutVdd
  split
  · decide
  · split
    · decide
    · decide

/-- VDD is lost: the device rests without contents. -/
theorem loseVdd_rests {s : State} (hs : s.RegsWf) : (loseVdd s).RegsWf ∧ railGood (loseVdd s) 0 = railGood s 0 ∧ (loseVdd s).mem = [] ∧ (loseVdd s).ad.inflight = []
    ∧ (loseVdd s).clock = 0 ∧ (loseVdd s).pw.moving = none ∧ pstate (loseVdd s) = stateWithoutVdd s ∧ flag (loseVdd s) TH_PSTATE_RETAINED = false := by
  obtain ⟨hclock, had, hmoving, -, -, -, -⟩ := collapse_parts s
  have hcollapsed := (collapse_toll s).wf hs
  have hrail : railGood (collapse s) 0 = railGood s 0 := (collapse_toll s).railGood hs 0 (by decide)
  rw [loseVdd_eq]
  generalize collapse s = u at hclock had hmoving hcollapsed hrail ⊢
  have hlost := (contentsLost_toll u).wf hcollapsed
  have hrest := restIn_writes (contentsLost u) (stateWithoutVdd s)
  obtain ⟨hclock', had', hmem', hmoving', -⟩ := restIn_parts (contentsLost u) (stateWithoutVdd s)
  refine ⟨hrest.wf hlost, ?_, hmem', congrArg (·.inflight) (had'.trans had), hclock'.trans hclock, hmoving'.trans hmoving,
    pstate_restIn hlost (stateWithoutVdd_lt s), (hrest.flag hlost (by decide) (by decide)).trans (flag_contentsLost hcollapsed)⟩
  exact ((TollFrame.of_writes hrest).railGood hlost 0 (by decide)).trans
    (((contentsLost_toll u).railGood hcollapsed 0 (by decide)).trans hrail)

theorem refreshReady_keeps {s : State} (hs : s.RegsWf) : (∀ i, railGood (refreshReady s) i = railGood s i) ∧ pstate (refreshReady s) = pstate s
    ∧ flag (refreshReady s) TH_PSTATE_RETAINED = flag s TH_PSTATE_RETAINED ∧ flag (refreshReady s) TH_INT_SUP_BAD = flag s TH_INT_SUP_BAD
    ∧ count (refreshReady s) (cTH_CNT 4) = count s (cTH_CNT 4) := by
  have hready : RegWrites readyFields s (refreshReady s) := .of_nt (refreshReady_writes s)
  exact ⟨fun i => (TollFrame.of_writes hready).railGood hs i (by decide), hready.getF hs (by decide) (by decide), hready.flag hs (by decide) (by decide),
    hready.flag hs (by decide) (by decide), hready.count hs (by decide)⟩

theorem railFailed_vdd {s : State} (hs : s.RegsWf) : stateWithoutVdd (railFailed s 0) = if s.pw.rstLow then 0 else if railRequired s 0 then 1 else 0 := by
  have hfailed : RegWrites (railFld 0 :: supplyFields) s (railFailed s 0) :=
    (RegWrites.setFlag s (f := railFld 0) false (by simp)).trans ((railFailed_writes s 0).mono fun _ hg => by simp [hg])
  have hpstate : pstate (railFailed s 0) = pstate s := hfailed.getF hs (by decide) (by decide)
  have hretained : flag (railFailed s 0) TH_PSTATE_RETAINED = flag s TH_PSTATE_RETAINED := hfailed.flag hs (by decide) (by decide)
  have hrequired : railRequired (railFailed s 0) 0 = railRequired s 0 := by
    change (decide (1 ≤ pstate (railFailed s 0)) || flag (railFailed s 0) TH_PSTATE_RETAINED) = (decide (1 ≤ pstate s) || flag s TH_PSTATE_RETAINED)
    rw [hpstate, hretained]
  obtain ⟨r, h⟩ := railFailed_regs s 0
  have hpin : (railFailed s 0).pw = s.pw := by rw [h]
  rw [stateWithoutVdd, hrequired, hpin]

theorem railBad_vdd {s : State} (hs : s.RegsWf) (hgood : railGood s 0 = true) :
    ∃ t, exec (.railBad .vdd) s = .next t ∧ railGood t 0 = false ∧ t.mem = [] ∧ t.ad.inflight = [] ∧ t.clock = 0 ∧ t.pw.moving = none
      ∧ pstate t = (if s.pw.rstLow then 0 else if railRequired s 0 then 1 else 0) ∧ flag t TH_PSTATE_RETAINED = false := by
  have hset : (setRail s 0 false).RegsWf := regsWf_setF _ _ _ hs
  have hfailed := railFailed_writes s 0
  have hbad : railGood (railFailed s 0) 0 = false :=
    ((TollFrame.of_writes hfailed).railGood hset 0 (by decide)).trans (railGood_setRail hs (by decide) false)
  obtain ⟨hwf, hrail, hmem, had, hclock, hmoving, hpstate, hretained⟩ := loseVdd_rests (hfailed.wf hset)
  obtain ⟨hrail', hpstate', hretained', -, -⟩ := refreshReady_keeps hwf
  obtain ⟨r, hready⟩ := refreshReady_regs (loseVdd (railFailed s 0))
  have hstill : (refreshReady (loseVdd (railFailed s 0))).mem = [] ∧ (refreshReady (loseVdd (railFailed s 0))).ad.inflight = []
      ∧ (refreshReady (loseVdd (railFailed s 0))).clock = 0 ∧ (refreshReady (loseVdd (railFailed s 0))).pw.moving = none := by
    rw [hready]
    exact ⟨hmem, had, hclock, hmoving⟩
  obtain ⟨hmem', had', hclock', hmoving'⟩ := hstill
  exact ⟨_, exec_railBad (r := .vdd) hgood, (hrail' 0).trans (hrail.trans hbad), hmem', had', hclock', hmoving',
    hpstate'.trans (hpstate.trans (railFailed_vdd hs)), hretained'.trans hretained⟩

/-! #### Rails other than VDD -/

/-- The fields of the Tollhouse that the reaction to a failed rail other than VDD writes. -/
def reactionFields : List Fld := counterFields (cTH_CNT 3) ++ hostFields ++ jobFields

theorem tollPark_toll (s : State) : TollFrame reactionFields s (tollPark s) :=
  (TollFrame.of_park (.parkRequest s)).andWrites (V := counterFields (cTH_CNT 3)) (.bump _ _ (List.Subset.refl _)) fun _ hg => by simp [reactionFields, hg]

theorem railReaction_toll (s u : State) {r : Rail} (hr : r ≠ .vdd) : TollFrame reactionFields u (railReaction s u r) := by
  have hparked : ∀ (v : State) (k : Nat), TollFrame reactionFields v (raise (tollPark v) 0x400 k clsFatal false 0) := fun v k =>
    (tollPark_toll v).trans (.of_below (.raise _ _ _ _ _ _))
  have hclosed : TollFrame reactionFields u (closeClamps u) := .of_park (.closeClamps u)
  have hflash : TollFrame reactionFields u (abandonJobs (breakFlash u)) :=
    ((TollFrame.refl u).andWrites (breakFlash_writes u) fun _ hg => by simp [reactionFields, hg]).andWrites (abandonJobs_writes _) fun _ hg => by simp [reactionFields, hg]
  cases r with
  | vdd => exact absurd rfl hr
  | vio => exact .ite hflash (.refl u)
  | vdda => exact .ite (hparked u _) (.refl u)
  | vdrv => exact .ite (hclosed.trans (hparked _ _)) hclosed
  | vpd => exact .refl u
  | vhtr => exact .refl u

theorem railFailed_required {s : State} {i : Nat} (hs : s.RegsWf) (h : railRequired s i = true) :
    flag (railFailed s i) TH_INT_SUP_BAD = true ∧ count (railFailed s i) (cTH_CNT 4) = (count s (cTH_CNT 4) + 1) % 2 ^ 48 := by
  have hset : (setRail s i false).RegsWf := regsWf_setF _ _ _ hs
  have hfailed : railFailed s i = bump (event (setRail s i false) TH_INT_SUP_BAD) (cTH_CNT 4) := if_pos h
  have hbefore : RegWrites [railFld i, TH_INT_SUP_BAD] s (event (setRail s i false) TH_INT_SUP_BAD) := RegWrites.andEvent (.setFlag s (f := railFld i) false (by simp)) (by simp)
  have hapart : ∀ g ∈ [railFld i, TH_INT_SUP_BAD], Apart ⟨cTH_CNT 4, 31, 0⟩ g ∧ Apart ⟨cTH_CNT 4 + 4, 15, 0⟩ g := by
    simp only [List.mem_cons, List.not_mem_nil, or_false, forall_eq_or_imp, forall_eq, Apart, railFld]
    exact ⟨⟨.inl (by decide), .inl (by decide)⟩, by decide⟩
  rw [hfailed]
  exact ⟨flag_event_written hset (RegWrites.bump _ _ (List.Subset.refl _)) (by decide) (by decide),
    count_bumped (n := 1) hs hbefore (.refl (W := []) _) hapart (by simp)⟩

theorem railBad_other {s : State} {r : Rail} (hs : s.RegsWf) (hr : r ≠ .vdd) (hgood : railGood s (railNum r) = true) :
    ∃ t, exec (.railBad r) s = .next t ∧ railGood t (railNum r) = false ∧
      (r = .vpd ∨ r = .vhtr → railRequired s (railNum r) = true → flag t TH_INT_SUP_BAD = true ∧ count t (cTH_CNT 4) = (count s (cTH_CNT 4) + 1) % 2 ^ 48) := by
  have hi := railNum_lt r
  have hset : (setRail s (railNum r) false).RegsWf := regsWf_setF _ _ _ hs
  have hfailed := railFailed_writes s (railNum r)
  have hreaction := railReaction_toll s (railFailed s (railNum r)) hr
  have hwf := hreaction.wf (hfailed.wf hset)
  have hbad : railGood (railFailed s (railNum r)) (railNum r) = false :=
    ((TollFrame.of_writes hfailed).railGood hset _ (by decide)).trans (railGood_setRail hs hi false)
  obtain ⟨hrail, -, -, hsupply, hcount⟩ := refreshReady_keeps hwf
  refine ⟨_, exec_railBad hgood, (hrail _).trans ((hreaction.railGood (hfailed.wf hset) _ (by decide)).trans hbad), fun hpassive hneeded => ?_⟩
  have hquiet : railReaction s (railFailed s (railNum r)) r = railFailed s (railNum r) := by
    rcases hpassive with rfl | rfl
    · rfl
    · rfl
  obtain ⟨hshown, hcounted⟩ := railFailed_required hs hneeded
  rw [hquiet] at hsupply hcount ⊢
  exact ⟨hsupply.trans hshown, hcount.trans hcounted⟩

/-! ### The heater rail's request (R365) -/

/-- The next request, in half millivolts: it rises at once and falls by one. -/
def nextRequest (s : State) : Nat :=
  if s.pw.request ≤ 2 * min 5500 (max 1200 (wantedMv s)) then 2 * min 5500 (max 1200 (wantedMv s)) else max (2 * min 5500 (max 1200 (wantedMv s))) (s.pw.request - 1)

theorem htrTrkUpdate_rest (s : State) : ∃ r f, exec .htrTrkUpdate s = .next { s with regs := r, free := f, pw := { s.pw with request := nextRequest s } } := by
  obtain ⟨f, h⟩ := divFree_free { s with pw := { s.pw with request := nextRequest s } } (nextRequest s : Int) 2
  change ∃ r f, (.next (setF (setF (divFree { s with pw := { s.pw with request := nextRequest s } } (nextRequest s : Int) 2).2 TH_HTRK_STAT_REQ _) TH_HTRK_STAT_DUTY _) : Out) = _
  rw [h]
  exact ⟨_, f, rfl⟩

theorem htrTrkUpdate_requests (s : State) : ∃ t, exec .htrTrkUpdate s = .next t ∧ t = { s with regs := t.regs, pw := t.pw, free := t.free }
    ∧ (s.pw.request ≤ 2 * min 5500 (max 1200 (wantedMv s)) → t.pw.request = 2 * min 5500 (max 1200 (wantedMv s)))
    ∧ (2 * min 5500 (max 1200 (wantedMv s)) < s.pw.request → t.pw.request = max (2 * min 5500 (max 1200 (wantedMv s))) (s.pw.request - 1)) := by
  obtain ⟨r, f, h⟩ := htrTrkUpdate_rest s
  exact ⟨_, h, rfl, fun hrise => if_pos hrise, fun hfall => if_neg (Nat.not_le.mpr hfall)⟩

/-- Settles O49, by what the reaction to a rail leaves in TH_PSTATE. -/
theorem rails : Obligations.Rails := by
  unfold Obligations.Rails
  exact ⟨fun s r hc => railGood_shows r hc.1, fun s r h => if_pos h, fun s hc hgood => railBad_vdd hc.1 hgood,
    fun s r hc hr hgood => railBad_other hc.1 hr hgood, htrTrkUpdate_requests⟩

end Sys2Proof.Machine

namespace Sys2Proof.Machine

/-! ### The junction sensors (R432, R433) -/

/-- A corrected fault enters its source's queue where fewer than three wait. -/
theorem queueOf_raise_corrected {s : State} {source kind addr k : Nat} {b : Bool} (h : QueuesWf s) (hk : source % 2 ^ 12 = k) (hroom : (queueOf s k).length < 3) :
    queueOf (raise s source kind clsCorrected b addr) k = queueOf s k ++ [faultMsg source kind clsCorrected b addr] := by
  have hwaits : ¬ (msgClass (faultMsg source kind clsCorrected b addr) = 1 ∧ 3 ≤ (queueOf s (msgSource (faultMsg source kind clsCorrected b addr))).length) := by
    rw [msgSource_faultMsg, hk]
    exact fun h => absurd hroom (Nat.not_lt.mpr h.2)
  unfold raise report
  rw [if_neg hwaits, msgSource_faultMsg, hk]
  exact queueOf_setQueue_same h _ _

/-- A sensor's reading is valid. -/
def sensorGood (s : State) (i t : Nat) : State := setF (setF s (TH_JS_TEMP i) t) (TH_JS_VALID i) 1

/-- A sensor has failed, before the fault's report. -/
def sensorFailed (s : State) (i : Nat) : State := event (setF s (TH_JS_VALID i) 0) TH_INT_JS_FAIL

theorem sensorRead_good {x : JsReading × Nat} (s : State) (h : x.1.ok = true ∧ -880 ≤ tempOf x.1.temp.toNat) :
    sensorRead s x = sensorGood s x.2 x.1.temp.toNat := if_pos h

theorem sensorRead_bad {x : JsReading × Nat} (s : State) (h : ¬ (x.1.ok = true ∧ -880 ≤ tempOf x.1.temp.toNat)) :
    sensorRead s x = raise (sensorFailed s x.2) 0x401 0x53 clsCorrected false x.2 := if_neg h

/-- The fields that the sensors' readings write. -/
def sensorFields : List Fld := TH_INT_JS_FAIL :: (reportFields ++ (List.range 12).flatMap fun i => [TH_JS_TEMP i, TH_JS_VALID i])

theorem sensor_mem {i : Nat} (hi : i < 12) {f : Fld} (hf : f ∈ [TH_JS_TEMP i, TH_JS_VALID i]) : f ∈ sensorFields := by
  have hsensor : f ∈ (List.range 12).flatMap fun i => [TH_JS_TEMP i, TH_JS_VALID i] := List.mem_flatMap.mpr ⟨i, List.mem_range.mpr hi, hf⟩
  simp [sensorFields, hsensor]

theorem sensorRead_writes (s : State) (x : JsReading × Nat) (hx : x.2 < 12) : RegWrites sensorFields s (sensorRead s x) := by
  have hset : ∀ (u : State) (f : Fld) (v : Nat), f ∈ [TH_JS_TEMP x.2, TH_JS_VALID x.2] → RegWrites sensorFields u (setF u f v) := fun u f v hf => .setF u v (sensor_mem hx hf)
  have hfailed : RegWrites sensorFields s (sensorFailed s x.2) := (hset s (TH_JS_VALID x.2) 0 (by simp)).andEvent (by simp [sensorFields])
  by_cases h : x.1.ok = true ∧ -880 ≤ tempOf x.1.temp.toNat
  · rw [sensorRead_good s h]
    exact (hset s (TH_JS_TEMP x.2) _ (by simp)).trans (hset _ (TH_JS_VALID x.2) 1 (by simp))
  · rw [sensorRead_bad s h]
    exact hfailed.andRaise fun _ hg => by simp [sensorFields, hg]

theorem sensorRead_rest (s : State) (x : JsReading × Nat) : ∃ r f, sensorRead s x = { s with regs := r, fc := f } := by
  by_cases h : x.1.ok = true ∧ -880 ≤ tempOf x.1.temp.toNat
  · rw [sensorRead_good s h]
    exact ⟨_, s.fc, rfl⟩
  · obtain ⟨r, f, hraised⟩ := raise_rest (sensorFailed s x.2) 0x401 0x53 clsCorrected false x.2
    rw [sensorRead_bad s h, hraised]
    exact ⟨r, f, rfl⟩

section Sensor
variable {s : State} {i : Nat} (hs : s.RegsWf)
include hs

theorem sensorGood_shows {t : Nat} (ht : t < 2 ^ 12) : flag (sensorGood s i t) (TH_JS_VALID i) = true ∧ getF (sensorGood s i t) (TH_JS_TEMP i) = t := by
  have htemp := regsWf_setF s (TH_JS_TEMP i) t hs
  have hin : InWord (TH_JS_TEMP i) := ⟨show 0 ≤ 11 by decide, show 11 < 32 by decide⟩
  refine ⟨flag_event_same _ (TH_JS_VALID i) htemp (show 12 < 32 by decide) le_rfl, ?_⟩
  calc getF (sensorGood s i t) (TH_JS_TEMP i)
    _ = getF (setF s (TH_JS_TEMP i) t) (TH_JS_TEMP i) := RegWrites.getF (W := [TH_JS_VALID i]) (.setF _ 1 (by simp)) htemp hin (by simp [Apart, TH_JS_TEMP, TH_JS_VALID])
    _ = t % 2 ^ 12 := getF_setF_same s _ _ hs hin.2
    _ = t := Nat.mod_eq_of_lt ht

theorem sensorFailed_shows (hi : i < 12) : flag (sensorFailed s i) (TH_JS_VALID i) = false ∧ flag (sensorFailed s i) TH_INT_JS_FAIL = true := by
  have hinvalid := regsWf_setF s (TH_JS_VALID i) 0 hs
  have hword : aTH_JS i ≠ aTH_INT := by
    unfold aTH_JS aTH_INT
    omega
  have hin : InWord (TH_JS_VALID i) := ⟨le_rfl, show 12 < 32 by decide⟩
  refine ⟨?_, flag_event_same _ TH_INT_JS_FAIL hinvalid (by decide) le_rfl⟩
  exact flag_written (W := [TH_INT_JS_FAIL]) (b := false) hs (.event _ (by simp)) hin (by simpa [Apart] using .inl hword)

theorem sensorRead_fails (hq : QueuesWf s) (hi : i < 12) {x : JsReading} (hx : x.ok = false) :
    flag (sensorRead s (x, i)) (TH_JS_VALID i) = false ∧ flag (sensorRead s (x, i)) TH_INT_JS_FAIL = true
      ∧ ((queueOf s 0x401).length < 3 → queueOf (sensorRead s (x, i)) 0x401 = queueOf s 0x401 ++ [faultMsg 0x401 0x53 clsCorrected false i]) := by
  have hfailed : (sensorFailed s i).RegsWf := regsWf_setF _ _ _ (regsWf_setF s _ 0 hs)
  obtain ⟨hinvalid, hshown⟩ := sensorFailed_shows hs hi
  have hraised : RegWrites reportFields (sensorFailed s i) (raise (sensorFailed s i) 0x401 0x53 clsCorrected false i) := .raise _ _ _ _ _ _
  have hbelow : ∀ g ∈ reportFields, g.addr < aTH_INT := by decide
  have hreport : ∀ {f : Fld}, aTH_INT ≤ f.addr → ∀ g ∈ reportFields, Apart f g := fun hf g hg => .inl (Nat.ne_of_gt (Nat.lt_of_lt_of_le (hbelow g hg) hf))
  have hword : aTH_INT ≤ (TH_JS_VALID i).addr := by
    change aTH_INT ≤ aTH_JS i
    unfold aTH_INT aTH_JS
    omega
  rw [sensorRead_bad s (by simp [hx])]
  refine ⟨(hraised.flag hfailed ⟨le_rfl, show 12 < 32 by decide⟩ (hreport hword)).trans hinvalid,
    (hraised.flag hfailed (by decide) (hreport le_rfl)).trans hshown, fun hroom => ?_⟩
  exact queueOf_raise_corrected (s := sensorFailed s i) hq rfl hroom

end Sensor

/-- Sensors are read in turn. -/
def sensorsRead (s : State) (l : List (JsReading × Nat)) : State := l.foldl sensorRead s

theorem sensorsRead_writes (s : State) (l : List (JsReading × Nat)) (hl : ∀ x ∈ l, x.2 < 12) : RegWrites sensorFields s (sensorsRead s l) :=
  .foldl l (fun u x hx => sensorRead_writes u x (hl x hx)) s

theorem sensorsRead_rest (s : State) (l : List (JsReading × Nat)) : ∃ r f, sensorsRead s l = { s with regs := r, fc := f } := by
  induction l generalizing s with
  | nil => exact ⟨s.regs, s.fc, rfl⟩
  | cons x l ih =>
    obtain ⟨r, f, h⟩ := sensorRead_rest s x
    obtain ⟨r', f', h'⟩ := ih (sensorRead s x)
    exact ⟨r', f', h'.trans (by rw [h])⟩

theorem zipIdx_index_lt (rs : List JsReading) : ∀ x ∈ (rs.take 12).zipIdx, x.2 < 12 := fun x hx => by
  have hindex := (List.mem_zipIdx hx).2.1
  have hlen : (rs.take 12).length ≤ 12 := List.length_take_le 12 rs
  omega

/-! #### The hottest sensor -/

/-- A sensor is the hottest so far. -/
def hotter (s : State) (best : Option (Nat × Int)) (i : Nat) : Option (Nat × Int) :=
  if flag s (TH_JS_VALID i) = false then best
  else
    let t := tempOf (getF s (TH_JS_TEMP i))
    match best with
    | some (_, b) => if b < t then some (i, t) else best
    | none => some (i, t)

theorem hottest_eq (s : State) : hottest s = (List.range 12).foldl (hotter s) none := rfl

/-- What a best reading stands for: a sensor, with what its register reads. -/
def Reads (s : State) (best : Option (Nat × Int)) : Prop := ∀ i x, best = some (i, x) → i < 12 ∧ x = tempOf (getF s (TH_JS_TEMP i))

theorem reads_hotter {s : State} {best : Option (Nat × Int)} {i : Nat} (hi : i < 12) (h : Reads s best) : Reads s (hotter s best i) := by
  have hnew : Reads s (some (i, tempOf (getF s (TH_JS_TEMP i)))) := fun j x hx => by
    obtain ⟨rfl, rfl⟩ := Prod.mk.inj (Option.some.inj hx)
    exact ⟨hi, rfl⟩
  unfold hotter
  split
  · exact h
  · dsimp only
    split
    · split
      · exact hnew
      · exact h
    · exact hnew

theorem reads_hottest (s : State) : Reads s (hottest s) := by
  have hall : ∀ (l : List Nat) (best : Option (Nat × Int)), (∀ i ∈ l, i < 12) → Reads s best → Reads s (l.foldl (hotter s) best) := by
    intro l
    induction l with
    | nil => exact fun _ _ h => h
    | cons i l ih => exact fun best hl h => ih _ (fun j hj => hl j (List.mem_cons_of_mem _ hj)) (reads_hotter (hl i List.mem_cons_self) h)
  rw [hottest_eq]
  exact hall _ _ (fun i hi => List.mem_range.mp hi) fun i x h => absurd h (by simp)

/-- A register's reading comes back from its two's complement form. -/
theorem unsigned_tempOf {w : Nat} (hw : w < 4096) : unsigned 12 (tempOf w) = w := by
  unfold unsigned tempOf
  split <;> omega

end Sys2Proof.Machine
namespace Sys2Proof.Machine

/-! ### The decision of the shutdown (R440, R441, R444) -/

/-- The decision as it is recorded: the record, the pending shutdown, the event and the counters. -/
def shutdownNoted (s : State) (source entry temp : Nat) : State :=
  life (bump (event (setFlag (fillRecord s source entry temp) TH_STATUS_TSD_PEND true) TH_INT_TSD) (cTH_CNT 0)) 6

/-- The fields of the record. -/
def recordFields : List Fld :=
  [TH_TSD_REC_w0_TEMP, TH_TSD_REC_w0_SOURCE, TH_TSD_REC_w0_ENTRY, TH_TSD_REC_w0_FLASH, TH_TSD_REC_w0_VALID, TH_TSD_REC_w1_UPTIME]

theorem fillRecord_writes (s : State) (source entry temp : Nat) : RegWrites recordFields s (fillRecord s source entry temp) :=
  .andSetF (.andSetF (.andSetFlag (.andSetF (.andSetF (.andSetF (.refl s) (by simp [recordFields])) (by simp [recordFields])) (by simp [recordFields]))
    (by simp [recordFields])) (by simp [recordFields])) (by simp [recordFields])

theorem fillRecord_regs (s : State) (source entry temp : Nat) : RegsOnly s (fillRecord s source entry temp) :=
  (((((RegsOnly.setF s _ _).trans (.setF _ _ _)).trans (.setF _ _ _)).trans (.setFlag _ _ _)).trans (.setF _ _ _)).trans (.setF _ _ _)

theorem fillRecord_shows {s : State} (hs : s.RegsWf) (source entry temp : Nat) : flag (fillRecord s source entry temp) TH_TSD_REC_w0_VALID = true
    ∧ getF (fillRecord s source entry temp) TH_TSD_REC_w0_SOURCE = source % 16 := by
  have htemp := regsWf_setF s TH_TSD_REC_w0_TEMP temp hs
  have hsource := regsWf_setF _ TH_TSD_REC_w0_SOURCE source htemp
  have hentry := regsWf_setF _ TH_TSD_REC_w0_ENTRY entry hsource
  refine ⟨flag_event_written (W := [TH_TSD_REC_w1_UPTIME]) (regsWf_setF _ _ _ hentry) (.setF _ _ (by simp)) (by decide) (by decide), ?_⟩
  have hafter : RegWrites [TH_TSD_REC_w0_ENTRY, TH_TSD_REC_w0_FLASH, TH_TSD_REC_w0_VALID, TH_TSD_REC_w1_UPTIME]
      (setF (setF s TH_TSD_REC_w0_TEMP temp) TH_TSD_REC_w0_SOURCE source) (fillRecord s source entry temp) :=
    .andSetF (.andSetF (.andSetFlag (.setF _ _ (by simp)) (by simp)) (by simp)) (by simp)
  exact (hafter.getF hsource (by decide) (by decide)).trans (getF_setF_same _ _ _ htemp (by decide))

/-- The fields that the record of a decision writes. -/
def shutdownFields : List Fld := TH_STATUS_TSD_PEND :: TH_INT_TSD :: (recordFields ++ counterFields (cTH_CNT 0) ++ lifeFields 6)

theorem shutdownNoted_writes (s : State) (source entry temp : Nat) : RegWrites shutdownFields s (shutdownNoted s source entry temp) :=
  RegWrites.andLife (.andBump (.andEvent (.andSetFlag ((fillRecord_writes s source entry temp).mono fun _ hg => by simp [shutdownFields, hg])
    (by simp [shutdownFields])) (by simp [shutdownFields])) fun _ hg => by simp [shutdownFields, hg]) fun _ hg => by simp [shutdownFields, hg]

theorem shutdownNoted_rest (s : State) (source entry temp : Nat) : ∃ r x, shutdownNoted s source entry temp = { s with regs := r, ty := x } := by
  obtain ⟨r, hshown⟩ := (((fillRecord_regs s source entry temp).trans (.setFlag _ TH_STATUS_TSD_PEND true)).trans (.event _ TH_INT_TSD)).trans (.bump _ (cTH_CNT 0))
  obtain ⟨r', x, h⟩ := life_rest (bump (event (setFlag (fillRecord s source entry temp) TH_STATUS_TSD_PEND true) TH_INT_TSD) (cTH_CNT 0)) 6
  refine ⟨r', x, ?_⟩
  rw [shutdownNoted, h, hshown]

theorem shutdownNoted_shows {s : State} (hs : s.RegsWf) (source entry temp : Nat) : flag (shutdownNoted s source entry temp) TH_STATUS_TSD_PEND = true
    ∧ flag (shutdownNoted s source entry temp) TH_INT_TSD = true ∧ flag (shutdownNoted s source entry temp) TH_TSD_REC_w0_VALID = true
    ∧ getF (shutdownNoted s source entry temp) TH_TSD_REC_w0_SOURCE = source % 16 ∧ pstate (shutdownNoted s source entry temp) = pstate s := by
  have hfilled := (fillRecord_writes s source entry temp).wf hs
  obtain ⟨hvalid, hsource⟩ := fillRecord_shows hs source entry temp
  have hevent : RegWrites (counterFields (cTH_CNT 0) ++ lifeFields 6) (event (setFlag (fillRecord s source entry temp) TH_STATUS_TSD_PEND true) TH_INT_TSD)
      (shutdownNoted s source entry temp) := RegWrites.andLife (.bump _ _ fun _ hg => by simp [hg]) fun _ hg => by simp [hg]
  have hpend : RegWrites (TH_INT_TSD :: (counterFields (cTH_CNT 0) ++ lifeFields 6)) (setFlag (fillRecord s source entry temp) TH_STATUS_TSD_PEND true)
      (shutdownNoted s source entry temp) := (RegWrites.event _ (by simp)).trans (hevent.mono fun _ hg => List.mem_cons_of_mem _ hg)
  have hafter : RegWrites (TH_STATUS_TSD_PEND :: TH_INT_TSD :: (counterFields (cTH_CNT 0) ++ lifeFields 6)) (fillRecord s source entry temp)
      (shutdownNoted s source entry temp) := (RegWrites.setFlag _ _ (by simp)).trans (hpend.mono fun _ hg => List.mem_cons_of_mem _ hg)
  exact ⟨flag_written hfilled hpend (by decide) (by decide), flag_event_written (regsWf_setF _ _ _ hfilled) hevent (by decide) (by decide),
    (hafter.flag hfilled (by decide) (by decide)).trans hvalid, (hafter.getF hfilled (by decide) (by decide)).trans hsource,
    (shutdownNoted_writes s source entry temp).getF hs (by decide) (by decide)⟩

/-- What the decision discards: the requests that are due later (R441). -/
def requestsDropped (s u : State) : State := discardRequests (tollPark u) (fun r => decide (netNs s < r.deliver))

/-- No request is routed, and no transition is in progress. -/
def routesDropped (s : State) : State := { s with dr := { s.dr with routed := [], withheld := none }, pw := { s.pw with moving := none } }

/-- The flash work ends, but for a page program of the Tollhouse (R441). -/
def flashStopped (s : State) : State := stopFlash (abandonHost s)

theorem decideTsd_above {s : State} (hstate : 1 ≤ pstate s) (hpend : flag s TH_STATUS_TSD_PEND = false) (source entry temp : Nat) : decideTsd s source entry temp =
    refreshReady (armIn (flashStopped (routesDropped (requestsDropped s (shutdownNoted s source entry temp)))) .tsd 3000000) := by
  unfold decideTsd
  rw [if_neg (by simp [hpend]), if_neg (by omega)]
  rfl

theorem decideTsd_sleep {s : State} (hstate : pstate s = 0) (hlatch : flag s TH_STATUS_TSD_LATCH = false) (hpend : flag s TH_STATUS_TSD_PEND = false)
    (source entry temp : Nat) : decideTsd s source entry temp = setFlag (fillRecord s source entry temp) TH_STATUS_TSD_LATCH true := by
  exact (if_neg (by simp [hpend])).trans ((if_pos hstate).trans (if_neg (by simp [hlatch])))

/-- The Tollhouse's running job ends at the decision. -/
def jobStopped (s : State) : State := showWriting (match s.th.job with | some j => dropJob s j | none => s)

theorem jobStopped_writes (s : State) : RegWrites jobFields s (jobStopped s) := by
  unfold jobStopped
  refine RegWrites.trans ?_ (showWriting_writes _)
  split
  · exact dropJob_writes s _
  · exact .refl s

theorem jobStopped_rest (s : State) : ∃ r b j, jobStopped s = { s with regs := r, bt := b, th := { s.th with job := j } } := by
  unfold jobStopped showWriting
  split
  next j _ =>
    obtain ⟨r, b, h⟩ := dropJob_rest s j
    rw [h]
    exact ⟨_, b, none, rfl⟩
  · exact ⟨_, s.bt, s.th.job, rfl⟩

/-- The Tollhouse's erase is off the flash. -/
def eraseBroken (s : State) (a n : Nat) : State := flashUndefined { s with th := { s.th with op := none } } a n

theorem stopFlash_cases (s : State) : stopFlash s = s ∨ stopFlash s = jobStopped s ∨ ∃ a n, stopFlash s = jobStopped (eraseBroken s a n) := by
  unfold stopFlash
  split
  · exact .inl rfl
  next a n _ => exact .inr (.inr ⟨a, n, rfl⟩)
  · exact .inr (.inl rfl)

theorem eraseBroken_rest (s : State) (a n : Nat) : ∃ f l, eraseBroken s a n = { s with free := f, flash := l, th := { s.th with op := none } } := by
  obtain ⟨f, l, h⟩ := flashUndefined_rest { s with th := { s.th with op := none } } a n
  exact ⟨f, l, h⟩

theorem stopFlash_writes (s : State) : RegWrites jobFields s (stopFlash s) := by
  rcases stopFlash_cases s with h | h | ⟨a, n, h⟩
  · rw [h]
    exact .refl s
  · rw [h]
    exact jobStopped_writes s
  · obtain ⟨f, l, hbroken⟩ := eraseBroken_rest s a n
    have hregs : (eraseBroken s a n).regs = s.regs := by rw [hbroken]
    rw [h]
    exact (RegWrites.of_regs hregs).trans (jobStopped_writes _)

theorem stopFlash_rest (s : State) : ∃ r f l b j o, stopFlash s = { s with regs := r, free := f, flash := l, bt := b, th := { s.th with job := j, op := o } } := by
  rcases stopFlash_cases s with h | h | ⟨a, n, h⟩
  · exact ⟨s.regs, s.free, s.flash, s.bt, s.th.job, s.th.op, h⟩
  · obtain ⟨r, b, j, hstopped⟩ := jobStopped_rest s
    exact ⟨r, s.free, s.flash, b, j, s.th.op, h.trans hstopped⟩
  · obtain ⟨f, l, hbroken⟩ := eraseBroken_rest s a n
    obtain ⟨r, b, j, hstopped⟩ := jobStopped_rest (eraseBroken s a n)
    refine ⟨r, f, l, b, j, none, h.trans (hstopped.trans ?_)⟩
    rw [hbroken]

theorem flashStopped_writes (s : State) : RegWrites (hostFields ++ jobFields) s (flashStopped s) :=
  ((abandonHost_writes s).mono fun _ hg => by simp [hg]).trans ((stopFlash_writes _).mono fun _ hg => by simp [hg])

theorem flashStopped_parts (s : State) : (flashStopped s).ad = s.ad ∧ (flashStopped s).pw = s.pw ∧ (flashStopped s).dr = s.dr ∧ (flashStopped s).elapsed = s.elapsed := by
  obtain ⟨r, f, l, b, hhost⟩ := abandonHost_rest s
  obtain ⟨r', f', l', b', j, o, h⟩ := stopFlash_rest (abandonHost s)
  rw [flashStopped, h, hhost]
  exact ⟨rfl, rfl, rfl, rfl⟩

/-! #### What stays in flight -/

theorem creditsMoved_ad (l : List Request) (s : State) : (l.foldl (fun s r => creditMoved (bump s (cTY_SLOT 1)) r.lane) s).ad = s.ad := by
  induction l generalizing s with
  | nil => rfl
  | cons r l ih => exact (ih _).trans (creditMoved_ad _ _)

theorem discardRequests_inflight (s : State) (p : Request → Bool) : (discardRequests s p).ad.inflight = s.ad.inflight.filter (fun r => ! p r) :=
  congrArg (·.inflight) (creditsMoved_ad _ _)

theorem tollPark_ad (s : State) : (tollPark s).ad = s.ad := (MoveFrame.parkRequest s).ad

theorem tollPark_elapsed (s : State) : (tollPark s).elapsed = s.elapsed := (ParkFrame.parkRequest s).elapsed

theorem requestsDropped_toll (s u : State) : TollFrame reactionFields u (requestsDropped s u) := (tollPark_toll u).andPark (.discardRequests _ _)

theorem requestsDropped_elapsed (s u : State) : (requestsDropped s u).elapsed = u.elapsed := (ParkFrame.discardRequests _ _).elapsed.trans (tollPark_elapsed u)

theorem requestsDropped_inflight (s u : State) : ∀ q ∈ (requestsDropped s u).ad.inflight, q ∈ u.ad.inflight ∧ q.deliver ≤ netNs s := by
  intro q hq
  have hfiltered : (requestsDropped s u).ad.inflight = (tollPark u).ad.inflight.filter (fun r => ! decide (netNs s < r.deliver)) := discardRequests_inflight _ _
  rw [hfiltered, tollPark_ad] at hq
  obtain ⟨hmem, hdue⟩ := List.mem_filter.mp hq
  exact ⟨hmem, by simpa using hdue⟩

/-! #### The readiness after the decision -/

theorem notReady_showState {s : State} (hs : s.RegsWf) (hpend : flag s TH_STATUS_TSD_PEND = true) : flag (showState s) AD_STATUS_NOT_READY = true := by
  have hshown : RegWrites [AD_STATUS_STATE] (setFlag s AD_STATUS_NOT_READY (decide (pstate s ≠ 4) || flag s TH_STATUS_TSD_PEND)) (showState s) := .setF _ _ (by simp)
  rw [flag_written hs hshown (by decide) (by decide), hpend, Bool.or_true]

theorem notReady_refreshReady {s : State} (hs : s.RegsWf) (hpend : flag s TH_STATUS_TSD_PEND = true) : flag (refreshReady s) AD_STATUS_NOT_READY = true := by
  have hmade : ∀ b t, flag (showState (setReady (setFlag s TH_PSTATE_TRANSIT b) t)) AD_STATUS_NOT_READY = true := fun b t => by
    have hready : RegWrites readyFields s (setReady (setFlag s TH_PSTATE_TRANSIT b) t) :=
      .of_nt ((NtWrites.setFlag s b (by decide)).trans (setReady_writes _ t))
    exact notReady_showState (hready.wf hs) ((hready.flag hs (by decide) (by decide)).trans hpend)
  unfold refreshReady
  split
  · split
    · exact notReady_showState hs hpend
    · exact hmade _ _
  · exact hmade _ _

/-- What a decision above Sleep leaves. -/
structure Decided (s t : State) (source : Nat) : Prop where
  pend : flag t TH_STATUS_TSD_PEND = true
  event : flag t TH_INT_TSD = true
  recorded : flag t TH_TSD_REC_w0_VALID = true
  source : getF t TH_TSD_REC_w0_SOURCE = source % 16
  state : pstate t = pstate s
  notReady : flag t AD_STATUS_NOT_READY = true
  inflight : ∀ q ∈ t.ad.inflight, q ∈ s.ad.inflight ∧ q.deliver ≤ netNs s
  moving : t.pw.moving = none
  routed : t.dr.routed = []
  clamps : timerAt .tsd t.timers = some (s.elapsed + 12000000)

/-- The fields of the Tollhouse that what follows the record writes. -/
def followFields : List Fld := reactionFields ++ readyFields

theorem flashWork_toll (s u : State) : TollFrame followFields u (flashStopped (routesDropped (requestsDropped s u))) :=
  (((requestsDropped_toll s u).mono fun _ hg => by simp [followFields, hg]).andRegs (u := routesDropped (requestsDropped s u)) rfl).andWrites (flashStopped_writes _) fun _ hg => by
    rcases List.mem_append.mp hg with hg | hg
    · simp [followFields, reactionFields, hg]
    · simp [followFields, reactionFields, hg]

theorem flashWork_parts (s u : State) : (flashStopped (routesDropped (requestsDropped s u))).ad = (requestsDropped s u).ad
    ∧ (flashStopped (routesDropped (requestsDropped s u))).pw.moving = none ∧ (flashStopped (routesDropped (requestsDropped s u))).dr.routed = []
    ∧ (flashStopped (routesDropped (requestsDropped s u))).elapsed = u.elapsed := by
  have helapsed := requestsDropped_elapsed s u
  generalize requestsDropped s u = v at helapsed ⊢
  obtain ⟨had, hpw, hdr, htime⟩ := flashStopped_parts (routesDropped v)
  exact ⟨had, congrArg (·.moving) hpw, congrArg (·.routed) hdr, htime.trans helapsed⟩

theorem decideTsd_decides {s : State} (hs : s.RegsWf) (hstate : 1 ≤ pstate s) (hpend : flag s TH_STATUS_TSD_PEND = false) (source entry temp : Nat) :
    Decided s (decideTsd s source entry temp) source := by
  obtain ⟨hpend', hevent, hvalid, hsource, hpstate⟩ := shutdownNoted_shows hs source entry temp
  have hnoted := (shutdownNoted_writes s source entry temp).wf hs
  have hinflight : (shutdownNoted s source entry temp).ad = s.ad ∧ (shutdownNoted s source entry temp).elapsed = s.elapsed := by
    obtain ⟨r, x, h⟩ := shutdownNoted_rest s source entry temp
    rw [h]
    exact ⟨rfl, rfl⟩
  rw [decideTsd_above hstate hpend]
  generalize shutdownNoted s source entry temp = u at hpend' hevent hvalid hsource hpstate hnoted hinflight ⊢
  have hdropped := requestsDropped_inflight s u
  have htoll := flashWork_toll s u
  obtain ⟨had, hmoving, hrouted, helapsed⟩ := flashWork_parts s u
  have hwf := htoll.wf hnoted
  rw [hinflight.1] at hdropped
  rw [← had] at hdropped
  generalize flashStopped (routesDropped (requestsDropped s u)) = v at hdropped htoll hmoving hrouted helapsed hwf ⊢
  have harmed : (armIn v .tsd 3000000).RegsWf := hwf
  have hready : RegWrites readyFields (armIn v .tsd 3000000) (refreshReady (armIn v .tsd 3000000)) := .of_nt (refreshReady_writes _)
  have hfollows : TollFrame followFields u (refreshReady (armIn v .tsd 3000000)) :=
    (htoll.andRegs (u := armIn v .tsd 3000000) rfl).andWrites hready fun _ hg => by simp [followFields, hg]
  have hpendArmed : flag (armIn v .tsd 3000000) TH_STATUS_TSD_PEND = true := (htoll.flag hnoted (by decide) (by decide) (by decide)).trans hpend'
  obtain ⟨r, hshown⟩ := refreshReady_regs (armIn v .tsd 3000000)
  refine ⟨(hfollows.flag hnoted (by decide) (by decide) (by decide)).trans hpend', (hfollows.flag hnoted (by decide) (by decide) (by decide)).trans hevent,
    (hfollows.flag hnoted (by decide) (by decide) (by decide)).trans hvalid, (hfollows.keeps hnoted _ (by decide) (by decide) (by decide)).trans hsource,
    (hfollows.keeps hnoted _ (by decide) (by decide) (by decide)).trans hpstate, notReady_refreshReady harmed hpendArmed, ?_, ?_, ?_, ?_⟩
  all_goals rw [hshown]
  · exact hdropped
  · exact hmoving
  · exact hrouted
  · refine (timerAt_armAt_same v .tsd _).trans ?_
    rw [helapsed, hinflight.2]

end Sys2Proof.Machine
namespace Sys2Proof.Machine

/-! ### The clamps close, and the device passes to Sleep (R441) -/

/-- The second state's registers are the first's but for those of span `n`. -/
structure OneSpan (n : Nat) (s t : State) : Prop where
  wf : s.RegsWf → t.RegsWf
  word : ∀ a, a < spBase n ∨ spBase (n + 1) ≤ a → rd t a = rd s a

namespace OneSpan
variable {n : Nat} {s t u : State}

theorem of_regs (h : t.regs = s.regs) : OneSpan n s t := ⟨regsWf_of_regs h, fun a _ => rd_of_regs h a⟩

theorem trans (h : OneSpan n s t) (k : OneSpan n t u) : OneSpan n s u := ⟨k.wf ∘ h.wf, fun a ha => (k.word a ha).trans (h.word a ha)⟩

theorem foldl {α : Type} {f : State → α → State} (l : List α) (hf : ∀ s, ∀ a ∈ l, OneSpan n s (f s a)) (s : State) : OneSpan n s (l.foldl f s) := by
  induction l generalizing s with
  | nil => exact of_regs rfl
  | cons a l ih => exact (hf s a List.mem_cons_self).trans (ih (fun s b hb => hf s b (List.mem_cons_of_mem _ hb)) _)

theorem setPier (s : State) (g : Nat) (p : Pier) : OneSpan n s (setPier s g p) := of_regs rfl

theorem disarm (s : State) (x : Timer) : OneSpan n s (disarm s x) := of_regs rfl

theorem wr (s : State) {a : Nat} (v : Word) (h : spBase n ≤ a ∧ a < spBase (n + 1)) : OneSpan n s (wr s a v) :=
  ⟨regsWf_wr s a v, fun b hb => rd_wr_other s a b v fun he => by
    subst he
    rcases hb with hb | hb
    · exact absurd h.1 (Nat.not_le.mpr hb)
    · exact absurd h.2 (Nat.not_lt.mpr hb)⟩

theorem setF (s : State) {f : Fld} (v : Nat) (h : spBase n ≤ f.addr ∧ f.addr < spBase (n + 1)) : OneSpan n s (setF s f v) := wr s _ h

theorem clampPier (s : State) {l : Nat} (hl : l < 512) : OneSpan n s (clampPier s n l) := by
  have hout : spBase n ≤ aPR_OUT n l ∧ aPR_OUT n l < spBase (n + 1) := by
    unfold aPR_OUT spBase
    omega
  have hstaged : ∀ d, spBase n ≤ stagedWord n l d ∧ stagedWord n l d < spBase (n + 1) := fun d => by
    unfold stagedWord aPR_STAGED_A aPR_STAGED_B spBase
    split <;> omega
  exact (wr s _ hout).trans (((setF _ 0 (hstaged 0)).trans (setF _ 0 (hstaged 1))).trans (setPier _ _ _))

theorem closeClamp (s : State) (n : Nat) : OneSpan n s (closeClamp s n) := by
  have hstatus : spBase n ≤ aLZ_STATUS n ∧ aLZ_STATUS n < spBase (n + 1) := by
    unfold aLZ_STATUS spBase
    omega
  have hpiers : OneSpan n s (clampPiers s n) := foldl _ (fun s _ hl => clampPier s (List.mem_range.mp hl)) s
  have hshown : ∀ u, OneSpan n u (clampShown u n) := fun u => ((setF u 1 hstatus).trans (setF _ 0 hstatus)).trans (setF _ 0 hstatus)
  rw [closeClamp_eq]
  exact (hpiers.trans (hshown _)).trans (disarm _ _)

theorem clamped (h : OneSpan n s t) {k : Nat} (hk : k ≠ n) : clamped t k = Machine.clamped s k := by
  refine flag_of_rd (f := LZ_STATUS_CLAMPED k) (h.word _ ?_)
  change aLZ_STATUS k < spBase n ∨ spBase (n + 1) ≤ aLZ_STATUS k
  unfold aLZ_STATUS spBase
  omega

end OneSpan

/-- Closed clamps stay closed while others close. -/
theorem clamped_closed {s : State} (hs : s.RegsWf) (l : List Nat) {n : Nat} (h : n ∈ l ∨ clamped s n = true) : clamped (l.foldl closeClamp s) n = true := by
  induction l generalizing s with
  | nil =>
    rcases h with h | h
    · exact absurd h (List.not_mem_nil)
    · exact h
  | cons k l ih =>
    have hclosed := OneSpan.closeClamp s k
    rw [List.foldl_cons]
    refine ih (hclosed.wf hs) ?_
    by_cases hk : n = k
    · subst hk
      exact .inr (clamped_closeClamp n hs)
    · rcases h with h | h
      · exact .inl ((List.mem_cons.mp h).resolve_left hk)
      · exact .inr ((hclosed.clamped hk).trans h)

theorem clamped_closeClamps {s : State} (hs : s.RegsWf) {n : Nat} (hn : n < 36) : clamped (closeClamps s) n = true :=
  clamped_closed hs (List.range 36) (.inl (List.mem_range.mpr hn))

/-- Writes from the blocks' windows on leave the clamps. -/
theorem RegWrites.clamped {W : List Fld} {s t : State} (h : RegWrites W s t) (hs : s.RegsWf) (hW : ∀ g ∈ W, tgBase ≤ g.addr) {n : Nat} (hn : n < 36) :
    clamped t n = Machine.clamped s n := by
  have hstatus : aLZ_STATUS n < tgBase := by
    unfold aLZ_STATUS spBase tgBase
    omega
  exact h.flag hs (show 6 ≤ 6 ∧ 6 < 32 by decide) fun g hg => .inl (Nat.ne_of_lt (Nat.lt_of_lt_of_le hstatus (hW g hg)))

/-! #### The islands are shut -/

/-- The fields of a port's link. -/
def linkFields (p : Nat) : List Fld :=
  [CP_INT_LINK_CHG p, CP_STATUS_BLOCK_LOCK p, CP_STATUS_FEC_LOCK p, CP_STATUS_LOCAL_FAULT p, CP_STATUS_REMOTE_FAULT p, CP_STATUS_LINK p]

theorem setLink_writes (s : State) (p : Nat) (l : LinkStatus) : RegWrites (linkFields p) s (setLink s p l) := by
  have hchanged : RegWrites (linkFields p) s (if linkOf s p l = flag s (CP_STATUS_LINK p) then s else event s (CP_INT_LINK_CHG p)) :=
    .ite (fun _ => .refl s) (fun _ => .event s (by simp [linkFields]))
  exact .andSetFlag (.andSetFlag (.andSetFlag (.andSetFlag (.andSetFlag hchanged (by simp [linkFields])) (by simp [linkFields])) (by simp [linkFields]))
    (by simp [linkFields])) (by simp [linkFields])

/-- The fields of all links. -/
def allLinkFields : List Fld := (List.range 6).flatMap linkFields

theorem linksDown_writes (s : State) : RegWrites allLinkFields s ((List.range 6).foldl (fun s p => setLink s p ⟨false, false, false, false⟩) s) :=
  .foldl _ (fun u p hp => (setLink_writes u p _).mono fun _ hg => List.mem_flatMap.mpr ⟨p, hp, hg⟩) s

/-- What precedes the closing of the clamps as the islands are isolated. -/
def islandsIsolated (s : State) : State := dropRuns ((List.range 91).foldl (fun s j => setF s (BM_JSTAT_UP j) 0) (stopPlls s))

theorem readyShutDown_eq (s : State) : readyShutDown s = (List.range 6).foldl (fun s p => setLink s p ⟨false, false, false, false⟩) (closeClamps (islandsIsolated s)) := rfl

theorem jointsDown_park (s : State) : ParkFrame s ((List.range 91).foldl (fun s j => setF s (BM_JSTAT_UP j) 0) s) :=
  .foldl _ (fun u j hj => .setF u 0 (by
    have hlt := List.mem_range.mp hj
    change aBM_JSTAT j < thBase
    unfold aBM_JSTAT bmBase thBase
    omega)) s

theorem islandsIsolated_toll (s : State) : TollFrame lockFields s (islandsIsolated s) :=
  ((TollFrame.of_writes (stopPlls_kept s).1).andPark (jointsDown_park _)).andPark (.dropRuns _)

/-- The Tollhouse's fields that the leaving of Ready writes. -/
def leaveFields : List Fld := hostFields ++ jobFields ++ lockFields ++ allLinkFields

theorem retainedDropped_regs (s : State) : (retainedDropped s).regs = s.regs := rfl

theorem clamped_retainedDropped (s : State) (n : Nat) : clamped (retainedDropped s) n = clamped s n := rfl

theorem leaveReady_toll (s : State) : TollFrame leaveFields s (leaveReady s) := by
  have hjobs : TollFrame leaveFields s (abandonJobs (abandonHost s)) :=
    ((TollFrame.refl s).andWrites (abandonHost_writes s) fun _ hg => by simp [leaveFields, hg]).andWrites (abandonJobs_writes _) fun _ hg => by simp [leaveFields, hg]
  have hisolated := (hjobs.trans ((islandsIsolated_toll _).mono fun _ hg => by simp [leaveFields, hg])).andPark (.closeClamps _)
  have hdown := hisolated.andWrites (linksDown_writes _) fun _ hg => by simp [leaveFields, hg]
  rw [leaveReady_eq, readyShutDown_eq]
  exact hdown.andRegs (retainedDropped_regs _)

theorem clamped_leaveReady {s : State} (hs : s.RegsWf) {n : Nat} (hn : n < 36) : clamped (leaveReady s) n = true := by
  have hjobs : (abandonJobs (abandonHost s)).RegsWf := (abandonJobs_writes _).wf ((abandonHost_writes s).wf hs)
  have hisolated := (islandsIsolated_toll (abandonJobs (abandonHost s))).wf hjobs
  have hclosed := (ParkFrame.closeClamps (islandsIsolated (abandonJobs (abandonHost s)))).below.wf hisolated
  have hdown := (linksDown_writes (closeClamps (islandsIsolated (abandonJobs (abandonHost s))))).clamped hclosed (by decide) hn
  rw [leaveReady_eq, readyShutDown_eq, clamped_retainedDropped]
  exact hdown.trans (clamped_closeClamps hisolated hn)

/-- The islands are isolated with their clamps closed, whichever state the device is in. -/
def islandsClosed (s : State) : State := if 2 ≤ pstate s then leaveReady s else closeClamps s

/-- A Fault ends. -/
def faultEnded (s : State) : State := disarm (setFlag (setFlag s FC_STATUS_FATAL false) FC_STATUS_QUIET false) .quiet

theorem faultEnded_writes (s : State) : RegWrites [FC_STATUS_FATAL, FC_STATUS_QUIET] s (faultEnded s) :=
  (RegWrites.andSetFlag (.setFlag s _ (by simp)) (by simp)).regs_eq rfl

theorem islandsClosed_toll (s : State) : TollFrame leaveFields s (islandsClosed s) := .ite (leaveReady_toll s) (.of_park (.closeClamps s))

theorem clamped_islandsClosed {s : State} (hs : s.RegsWf) {n : Nat} (hn : n < 36) : clamped (islandsClosed s) n = true := by
  unfold islandsClosed
  split
  · exact clamped_leaveReady hs hn
  · exact clamped_closeClamps hs hn

/-- The islands are shut, with no transition and no PLL's attempt. -/
def islandsShut (s : State) : State := { shutIslands s with pw := { (shutIslands s).pw with moving := none, tries := [] } }

theorem islandsShut_regs (s : State) : (islandsShut s).regs = (shutIslands s).regs := rfl

/-- What stands once the islands are shut: the registers of the Tollhouse's state, and closed clamps. -/
theorem islandsShut_shows {s : State} (hs : s.RegsWf) : (islandsShut s).RegsWf ∧ pstate (islandsShut s) = pstate s ∧ (islandsShut s).pw.moving = none
    ∧ (∀ n < 36, clamped (islandsShut s) n = true) := by
  have hclosed := islandsClosed_toll s
  have hended := faultEnded_writes (islandsClosed s)
  have hwf := hclosed.wf hs
  have hshut : TollFrame (leaveFields ++ [FC_STATUS_FATAL, FC_STATUS_QUIET]) s (shutIslands s) :=
    (hclosed.mono fun _ hg => by simp [hg]).andWrites hended fun _ hg => List.mem_append_right _ hg
  refine ⟨regsWf_of_regs (islandsShut_regs s) (hshut.wf hs), ?_, rfl, fun n hn => ?_⟩
  · exact (getF_of_rd (rd_of_regs (islandsShut_regs s) _)).trans (hshut.keeps hs TH_PSTATE_STATE (by decide) (by decide) (by decide))
  · exact (flag_of_rd (rd_of_regs (islandsShut_regs s) _)).trans ((hended.clamped hwf (by decide) hn).trans (clamped_islandsClosed hs hn))

/-! #### Sleep without retention -/

/-- The device has passed to Standby, and TARGET is Sleep. -/
def standbyReached (s : State) : State := setF (if 2 ≤ pstate s then endMove s 1 else s) TH_PCTRL_TARGET 0

/-- The fields that the way to Standby writes. -/
def standbyFields : List Fld := TH_PCTRL_TARGET :: endFields 1

theorem standbyReached_writes (s : State) : RegWrites standbyFields s (standbyReached s) :=
  RegWrites.andSetF (.ite (fun _ => (endMove_writes s 1).mono fun _ hg => by simp [standbyFields, hg]) (fun _ => .refl s)) (by simp [standbyFields])

theorem standbyReached_shows {s : State} (hs : s.RegsWf) (hstate : pstate s ≠ 0) (hmoving : s.pw.moving = none) : pstate (standbyReached s) = 1
    ∧ getF (standbyReached s) TH_PCTRL_TARGET = 0 ∧ (standbyReached s).pw.moving = none := by
  have hpassed : ∀ u : State, u.RegsWf → pstate u = 1 → u.pw.moving = none → pstate (setF u TH_PCTRL_TARGET 0) = 1 ∧ getF (setF u TH_PCTRL_TARGET 0) TH_PCTRL_TARGET = 0
      ∧ (setF u TH_PCTRL_TARGET 0).pw.moving = none := fun u hu hp hm =>
    ⟨(RegWrites.getF (W := [TH_PCTRL_TARGET]) (.setF u 0 (by simp)) hu (by decide) (by decide)).trans hp, getF_setF_same u _ 0 hu (by decide), hm⟩
  unfold standbyReached
  split
  · obtain ⟨hp, hm, -⟩ := arrived_endMove hs (show 1 < 8 by decide)
    exact hpassed _ ((endMove_writes s 1).wf hs) hp hm
  · exact hpassed s hs (by omega) hmoving

/-- Sleep, entered without retention. -/
def sleptEmpty (s : State) : State := sleepNow (enterSleep s false)

/-- The fields that Sleep's entry writes. -/
def sleptFields : List Fld := TH_PSTATE_RETAINED :: (endFields 0 ++ sleepFields)

theorem enterSleep_writes (s : State) (b : Bool) : RegWrites [TH_PSTATE_RETAINED] s (enterSleep s b) := (RegWrites.setFlag s b (by simp)).regs_eq rfl

theorem sleepNow_writes (s : State) : RegWrites (endFields 0 ++ sleepFields) s (sleepNow s) :=
  ((endMove_writes s 0).mono fun _ hg => by simp [hg]).trans ((sleepClock_writes _).mono fun _ hg => by simp [hg])

theorem sleptEmpty_writes (s : State) : RegWrites sleptFields s (sleptEmpty s) :=
  ((enterSleep_writes s false).mono fun _ hg => by simp [sleptFields, List.mem_singleton.mp hg]).trans ((sleepNow_writes _).mono fun _ hg => List.mem_cons_of_mem _ hg)

theorem sleepNow_mem (s : State) : (sleepNow s).mem = s.mem := by
  obtain ⟨n, l, hended⟩ := endMove_rest s 0
  obtain ⟨e, c, b, hclock⟩ := sleepClock_rest (endMove s 0)
  rw [sleepNow, hclock, hended]

theorem sleptEmpty_shows {s : State} (hs : s.RegsWf) : pstate (sleptEmpty s) = 0 ∧ (sleptEmpty s).pw.moving = none ∧ (sleptEmpty s).mem = []
    ∧ flag (sleptEmpty s) TH_PSTATE_RETAINED = false ∧ flag (sleptEmpty s) TH_STATUS_CLK = false
    ∧ getF (sleptEmpty s) TH_PCTRL_TARGET = getF s TH_PCTRL_TARGET := by
  have hentered := (enterSleep_writes s false).wf hs
  have hended := (endMove_writes (enterSleep s false) 0).wf hentered
  obtain ⟨hpstate, hmoving, -⟩ := arrived_sleepNow hentered
  have hretained : flag (enterSleep s false) TH_PSTATE_RETAINED = false := flag_setFlag_same s _ false hs (by decide) le_rfl
  exact ⟨hpstate, hmoving, sleepNow_mem _, ((sleepNow_writes _).flag hentered (by decide) (by decide)).trans hretained, (sleepClock_flags hended).1,
    (sleptEmpty_writes s).getF hs (by decide) (by decide)⟩

/-- The shutdown is over: the latch stands, and nothing is pending. -/
def latched (s : State) : State := setFlag (setFlag s TH_STATUS_TSD_LATCH true) TH_STATUS_TSD_PEND false

/-- The way to Sleep once the islands are shut. -/
def passedToSleep (s : State) : State := if pstate (standbyReached s) = 1 then sleptEmpty (standbyReached s) else standbyReached s

theorem exec_tsdClamp {s : State} (h : flag s TH_STATUS_TSD_PEND = true ∧ due s .tsd = true ∧ s.th.op = none) :
    exec .tsdClamp s = .next (refreshReady (latched (passedToSleep (islandsShut (disarm s .tsd))))) := if_pos h

theorem exec_tsdClamp_waits {s : State} (h : due s .tsd = false ∨ s.th.op.isSome = true) : exec .tsdClamp s = .next s := by
  refine if_neg ?_
  rintro ⟨-, hdue, hop⟩
  rcases h with h | h
  · exact absurd hdue (by simp [h])
  · exact absurd h (by simp [hop])

/-- The fields that the end of the shutdown writes. -/
def latchedFields : List Fld := [TH_STATUS_TSD_LATCH, TH_STATUS_TSD_PEND] ++ readyFields

theorem latched_writes (s : State) : RegWrites latchedFields s (refreshReady (latched s)) := by
  have hset : RegWrites latchedFields s (latched s) := .andSetFlag (.setFlag s _ (by simp [latchedFields])) (by simp [latchedFields])
  exact hset.trans ((RegWrites.of_nt (refreshReady_writes _)).mono fun _ hg => by simp [latchedFields, hg])

theorem latched_shows {s : State} (hs : s.RegsWf) :
    flag (refreshReady (latched s)) TH_STATUS_TSD_PEND = false ∧ flag (refreshReady (latched s)) TH_STATUS_TSD_LATCH = true := by
  have hlatch := regsWf_setF s TH_STATUS_TSD_LATCH 1 hs
  have hready : RegWrites readyFields (latched s) (refreshReady (latched s)) := .of_nt (refreshReady_writes _)
  have hafter : RegWrites (TH_STATUS_TSD_PEND :: readyFields) (event s TH_STATUS_TSD_LATCH) (refreshReady (latched s)) :=
    (RegWrites.setFlag _ _ (by simp)).trans (hready.mono fun _ hg => List.mem_cons_of_mem _ hg)
  exact ⟨flag_written hlatch hready (by decide) (by decide), flag_event_written hs hafter (by decide) (by decide)⟩

/-- The shutdown's end from the state in which the islands are shut. -/
theorem shutdown_ends {s : State} (hs : s.RegsWf) (hstate : pstate s ≠ 0) (hmoving : s.pw.moving = none) (hclamps : ∀ n < 36, clamped s n = true) :
    pstate (refreshReady (latched (passedToSleep s))) = 0 ∧ flag (refreshReady (latched (passedToSleep s))) TH_STATUS_TSD_PEND = false
      ∧ flag (refreshReady (latched (passedToSleep s))) TH_STATUS_TSD_LATCH = true ∧ getF (refreshReady (latched (passedToSleep s))) TH_PCTRL_TARGET = 0
      ∧ (∀ n < 36, clamped (refreshReady (latched (passedToSleep s))) n = true) ∧ (refreshReady (latched (passedToSleep s))).pw.moving = none
      ∧ flag (refreshReady (latched (passedToSleep s))) TH_PSTATE_RETAINED = false ∧ (refreshReady (latched (passedToSleep s))).mem = []
      ∧ flag (refreshReady (latched (passedToSleep s))) TH_STATUS_CLK = false := by
  obtain ⟨hpstate, htarget, hstill⟩ := standbyReached_shows hs hstate hmoving
  have hreached := (standbyReached_writes s).wf hs
  have hclosed : ∀ n < 36, clamped (standbyReached s) n = true := fun n hn => ((standbyReached_writes s).clamped hs (by decide) hn).trans (hclamps n hn)
  rw [passedToSleep, if_pos hpstate]
  generalize standbyReached s = u at htarget hreached hclosed ⊢
  obtain ⟨hsleep, hsettled, hmem, hretained, hclk, hkept⟩ := sleptEmpty_shows hreached
  have hslept := (sleptEmpty_writes u).wf hreached
  have hclosed' : ∀ n < 36, clamped (sleptEmpty u) n = true := fun n hn => ((sleptEmpty_writes u).clamped hreached (by decide) hn).trans (hclosed n hn)
  generalize sleptEmpty u = v at hsleep hsettled hmem hretained hclk hkept hslept hclosed' ⊢
  have hend := latched_writes v
  obtain ⟨hpend, hlatch⟩ := latched_shows hslept
  obtain ⟨r, hready⟩ := refreshReady_regs (latched v)
  have hlast : (refreshReady (latched v)).pw = v.pw ∧ (refreshReady (latched v)).mem = v.mem := by
    rw [hready]
    exact ⟨rfl, rfl⟩
  exact ⟨(hend.getF hslept (by decide) (by decide)).trans hsleep, hpend, hlatch, (hend.getF hslept (by decide) (by decide)).trans (hkept.trans htarget),
    fun n hn => (hend.clamped hslept (by decide) hn).trans (hclosed' n hn), (congrArg (·.moving) hlast.1).trans hsettled,
    (hend.flag hslept (by decide) (by decide)).trans hretained, hlast.2.trans hmem, (hend.flag hslept (by decide) (by decide)).trans hclk⟩

theorem tsdClamp_shuts {s : State} (hs : s.RegsWf) (hpend : flag s TH_STATUS_TSD_PEND = true) (hdue : due s .tsd = true) (hop : s.th.op = none) (hstate : pstate s ≠ 0) :
    ∃ t, exec .tsdClamp s = .next t ∧ pstate t = 0 ∧ flag t TH_STATUS_TSD_PEND = false ∧ flag t TH_STATUS_TSD_LATCH = true ∧ getF t TH_PCTRL_TARGET = 0
      ∧ (∀ n < 36, clamped t n = true) ∧ t.pw.moving = none ∧ flag t TH_PSTATE_RETAINED = false ∧ t.mem = [] ∧ flag t TH_STATUS_CLK = false := by
  have hidle : (disarm s .tsd).RegsWf := hs
  obtain ⟨hwf, hpstate, hmoving, hclamps⟩ := islandsShut_shows hidle
  exact ⟨_, exec_tsdClamp ⟨hpend, hdue, hop⟩, shutdown_ends hwf (hpstate.symm ▸ hstate) hmoving hclamps⟩

end Sys2Proof.Machine
namespace Sys2Proof.Machine

/-! ### The sensors decide (R433, R440) -/

/-- Zone 8 shows the hottest valid junction. -/
def zoneShown (s : State) (x : Int) : State :=
  setF (setF { s with th := { s.th with jsSeen := s.elapsed } } (TH_ZONE_TEMP 8) (unsigned 12 x)) (TH_ZONE_VALID 8) 1

/-- The fields of zone 8. -/
def coreZoneFields : List Fld := [TH_ZONE_TEMP 8, TH_ZONE_VALID 8]

theorem zoneShown_writes (s : State) (x : Int) : RegWrites coreZoneFields s (zoneShown s x) := by
  have hseen : RegWrites coreZoneFields s { s with th := { s.th with jsSeen := s.elapsed } } := .of_regs rfl
  exact .andSetF (.andSetF hseen (by simp [coreZoneFields])) (by simp [coreZoneFields])

theorem zoneTemp_zoneShown {s : State} (hs : s.RegsWf) {w : Nat} (hw : w < 2 ^ 12) : zoneTemp (zoneShown s (tempOf w)) 8 = some (tempOf w) := by
  have hseen : ({ s with th := { s.th with jsSeen := s.elapsed } } : State).RegsWf := hs
  have htemp := regsWf_setF _ (TH_ZONE_TEMP 8) (unsigned 12 (tempOf w)) hseen
  have hvalid : flag (zoneShown s (tempOf w)) (TH_ZONE_VALID 8) = true := flag_event_same _ (TH_ZONE_VALID 8) htemp (by decide) le_rfl
  have hshown : getF (zoneShown s (tempOf w)) (TH_ZONE_TEMP 8) = w := by
    refine (getF_written (W := [TH_ZONE_VALID 8]) hseen (.setF _ 1 (by simp)) (by decide) (by decide)).trans ?_
    rw [unsigned_tempOf hw]
    exact Nat.mod_eq_of_lt hw
  rw [zoneTemp, hvalid, hshown, if_pos rfl]

theorem autoWake_above {s : State} (h : pstate s ≠ 0) : autoWake s = s := if_neg fun hw => h hw.1

/-- The state that a list of readings leaves, with zone 8 shown and the calibrations judged. -/
def coreShown (s : State) (x : Int) : State := calTemps (zoneShown s x)

theorem exec_jsUpdate_none {s u : State} {rs : List JsReading} (hu : u = ((rs.take 12).zipIdx).foldl sensorRead s) (h : hottest u = none) :
    exec (.jsUpdate rs) s = .next (autoWake (calTemps (setF u (TH_ZONE_VALID 8) 0))) := by
  change execJsUpdate rs s = _
  simp only [execJsUpdate, ← hu, h]

theorem exec_jsUpdate_some {s u : State} {rs : List JsReading} {i : Nat} {x : Int} (hu : u = ((rs.take 12).zipIdx).foldl sensorRead s) (h : hottest u = some (i, x)) :
    exec (.jsUpdate rs) s =
      .next (autoWake (if (getF s TH_TSD_LIMIT : Int) ≤ x then decideTsd (coreShown u x) i 0 (unsigned 12 x) else coreShown u x)) := by
  change execJsUpdate rs s = _
  simp only [execJsUpdate, ← hu, h]
  rfl

/-- What an update of the sensors has left once zone 8 is shown. -/
structure Sensed (s t : State) (x : Int) : Prop where
  wf : t.RegsWf
  state : pstate t = pstate s
  pend : flag t TH_STATUS_TSD_PEND = flag s TH_STATUS_TSD_PEND
  seen : t.th.jsSeen = s.elapsed
  zone : zoneTemp t 8 = some x
  mem : t.mem = s.mem
  flash : t.flash = s.flash
  clock : t.clock = s.clock

theorem coreShown_sensed {s u : State} {rs : List JsReading} {i : Nat} {x : Int} (hs : s.RegsWf) (hu : u = ((rs.take 12).zipIdx).foldl sensorRead s)
    (h : hottest u = some (i, x)) : Sensed s (coreShown u x) x := by
  have hread : RegWrites sensorFields s u := hu ▸ sensorsRead_writes s _ (zipIdx_index_lt rs)
  obtain ⟨r, f, hrest⟩ : ∃ r f, u = { s with regs := r, fc := f } := hu ▸ sensorsRead_rest s _
  obtain ⟨-, hx⟩ := reads_hottest u i x h
  have hw : getF u (TH_JS_TEMP i) < 2 ^ 12 := getF_lt u (TH_JS_TEMP i)
  have hwf := hread.wf hs
  have hzone := zoneShown_writes u x
  have hzoned := hzone.wf hwf
  have hframe := calTemps_frame (zoneShown u x)
  have hshown : zoneTemp (zoneShown u x) 8 = some x := by
    rw [hx]
    exact zoneTemp_zoneShown hwf hw
  have hparts : (zoneShown u x).th.jsSeen = s.elapsed ∧ (zoneShown u x).mem = s.mem ∧ (zoneShown u x).flash = s.flash ∧ (zoneShown u x).clock = s.clock := by
    rw [hrest]
    exact ⟨rfl, rfl, rfl, rfl⟩
  obtain ⟨hseen, hmem, hflash, hclock⟩ := hparts
  exact ⟨hframe.wf hzoned, hframe.pstate.trans ((hzone.getF hwf (by decide) (by decide)).trans (hread.getF hs (by decide) (by decide))),
    (hframe.flag (by decide) (not_converterWords (by decide))).trans ((hzone.flag hwf (by decide) (by decide)).trans (hread.flag hs (by decide) (by decide))),
    hframe.jsSeen.trans hseen, (hframe.zoneTemp (by decide)).trans hshown, hframe.mem.trans hmem, hframe.flash.trans hflash, hframe.clock.trans hclock⟩

section Update
variable {s u : State} {rs : List JsReading} {i : Nat} {x : Int} (hs : s.RegsWf) (hu : u = ((rs.take 12).zipIdx).foldl sensorRead s) (h : hottest u = some (i, x))
include hs hu h

theorem jsUpdate_below (hx : x < (getF s TH_TSD_LIMIT : Int)) (hstate : pstate s ≠ 0) :
    ∃ t, exec (.jsUpdate rs) s = .next t ∧ t.th.jsSeen = s.elapsed ∧ zoneTemp t 8 = some x ∧ pstate t = pstate s ∧ t.mem = s.mem ∧ t.flash = s.flash := by
  have hsensed := coreShown_sensed hs hu h
  refine ⟨coreShown u x, ?_, hsensed.seen, hsensed.zone, hsensed.state, hsensed.mem, hsensed.flash⟩
  rw [exec_jsUpdate_some hu h, if_neg (Int.not_le.mpr hx), autoWake_above (hsensed.state.symm ▸ hstate)]

theorem jsUpdate_decides (hx : (getF s TH_TSD_LIMIT : Int) ≤ x) (hstate : 1 ≤ pstate s) (hpend : flag s TH_STATUS_TSD_PEND = false) :
    ∃ t, exec (.jsUpdate rs) s = .next t ∧ flag t TH_STATUS_TSD_PEND = true ∧ flag t TH_INT_TSD = true ∧ getF t TH_TSD_REC_w0_SOURCE = i
      ∧ (∀ q ∈ t.ad.inflight, q.deliver ≤ netNs s) ∧ t.pw.moving = none := by
  have hsensed := coreShown_sensed hs hu h
  obtain ⟨hi, -⟩ := reads_hottest u i x h
  have hdecided := decideTsd_decides hsensed.wf (hsensed.state.symm ▸ hstate) (hsensed.pend.trans hpend) i 0 (unsigned 12 x)
  have hnow : netNs (coreShown u x) = netNs s := congrArg (· / 2 ^ 42) hsensed.clock
  refine ⟨decideTsd (coreShown u x) i 0 (unsigned 12 x), ?_, hdecided.pend, hdecided.event, hdecided.source.trans (Nat.mod_eq_of_lt (by omega)),
    fun q hq => hnow ▸ (hdecided.inflight q hq).2, hdecided.moving⟩
  have habove : pstate (decideTsd (coreShown u x) i 0 (unsigned 12 x)) ≠ 0 := by
    rw [hdecided.state, hsensed.state]
    omega
  rw [exec_jsUpdate_some hu h, if_pos hx, autoWake_above habove]

end Update

/-! #### No valid sensor, and Sleep -/

theorem exec_tsdNoSensorTimeout {s : State} (hnone : ∀ i < 12, flag s (TH_JS_VALID i) = false) (hlate : s.th.jsSeen + 40000000 ≤ s.elapsed) :
    exec .tsdNoSensorTimeout s = .next (decideTsd (fresh s 4096).2 13 0 (fresh s 4096).1) := by
  have hall : (List.range 12).all (fun i => ! flag s (TH_JS_VALID i)) = true := List.all_eq_true.mpr fun i hi => by simp [hnone i (List.mem_range.mp hi)]
  exact if_pos ⟨hall, hlate⟩

theorem tsdNoSensor_decides {s : State} (hs : s.RegsWf) (hnone : ∀ i < 12, flag s (TH_JS_VALID i) = false) (hlate : s.th.jsSeen + 40000000 ≤ s.elapsed)
    (hstate : 1 ≤ pstate s) (hpend : flag s TH_STATUS_TSD_PEND = false) :
    ∃ t, exec .tsdNoSensorTimeout s = .next t ∧ flag t TH_STATUS_TSD_PEND = true ∧ getF t TH_TSD_REC_w0_SOURCE = 13 ∧ (∀ q ∈ t.ad.inflight, q.deliver ≤ netNs s) := by
  have hdecided := decideTsd_decides (s := (fresh s 4096).2) hs hstate hpend 13 0 (fresh s 4096).1
  exact ⟨_, exec_tsdNoSensorTimeout hnone hlate, hdecided.pend, hdecided.source, fun q hq => (hdecided.inflight q hq).2⟩

theorem decideTsd_inSleep {s : State} (hs : s.RegsWf) (hstate : pstate s = 0) (hlatch : flag s TH_STATUS_TSD_LATCH = false) (hpend : flag s TH_STATUS_TSD_PEND = false)
    (source entry temp : Nat) : flag (decideTsd s source entry temp) TH_STATUS_TSD_LATCH = true ∧ (decideTsd s source entry temp).timers = s.timers
      ∧ (decideTsd s source entry temp).ad = s.ad := by
  obtain ⟨r, hrest⟩ := (fillRecord_regs s source entry temp).trans (.setFlag _ TH_STATUS_TSD_LATCH true)
  rw [decideTsd_sleep hstate hlatch hpend]
  refine ⟨flag_setFlag_same _ _ true ((fillRecord_writes s source entry temp).wf hs) (by decide) le_rfl, ?_, ?_⟩
  all_goals rw [hrest]

/-- Settles O56, by what the sensors' readings, a decision and the closing of the clamps leave. -/
theorem thermalShutdown : Obligations.ThermalShutdown := by
  unfold Obligations.ThermalShutdown
  refine ⟨fun s u rs hu => ⟨fun h => exec_jsUpdate_none hu h, fun i x h hc hx hstate => jsUpdate_below hc.1 hu h hx hstate,
      fun i x h hc hx hstate hpend => jsUpdate_decides hc.1 hu h hx hstate hpend⟩,
    fun s x i hc hq hi => ⟨fun hok hlow => ?_, fun hbad => sensorRead_fails hc.1 hq hi hbad⟩,
    fun s source entry temp hc hstate hpend => ?_, fun s hc hstate hlatch hpend => decideTsd_inSleep hc.1 hstate hlatch hpend,
    fun s hc hnone hlate hstate hpend => tsdNoSensor_decides hc.1 hnone hlate hstate hpend,
    fun s hc hpend hdue hop hstate => tsdClamp_shuts hc.1 hpend hdue hop hstate, fun s h => exec_tsdClamp_waits h⟩
  · rw [sensorRead_good (x := (x, i)) s ⟨hok, hlow⟩]
    exact sensorGood_shows hc.1 x.temp.isLt
  · have hdecided := decideTsd_decides hc.1 hstate hpend source entry temp
    exact ⟨hdecided.pend, hdecided.inflight, hdecided.notReady, hdecided.moving, hdecided.routed, hdecided.clamps, hdecided.recorded, hdecided.source⟩

end Sys2Proof.Machine

namespace Sys2Proof.Machine

/-! ### The steps of a start (R386, R397 to R401, R407, R412, R413) -/

theorem jointUp_regs (s : State) (j lost : Nat) : RegsOnly s (jointUp s j lost) :=
  .ite (.refl s) (((((RegsOnly.setF s _ _).trans (.setF _ _ _)).trans (.setF _ _ _)).trans (.bump _ _)).trans (.bumpBy _ _ _))

theorem joinAll_regs (s : State) : RegsOnly s (joinAll s) := .foldl (fun u j => jointUp_regs u j 0) _ s

theorem jointUp_park (s : State) {j : Nat} (hj : j < 91) (lost : Nat) : ParkFrame s (jointUp s j lost) := by
  have hjoint : aBM_JSTAT j < thBase := by
    unfold aBM_JSTAT bmBase thBase
    omega
  have hcount : ∀ (u : State) (a n : Nat), a + 4 < thBase → ParkFrame u (bumpBy u a n) := fun u a n ha =>
    ⟨(BelowTh.wr u _ (Nat.lt_of_le_of_lt (Nat.le_add_right a 4) ha)).trans (.wr _ _ ha), rfl⟩
  exact .ite (.refl s) (((((ParkFrame.setF s (f := BM_JSTAT_UP j) 1 hjoint).trans (.setF _ (f := BM_JSTAT_DEPTH_A j) _ hjoint)).trans
    (.setF _ (f := BM_JSTAT_DEPTH_B j) _ hjoint)).trans (hcount _ (cBM_CNT 10) 1 (by decide))).trans (hcount _ (cBM_CNT 11) lost (by decide)))

theorem joinOrder_lt : ∀ j ∈ joinOrder, j < 91 := fun j hj => by
  obtain ⟨r, -, hj⟩ := List.mem_flatMap.mp hj
  exact List.mem_range.mp (List.mem_filter.mp hj).1

theorem joinAll_park (s : State) : ParkFrame s (joinAll s) := .foldl _ (fun u j hj => jointUp_park u (joinOrder_lt j hj) 0) s

/-! #### Step 1 (R386, R387, R413, R494) -/

/-- A cold start that is no recovery clears the capture, and is counted. -/
def coldCleared (s : State) : State :=
  life (bump { s with mem := cellDrop (fun a => decide (capBase ≤ a ∧ a < capBase + 0x800000)) s.mem } (cTHP_CNT 5)) 2

/-- A cold start before the flash is found: a recovery's islands are joined. -/
def coldBegun (s : State) : State := setF (if s.bt.reason = 2 then joinAll s else coldCleared s) TH_PSTATE_WARM 0

/-- The candidates are chosen. -/
def firmwareChosen (s : State) : State := { setF s NV_STATUS_STAGE 2 with bt := { s.bt with step := 2, candidates := fwCandidates s } }

section Cold
variable {s : State} {x : Sfdp}

theorem exec_coldStart (hstep : s.bt.step = 1) (hready : readyToBoot s = true) : exec (.coldStart x) s =
    if sfdpOk x = false then .next (sfdpFailed (coldBegun s))
    else if fwCandidates (sfdpRead (coldBegun s) x) = [] then .next (enterRecovery (sfdpRead (coldBegun s) x))
    else .next (firmwareChosen (sfdpRead (coldBegun s) x)) := by
  have hgoes : ¬ (s.bt.step ≠ 1 ∨ readyToBoot s = false) := by simp [hstep, hready]
  change execColdStart x s = _
  unfold execColdStart
  rw [if_neg hgoes]
  extract_lets s0 s1
  have hbegun : s1 = coldBegun s := rfl
  rw [← hbegun]
  clear hbegun
  clear_value s1
  rfl

theorem sfdpOk_false (h : x.complete = false ∨ x.density < 25 ∨ 28 < x.density) : sfdpOk x = false := by
  rcases h with h | h | h
  · simp [sfdpOk, h]
  · simp [sfdpOk, Nat.not_le.mpr h]
  · simp [sfdpOk, Nat.not_le.mpr h]

theorem sfdpOk_true (hc : x.complete = true) (hlow : 25 ≤ x.density) (hhigh : x.density ≤ 28) : sfdpOk x = true := by simp [sfdpOk, hc, hlow, hhigh]

/-- The fields of the Tollhouse that begin a cold start. -/
def coldFields : List Fld := TH_PSTATE_WARM :: (counterFields (cTHP_CNT 5) ++ lifeFields 2)

theorem coldCleared_writes (s : State) : RegWrites coldFields s (coldCleared s) := by
  have hcleared : RegWrites coldFields s { s with mem := cellDrop (fun a => decide (capBase ≤ a ∧ a < capBase + 0x800000)) s.mem } := .of_regs rfl
  exact (hcleared.andBump (a := cTHP_CNT 5) fun _ hg => by simp [coldFields, hg]).andLife (i := 2) fun _ hg => by simp [coldFields, hg]

theorem coldBegun_toll (s : State) : TollFrame coldFields s (coldBegun s) :=
  (TollFrame.ite (.of_park (joinAll_park s)) (.of_writes (coldCleared_writes s))).andWrites (V := [TH_PSTATE_WARM]) (.setF _ 0 (by simp))
    fun _ hg => by simp [coldFields, List.mem_singleton.mp hg]

theorem coldBegun_flash (s : State) : (coldBegun s).flash = s.flash := by
  have hbegun : Kept True s (coldBegun s) :=
    .setF (.ite (Kept.joinAll (.refl s)) (.life (.bump (.mem (.refl s) (cellWf_cellDrop _ _ s.mem)))))
  exact hbegun.2.2 trivial

/-- The boot has ended with SFDP_ERR. -/
def sfdpShown (s : State) : State := { setFlag (setF s NV_STATUS_STAGE 7) NV_STATUS_SFDP_ERR true with bt := { s.bt with step := 0 } }

theorem sfdpFailed_eq (s : State) : sfdpFailed s = if pstate (sfdpShown s) = 5 then enterState (setFlag (sfdpShown s) FC_STATUS_FATAL false) 2 else sfdpShown s := rfl

theorem sfdpShown_shows (hs : s.RegsWf) : (sfdpShown s).RegsWf ∧ getF (sfdpShown s) NV_STATUS_STAGE = 7 ∧ flag (sfdpShown s) NV_STATUS_SFDP_ERR = true
    ∧ pstate (sfdpShown s) = pstate s := by
  have hstage := regsWf_setF s NV_STATUS_STAGE 7 hs
  have hset : RegWrites [NV_STATUS_STAGE, NV_STATUS_SFDP_ERR] s (setFlag (setF s NV_STATUS_STAGE 7) NV_STATUS_SFDP_ERR true) := .andSetFlag (.setF s 7 (by simp)) (by simp)
  exact ⟨hset.wf hs, getF_written (W := [NV_STATUS_SFDP_ERR]) hs (.setFlag _ _ (by simp)) (by decide) (by decide),
    flag_setFlag_same _ _ true hstage (by decide) (by decide), hset.getF hs (by decide) (by decide)⟩

theorem sfdpFailed_shows (hs : s.RegsWf) : getF (sfdpFailed s) NV_STATUS_STAGE = 7 ∧ flag (sfdpFailed s) NV_STATUS_SFDP_ERR = true ∧ (sfdpFailed s).bt.step = 0
    ∧ (sfdpFailed s).flash = s.flash ∧ (pstate s = 5 → pstate (sfdpFailed s) = 2) := by
  obtain ⟨hwf, hstage, herr, hpstate⟩ := sfdpShown_shows hs
  have hparts : (sfdpShown s).bt.step = 0 ∧ (sfdpShown s).flash = s.flash := ⟨rfl, rfl⟩
  rw [sfdpFailed_eq, ← hpstate]
  generalize sfdpShown s = u at hwf hstage herr hparts ⊢
  split
  · have hended := regsWf_setF u FC_STATUS_FATAL 0 hwf
    have hentered : RegWrites (FC_STATUS_FATAL :: restFields) u (enterState (setFlag u FC_STATUS_FATAL false) 2) :=
      (RegWrites.setFlag u _ (by simp)).trans ((enterState_writes _ 2).mono fun _ hg => List.mem_cons_of_mem _ hg)
    obtain ⟨r, hrest⟩ := (RegsOnly.setFlag u FC_STATUS_FATAL false).trans (enterState_regs _ 2)
    refine ⟨(hentered.getF hwf (by decide) (by decide)).trans hstage, (hentered.flag hwf (by decide) (by decide)).trans herr, ?_, ?_,
      fun _ => pstate_enterState hended (by decide)⟩
    · rw [hrest]
      exact hparts.1
    · rw [hrest]
      exact hparts.2
  next hno => exact ⟨hstage, herr, hparts.1, hparts.2, fun h => absurd h hno⟩

theorem coldStart_fails (hs : s.RegsWf) (hstep : s.bt.step = 1) (hready : readyToBoot s = true) (hx : x.complete = false ∨ x.density < 25 ∨ 28 < x.density) :
    ∃ t, exec (.coldStart x) s = .next t ∧ getF t NV_STATUS_STAGE = 7 ∧ flag t NV_STATUS_SFDP_ERR = true ∧ t.bt.step = 0 ∧ t.flash = s.flash
      ∧ (pstate s = 5 → pstate t = 2) := by
  have hbegun := coldBegun_toll s
  have hpstate : pstate (coldBegun s) = pstate s := hbegun.keeps hs TH_PSTATE_STATE (by decide) (by decide) (by decide)
  obtain ⟨hstage, herr, hover, hflash, hready'⟩ := sfdpFailed_shows (hbegun.wf hs)
  refine ⟨_, (exec_coldStart hstep hready).trans (if_pos (sfdpOk_false hx)), hstage, herr, hover, hflash.trans (coldBegun_flash s), ?_⟩
  rwa [hpstate] at hready'

theorem sfdpRead_regs (s : State) (x : Sfdp) : RegsOnly s (sfdpRead s x) := ((RegsOnly.setF s _ _).trans (.setF _ _ _)).trans (.setFlag _ _ _)

/-- The flash's parameters show. -/
theorem firmwareChosen_shows (hs : s.RegsWf) (hx : x.density < 2 ^ 5) :
    getF (firmwareChosen (sfdpRead s x)) NV_STATUS_STAGE = 2 ∧ getF (firmwareChosen (sfdpRead s x)) NV_FLASH_DENSITY = x.density := by
  have hread : RegWrites [NV_FLASH_DENSITY, NV_FLASH_PAGE, NV_FLASH_ERASE64] s (sfdpRead s x) := .andSetFlag (.andSetF (.setF s _ (by simp)) (by simp)) (by simp)
  have hafter : RegWrites [NV_FLASH_PAGE, NV_FLASH_ERASE64, NV_STATUS_STAGE] (setF s NV_FLASH_DENSITY x.density) (firmwareChosen (sfdpRead s x)) :=
    (RegWrites.andSetF (.andSetFlag (.setF _ _ (by simp)) (by simp)) (by simp)).regs_eq rfl
  exact ⟨getF_setF_same (sfdpRead s x) NV_STATUS_STAGE 2 (hread.wf hs) (by decide),
    (getF_written hs hafter (by decide) (by decide)).trans (Nat.mod_eq_of_lt hx)⟩

theorem coldBegun_recovery (h : s.bt.reason = 2) : coldBegun s = setF (joinAll s) TH_PSTATE_WARM 0 := by rw [coldBegun, if_pos h]

end Cold

/-- A recovery's start with a good flash: its candidates, or recovery mode. -/
theorem coldStart_recovery {s u : State} {x : Sfdp} (hs : s.RegsWf) (hstep : s.bt.step = 1) (hreason : s.bt.reason = 2) (hlocked : allLocked s = true)
    (hc : x.complete = true) (hlow : 25 ≤ x.density) (hhigh : x.density ≤ 28) (hu : u = sfdpRead (setF (joinAll s) TH_PSTATE_WARM 0) x) :
    (fwCandidates u ≠ [] → ∃ t, exec (.coldStart x) s = .next t ∧ t.bt.step = 2 ∧ t.bt.candidates = fwCandidates u ∧ getF t NV_STATUS_STAGE = 2
      ∧ getF t NV_FLASH_DENSITY = x.density ∧ t.flash = s.flash) ∧ (fwCandidates u = [] → exec (.coldStart x) s = .next (enterRecovery u)) := by
  have hready : readyToBoot s = true := by simp [readyToBoot, hlocked]
  have hexec := exec_coldStart (x := x) hstep hready
  rw [if_neg (by simp [sfdpOk_true hc hlow hhigh]), coldBegun_recovery hreason, ← hu] at hexec
  have hbegun : (setF (joinAll s) TH_PSTATE_WARM 0).RegsWf := regsWf_setF _ _ _ ((joinAll_park s).below.wf hs)
  obtain ⟨hstage, hdensity⟩ := firmwareChosen_shows (x := x) hbegun (by omega)
  rw [← hu] at hstage hdensity
  obtain ⟨r, hrest⟩ := ((joinAll_regs s).trans (.setF _ TH_PSTATE_WARM 0)).trans (sfdpRead_regs _ x)
  have hflash : u.flash = s.flash := by rw [hu, hrest]
  exact ⟨fun h => ⟨_, hexec.trans (if_neg h), rfl, rfl, hstage, hdensity, hflash⟩, fun h => hexec.trans (if_pos h)⟩

/-! #### The firmware (R397 to R401) -/

section Cluster
variable {s : State}

/-- The fields that the start of a deck's cluster writes. -/
def clusterFields (d : Nat) : List Fld := [if d = 0 then NV_REMAP_REMAP_A else NV_REMAP_REMAP_B, runFld d]

theorem startCluster_writes (s : State) (d : Nat) : RegWrites (clusterFields d) s (startCluster s d) :=
  (RegWrites.andSetFlag (.setF s 1 (by simp [clusterFields])) (by simp [clusterFields])).regs_eq rfl

theorem runFld_inWord (d : Nat) : InWord (runFld d) := by
  unfold runFld
  split
  · decide
  · decide

theorem startCluster_runs (hs : s.RegsWf) (d : Nat) : flag (startCluster s d) (runFld d) = true :=
  flag_setFlag_same _ (runFld d) true (regsWf_setF _ _ _ hs) (runFld_inWord d).2 (runFld_inWord d).1

theorem loadPayload_rest (s : State) (slot d : Nat) : ∃ m, loadPayload s slot d = { s with mem := m } := by
  have hbytes : ∀ (l : List Byte) (u : State) (a : Nat), ∃ m, wrBytes u a l = { u with mem := m } := fun l => by
    induction l with
    | nil => exact fun u a => ⟨u.mem, rfl⟩
    | cons b l ih =>
      intro u a
      obtain ⟨m, h⟩ := ih (wrByte u a b) (a + 1)
      exact ⟨m, h⟩
  exact hbytes _ s _

/-- The signed candidate is shown as the running slot (R400). -/
def firmwareNamed (s u : State) (c : Nat) : State :=
  setFlag (setF (setF u NV_STATUS_FW_SLOT c) NV_FW_VERSION (fwVersion s c)) NV_STATUS_FW_FALLBACK (decide ((fwCandidates s).head? ≠ some c))

/-- A signed candidate's firmware runs on both decks (R401). -/
def firmwareStarted (s u : State) (c : Nat) : State := startCluster (startCluster (firmwareNamed s u c) 0) 1

/-- The footing image comes next. -/
def footingBegun (s : State) : State := { setF s NV_STATUS_STAGE 3 with bt := { s.bt with step := 5, candidates := [] } }

/-- The candidate's payload stands in both deck RAMs. -/
def payloadsLoaded (s : State) (c : Nat) : State := loadPayload (loadPayload s c 0) c 1

/-- The next candidate comes. -/
def nextCandidate (s : State) (rest : List Nat) : State := { s with bt := { s.bt with candidates := rest } }

theorem exec_firmwareVerifyDone {c : Nat} {rest : List Nat} (hstep : s.bt.step = 2) (hcand : s.bt.candidates = c :: rest) : exec .firmwareVerifyDone s =
    if imageSigned s (fwImage s c) 0 then .next (footingBegun (firmwareStarted s (payloadsLoaded s c) c))
    else if rest = [] then .next (enterRecovery (payloadsLoaded s c))
    else .next (nextCandidate (payloadsLoaded s c) rest) := by
  change execFirmwareVerifyDone s = _
  unfold execFirmwareVerifyDone
  rw [if_neg (by simp [hstep]), hcand]
  dsimp -zeta only
  extract_lets s1 second s2 s3 shown boot
  have hloaded : s1 = payloadsLoaded s c := rfl
  have hstarted : s3 = firmwareStarted s s1 c := rfl
  rw [← hloaded, ← hstarted]
  clear hloaded hstarted
  unfold shown boot footingBegun nextCandidate
  clear_value s3
  rfl

theorem payloadsLoaded_rest (s : State) (c : Nat) : ∃ m, payloadsLoaded s c = { s with mem := m } := by
  obtain ⟨m, h⟩ := loadPayload_rest s c 0
  obtain ⟨m', h'⟩ := loadPayload_rest (loadPayload s c 0) c 1
  refine ⟨m', ?_⟩
  rw [payloadsLoaded, h', h]

theorem firmwareStarted_flash (s u : State) (c : Nat) : (firmwareStarted s u c).flash = u.flash := by
  have hstarted : ∀ (v : State) (d : Nat), (startCluster v d).flash = v.flash := fun _ _ => rfl
  rw [firmwareStarted, hstarted, hstarted, firmwareNamed, setFlag_flash, setF_flash, setF_flash]

theorem firmwareNamed_shows {u : State} (hu : u.RegsWf) {c : Nat} (hc : c < 2) :
    (firmwareNamed s u c).RegsWf ∧ getF (firmwareNamed s u c) NV_STATUS_FW_SLOT = c := by
  have hnamed : RegWrites [NV_FW_VERSION, NV_STATUS_FW_FALLBACK] (setF u NV_STATUS_FW_SLOT c) (firmwareNamed s u c) :=
    .andSetFlag (.setF _ _ (by simp)) (by simp)
  exact ⟨hnamed.wf (regsWf_setF u _ c hu), (getF_written hu hnamed (by decide) (by decide)).trans (Nat.mod_eq_of_lt hc)⟩

theorem footingBegun_parts (s : State) : (footingBegun s).bt.step = 5 ∧ (footingBegun s).flash = s.flash := ⟨rfl, rfl⟩

theorem footingBegun_writes (s : State) : RegWrites [NV_STATUS_STAGE] s (footingBegun s) := (RegWrites.setF s 3 (by simp)).regs_eq rfl

/-- Both clusters run, and the footing image is next. -/
theorem clustersStarted_shows {v : State} (hv : v.RegsWf) :
    getF (footingBegun (startCluster (startCluster v 0) 1)) NV_STATUS_STAGE = 3
      ∧ getF (footingBegun (startCluster (startCluster v 0) 1)) NV_STATUS_FW_SLOT = getF v NV_STATUS_FW_SLOT
      ∧ flag (footingBegun (startCluster (startCluster v 0) 1)) DK_STATUS_RUN_A = true
      ∧ flag (footingBegun (startCluster (startCluster v 0) 1)) DK_STATUS_RUN_B = true := by
  have hfirst := startCluster_writes v 0
  have hruns : flag (startCluster v 0) DK_STATUS_RUN_A = true := startCluster_runs hv 0
  have hfirstWf := hfirst.wf hv
  generalize startCluster v 0 = v₁ at hfirst hruns hfirstWf ⊢
  have hsecond := startCluster_writes v₁ 1
  have hruns' : flag (startCluster v₁ 1) DK_STATUS_RUN_B = true := startCluster_runs hfirstWf 1
  have hsecondWf := hsecond.wf hfirstWf
  generalize startCluster v₁ 1 = v₂ at hsecond hruns' hsecondWf ⊢
  have hstage := footingBegun_writes v₂
  refine ⟨getF_setF_same v₂ NV_STATUS_STAGE 3 hsecondWf (by decide), ?_, ?_, (hstage.flag hsecondWf (by decide) (by decide)).trans hruns'⟩
  · calc getF (footingBegun v₂) NV_STATUS_FW_SLOT
      _ = getF v₂ NV_STATUS_FW_SLOT := hstage.getF hsecondWf (by decide) (by decide)
      _ = getF v₁ NV_STATUS_FW_SLOT := hsecond.getF hfirstWf (by decide) (by decide)
      _ = getF v NV_STATUS_FW_SLOT := hfirst.getF hv (by decide) (by decide)
  · calc flag (footingBegun v₂) DK_STATUS_RUN_A
      _ = flag v₂ DK_STATUS_RUN_A := hstage.flag hsecondWf (by decide) (by decide)
      _ = flag v₁ DK_STATUS_RUN_A := hsecond.flag hfirstWf (by decide) (by decide)
      _ = true := hruns

theorem firmwareVerifyDone_signed {c : Nat} {rest : List Nat} (hs : s.RegsWf) (hstep : s.bt.step = 2) (hcand : s.bt.candidates = c :: rest)
    (hsigned : imageSigned s (fwImage s c) 0 = true) (hc : c < 2) : ∃ t, exec .firmwareVerifyDone s = .next t ∧ t.bt.step = 5 ∧ getF t NV_STATUS_STAGE = 3
      ∧ getF t NV_STATUS_FW_SLOT = c ∧ flag t DK_STATUS_RUN_A = true ∧ flag t DK_STATUS_RUN_B = true ∧ t.flash = s.flash := by
  obtain ⟨m, hloaded⟩ := payloadsLoaded_rest s c
  have hwf : (payloadsLoaded s c).RegsWf := by
    rw [hloaded]
    exact hs
  have hflash : (payloadsLoaded s c).flash = s.flash := by rw [hloaded]
  obtain ⟨hnamedWf, hslot⟩ := firmwareNamed_shows (s := s) hwf hc
  obtain ⟨hstage, hkept, ha, hb⟩ := clustersStarted_shows hnamedWf
  rw [← firmwareStarted] at hstage hkept ha hb
  obtain ⟨hstepped, hflash'⟩ := footingBegun_parts (firmwareStarted s (payloadsLoaded s c) c)
  rw [firmwareStarted_flash, hflash] at hflash'
  exact ⟨footingBegun (firmwareStarted s (payloadsLoaded s c) c), (exec_firmwareVerifyDone hstep hcand).trans (if_pos hsigned), hstepped, hstage,
    hkept.trans hslot, ha, hb, hflash'⟩

theorem firmwareVerifyDone_next {c : Nat} {rest : List Nat} (hstep : s.bt.step = 2) (hcand : s.bt.candidates = c :: rest)
    (hbad : imageSigned s (fwImage s c) 0 = false) (hrest : rest ≠ []) : ∃ t, exec .firmwareVerifyDone s = .next t ∧ t.bt.step = 2 ∧ t.bt.candidates = rest := by
  obtain ⟨m, hloaded⟩ := payloadsLoaded_rest s c
  refine ⟨_, (exec_firmwareVerifyDone hstep hcand).trans ((if_neg (by simp [hbad])).trans (if_neg hrest)), ?_, rfl⟩
  rw [hloaded]
  exact hstep

theorem exec_clusterRestart {d : Deck} (hstopped : flag s (runFld (deckNum d)) = false) (habove : 2 ≤ pstate s) (hstands : firmwareStands s = true)
    (hlock : flag s (TH_PLL_LOCK (1 + deckNum d)) = true) (hsigned : imageSigned s (fwImage s (getF s NV_STATUS_FW_SLOT)) 0 = true) :
    exec (.clusterRestart d) s =
      .next (startCluster (loadPayload (jointUp s (14 + deckNum d)) (getF s NV_STATUS_FW_SLOT) (deckNum d)) (deckNum d)) := by
  have hgoes : ¬ (flag s (runFld (deckNum d)) ∨ pstate s < 2 ∨ firmwareStands s = false ∨ flag s (TH_PLL_LOCK (1 + deckNum d)) = false) := by
    simp [hstopped, Nat.not_lt.mpr habove, hstands, hlock]
  change execClusterRestart d s = _
  unfold execClusterRestart
  dsimp only
  rw [if_neg hgoes, if_pos hsigned]

theorem clusterRestart_runs {d : Deck} (hs : s.RegsWf) (hstopped : flag s (runFld (deckNum d)) = false) (habove : 2 ≤ pstate s) (hstands : firmwareStands s = true)
    (hlock : flag s (TH_PLL_LOCK (1 + deckNum d)) = true) (hsigned : imageSigned s (fwImage s (getF s NV_STATUS_FW_SLOT)) 0 = true) :
    ∃ t, exec (.clusterRestart d) s = .next t ∧ flag t (runFld (deckNum d)) = true ∧ t.flash = s.flash ∧ t.ad = s.ad := by
  obtain ⟨r, hjoined⟩ := jointUp_regs s (14 + deckNum d) 0
  obtain ⟨m, hloaded⟩ := loadPayload_rest (jointUp s (14 + deckNum d)) (getF s NV_STATUS_FW_SLOT) (deckNum d)
  have hwf : (loadPayload (jointUp s (14 + deckNum d)) (getF s NV_STATUS_FW_SLOT) (deckNum d)).RegsWf := by
    rw [hloaded]
    exact regsWf_jointUp _ _ hs
  have hkept : (loadPayload (jointUp s (14 + deckNum d)) (getF s NV_STATUS_FW_SLOT) (deckNum d)).flash = s.flash
      ∧ (loadPayload (jointUp s (14 + deckNum d)) (getF s NV_STATUS_FW_SLOT) (deckNum d)).ad = s.ad := by
    rw [hloaded, hjoined]
    exact ⟨rfl, rfl⟩
  have hexec := exec_clusterRestart hstopped habove hstands hlock hsigned
  generalize loadPayload (jointUp s (14 + deckNum d)) (getF s NV_STATUS_FW_SLOT) (deckNum d) = u at hwf hkept hexec
  exact ⟨_, hexec, startCluster_runs hwf _, hkept.1, hkept.2⟩

end Cluster

/-! #### The epoch write is queued (R82, R408, R412) -/

/-- The boot's record stands. -/
def BootKept (s t : State) : Prop := t.bt = s.bt

theorem bootKept_foldl {α : Type} {f : State → α → State} (hf : ∀ s a, BootKept s (f s a)) (l : List α) (s : State) : BootKept s (l.foldl f s) := by
  induction l generalizing s with
  | nil => exact rfl
  | cons a l ih => exact (ih (f s a)).trans (hf s a)

theorem lifeBy_bt (s : State) (i n : Nat) : (lifeBy s i n).bt = s.bt := by
  unfold lifeBy
  dsimp only
  split
  · rfl
  · rfl

theorem joinLife_bt (s : State) (i v : Nat) : BootKept s (joinLife s i v) := lifeBy_bt (wr s (aTY_LT i) _) i _

theorem joinHist_bt (s : State) (i v : Nat) : BootKept s (joinHist s i v) := rfl

theorem loadLife_bt (s : State) (r : LogRec) : (loadLife s r).bt = s.bt := by
  unfold loadLife
  generalize List.range 128 = counters, List.range 768 = bins
  extract_lets b s0 s1 s2
  rw [setFlag_bt, setF_bt]
  exact (bootKept_foldl (fun _ _ => joinHist_bt _ _ _) _ _).trans (bootKept_foldl (fun _ _ => joinLife_bt _ _ _) _ _)

/-- The readers of the log stay names here, as in `Kept.readLog`. -/
theorem readLog_bt (s : State) : (readLog s).bt = s.bt := by
  unfold readLog
  generalize newestRecord = newest, newestSector = sector
  revert newest sector
  refine id fun newest sector => ?_
  split
  · rfl
  extract_lets _ s0
  have h0 : s0.bt = s.bt := rfl
  clear_value s0
  split
  · exact h0
  · extract_lets recent top next s1 s2
    have h2 : s2.bt = s.bt := by
      unfold s2
      split
      · exact h0
      · exact h0
    split
    · exact (loadLife_bt _ _).trans h2
    · exact h2

theorem epochStep_queues (s : State) : (epochStep s).bt.step = 7 ∧ (epochStep s).bt.reason = s.bt.reason
    ∧ ∃ j, (epochStep s).th.jobs.getLast? = some j ∧ j.kind = JobKind.epoch := by
  have hboot := readLog_bt s
  unfold epochStep
  generalize readLog s = u at hboot ⊢
  exact ⟨rfl, congrArg (·.reason) hboot, _, List.getLast?_concat, rfl⟩

section Footing
variable {s : State}

theorem footingCheckDone_fails (hstep : s.bt.step = 5) {e : Nat × Nat} (he : footError s (footImage s) (getF s NV_FW_VERSION) = some e) :
    exec .footingCheckDone s = .next (enterRecovery (setF (setF (clearDestinations s (footRecords (footImage s))) NV_STATUS_FOOT_ERR e.1) NV_STATUS_FOOT_REC e.2)) := by
  change execFootingCheckDone s = _
  unfold execFootingCheckDone
  rw [if_neg (by simp [hstep])]
  dsimp only
  rw [he]

theorem footingCheckDone_passes (hstep : s.bt.step = 5) (he : footError s (footImage s) (getF s NV_FW_VERSION) = none) :
    ∃ u, exec .footingCheckDone s = .next (epochStep u) ∧ u.flash = s.flash := by
  change ∃ u, execFootingCheckDone s = _ ∧ _
  unfold execFootingCheckDone
  rw [if_neg (by simp [hstep])]
  dsimp only
  rw [he]
  refine ⟨_, rfl, Kept.readSlots (K := True) (.ks (.applyPairs (.setF (.setF ?_)))) |>.2.2 trivial⟩
  exact ((Kept.refl s).freshLoops.foldl (·.loadRecord)).foldl (·.judgeTables)

theorem footingCheckDone_queues (hstep : s.bt.step = 5) (he : footError s (footImage s) (getF s NV_FW_VERSION) = none) :
    ∃ t j, exec .footingCheckDone s = .next t ∧ t.bt.step = 7 ∧ t.th.jobs.getLast? = some j ∧ j.kind = JobKind.epoch ∧ t.flash = s.flash := by
  obtain ⟨u, hexec, hflash⟩ := footingCheckDone_passes hstep he
  obtain ⟨hqueued, -, j, hjob, hkind⟩ := epochStep_queues u
  exact ⟨_, j, hexec, hqueued, hjob, hkind, ((Kept.refl (K := True) u).epochStep.2.2 trivial).trans hflash⟩

end Footing

section Warm
variable {s : State} {x : Sfdp} {ok : Bool}

/-- The warm start stands: both clusters run. -/
def warmStarted (s : State) : State :=
  let u := life (bump (setF s TH_PSTATE_WARM 1) (cTHP_CNT 6)) 3
  startCluster (startCluster { u with bt := { u.bt with reason := 1 } } 0) 1

/-- What was retained does not stand: the islands begin as in a cold start. -/
def warmFailed (s : State) : State :=
  let u := setFlag (joinAll (resetIslands { s with bt := { s.bt with retained := none } } false)) NV_STATUS_WARM_FAIL true
  { u with bt := { u.bt with step := 1, reason := 0 } }

theorem exec_warmStart (hstep : s.bt.step = 8) : exec (.warmStart x ok) s = if sfdpOk x = false then .next (sfdpFailed s)
    else if retentionOk (sfdpRead s x) ok then .next (epochStep (warmStarted (sfdpRead s x))) else .next (warmFailed (sfdpRead s x)) := by
  change execWarmStart x ok s = _
  unfold execWarmStart
  rw [if_neg (by simp [hstep])]
  rfl

theorem warmFailed_ad (s : State) : (warmFailed s).ad = State.reset.ad := by
  obtain ⟨r, h⟩ := joinAll_regs (resetIslands { s with bt := { s.bt with retained := none } } false)
  unfold warmFailed
  rw [h]
  rfl

theorem warmStart_stands (hstep : s.bt.step = 8) (hx : sfdpOk x = true) (hret : retentionOk (sfdpRead s x) ok = true) :
    ∃ t j, exec (.warmStart x ok) s = .next t ∧ t.bt.step = 7 ∧ t.bt.reason = 1 ∧ t.th.jobs.getLast? = some j ∧ j.kind = JobKind.epoch := by
  obtain ⟨hqueued, hreason, j, hjob, hkind⟩ := epochStep_queues (warmStarted (sfdpRead s x))
  exact ⟨_, j, (exec_warmStart hstep).trans ((if_neg (by simp [hx])).trans (if_pos hret)), hqueued, hreason, hjob, hkind⟩

theorem warmStart_cold (hstep : s.bt.step = 8) (hx : sfdpOk x = true) (hret : retentionOk (sfdpRead s x) ok = false) :
    ∃ t, exec (.warmStart x ok) s = .next t ∧ t.bt.step = 1 ∧ t.bt.reason = 0 ∧ t.ad = State.reset.ad :=
  ⟨_, (exec_warmStart hstep).trans ((if_neg (by simp [hx])).trans (if_neg (by simp [hret]))), rfl, rfl, warmFailed_ad _⟩

end Warm

/-- Settles O52, step by step: what each step of a start makes of the flash, the clusters and the boot's record. -/
theorem bootSteps : Obligations.BootSteps := by
  unfold Obligations.BootSteps
  refine ⟨fun s x hc hstep hready hx => coldStart_fails hc.1 hstep hready hx,
    fun s u x hc hstep hreason hlocked hcomplete hlow hhigh _ hu => coldStart_recovery hc.1 hstep hreason hlocked hcomplete hlow hhigh hu,
    fun s c rest hc hstep hcand => ⟨fun hsigned hslot => firmwareVerifyDone_signed hc.1 hstep hcand hsigned hslot,
      fun hbad hrest => firmwareVerifyDone_next hstep hcand hbad hrest,
      fun hbad hrest => (exec_firmwareVerifyDone hstep hcand).trans ((if_neg (by simp [hbad])).trans (if_pos hrest))⟩,
    fun s hstep => ⟨fun e he => footingCheckDone_fails hstep he, fun he => footingCheckDone_queues hstep he⟩,
    fun s x ok hstep => ⟨fun hx => (exec_warmStart hstep).trans (if_pos hx), fun hx hret => warmStart_stands hstep hx hret,
      fun hx hret => warmStart_cold hstep hx hret⟩,
    fun s d hc hstopped habove hstands hlock hsigned => clusterRestart_runs hc.1 hstopped habove hstands hlock hsigned,
    fun s => ⟨fun x h => if_pos (.inl h), fun h => if_pos h, fun h => if_pos h, fun x ok h => if_pos h⟩⟩

end Sys2Proof.Machine
